-- ==== Sys2Proof/Word.lean ====
section
/-! DEFINITION. The word types of the BZL-8128 and their plainest arithmetic (R7: a word is 16 bits, a register is 32 bits). -/

namespace Sys2Proof

/-- One byte. -/
abbrev Byte := BitVec 8

/-- R7: "Word" means 16 bits everywhere in the manual. -/
abbrev Word := BitVec 16

/-- R7: a control register is 32 bits. -/
abbrev Word32 := BitVec 32

/-- R39, R48: stamps, timeline values and course numbers are 64 bits. -/
abbrev Word64 := BitVec 64

/-- A sparse table: (key, value) pairs, keys strictly rising, no value equal to what an unlisted key reads as.
`Machine/Tab.lean` holds its operations and its canonical form. -/
abbrev Tab (α : Type) := List (Nat × α)

end Sys2Proof
end

