-- ==== Sys2Proof/Syntax.lean ====
section
/-! DEFINITION. The commands and events of the BZL-8128: one constructor of `Instr` per row of the manual's table of operations
and events, with the row's operands. -/

namespace Sys2Proof

/-- R15: who accesses registers: a worker thread, a house thread, an SCP session (16 is the house session) or the debugger. -/
inductive Accessor where
  | worker (t : Fin 1024)
  | house (t : Fin 8)
  | session (x : Fin 17)
  | debugger
  deriving DecidableEq, Repr

/-- A thread: 0-1023 worker threads (cluster [9:6], core [5:3], thread [2:0]), 1024-1031 the house core's. -/
abbrev Tid := Fin 1032

/-- A port index (R69): 0-7 N0-N7, 8-9 H0-H1, 10-11 T0-T1. -/
abbrev PortId := Fin 12

/-- A stall number. -/
abbrev StallId := Fin 16

/-- A SCP target: 0-15 stall, 16 house. -/
abbrev Target := Fin 17

/-- What the error checks of a DRAM access find (R362). -/
inductive DramCheck where
  | ok
  /-- correctable: symbols corrected -/
  | corrected (symbols : Fin 9)
  | uncorrectable
  /-- an alert that a retry cleared -/
  | retried
  /-- an alert still failing after 3 retries -/
  | failed
  deriving DecidableEq, Repr

/-- R350: what a JOIN_COPY frame carries. -/
inductive JoinItem where
  | station (handle : Nat) (words : List (Nat × Word))
  | sa (index : Nat) (words : List (Nat × Word))
  | ledger (stall seq tag handle : Nat) (handleValid : Bool) (data : List Byte)
  deriving DecidableEq, Repr

/-- The payload of an Elvant frame. The manual gives the words of SETTLE, HEARTBEAT, ACK and MARK payloads; of the others it gives
what they carry. -/
inductive ElvantBody where
  | words (ws : List Word)
  | fillReq (port index : Nat)
  | fillData (port index : Nat) (stamp : Word64) (seq : Word32) (frame : List Byte) (inner : Option (List Byte))
  | joinReq (strap : Bool) (tver : Nat) (digests : List Word32)
  | joinCopy (item : JoinItem)
  | joinDone (course : Word64)
  deriving DecidableEq, Repr

/-- R331: an Elvant frame as it arrives: its lane and header (the row names its TYPE), and its payload. -/
structure Elvant where
  lane : Fin 2
  version : Fin 16
  pair : Word32
  state : Fin 8
  strap : Bool
  course : Word64
  segment : Word
  last : Bool
  released : Bool
  body : ElvantBody
  deriving DecidableEq, Repr

/-- Something the device puts on its balls. -/
inductive Emit where
  /-- R59: a PPS_OUT pulse and its width in microseconds -/
  | pps (widthUs : Nat)
  /-- R50: TICK_OUT rises for one symbol: it stays high 40 ns for a 1 and 16 ns for a 0 -/
  | tick (one : Bool)
  /-- R81: a PAUSE (opcode 1) or PFC (0x0101) frame with its priority mask and quanta -/
  | macControl (port opcode mask quanta : Nat)
  /-- a frame of the SCP engine leaves an H port: session, KIND, opcode, sequence, and header, body and tag as bytes -/
  | scp (port session cls op seq : Nat) (sealed : List Byte)
  /-- R331: a frame of the settlement unit leaves a T port: TYPE, header and payload -/
  | elvant (type : Nat) (f : Elvant)
  /-- R332: the level of the TWIN_ALIVE_OUT ball -/
  | alive (level : Bool)
  /-- a frame with its FCS leaves a port (R311) -/
  | frame (port : Nat) (bytes : List Byte)
  deriving DecidableEq, Repr


/-- What the ECC check of a read finds (R214). -/
inductive Ecc where
  | ok | corrected | double
  deriving DecidableEq, Repr

/-- One constructor per row of the manual's table. Rows without operands stand last, and before them the rows of the twin, of followers and
of DRAM upkeep: Lean's code generator can build no constructor with fields beyond the 244th. -/
inductive Instr where
  /-- R47 LATH_BOUNDARY: A lath begins at each timeline multiple of 1,024 units, driving per-lath work. -/
  | lathBoundary (tj : Byte)
  /-- R54 TIME_BASE_START: A write of TMB_CTL.START starts the timeline on a master, or enters ACQUIRE on a follower. -/
  | timeBaseStart (a : Accessor) (v : Word32)
  /-- R57 REJOIN: A write of TMB_CTL.REJOIN returns an ISOLATED device with no started stall to ACQUIRE. -/
  | rejoin (a : Accessor) (v : Word32)
  /-- R58 PROMOTE_MASTER: A write of DOMAIN_ROLE = MASTER in HOLDOVER makes the follower the domain master. -/
  | promoteMaster (a : Accessor) (v : Word32)
  /-- R49 LEN_CHANGE_REQUEST: A write of CRS_LEN_CHG with non-zero FRAMES announces a course length change. -/
  | lenChangeRequest (a : Accessor) (v : Word32)
  /-- R49 LEN_CHANGE_CANCEL: A write with FRAMES = 0 cancels a pending length change. -/
  | lenChangeCancel (a : Accessor) (v : Word32)
  /-- R61 PHASE_ADJ_WRITE: A write of TMB_PHASE_ADJ requests a slew, replacing any unapplied remainder. -/
  | phaseAdjWrite (a : Accessor) (v : Word32)
  /-- R60 TIME_BASE_STEP: A write of TMB_STEP_SEC.GO requests a label step, refused or set PENDING. -/
  | timeBaseStep (a : Accessor) (v : Word32)
  /-- R64 TXTS_POP: A read of TMB_TXTS_n.TAG pops the oldest stamp entry and captures its timestamp. -/
  | txtsPop (a : Accessor) (n : Fin 10)
  /-- R71 PORT_ENABLE: A write of PRT_CFG.ENABLE = 1 starts negotiation and training of the port. -/
  | portEnable (a : Accessor) (n : Fin 12) (v : Word32)
  /-- R74 PORT_DISABLE: A write of ENABLE = 0 takes the port down and starts its flush. -/
  | portDisable (a : Accessor) (n : Fin 12) (v : Word32)
  /-- R73 LINK_UP: Training, alignment and codeword lock complete and the port comes up. -/
  | linkUp (n : Fin 12) (at_ : Fin 1024)
  /-- R74 LINK_DOWN: Loss of alignment or excess uncorrectable codewords takes the port down and flushes it. -/
  | linkDown (n : Fin 12) (rxPartial align : Bool) (uncorr : Word)
  /-- R75 FLUSH_COMPLETE: The link-down flush ends, letting the port come up again. -/
  | flushComplete (n : Fin 12)
  /-- R77 FRAME_RECEIVED: A whole frame arrives on a port, is stamped, checked and numbered. -/
  | frameReceived (n : Fin 12) (at_ : Word64) (bytes : List Byte) (err : Bool) (corr uncorr : Byte)
  /-- R80 PAUSE_RECEIVED: A received PAUSE or PFC frame holds transmission for the quanta given. -/
  | pauseReceived (n : Fin 12)
  /-- R80 PAUSE_HOLD_EXPIRY: The received hold time runs out and transmission of the held traffic resumes. -/
  | pauseHoldExpiry (n : Fin 12) (prio : Fin 9)
  /-- R81 XOFF_REPEAT: The port repeats XOFF every PAUSE_QUANTA × 2.56 ns while the condition holds. -/
  | xoffRepeat (n : Fin 12)
  /-- R89 PARSE_WALK: A checked frame from an N or H port is walked through its steering and stall graphs. -/
  | parseWalk (n : Fin 12) (perr : Fin 25)
  /-- R96 INNER_WALK: An inner packet from the re-parse queue is walked from the stall's inner entry. -/
  | innerWalk (perr : Fin 25)
  /-- R98 GRAPH_LOAD_WRITE: A write of PGR_LOADx.DATA stores two node words and advances PTR, or is refused. -/
  | graphLoadWrite (a : Accessor) (x : Target) (v : Word32)
  /-- R98 GRAPH_LOAD_READ: A read of PGR_LOADx.DATA returns node words and advances PTR. -/
  | graphLoadRead (a : Accessor) (x : Target)
  /-- R100 GRAPH_ENTRY_WRITE: A write of PGR_PORT_CFGn or PGR_STALL_ENTRYs is staged for the next course boundary. -/
  | graphEntryWrite (a : Accessor) (e : Fin 26) (v : Word32)
  /-- R110 BIND: CLS_BINDx.CMD OP 1 binds a station record's key into the table. -/
  | bind (a : Accessor) (x : Target) (v : Word32)
  /-- R110 UNBIND: CLS_BINDx.CMD OP 2 clears a station's table entry and BOUND flag. -/
  | unbind (a : Accessor) (x : Target) (v : Word32)
  /-- R450 TABLE_RECONCILE: After DEVICE reset or STANDBY, enabling the classifier reconciles the table with the station records. -/
  | tableReconcile (a : Accessor) (v : Word32)
  /-- R113 CLASS_LOAD_WRITE: A write of CLS_LOADx.DATA stores two classification words, or is refused. -/
  | classLoadWrite (a : Accessor) (x : Target) (v : Word32)
  /-- R113 CLASS_BANK_WRITE: A write of CLS_BANKs.ACTIVE stages a bank switch. -/
  | classBankWrite (a : Accessor) (x : StallId) (v : Word32)
  /-- R114 STATION_RANGE_WRITE: A write of STN_RANGEs changes a stall's range, ignored if it would overlap or drop a bound record. -/
  | stationRangeWrite (a : Accessor) (x : StallId) (v : Word32)
  /-- R114 RANGE_READY: Zeroing of added blocks completes and READY is set. -/
  | rangeReady (x : Fin 16)
  /-- R117 STATION_CACHE_FILL: A station cache miss completes its DRAM read and installs the record. -/
  | stationCacheFill (h : Fin 1048576)
  /-- R118 STATION_WRITEBACK: Dirty chunks are written back on eviction, age, STANDBY or a house DEVICE reset. -/
  | stationWriteback (h : Fin 1048576)
  /-- R120 SEARCH: STN_CMDx OP 1 starts a scan for the first matching record. -/
  | search (a : Accessor) (x : Target) (v : Word32)
  /-- R120 NEXT: STN_CMDx OP 2 resumes the scan after the last handle found. -/
  | next (a : Accessor) (x : Target) (v : Word32)
  /-- R120 SCAN_RESULT: A running SEARCH or NEXT finishes with FOUND or END. -/
  | scanResult (x : Fin 17)
  /-- R121 FLUSH_BY_PORT: STN_CMDx OP 3 requests clearing of learned paths through a port. -/
  | flushByPort (a : Accessor) (x : Target) (v : Word32)
  /-- R121 FLUSH_DONE: The flush completes, reports DONE and raises FLUSH_DONE. -/
  | flushDone (x : Fin 17)
  /-- R143 AGE_SWEEP_START: A write of 1 to STN_LEARNs START requests an ageing sweep. -/
  | ageSweepStart (a : Accessor) (x : StallId) (v : Word32)
  /-- R142 AGE_SWEEP_DONE: The sweep ends and reports the records it counted. -/
  | ageSweepDone (x : Fin 16)
  /-- R155 ALLOC: PKM_CELLx OP 1 allocates and chains cells from the generated slices. -/
  | alloc (a : Accessor) (x : Target) (v : Word32)
  /-- R155 FREE: PKM_CELLx OP 2 frees all or the first cells of a chain. -/
  | free (a : Accessor) (x : Target) (v : Word32) (k : Fin 64) (ecc : Ecc)
  /-- R155 RELEASE: PKM_CELLx OP 3 removes a chain from the thread's private list. -/
  | release (a : Accessor) (x : Target) (v : Word32)
  /-- R155 LINK: PKM_CELLx OP 4 reads a cell's link entry. -/
  | link (a : Accessor) (x : Target) (v : Word32) (ecc : Ecc)
  /-- R161 ADMISSION_CLOSE: Admission of course k closes MIN_RUN laths before the boundary of course k + 2. -/
  | admissionClose (x : StallId)
  /-- R164 SLOT_FILL: A queued frame is taken when a thread has a free slot and its bytes are copied into the window. -/
  | slotFill (c : Fin 16)
  /-- R165 PACKET_POST: On fill completion the packet message is posted to the thread's channel 0 queue. -/
  | packetPost (t : Fin 1024) (i : Fin 4)
  /-- R166 RETIRE: A retire message on channel 1 retires a packet with its verdict. -/
  | retire (c : Fin 16)
  /-- R173 TURN_GRANT: A packet waiting at its first station access gains its station's turn. -/
  | turnGrant (t : Tid) (i : Fin 4)
  /-- R178 MAP_LOAD_WRITE: A write of DSP_MAPLOADx.DATA stores eight bucket entries, or is refused. -/
  | mapLoadWrite (a : Accessor) (x : Target) (v : Word32)
  /-- R178 BUCKET_MOVE: A write of DSP_STALLs.MAP.SWITCH requests a bucket move at the next boundary. -/
  | bucketMove (a : Accessor) (x : StallId) (v : Word32)
  /-- R179 MOVE_FENCE_LIFT: A move fence lifts once the old cluster holds no packet of the bucket. -/
  | moveFenceLift (x : StallId) (b : Fin 4096)
  /-- R180 CLUSTER_OWNER_WRITE: A house write of DSP_CLUSTERc.OWNER gifts, removes or reassigns a cluster. -/
  | clusterOwnerWrite (a : Accessor) (c : Fin 16) (v : Word32)
  /-- R180 CLUSTER_ZEROED: Zeroing of a gifted cluster completes and it becomes IN_SERVICE at the next boundary. -/
  | clusterZeroed (c : Fin 16)
  /-- R181 CLUSTER_OUT_OF_SERVICE: A DSP_OOS GO takes a cluster out of service by rewriting its buckets. -/
  | clusterOutOfService (a : Accessor) (v : Word32)
  /-- R186 LINE_REFILL: A code-store line reaches the core and is written into a line buffer. -/
  | lineRefill (k : Fin 129) (line : Fin 16384) (parityErr : Bool)
  /-- R196 STORE_DRAIN: The oldest store-buffer entry drains through the memory port. -/
  | storeDrain (k : Fin 129) (ecc : Ecc)
  /-- R195 FAR_LOAD_RESULT: A far load's data or error response arrives and the thread resumes. -/
  | farLoadResult (t : Tid)
  /-- R243 FAR_STORE_ACCEPT: A PACKET, TABLES or CONTROL destination accepts or refuses a far store. -/
  | farStoreAccept (t : Tid)
  /-- R218 FAR_STORE_ERROR: A posted far store receives an error response and is lost. -/
  | farStoreError (t : Tid)
  /-- R234 MOV: Copies register b to register a. -/
  | mov (t : Tid) (a b : Fin 32)
  /-- R234 ADD: Adds register b to register a. -/
  | add (t : Tid) (a b : Fin 32)
  /-- R234 ADC: Adds register b and C to register a. -/
  | adc (t : Tid) (a b : Fin 32)
  /-- R234 SUB: Subtracts register b from register a. -/
  | sub (t : Tid) (a b : Fin 32)
  /-- R234 SBC: Subtracts register b and C from register a. -/
  | sbc (t : Tid) (a b : Fin 32)
  /-- R234 CMP: Sets flags of a subtraction without writing. -/
  | cmp (t : Tid) (a b : Fin 32)
  /-- R234 AND: Bitwise AND into register a. -/
  | and (t : Tid) (a b : Fin 32)
  /-- R234 OR: Bitwise OR into register a. -/
  | or (t : Tid) (a b : Fin 32)
  /-- R234 XOR: Bitwise XOR into register a. -/
  | xor (t : Tid) (a b : Fin 32)
  /-- R238 SHL: Shifts register a left by register b's count. -/
  | shl (t : Tid) (a b : Fin 32)
  /-- R238 SHR: Shifts register a right logically by register b's count. -/
  | shr (t : Tid) (a b : Fin 32)
  /-- R238 SAR: Shifts register a right arithmetically by register b's count. -/
  | sar (t : Tid) (a b : Fin 32)
  /-- R238 SHLQ: Shifts register a left by a constant. -/
  | shlq (t : Tid) (a n : Fin 32)
  /-- R238 SHRQ: Shifts register a right logically by a constant. -/
  | shrq (t : Tid) (a n : Fin 32)
  /-- R238 SARQ: Shifts register a right arithmetically by a constant. -/
  | sarq (t : Tid) (a n : Fin 32)
  /-- R237 MUL: Unsigned 16 × 16 multiply into a pair. -/
  | mul (t : Tid) (a b : Fin 32)
  /-- R237 MULS: Signed 16 × 16 multiply into a pair. -/
  | muls (t : Tid) (a b : Fin 32)
  /-- R239 DADD: Packed decimal add with decimal carry. -/
  | dadd (t : Tid) (a b : Fin 32)
  /-- R239 DSUB: Packed decimal subtract with decimal borrow. -/
  | dsub (t : Tid) (a b : Fin 32)
  /-- R240 DAJ: Corrects a binary sum of packed words into decimal. -/
  | daj (t : Tid) (a b : Fin 32)
  /-- R241 DSHL: Shifts one decimal digit left between two words. -/
  | dshl (t : Tid) (a b : Fin 32)
  /-- R241 DSHR: Shifts one decimal digit right between two words. -/
  | dshr (t : Tid) (a b : Fin 32)
  /-- R235 MOVI: Loads an immediate into register a. -/
  | movi (t : Tid) (a : Fin 32) (imm : Word)
  /-- R235 ADDI: Adds an immediate to register a. -/
  | addi (t : Tid) (a : Fin 32) (imm : Word)
  /-- R235 SUBI: Subtracts an immediate from register a. -/
  | subi (t : Tid) (a : Fin 32) (imm : Word)
  /-- R235 CMPI: Compares register a with an immediate. -/
  | cmpi (t : Tid) (a : Fin 32) (imm : Word)
  /-- R235 ANDI: ANDs an immediate into register a. -/
  | andi (t : Tid) (a : Fin 32) (imm : Word)
  /-- R235 ORI: ORs an immediate into register a. -/
  | ori (t : Tid) (a : Fin 32) (imm : Word)
  /-- R235 XORI: XORs an immediate into register a. -/
  | xori (t : Tid) (a : Fin 32) (imm : Word)
  /-- R235 TSTI: Sets flags of an AND with an immediate without writing. -/
  | tsti (t : Tid) (a : Fin 32) (imm : Word)
  /-- R236 NOT: Inverts register a. -/
  | not (t : Tid) (a : Fin 32)
  /-- R236 NEG: Negates register a. -/
  | neg (t : Tid) (a : Fin 32)
  /-- R236 SWAPB: Exchanges the bytes of register a. -/
  | swapb (t : Tid) (a : Fin 32)
  /-- R236 ZXB: Zero-extends the low byte of register a. -/
  | zxb (t : Tid) (a : Fin 32)
  /-- R236 SXB: Sign-extends the low byte of register a. -/
  | sxb (t : Tid) (a : Fin 32)
  /-- R224 RDF: Copies a feature register into register a. -/
  | rdf (t : Tid) (a : Fin 32) (n : Fin 4)
  /-- R231 NOP: Does nothing. -/
  | nop (t : Tid) (a : Fin 32)
  /-- R211 RET: Returns through the link pair, sliding the window back and filling if needed. -/
  | ret (t : Tid) (a : Fin 32) (ecc : Ecc)
  /-- R227 RETT: Returns from a trap handler to TPC. -/
  | rett (t : Tid) (a : Fin 32) (ecc : Ecc)
  /-- R246 BRK: Takes the BRK trap with a code. -/
  | brk (t : Tid) (n : Fin 32)
  /-- R250 EXIT: Ends the issuing thread, releasing its locks, chains and staging. -/
  | exit (t : Tid) (a : Fin 32)
  /-- R246 JMPR: Jumps to the address held in a pair. -/
  | jmpr (t : Tid) (a : Fin 32)
  /-- R246 CALLR: Calls the address held in a pair. -/
  | callr (t : Tid) (a : Fin 32) (ecc : Ecc)
  /-- R249 JOIN: Blocks until a forked child has ended. -/
  | join (t : Tid) (a : Fin 32)
  /-- R244 B: Short conditional branch. -/
  | b (t : Tid) (cc : Fin 16) (off : Fin 64)
  /-- R244 J: Long conditional jump. -/
  | j (t : Tid) (cc : Fin 16) (z : Fin 32) (target : Fin 131072)
  /-- R245 CALL: Conditional call sliding the window and writing the link pair. -/
  | call (t : Tid) (cc : Fin 16) (z : Fin 32) (target : Fin 131072) (ecc : Ecc)
  /-- R247 TSET: Writes a register of a parked thread of the core. -/
  | tset (t : Tid) (a b : Fin 32) (imm : Word)
  /-- R248 TREL: Releases a parked thread to start at an address. -/
  | trel (t : Tid) (a b : Fin 32)
  /-- R249 FORK: Starts a free pool thread as a child. -/
  | fork (t : Tid) (a b : Fin 32)
  /-- R251 CHW: Appends a word to the staging message. -/
  | chw (t : Tid) (a b : Fin 32)
  /-- R251 CHE: Appends the final word and publishes the message. -/
  | che (t : Tid) (a b : Fin 32)
  /-- R282 CHE_UNBLOCK: A blocked CHE publishes once the channel has room. -/
  | cheUnblock (t : Tid)
  /-- R252 CHR: Blocks until a message is available, then copies it to near memory. -/
  | chr (t : Tid) (a b : Fin 32)
  /-- R283 CHR_WAKE: A message is assigned to a waiting CHR and copied. -/
  | chrWake (t : Tid)
  /-- R252 CHP: Takes a message if one is available without blocking. -/
  | chp (t : Tid) (a b : Fin 32)
  /-- R296 LKA: Acquires a word lock, blocking while it is held. -/
  | lka (t : Tid) (a : Fin 32)
  /-- R296 LKT: Acquires a word lock if free without blocking. -/
  | lkt (t : Tid) (a : Fin 32)
  /-- R297 LKR: Releases a held word lock cleanly. -/
  | lkr (t : Tid) (a : Fin 32)
  /-- R299 LKF: Force-releases a word lock whoever holds it. -/
  | lkf (t : Tid) (a : Fin 32)
  /-- R242 LD_REG: Near word load at [b]. -/
  | ldReg (t : Tid) (a b : Fin 32) (ecc : Ecc)
  /-- R242 LD_POSTINC: Near word load at [b]+. -/
  | ldPostinc (t : Tid) (a b : Fin 32) (ecc : Ecc)
  /-- R242 LD_DISP: Near word load at [b + disp]. -/
  | ldDisp (t : Tid) (a b : Fin 32) (d : Word) (ecc : Ecc)
  /-- R242 LD_INDEX: Near word load at [b + x·s]. -/
  | ldIndex (t : Tid) (a b : Fin 32) (w : Word) (ecc : Ecc)
  /-- R242 ST_REG: Near word store at [b]. -/
  | stReg (t : Tid) (a b : Fin 32)
  /-- R242 ST_POSTINC: Near word store at [b]+. -/
  | stPostinc (t : Tid) (a b : Fin 32)
  /-- R242 ST_PREDEC: Near word store at −[b]. -/
  | stPredec (t : Tid) (a b : Fin 32)
  /-- R242 ST_DISP: Near word store at [b + disp]. -/
  | stDisp (t : Tid) (a b : Fin 32) (d : Word)
  /-- R242 ST_INDEX: Near word store at [b + x·s]. -/
  | stIndex (t : Tid) (a b : Fin 32) (w : Word)
  /-- R242 LDP_POSTINC: Near pair load at [b]+. -/
  | ldpPostinc (t : Tid) (a b : Fin 32) (ecc : Ecc)
  /-- R242 LDP_DISP: Near pair load at [b + disp]. -/
  | ldpDisp (t : Tid) (a b : Fin 32) (d : Word) (ecc : Ecc)
  /-- R242 STP_PREDEC: Near pair store at −[b]. -/
  | stpPredec (t : Tid) (a b : Fin 32)
  /-- R242 STP_POSTINC: Near pair store at [b]+. -/
  | stpPostinc (t : Tid) (a b : Fin 32)
  /-- R242 STP_DISP: Near pair store at [b + disp]. -/
  | stpDisp (t : Tid) (a b : Fin 32) (d : Word)
  /-- R242 LDF_DISP: Far word load at [b + disp]. -/
  | ldfDisp (t : Tid) (a b : Fin 32) (d : Word)
  /-- R242 LDF_POSTINC: Far word load at [b]+. -/
  | ldfPostinc (t : Tid) (a b : Fin 32)
  /-- R242 LDF_INDEX: Far word load at [b + x·s]. -/
  | ldfIndex (t : Tid) (a b : Fin 32) (w : Word)
  /-- R242 STF_DISP: Far word store at [b + disp]. -/
  | stfDisp (t : Tid) (a b : Fin 32) (d : Word)
  /-- R242 STF_POSTINC: Far word store at [b]+. -/
  | stfPostinc (t : Tid) (a b : Fin 32)
  /-- R242 LDFP_DISP: Far pair load at [b + disp]. -/
  | ldfpDisp (t : Tid) (a b : Fin 32) (d : Word)
  /-- R242 LDFP_POSTINC: Far pair load at [b]+. -/
  | ldfpPostinc (t : Tid) (a b : Fin 32)
  /-- R242 STFP_DISP: Far pair store at [b + disp]. -/
  | stfpDisp (t : Tid) (a b : Fin 32) (d : Word)
  /-- R242 STFP_POSTINC: Far pair store at [b]+. -/
  | stfpPostinc (t : Tid) (a b : Fin 32)
  /-- R259 TLOCK: Takes ownership of the core's tally unit if free. -/
  | tlock (t : Tid) (a : Fin 32)
  /-- R259 TFREE: Releases ownership of the tally unit. -/
  | tfree (t : Tid) (a : Fin 32)
  /-- R262 TSYNC: Waits for the thread's tally commands and sets flags from status. -/
  | tsync (t : Tid) (a : Fin 32)
  /-- R260 MTT: Moves a core register or pair to an accumulator word or scale register. -/
  | mtt (t : Tid) (a b : Fin 32) (w : Word)
  /-- R263 MFT: Moves an accumulator word, scale register or status to a core register. -/
  | mft (t : Tid) (a b : Fin 32) (w : Word)
  /-- R264 TOP_CLR: Tally TOP function 0 clears DST. -/
  | topClr (t : Tid) (b : Fin 32) (w : Word)
  /-- R264 TOP_MOVA: Tally TOP function 1 copies SA rounded. -/
  | topMova (t : Tid) (b : Fin 32) (w : Word)
  /-- R264 TOP_ADD: Tally TOP function 2 adds SA and SB. -/
  | topAdd (t : Tid) (b : Fin 32) (w : Word)
  /-- R264 TOP_SUB: Tally TOP function 3 subtracts SB from SA. -/
  | topSub (t : Tid) (b : Fin 32) (w : Word)
  /-- R264 TOP_MUL: Tally TOP function 4 multiplies SA by SB. -/
  | topMul (t : Tid) (b : Fin 32) (w : Word)
  /-- R264 TOP_DIV: Tally TOP function 5 divides SA by SB, correctly rounded. -/
  | topDiv (t : Tid) (b : Fin 32) (w : Word)
  /-- R264 TOP_RND: Tally TOP function 6 rounds SA. -/
  | topRnd (t : Tid) (b : Fin 32) (w : Word)
  /-- R264 TOP_CMP: Tally TOP function 7 sets LAST bits from SA − SB. -/
  | topCmp (t : Tid) (b : Fin 32) (w : Word)
  /-- R264 TOP_NEG: Tally TOP function 8 negates SA. -/
  | topNeg (t : Tid) (b : Fin 32) (w : Word)
  /-- R264 TOP_ABS: Tally TOP function 9 takes the magnitude of SA. -/
  | topAbs (t : Tid) (b : Fin 32) (w : Word)
  /-- R264 TOP_CVD: Tally TOP function 10 converts a 64-bit binary to decimal. -/
  | topCvd (t : Tid) (b : Fin 32) (w : Word)
  /-- R264 TOP_CVB: Tally TOP function 11 converts a rounded value to 64-bit binary. -/
  | topCvb (t : Tid) (b : Fin 32) (w : Word)
  /-- R264 TOP_HEAT: Tally TOP function 12 computes SA × (SB − SC) × SD. -/
  | topHeat (t : Tid) (b : Fin 32) (w : Word)
  /-- R261 TALLY_COMMAND_COMPLETE: A queued tally command completes in the unit and applies its effects. -/
  | tallyCommandComplete (u : Fin 128) (mchk : Option (Fin 2048))
  /-- R269 PATCH_WORD_WRITE: A write of TLY_PLOAD D2 stores one patch word in every standby bank. -/
  | patchWordWrite (a : Accessor) (v : Word32)
  /-- R270 PATCH_APPLY: A write of TLY_PATCH.APPLY requests a tally patch apply. -/
  | patchApply (a : Accessor) (v : Word32)
  /-- R270 BANK_EXCHANGE: A unit with no command in progress exchanges its patch banks. -/
  | bankExchange (u : Fin 128)
  /-- R272 THREAD_CLASS_WRITE: A write of SCH_THREADt CLASS or PRIO takes effect if permitted. -/
  | threadClassWrite (a : Accessor) (t : Tid) (v : Word32)
  /-- R280 CHANNEL_CFG_WRITE: A write of SCH_CHANx.CFG configures an idle internal channel, or is refused. -/
  | channelCfgWrite (a : Accessor) (x : Target) (v : Word32)
  /-- R288 TIMER_ARM: A store to TMR_ARMi arms a thread timer for n laths. -/
  | timerArm (t : Tid) (i : Fin 8) (n : Word)
  /-- R287 TIMER_CANCEL: A store to TMR_STATi cancels the timer. -/
  | timerCancel (t : Tid) (i : Fin 8) (v : Word)
  /-- R289 TIMER_EXPIRY: An expired timer posts its tag to its channel, or stays due. -/
  | timerExpiry (t : Tid) (i : Fin 8)
  /-- R291 STILL: Two consecutive still courses raise STILL and trap the supervisor. -/
  | still (x : StallId)
  /-- R308 OUTPUT_REQUEST: A write of SWC_OUTx.CMD.GO checks an output request and places it in the gate. -/
  | outputRequest (a : Accessor) (x : Target) (v : Word32)
  /-- R317 EGRESS_SELECT: The port scheduler chooses the next frame once the transmit buffer has room. -/
  | egressSelect (n : Fin 12) (k : Fin 36) (ecc : Ecc)
  /-- R309 FRAME_TRANSMIT_DONE: A frame finishes transmission and its reference ends. -/
  | frameTransmitDone (n : Fin 12) (at_ : Word64)
  /-- R321 RECIRC_REENTRY: A recirculated frame re-enters as a new frame of its stall. -/
  | recircReentry (i : Fin 4)
  /-- R322 SWITCH_LOAD_WRITE: A write of SWC_LOADx.DATA stores a geometry table word, or is refused. -/
  | switchLoadWrite (a : Accessor) (x : Target) (v : Word32)
  /-- R340 FORCE_LEAD: A write of STL_CTL.FORCE_LEAD enters ALONE from JOINING or HELD. -/
  | forceLead (a : Accessor) (v : Word32)
  /-- R346 LEDGER_APPEND: A write of STL_APPENDx.GO copies bytes into the stall's delivery ledger. -/
  | ledgerAppend (a : Accessor) (x : Target) (v : Word32)
  /-- R353 DRAM_ENABLE: A write of DRC_CFG.ENABLE checks the configuration and starts training. -/
  | dramEnable (a : Accessor) (ch : Fin 4) (v : Word32)
  /-- R353 TRAINING_COMPLETE: A channel's training ends READY or FAILED. -/
  | trainingComplete (ch : Fin 4) (fail : Fin 3)
  /-- R355 DRAM_RETRAIN_START: A write of DRC_TRAIN.START requests DQ retraining. -/
  | dramRetrainStart (a : Accessor) (ch : Fin 4) (v : Word32)
  /-- R366 DRAM_REQUEST_ADMIT: The arbiter admits the nearest-deadline waiting request to a bank queue. -/
  | dramRequestAdmit (ch : Fin 4) (chk : DramCheck)
  /-- R358 DRAM_COMMAND_ISSUE: The controller issues the next command by its order. -/
  | dramCommandIssue (ch : Fin 4) (sub : Fin 2) (chk : DramCheck)
  /-- R362 DRAM_READ_DONE: A read returns corrected data or an error response. -/
  | dramReadDone (ch : Fin 4) (chk : DramCheck)
  /-- R364 SCRUB_PERIOD_WRITE: A write of DRC_SCRUB.PERIOD_H starts or stops patrol scrub. -/
  | scrubPeriodWrite (a : Accessor) (ch : Fin 4) (v : Word32)
  /-- R368 MOVER_GO: A write of ARB_MOVEm.GO checks and starts or resumes a bulk move. -/
  | moverGo (a : Accessor) (m : Fin 32) (v : Word32)
  /-- R369 MOVER_STOP: A write of STOP pauses the mover after its current unit. -/
  | moverStop (a : Accessor) (m : Fin 32) (v : Word32)
  /-- R369 MOVE_UNIT_DONE: A 256-byte unit completes and PROGRESS advances. -/
  | moveUnitDone (m : Fin 32)
  /-- R376 SCP_FRAME_RECEIVED: An SCP frame on an H port is checked and authenticated. -/
  | scpFrameReceived (p : Fin 2)
  /-- R377 HELLO: Opens an authenticated session and answers with the device nonce. -/
  | hello (x : Target)
  /-- R432 CAPS: Returns capability headers along the list. -/
  | caps (x : Target)
  /-- R383 LOAD: Writes code, memory, far words, graphs, banks or maps. -/
  | load (x : Target)
  /-- R384 SCP_START: Checks and schedules the start of a stall's threads. -/
  | scpStart (x : Target)
  /-- R384 STALL_START_EFFECT: At the next boundary the stall becomes STARTED and threads are released. -/
  | stallStartEffect (x : StallId)
  /-- R385 SCP_STOP: Schedules a STARTED stall to become STOPPED. -/
  | scpStop (x : Target)
  /-- R385 STALL_STOP_EFFECT: At the next boundary the stall becomes STOPPED. -/
  | stallStopEffect (x : StallId)
  /-- R382 READ: Reads registers or far words with the target's rights. -/
  | read (x : Target)
  /-- R382 WRITE: Writes registers or far words with the target's rights. -/
  | write (x : Target)
  /-- R387 MAIL: Places a mail message on the supervisor's channel 3, or queues it. -/
  | mail (x : Target)
  /-- R387 MAIL_OUT_SEND: The SCP engine takes a channel 4 message and sends it as a MAIL frame. -/
  | mailOutSend (x : Target)
  /-- R389 SCP_ACK: An ACK retires ledger entries and sets credit. -/
  | scpAck (x : Target)
  /-- R388 DELIVER: The engine sends accepted ledger entries within credit. -/
  | deliver (x : Target)
  /-- R389 RESEND_TIMEOUT: No ACK progress for RTO courses resends from RETIRED + 1. -/
  | resendTimeout (x : Target)
  /-- R391 NOTICE: Pending host-targeted event records leave as NOTICE frames. -/
  | notice (x : Target)
  /-- R386 SCP_RESET: Requests a reset of the target's stall, cluster, core, thread or device. -/
  | scpReset (x : Target)
  /-- R407 SCP_LEDGER: Reads ledger recorder window words. -/
  | scpLedger (x : Target)
  /-- R392 DEBUG_STOP: Stops a thread between instructions. -/
  | debugStop (x : Target)
  /-- R392 DEBUG_RESUME: Resumes a stopped thread. -/
  | debugResume (x : Target)
  /-- R392 DEBUG_GETREGS: Returns a stopped thread's registers. -/
  | debugGetregs (x : Target)
  /-- R392 DEBUG_SETREGS: Writes a stopped thread's registers. -/
  | debugSetregs (x : Target)
  /-- R392 NEAR_READ: Reads words of a stopped thread's near space. -/
  | nearRead (x : Target)
  /-- R392 NEAR_WRITE: Writes words of a stopped thread's near space. -/
  | nearWrite (x : Target)
  /-- R372 CREATE: SCP_STALLx.CTL OP 1 creates a stall. -/
  | create (a : Accessor) (x : StallId) (v : Word32)
  /-- R374 REMOVE: SCP_STALLx.CTL OP 2 requests stall removal. -/
  | remove (a : Accessor) (x : StallId) (v : Word32)
  /-- R374 STALL_REMOVED: Stall removal completes and the stall reads ABSENT. -/
  | stallRemoved (x : StallId)
  /-- R393 KEY_WRITE: A write of KEY7 completes the key, ends the session and empties the ESP key cache. -/
  | keyWrite (a : Accessor) (x : StallId) (v : Word32)
  /-- R401 EVENT_RAISE: A write of EVC_RAISEx raises a SOFT event source. -/
  | eventRaise (a : Accessor) (x : Target) (v : Word32)
  /-- R397 EVENT_RECORD_PUBLISH: A pending event record is published on channel 2 once there is room. -/
  | eventRecordPublish (x : Target)
  /-- R403 SNAP: A write of LDG CTL.SNAP triggers capture on enabled recorders. -/
  | snap (a : Accessor) (r : Fin 32) (v : Word32)
  /-- R403 PERIODIC_TRIGGER: Every PERIOD courses a periodic recorder triggers. -/
  | periodicTrigger (r : Fin 32)
  /-- R405 CLEAR: A write of LDG CTL.CLEAR empties the histogram. -/
  | clear (a : Accessor) (r : Fin 32) (v : Word32)
  /-- R406 ARM: A write of LDG CTL.ARM requests re-arming of the recorder. -/
  | arm (a : Accessor) (r : Fin 32) (v : Word32)
  /-- R406 REARM_COMPLETE: Re-arming zeroes the slots, advances GEN and resets HEAD. -/
  | rearmComplete (r : Fin 32)
  /-- R410 POWER_RESET: PWR_OK low or a supply below threshold resets the whole device. -/
  | powerReset (strap : Fin 2)
  /-- R414 DEVICE_RESET: DEV_RST_N held low for 1 µs or more starts a DEVICE reset. -/
  | deviceReset (strap : Fin 2)
  /-- R414 DEVRST: A write of SUP_CTL.DEVRST starts a DEVICE reset with cause HOUSE. -/
  | devrst (a : Accessor) (v : Word32)
  /-- R416 KICK: A write of SUP_WDOG.KICK restarts the watchdog period. -/
  | kick (a : Accessor) (v : Word32)
  /-- R413 STALL_RESET: SUP_RSTx KIND 1 resets everything a stall owns. -/
  | stallReset (a : Accessor) (x : Target) (v : Word32)
  /-- R413 CLUSTER_RESET: SUP_RSTx KIND 2 resets one cluster. -/
  | clusterReset (a : Accessor) (x : Target) (v : Word32)
  /-- R413 CORE_RESET: SUP_RSTx KIND 3 resets one core and its tally unit. -/
  | coreReset (a : Accessor) (x : Target) (v : Word32)
  /-- R413 THREAD_RESET: SUP_RSTx KIND 4 resets one thread. -/
  | threadReset (a : Accessor) (x : Target) (v : Word32)
  /-- R423 BOOT: After POWER or DEVICE reset the boot image is read, verified and applied. -/
  | boot (a b : Option (List Byte))
  /-- R415 ADMIT: A write of SUP_CTL.ADMIT lets the dispatcher take in frames once permitted. -/
  | admitWrite (a : Accessor) (v : Word32)
  /-- R420 STANDBY_ENTRY: A write of SUP_PWR.REQ = STANDBY requests entry into STANDBY. -/
  | standbyEntry (a : Accessor) (v : Word32)
  /-- R420 STANDBY_EXIT: A write of SUP_PWR.REQ = RUN returns the device to RUN. -/
  | standbyExit (a : Accessor) (v : Word32)
  /-- R427 LIFECYCLE: A write of SUP_LC_REQ.GO requests a life-cycle transition and resets the device. -/
  | lifecycle (a : Accessor) (v : Word32)
  /-- R421 ROLLBACK_RAISE: A write of SUP_ROLLBACK raises the rollback fuse value if higher. -/
  | rollbackRaise (a : Accessor) (v : Word32)
  /-- R435 UNMAPPED_ACCESS: An access to an unassigned offset reads zero and updates CRS_UNMAPPED. -/
  | unmappedAccess (a : Accessor) (off : Fin 16777216) (write : Bool)
  /-- R13 RC_READ: A read of an RC field returns it and clears it. -/
  | rcRead (a : Accessor) (off : Fin 16777216)
  /-- R15 PAIR_LOW_READ: A read of a pair's low register captures the high half for the accessor. -/
  | pairLowRead (a : Accessor) (off : Fin 16777216)
  /-- R11 REGISTER_WRITE: A write to a register with no row of its own, checked for SV, MK and house restrictions. -/
  | registerWrite (a : Accessor) (off : Fin 16777216) (v : Word32)
  /-- R219 FAR_STORE_PERFORMED: A posted far store to a CLUSTER segment is performed in cluster memory, releasing any LKR, CHE, retire or TREL waiting for earlier far stores. -/
  | farStorePerformed (t : Tid)
  /-- R295 LOCK_OPERATION_DONE: The atomic unit completes the read-modify-write of a lock pair and returns the result, or an error response, to the thread blocked in LKA, LKT, LKR or LKF. -/
  | lockOperationDone (t : Tid) (err : Bool)
  /-- R56 TICK_FRAME_RECEIVED: A follower takes a whole tick frame from TICK_IN and checks CRC and its fields against its own timeline. -/
  | tickFrameReceived (f : BitVec 256) (offset : Word32)
  /-- R59 PPS_IN_EDGE: A PPS_IN rising edge is compared with the nearest second and placed in TMB_PPS_OFFSET. -/
  | ppsInEdge (edge : Fin 4096)
  /-- R72 TRAIN_FAIL: Training not complete within 500 ms or no matching technology restarts negotiation. -/
  | trainFail (n : Fin 12)
  /-- R82 PAUSE_STORM: Transmission held for WD_COURSES whole courses trips the pause watchdog. -/
  | pauseStorm (n : Fin 12)
  /-- R144 FLUSH_GUARD_END: The flush guard lifts two courses after DONE. -/
  | flushGuardEnd (x : Fin 17)
  /-- R143 AGE_SWEEP_AUTO: An ageing sweep starts automatically PERIOD courses after the previous one. -/
  | ageSweepAuto (x : Fin 16)
  /-- R192 GUARD_CYCLE: A refill that has waited GUARD cycles gets a guard cycle at the port. -/
  | guardCycle (k : Fin 129)
  /-- R332 HEARTBEAT: A HEARTBEAT Elvant frame from the peer is received. -/
  | heartbeat (f : Elvant)
  /-- R336 SETTLE: A SETTLE segment is received and matched, filled and applied by the shadow. -/
  | settle (f : Elvant)
  /-- R323 ACK: The lead receives ACK for course k, accepting it or resending segments. -/
  | ack (f : Elvant)
  /-- R335 FILL_REQ: The lead receives a FILL_REQ and answers with FILL_DATA. -/
  | fillReq (f : Elvant)
  /-- R335 FILL_DATA: The shadow receives a fill and learns from it. -/
  | fillData (f : Elvant)
  /-- R341 MARK: The shadow receives a MARK with release progress. -/
  | mark (f : Elvant)
  /-- R337 ABANDON: A shadow receiving ABANDON enters HELD. -/
  | abandon (f : Elvant)
  /-- R350 JOIN_REQ: A received JOIN_REQ starts a twin join or resolves roles. -/
  | joinReq (f : Elvant)
  /-- R350 JOIN_COPY: The joiner applies a JOIN_COPY frame's records. -/
  | joinCopy (f : Elvant)
  /-- R350 JOIN_DONE: The joiner receives JOIN_DONE and becomes SHADOW at course j. -/
  | joinDone (f : Elvant)
  /-- R355 DRAM_RETRAIN_AUTO: Retraining starts by period, temperature change or command failure. -/
  | dramRetrainAuto (ch : Fin 4) (temp : Fin 128)
  /-- R355 TRAIN_DONE: Retraining of a channel completes. -/
  | trainDone (ch : Fin 4)
  /-- R359 REFRESH_DUE: A same-bank refresh falls due and is issued or postponed. -/
  | refreshDue (ch : Fin 4) (sub rank : Fin 2) (ba : Fin 4)
  /-- R359 MR4_POLL: Every 4 ms the controller reads MR4 of every rank. -/
  | mr4Poll (ch : Fin 4) (code : Fin 8) (beyond : Bool)
  /-- R361 THROTTLE_EXPIRY: A requester's throttle ends after COURSES courses. -/
  | throttleExpiry (r : Fin 64) (ch : Fin 4)
  /-- R392 DEBUG_STEP: Lets a stopped thread issue n instructions. -/
  | debugStep (x : Target)
  /-- R392 STEP_COMPLETE: After n instructions the stepped thread stops again. -/
  | stepComplete (t : Tid)
  /-- R419 CLUSTER_WAKE: A gated cluster wakes on a post, message or timer. -/
  | clusterWake (c : Fin 16)
  /-- R48 COURSE_START_STROBE: The course boundary strobe reaches dispatcher, clusters, settlement unit and eave gate, and the course number rises by one. -/
  | courseStartStrobe
  /-- R51 TICK_FRAME_BOUNDARY: A new 256-lath tick frame begins and the device sends its frame on TICK_OUT. -/
  | tickFrameBoundary
  /-- R55 FOLLOWING_ENTRY: After two good tick frames a follower loads timeline, course, label and length at a frame boundary and enters FOLLOWING. -/
  | followingEntry
  /-- R56 TICK_LATH_MISSED: No TICK_IN edge within ±8 ns of the expected instant counts a missed lath. -/
  | tickLathMissed
  /-- R49 LEN_CHANGE_APPLIED: The countdown reaches zero and the new course length applies from that frame boundary. -/
  | lenChangeApplied
  /-- R46 PPS_LOSS: PPS_IN missing for 2 s with PPS_SERVO set sends the master to holdover. -/
  | ppsLoss
  /-- R59 PPS_OUT_PULSE: PPS_OUT rises at each whole second of device time for WIDTH_US. -/
  | ppsOutPulse
  /-- R106 CLASSIFY_LOOKUP: The classifier builds the key, hashes it and looks it up in two buckets. -/
  | classifyLookup
  /-- R129 CIPHER_INBOUND: The cipher engine checks, authenticates and decrypts a queued inbound ESP packet. -/
  | cipherInbound
  /-- R138 LEARN: The learning unit updates a bound record's last-seen stamp and return path from a frame. -/
  | learn
  /-- R160 DISPATCH_DECIDE: The dispatcher decides whether a presented frame runs and on which cluster. -/
  | dispatchDecide
  /-- R169 PACKET_DEADLINE: At a packet's deadline strobe it is discarded or trapped with the overrun verdict. -/
  | packetDeadline
  /-- R171 DEFER_READMIT: Deferred frames are re-admitted in stamp order at the start of course k + 2. -/
  | deferReadmit
  /-- R176 GATE_RELEASE: On acceptance the eave gate releases bank k to the switch core in order. -/
  | gateRelease
  /-- R336 ACK_SEND: The shadow sends ACK for course k once all conditions hold. -/
  | ackSend
  /-- R337 ACK_TIMEOUT: Course k unaccepted by the strobe of k + 3 sends the lead to ALONE. -/
  | ackTimeout
  /-- R339 LINK_SILENCE: No valid Elvant frame for two courses makes the link silent. -/
  | linkSilence
  /-- R332 TWIN_ALIVE_LOST: TWIN_ALIVE_IN not toggling for 4 laths clears ALIVE_IN. -/
  | twinAliveLost
  /-- R333 SHADOW_ONLY_DISCARD: An unmatched held frame is discarded at the strobe of k + 3. -/
  | shadowOnlyDiscard
  /-- R343 JOURNAL_RECORD_COMPLETE: A course's journal record completes and the course is accepted. -/
  | journalRecordComplete
  /-- R344 JOURNAL_RECOVERY: After a DEVICE reset the settlement unit replays complete journal records. -/
  | journalRecovery
  /-- R350 JOIN_WAIT_EXPIRY: No valid frame for JOIN_WAIT courses makes a LEAD-strap device enter ALONE. -/
  | joinWaitExpiry
  /-- R350 JOIN_COPY_COMPLETE: The lead finishes the copy and sends JOIN_DONE naming course j. -/
  | joinCopyComplete
  /-- R416 WATCHDOG: COURSES courses without KICK start a DEVICE reset. -/
  | watchdog
  /-- R417 THERMAL_TRIP: Junction temperature 15 °C above the maximum starts a DEVICE reset. -/
  | thermalTrip
  /-- R415 SETTLEMENT_LEAVE_OFF: The settlement unit leaves OFF at the first boundary after boot or return to RUN. -/
  | settlementLeaveOff
  /-- R420 STANDBY_SETTLED: Every course up to c + 1 is accepted and released and the device enters STANDBY. -/
  | standbySettled
  /-- R420 STANDBY_ABANDON: Courses not settled by c + 8 abandon the STANDBY entry. -/
  | standbyAbandon
  /-- R305 CELL_TIME: Every cell time of 8 FCLK cycles each crossbar plane matches slices to outputs and each matched pair moves one cell into its reserved transmit-buffer place. -/
  | cellTime
  /-- R332 TWIN_ALIVE_IN_TOGGLE: An edge on the TWIN_ALIVE_IN ball sets STL_STATUS.ALIVE_IN and restarts its 4-lath window. -/
  | twinAliveInToggle
  /-- R450 RECONCILIATION_COMPLETE: The classifier's table reconciliation finishes within 2 ms, after which CLS_CFG.ENABLE reads 1 and lookups can hit again. -/
  | reconciliationComplete
  deriving DecidableEq, Repr

end Sys2Proof
end

