-- ==== Sys2Proof/Config.lean ====
section
/-! DEFINITION. The free values of the model: every value the manual leaves open is an opaque constant without a body, applied
to the model's own counter `State.freeCtr` or to the operands the value depends on, so that no proof can see a value of it. -/

namespace Sys2Proof.Config

/-- The n-th open 16-bit value (an undefined register value, an unstated result). -/
opaque freeWord : Nat → Word

/-- The n-th open choice between two outcomes the manual allows (R193, R263: either the old or the new value). -/
opaque freeBool : Nat → Bool

/-- The n-th open natural number, used under a bound the manual gives. -/
opaque freeNat : Nat → Nat

/-- R108 does not say which of the hot cache's sets a bucket line uses. -/
opaque hotSet : Nat → Nat

/-- R188 does not say how a fetch address becomes a BTB tag; this says which addresses share an entry. -/
opaque btbTag : Nat → Nat

/-- R430: the maker key, a fuse row whose contents the manual does not give. -/
opaque makerKey : Nat → Word32

/-- R428: the life-cycle nonce "changes after every request and at POWER"; the n-th nonce's word i. -/
opaque lifeNonce : Nat → Nat → Word32

/-- R428, R430: the maker root in boot ROM, a P-384 public key (X, Y) that the manual does not give. -/
opaque makerRoot : Nat × Nat

/-- What a counter of pipeline cycles (R184, R191, R196, R261) holds at its n-th reading, by its byte offset. -/
opaque cycleCount : Nat → Nat → Word32

/-- R267: the fixed microcode of a tally unit, addresses 0 to 1,535, and the microaddress at which its routine of a TOP function begins. -/
opaque microRom : Nat → BitVec 100
opaque romEntry : Nat → Nat

end Sys2Proof.Config
end

