-- ==== Sys2Proof/Machine/RegTable.lean ====
section
/-! DEFINITION. The register map of the BZL-8128, one constructor per register (or register array) of the manual's register
tables (R9), written from those tables: base offset and strides, and for each field its bits, access code, restriction, reset
value and "Held through" entry (R10, R16, R18, R19). Reserved bits (R12) are the bits no field names. -/

namespace Sys2Proof.Machine

/-- R10: the behaviour codes of the Access column. -/
inductive Access where
  | ro | rw | w1c | w1s | wo | rc | hw
  deriving DecidableEq, Repr

/-- R10, R11: the restriction codes, and "house" fields. -/
inductive Restr where
  | none | sv | mk | house
  deriving DecidableEq, Repr

/-- R17: the reset kinds, from widest to narrowest. -/
inductive ResetKind where
  | power | device | stall | cluster | core | thread
  deriving DecidableEq, Repr

/-- R17: whose scope an instance of a register lies in (its index says which instance). -/
inductive RegScope where
  | dev | stall | stallPair | stallKey | cluster | core | thread | hthread | mover | source | recorder | recorderArr | graph | unit
  deriving DecidableEq, Repr

/-- One field of a register table (R9). `held = none` means "none"; `standby` is the ", S" of R19; `sat` says that the field's
Meaning column makes it saturate or keep its maximum (R14). -/
structure FieldDesc where
  lo : Nat
  width : Nat
  access : Access
  restr : Restr
  reset : Nat
  held : Option ResetKind
  standby : Bool
  sat : Bool
  deriving DecidableEq, Repr

/-- Where a register, or an array of them in up to two dimensions, lies in the control-register space (R431). -/
structure Layout where
  base : Nat
  n1 : Nat
  st1 : Nat
  n2 : Nat
  st2 : Nat
  deriving DecidableEq, Repr

/-- Every register of the manual's register tables; an array is one constructor and its instances are numbered. -/
inductive Reg where
  /-- TMB_STATUS (02) -/
  | tmbStatus
  /-- TMB_CTL (02) -/
  | tmbCtl
  /-- TMB_FREQ_ADJ (02) -/
  | tmbFreqAdj
  /-- TMB_PHASE_ADJ (02) -/
  | tmbPhaseAdj
  /-- TMB_SLEW (02) -/
  | tmbSlew
  /-- TMB_HOLD (02) -/
  | tmbHold
  /-- TMB_STAB (02) -/
  | tmbStab
  /-- TMB_TICK_CTL (02) -/
  | tmbTickCtl
  /-- TMB_TICK_OFFSET (02) -/
  | tmbTickOffset
  /-- TMB_PPS_CTL (02) -/
  | tmbPpsCtl
  /-- TMB_PPS_OFFSET (02) -/
  | tmbPpsOffset
  /-- TMB_NOW0 (02) -/
  | tmbNow0
  /-- TMB_NOW1 (02) -/
  | tmbNow1
  /-- TMB_NOW2 (02) -/
  | tmbNow2
  /-- TMB_NOW3 (02) -/
  | tmbNow3
  /-- TMB_EPOCH0 (02) -/
  | tmbEpoch0
  /-- TMB_EPOCH1 (02) -/
  | tmbEpoch1
  /-- TMB_EPOCH2 (02) -/
  | tmbEpoch2
  /-- TMB_EPOCH3 (02) -/
  | tmbEpoch3
  /-- TMB_STAMP_LO (02) -/
  | tmbStampLo
  /-- TMB_STAMP_HI (02) -/
  | tmbStampHi
  /-- TMB_STEP_SEC (02) -/
  | tmbStepSec
  /-- TMB_STEP_NS (02) -/
  | tmbStepNs
  /-- TMB_PORT_ADJn (02) -/
  | tmbPortAdj
  /-- TMB_TXTS_n.STAT (02) -/
  | tmbTxtsStat
  /-- TMB_TXTS_n.TAG (02) -/
  | tmbTxtsTag
  /-- TMB_TXTS_n.TS_LO (02) -/
  | tmbTxtsTsLo
  /-- TMB_TXTS_n.TS_HI (02) -/
  | tmbTxtsTsHi
  /-- CRS_NOW_LO (02) -/
  | crsNowLo
  /-- CRS_NOW_HI (02) -/
  | crsNowHi
  /-- CRS_POS (02) -/
  | crsPos
  /-- CRS_LEN_CHG (02) -/
  | crsLenChg
  /-- CRS_FRAME_LO (02) -/
  | crsFrameLo
  /-- CRS_FRAME_HI (02) -/
  | crsFrameHi
  /-- PRT_CFG (03) -/
  | prtCfg
  /-- PRT_STATUS (03) -/
  | prtStatus
  /-- PRT_FC (03) -/
  | prtFc
  /-- PRT_FEC (03) -/
  | prtFec
  /-- PRT_SEQ (03) -/
  | prtSeq
  /-- PRT_EQ (03) -/
  | prtEq
  /-- PRT_RX_FRAMES_LO (03) -/
  | prtRxFramesLo
  /-- PRT_RX_FRAMES_HI (03) -/
  | prtRxFramesHi
  /-- PRT_RX_BYTES_LO (03) -/
  | prtRxBytesLo
  /-- PRT_RX_BYTES_HI (03) -/
  | prtRxBytesHi
  /-- PRT_TX_FRAMES_LO (03) -/
  | prtTxFramesLo
  /-- PRT_TX_FRAMES_HI (03) -/
  | prtTxFramesHi
  /-- PRT_TX_BYTES_LO (03) -/
  | prtTxBytesLo
  /-- PRT_TX_BYTES_HI (03) -/
  | prtTxBytesHi
  /-- PRT_FEC_CORR_LO (03) -/
  | prtFecCorrLo
  /-- PRT_FEC_CORR_HI (03) -/
  | prtFecCorrHi
  /-- PRT_RX_FCS (03) -/
  | prtRxFcs
  /-- PRT_RX_RUNT (03) -/
  | prtRxRunt
  /-- PRT_RX_OVERSIZE (03) -/
  | prtRxOversize
  /-- PRT_RX_TRUNC (03) -/
  | prtRxTrunc
  /-- PRT_RX_NOBUF (03) -/
  | prtRxNobuf
  /-- PRT_RX_PAUSE (03) -/
  | prtRxPause
  /-- PRT_TX_PAUSE (03) -/
  | prtTxPause
  /-- PRT_TX_FLUSHED (03) -/
  | prtTxFlushed
  /-- PRT_TX_SILENT (03) -/
  | prtTxSilent
  /-- PRT_FEC_UNCORR (03) -/
  | prtFecUncorr
  /-- PRT_PAUSE_WD (03) -/
  | prtPauseWd
  /-- PRT_RX_FOREIGN (03) -/
  | prtRxForeign
  /-- PGR_GRAPH_CFGg (04) -/
  | pgrGraphCfg
  /-- PGR_PORT_CFGn (04) -/
  | pgrPortCfg
  /-- PGR_STALL_ENTRYs (04) -/
  | pgrStallEntry
  /-- PGR_LOADx.PTR (04) -/
  | pgrLoadPtr
  /-- PGR_LOADx.DATA (04) -/
  | pgrLoadData
  /-- PGR_LOADx.STAT (04) -/
  | pgrLoadStat
  /-- PGR_PORT_STATn+0x0 (04) -/
  | pgrPortStatFail
  /-- PGR_PORT_STATn+0x4 (04) -/
  | pgrPortStatSteer
  /-- PGR_KIND_FAILk (04) -/
  | pgrKindFail
  /-- PGR_STALL_FAILs (04) -/
  | pgrStallFail
  /-- PGR_LAST_FAIL (04) -/
  | pgrLastFail
  /-- PGR_HOUSE_LIMIT (04) -/
  | pgrHouseLimit
  /-- CLS_CFG (05) -/
  | clsCfg
  /-- CLS_SEEDs (05) -/
  | clsSeed
  /-- CLS_QUOTAs (05) -/
  | clsQuota
  /-- CLS_BOUNDs (05) -/
  | clsBound
  /-- CLS_BANKs (05) -/
  | clsBank
  /-- CLS_BINDx.CMD (05) -/
  | clsBindCmd
  /-- CLS_BINDx.STATUS (05) -/
  | clsBindStatus
  /-- CLS_LOADx.PTR (05) -/
  | clsLoadPtr
  /-- CLS_LOADx.DATA (05) -/
  | clsLoadData
  /-- CLS_LOADx.STAT (05) -/
  | clsLoadStat
  /-- CLS_STATs+0x0 (05) -/
  | clsStatHit
  /-- CLS_STATs+0x4 (05) -/
  | clsStatMiss
  /-- CLS_STATs+0x8 (05) -/
  | clsStatKey
  /-- CLS_STATs+0xC (05) -/
  | clsStatDropped
  /-- CLS_HOT+0x0 (05) -/
  | clsHotHit
  /-- CLS_HOT+0x4 (05) -/
  | clsHotMiss
  /-- STN_CFG (05) -/
  | stnCfg
  /-- STN_RANGEs (05) -/
  | stnRange
  /-- STN_STAT+0x0 (05) -/
  | stnStatHit
  /-- STN_STAT+0x4 (05) -/
  | stnStatMiss
  /-- STN_STAT+0x8 (05) -/
  | stnStatWriteback
  /-- STN_STAT+0xC (05) -/
  | stnStatSetWait
  /-- STN_CMDx.CMD (05) -/
  | stnCmdCmd
  /-- STN_CMDx.START (05) -/
  | stnCmdStart
  /-- STN_CMDx.MATCH (05) -/
  | stnCmdMatch
  /-- STN_CMDx.AGE (05) -/
  | stnCmdAge
  /-- STN_CMDx.RESULT (05) -/
  | stnCmdResult
  /-- ESP_CFG (06) -/
  | espCfg
  /-- ESP_PREFIXs (06) -/
  | espPrefix
  /-- ESP_REKEYs (06) -/
  | espRekey
  /-- ESP_NOPREFIX (06) -/
  | espNoprefix
  /-- ESP_STATs+0x0 (06) -/
  | espStatOk
  /-- ESP_STATs+0x4 (06) -/
  | espStatAuth
  /-- ESP_STATs+0x8 (06) -/
  | espStatNoSa
  /-- ESP_STATs+0xC (06) -/
  | espStatMalformed
  /-- ESP_STATs+0x10 (06) -/
  | espStatNocell
  /-- ESP_STATs+0x14 (06) -/
  | espStatOutOk
  /-- ESP_LASTs (06) -/
  | espLast
  /-- STN_LEARNs.CTL (07) -/
  | stnLearnCtl
  /-- STN_LEARNs.AGE (07) -/
  | stnLearnAge
  /-- STN_LEARNs.SWEEP (07) -/
  | stnLearnSweep
  /-- STN_LEARNs.SWEEP_STAT (07) -/
  | stnLearnSweepStat
  /-- STN_LSTATs+0x0 (07) -/
  | stnLstatLearns
  /-- STN_LSTATs+0x4 (07) -/
  | stnLstatMoves
  /-- STN_LSTATs+0x8 (07) -/
  | stnLstatContests
  /-- STN_LSTATs+0xC (07) -/
  | stnLstatNoPath
  /-- STN_LSTATs+0x10 (07) -/
  | stnLstatAged
  /-- PKM_ECC (08) -/
  | pkmEcc
  /-- PKM_LAST_ERR (08) -/
  | pkmLastErr
  /-- PKM_SLICEn (08) -/
  | pkmSlice
  /-- PKM_POOLs+0x0 (08) -/
  | pkmPoolLimit
  /-- PKM_POOLs+0x4 (08) -/
  | pkmPoolGreen
  /-- PKM_POOLs+0x8 (08) -/
  | pkmPoolYellow
  /-- PKM_POOLs+0xC (08) -/
  | pkmPoolRed
  /-- PKM_POOLs+0x10 (08) -/
  | pkmPoolCtl
  /-- PKM_POOLs+0x14 (08) -/
  | pkmPoolStatus
  /-- PKM_POOLs+0x18 (08) -/
  | pkmPoolStat
  /-- PKM_POOLs+0x1C (08) -/
  | pkmPoolErr
  /-- PKM_CELLx.HANDLE (08) -/
  | pkmCellHandle
  /-- PKM_CELLx.CMD (08) -/
  | pkmCellCmd
  /-- PKM_CELLx.RESULT (08) -/
  | pkmCellResult
  /-- PKM_CELLx.LINK (08) -/
  | pkmCellLink
  /-- DSP_STALLs.CTL (09) -/
  | dspStallCtl
  /-- DSP_STALLs.BUDGET (09) -/
  | dspStallBudget
  /-- DSP_STALLs.MAP (09) -/
  | dspStallMap
  /-- DSP_MAPLOADx.PTR (09) -/
  | dspMaploadPtr
  /-- DSP_MAPLOADx.DATA (09) -/
  | dspMaploadData
  /-- DSP_MAPLOADx.STAT (09) -/
  | dspMaploadStat
  /-- DSP_CLUSTERc+0x0 (09) -/
  | dspCluster
  /-- DSP_CLUSTERc+0x4 (09) -/
  | dspClusterPackets
  /-- DSP_CLUSTERc+0x8 (09) -/
  | dspClusterIssuedLo
  /-- DSP_CLUSTERc+0xC (09) -/
  | dspClusterIssuedHi
  /-- DSP_CLUSTERc+0x10 (09) -/
  | dspClusterMaxCycles
  /-- DSP_CLUSTERc+0x14 (09) -/
  | dspClusterTurnWaits
  /-- DSP_CLUSTERc+0x18 (09) -/
  | dspClusterQueue
  /-- DSP_OOS (09) -/
  | dspOos
  /-- DSP_GATE+0x0 (09) -/
  | dspGateBanks
  /-- DSP_GATE+0x4 (09) -/
  | dspGateFull
  /-- DSP_STATs+0x0 (09) -/
  | dspStatAdmitted
  /-- DSP_STATs+0x4 (09) -/
  | dspStatOverrun
  /-- DSP_STATs+0x8 (09) -/
  | dspStatLate
  /-- DSP_STATs+0xC (09) -/
  | dspStatQueueFull
  /-- DSP_STATs+0x10 (09) -/
  | dspStatDefers
  /-- DSP_STATs+0x14 (09) -/
  | dspStatDeferFull
  /-- DSP_STATs+0x18 (09) -/
  | dspStatNoCluster
  /-- CLU_COREk+0x00 (10) -/
  | cluCoreCtl
  /-- CLU_COREk+0x04 (10) -/
  | cluCoreIssue
  /-- CLU_COREk+0x08 (10) -/
  | cluCoreEmpty
  /-- CLU_COREk+0x0C (10) -/
  | cluCoreMispredict
  /-- CLU_COREk+0x10 (10) -/
  | cluCoreRefill
  /-- CLU_COREk+0x14 (10) -/
  | cluCoreRefillWait
  /-- CLU_COREk+0x18 (10) -/
  | cluCoreSbWait
  /-- CLU_COREk+0x1C (10) -/
  | cluCoreSbFull
  /-- CLU_COREk+0x20 (10) -/
  | cluCorePairSplit
  /-- CLU_COREk+0x24 (10) -/
  | cluCoreTallySquash
  /-- CLU_TRAP (11) -/
  | cluTrap
  /-- CLU_SRAM (11) -/
  | cluSram
  /-- SCP_SEGx_g.LO (11) -/
  | scpSegLo
  /-- SCP_SEGx_g.HI (11) -/
  | scpSegHi
  /-- TLY_UNITu+0x0 (13) -/
  | tlyUnitOwner
  /-- TLY_UNITu+0x4 (13) -/
  | tlyUnitCommands
  /-- TLY_UNITu+0x8 (13) -/
  | tlyUnitBusyCycles
  /-- TLY_UNITu+0xC (13) -/
  | tlyUnitQfull
  /-- TLY_UNITu+0x10 (13) -/
  | tlyUnitMchk
  /-- TLY_UNITu+0x14 (13) -/
  | tlyUnitErrors
  /-- TLY_PLOAD.ADDR (13) -/
  | tlyPloadAddr
  /-- TLY_PLOAD.D0 (13) -/
  | tlyPloadD0
  /-- TLY_PLOAD.D1 (13) -/
  | tlyPloadD1
  /-- TLY_PLOAD.D2 (13) -/
  | tlyPloadD2
  /-- TLY_PLOAD.STAT (13) -/
  | tlyPloadStat
  /-- TLY_PATCH (13) -/
  | tlyPatch
  /-- TLY_TVER (13) -/
  | tlyTver
  /-- SCH_THREADt (14) -/
  | schThread
  /-- SCH_HTHREADt (14) -/
  | schHthread
  /-- SCH_CHANx.PTR (14) -/
  | schChanPtr
  /-- SCH_CHANx.CFG (14) -/
  | schChanCfg
  /-- SCH_CHANx.STAT (14) -/
  | schChanStat
  /-- SCH_CLUSTERc+0x0 (14) -/
  | schClusterStoreFree
  /-- SCH_CLUSTERc+0x4 (14) -/
  | schClusterForkFail
  /-- SCH_CLUSTERc+0x8 (14) -/
  | schClusterTimerLate
  /-- SCH_CLUSTERc+0xC (14) -/
  | schClusterCheBlock
  /-- SCH_CLUSTERc+0x10 (14) -/
  | schClusterDiscard
  /-- SCH_STILLs.CTL (14) -/
  | schStillCtl
  /-- SCH_STILLs.STAT (14) -/
  | schStillStat
  /-- ATM_CFG (15) -/
  | atmCfg
  /-- ATM_STATs+0x0 (15) -/
  | atmStatAcquired
  /-- ATM_STATs+0x4 (15) -/
  | atmStatContended
  /-- ATM_STATs+0x8 (15) -/
  | atmStatAbandoned
  /-- ATM_STATs+0xC (15) -/
  | atmStatLimit
  /-- ATM_QUERYx.SEL (15) -/
  | atmQuerySel
  /-- ATM_QUERYx.LO (15) -/
  | atmQueryLo
  /-- ATM_QUERYx.HI (15) -/
  | atmQueryHi
  /-- SWC_PORTn+0x0 (16) -/
  | swcPortCfg
  /-- SWC_PORTn+0x4 (16) -/
  | swcPortPrioMap
  /-- SWC_PORTn+0x8 (16) -/
  | swcPortQuanta0
  /-- SWC_PORTn+0xC (16) -/
  | swcPortQuanta1
  /-- SWC_PORTn+0x10 (16) -/
  | swcPortCells
  /-- SWC_PORTn+0x14 (16) -/
  | swcPortUnmatched
  /-- SWC_OUTx.REQ0 (16) -/
  | swcOutReq0
  /-- SWC_OUTx.REQ1 (16) -/
  | swcOutReq1
  /-- SWC_OUTx.REQ2 (16) -/
  | swcOutReq2
  /-- SWC_OUTx.REQ3 (16) -/
  | swcOutReq3
  /-- SWC_OUTx.REQ4 (16) -/
  | swcOutReq4
  /-- SWC_OUTx.REQ5 (16) -/
  | swcOutReq5
  /-- SWC_OUTx.CMD (16) -/
  | swcOutCmd
  /-- SWC_OUTx.RESULT (16) -/
  | swcOutResult
  /-- SWC_LOADx.PTR (16) -/
  | swcLoadPtr
  /-- SWC_LOADx.DATA (16) -/
  | swcLoadData
  /-- SWC_LOADx.STAT (16) -/
  | swcLoadStat
  /-- SWC_QSTATx.SEL (16) -/
  | swcQstatSel
  /-- SWC_QSTATx+0x4 (16) -/
  | swcQstatEnq
  /-- SWC_QSTATx+0x8 (16) -/
  | swcQstatEarly
  /-- SWC_QSTATx+0xC (16) -/
  | swcQstatCap
  /-- SWC_QSTATx+0x10 (16) -/
  | swcQstatMark
  /-- SWC_QSTATx+0x14 (16) -/
  | swcQstatUnmark
  /-- SWC_QSTATx+0x18 (16) -/
  | swcQstatFlush
  /-- SWC_RECIRCr+0x0 (16) -/
  | swcRecircSeq
  /-- SWC_RECIRCr+0x4 (16) -/
  | swcRecircForeign
  /-- SWC_RECIRCr+0x8 (16) -/
  | swcRecircDropped
  /-- STL_CFG (17) -/
  | stlCfg
  /-- STL_PAIR (17) -/
  | stlPair
  /-- STL_CTL (17) -/
  | stlCtl
  /-- STL_STATUS (17) -/
  | stlStatus
  /-- STL_ACCEPTED_LO (17) -/
  | stlAcceptedLo
  /-- STL_ACCEPTED_HI (17) -/
  | stlAcceptedHi
  /-- STL_CALn (17) -/
  | stlCal
  /-- STL_JOURNAL.BASE (17) -/
  | stlJournalBase
  /-- STL_JOURNAL.SIZE (17) -/
  | stlJournalSize
  /-- STL_JOURNAL.FREE (17) -/
  | stlJournalFree
  /-- STL_STAT+0x00 (17) -/
  | stlStatMatched
  /-- STL_STAT+0x04 (17) -/
  | stlStatFills
  /-- STL_STAT+0x08 (17) -/
  | stlStatShadowOnly
  /-- STL_STAT+0x0C (17) -/
  | stlStatShadowHost
  /-- STL_STAT+0x10 (17) -/
  | stlStatUnsettled
  /-- STL_STAT+0x14 (17) -/
  | stlStatRetx
  /-- STL_STAT+0x18 (17) -/
  | stlStatAckTimeout
  /-- STL_STAT+0x1C (17) -/
  | stlStatForeign
  /-- STL_STAT+0x20 (17) -/
  | stlStatVolumeMax
  /-- STL_LEDGERs+0x0 (17) -/
  | stlLedgerBase
  /-- STL_LEDGERs+0x4 (17) -/
  | stlLedgerSize
  /-- STL_LEDGERs+0x8 (17) -/
  | stlLedgerNextLo
  /-- STL_LEDGERs+0xC (17) -/
  | stlLedgerNextHi
  /-- STL_LEDGERs+0x10 (17) -/
  | stlLedgerRetiredLo
  /-- STL_LEDGERs+0x14 (17) -/
  | stlLedgerRetiredHi
  /-- STL_LEDGERs+0x18 (17) -/
  | stlLedgerFree
  /-- STL_LEDGERs+0x1C (17) -/
  | stlLedgerFull
  /-- STL_APPENDx.HANDLE (17) -/
  | stlAppendHandle
  /-- STL_APPENDx.LEN (17) -/
  | stlAppendLen
  /-- STL_APPENDx.TAG (17) -/
  | stlAppendTag
  /-- STL_APPENDx.CMD (17) -/
  | stlAppendCmd
  /-- STL_APPENDx.RESULT (17) -/
  | stlAppendResult
  /-- DRC_CFG (18) -/
  | drcCfg
  /-- DRC_STATUS (18) -/
  | drcStatus
  /-- DRC_REF (18) -/
  | drcRef
  /-- DRC_TRAIN (18) -/
  | drcTrain
  /-- DRC_HOT (18) -/
  | drcHot
  /-- DRC_HOT2 (18) -/
  | drcHot2
  /-- DRC_SCRUB (18) -/
  | drcScrub
  /-- DRC_SCRUB_POS (18) -/
  | drcScrubPos
  /-- DRC_ECC (18) -/
  | drcEcc
  /-- DRC_ERR (18) -/
  | drcErr
  /-- DRC_RFM (18) -/
  | drcRfm
  /-- DRC_LOG.SEL (18) -/
  | drcLogSel
  /-- DRC_LOG.LO (18) -/
  | drcLogLo
  /-- DRC_LOG.HI (18) -/
  | drcLogHi
  /-- DRC_TIMn (18) -/
  | drcTim
  /-- ARB_MAPm.LO (18) -/
  | arbMapLo
  /-- ARB_MAPm.HI (18) -/
  | arbMapHi
  /-- ARB_CAP (18) -/
  | arbCap
  /-- ARB_REQr+0x0 (18) -/
  | arbReqCtl
  /-- ARB_REQr+0x4 (18) -/
  | arbReqGrants
  /-- ARB_REQr+0x8 (18) -/
  | arbReqWaits
  /-- ARB_REQr+0xC (18) -/
  | arbReqLongest
  /-- ARB_REQr+0x10 (18) -/
  | arbReqMissed
  /-- ARB_MOVEm.SRC (18) -/
  | arbMoveSrc
  /-- ARB_MOVEm.DST (18) -/
  | arbMoveDst
  /-- ARB_MOVEm.LEN (18) -/
  | arbMoveLen
  /-- ARB_MOVEm.CTL (18) -/
  | arbMoveCtl
  /-- ARB_MOVEm.STATUS (18) -/
  | arbMoveStatus
  /-- ARB_MOVEm.PROGRESS (18) -/
  | arbMoveProgress
  /-- SCP_CFG (19) -/
  | scpCfg
  /-- SCP_DROP (19) -/
  | scpDrop
  /-- SCP_STALLx.CTL (19) -/
  | scpStallCtl
  /-- SCP_STALLx.STATE (19) -/
  | scpStallState
  /-- SCP_STALLx.LIMIT (19) -/
  | scpStallLimit
  /-- SCP_STALLx.SESSION (19) -/
  | scpStallSession
  /-- SCP_STALLx.LAST (19) -/
  | scpStallLast
  /-- SCP_STALLx.DSEQ (19) -/
  | scpStallDseq
  /-- SCP_STALLx.RTO (19) -/
  | scpStallRto
  /-- SCP_KEYs.KEYn (19) -/
  | scpKey
  /-- SCP_STATx+0x0 (19) -/
  | scpStatCmds
  /-- SCP_STATx+0x4 (19) -/
  | scpStatAuth
  /-- SCP_STATx+0x8 (19) -/
  | scpStatSeq
  /-- SCP_STATx+0xC (19) -/
  | scpStatRate
  /-- SCP_STATx+0x10 (19) -/
  | scpStatBadAck
  /-- SCP_STATx+0x14 (19) -/
  | scpStatRetxDeliver
  /-- SCP_STATx+0x18 (19) -/
  | scpStatNoticeDrop
  /-- SCP_STATx+0x1C (19) -/
  | scpStatSilentAck
  /-- EVC_SRCn (20) -/
  | evcSrc
  /-- EVC_RAISEx (20) -/
  | evcRaise
  /-- EVC_OWNERx+0x0 (20) -/
  | evcOwnerPending
  /-- EVC_OWNERx+0x4 (20) -/
  | evcOwnerLost
  /-- EVC_OWNERx+0x8 (20) -/
  | evcOwnerDelivered
  /-- LDG_CFGr.CFG (20) -/
  | ldgCfg
  /-- LDG_CFGr.TRIG (20) -/
  | ldgTrig
  /-- LDG_CFGr.HBASE (20) -/
  | ldgHbase
  /-- LDG_CFGr.HWIDTH (20) -/
  | ldgHwidth
  /-- LDG_CFGr.CTL (20) -/
  | ldgCtl
  /-- LDG_CFGr.STAT (20) -/
  | ldgStat
  /-- LDG_CFGr.CUR (20) -/
  | ldgCur
  /-- LDG_CFGr.WINk (20) -/
  | ldgWin
  /-- LDG_SELr_j (20) -/
  | ldgSel
  /-- SUP_CTL (21) -/
  | supCtl
  /-- SUP_STATUS (21) -/
  | supStatus
  /-- SUP_WDOG (21) -/
  | supWdog
  /-- SUP_TEMP (21) -/
  | supTemp
  /-- SUP_RSTx.CMD (21) -/
  | supRstCmd
  /-- SUP_RSTx.STATUS (21) -/
  | supRstStatus
  /-- SUP_PWR (21) -/
  | supPwr
  /-- SUP_BOOT (21) -/
  | supBoot
  /-- SUP_IMGVER (21) -/
  | supImgver
  /-- SUP_MAINT (21) -/
  | supMaint
  /-- SUP_LC (21) -/
  | supLc
  /-- SUP_LC_REQ (21) -/
  | supLcReq
  /-- SUP_ROLLBACK (21) -/
  | supRollback
  /-- SUP_LC_NONCEn (21) -/
  | supLcNonce
  /-- SUP_LC_TOKENn (21) -/
  | supLcToken
  /-- SUP_HKEYn (21) -/
  | supHkey
  /-- SUP_ROOTn (21) -/
  | supRoot
  /-- CRS_CAP_HEAD (22) -/
  | crsCapHead
  /-- CRS_PART (22) -/
  | crsPart
  /-- CRS_SERIAL_LO (22) -/
  | crsSerialLo
  /-- CRS_SERIAL_HI (22) -/
  | crsSerialHi
  /-- CRS_UNMAPPED (22) -/
  | crsUnmapped
  deriving DecidableEq, Repr

/-- Base offsets and strides as the register tables give them. -/
def Reg.layout : Reg → Layout
  | .tmbStatus => ⟨0x20000, 1, 0x0, 1, 0x0⟩
  | .tmbCtl => ⟨0x20004, 1, 0x0, 1, 0x0⟩
  | .tmbFreqAdj => ⟨0x20008, 1, 0x0, 1, 0x0⟩
  | .tmbPhaseAdj => ⟨0x2000C, 1, 0x0, 1, 0x0⟩
  | .tmbSlew => ⟨0x20010, 1, 0x0, 1, 0x0⟩
  | .tmbHold => ⟨0x20014, 1, 0x0, 1, 0x0⟩
  | .tmbStab => ⟨0x20018, 1, 0x0, 1, 0x0⟩
  | .tmbTickCtl => ⟨0x2001C, 1, 0x0, 1, 0x0⟩
  | .tmbTickOffset => ⟨0x20020, 1, 0x0, 1, 0x0⟩
  | .tmbPpsCtl => ⟨0x20024, 1, 0x0, 1, 0x0⟩
  | .tmbPpsOffset => ⟨0x20028, 1, 0x0, 1, 0x0⟩
  | .tmbNow0 => ⟨0x20030, 1, 0x0, 1, 0x0⟩
  | .tmbNow1 => ⟨0x20034, 1, 0x0, 1, 0x0⟩
  | .tmbNow2 => ⟨0x20038, 1, 0x0, 1, 0x0⟩
  | .tmbNow3 => ⟨0x2003C, 1, 0x0, 1, 0x0⟩
  | .tmbEpoch0 => ⟨0x20040, 1, 0x0, 1, 0x0⟩
  | .tmbEpoch1 => ⟨0x20044, 1, 0x0, 1, 0x0⟩
  | .tmbEpoch2 => ⟨0x20048, 1, 0x0, 1, 0x0⟩
  | .tmbEpoch3 => ⟨0x2004C, 1, 0x0, 1, 0x0⟩
  | .tmbStampLo => ⟨0x20050, 1, 0x0, 1, 0x0⟩
  | .tmbStampHi => ⟨0x20054, 1, 0x0, 1, 0x0⟩
  | .tmbStepSec => ⟨0x20058, 1, 0x0, 1, 0x0⟩
  | .tmbStepNs => ⟨0x2005C, 1, 0x0, 1, 0x0⟩
  | .tmbPortAdj => ⟨0x20100, 12, 0x4, 1, 0x0⟩
  | .tmbTxtsStat => ⟨0x20200, 10, 0x10, 1, 0x0⟩
  | .tmbTxtsTag => ⟨0x20204, 10, 0x10, 1, 0x0⟩
  | .tmbTxtsTsLo => ⟨0x20208, 10, 0x10, 1, 0x0⟩
  | .tmbTxtsTsHi => ⟨0x2020C, 10, 0x10, 1, 0x0⟩
  | .crsNowLo => ⟨0x20800, 1, 0x0, 1, 0x0⟩
  | .crsNowHi => ⟨0x20804, 1, 0x0, 1, 0x0⟩
  | .crsPos => ⟨0x20808, 1, 0x0, 1, 0x0⟩
  | .crsLenChg => ⟨0x2080C, 1, 0x0, 1, 0x0⟩
  | .crsFrameLo => ⟨0x20810, 1, 0x0, 1, 0x0⟩
  | .crsFrameHi => ⟨0x20814, 1, 0x0, 1, 0x0⟩
  | .prtCfg => ⟨0x30000, 12, 0x1000, 1, 0x0⟩
  | .prtStatus => ⟨0x30004, 12, 0x1000, 1, 0x0⟩
  | .prtFc => ⟨0x30008, 12, 0x1000, 1, 0x0⟩
  | .prtFec => ⟨0x3000C, 12, 0x1000, 1, 0x0⟩
  | .prtSeq => ⟨0x30010, 12, 0x1000, 1, 0x0⟩
  | .prtEq => ⟨0x30014, 12, 0x1000, 1, 0x0⟩
  | .prtRxFramesLo => ⟨0x30100, 12, 0x1000, 1, 0x0⟩
  | .prtRxFramesHi => ⟨0x30104, 12, 0x1000, 1, 0x0⟩
  | .prtRxBytesLo => ⟨0x30108, 12, 0x1000, 1, 0x0⟩
  | .prtRxBytesHi => ⟨0x3010C, 12, 0x1000, 1, 0x0⟩
  | .prtTxFramesLo => ⟨0x30110, 12, 0x1000, 1, 0x0⟩
  | .prtTxFramesHi => ⟨0x30114, 12, 0x1000, 1, 0x0⟩
  | .prtTxBytesLo => ⟨0x30118, 12, 0x1000, 1, 0x0⟩
  | .prtTxBytesHi => ⟨0x3011C, 12, 0x1000, 1, 0x0⟩
  | .prtFecCorrLo => ⟨0x30120, 12, 0x1000, 1, 0x0⟩
  | .prtFecCorrHi => ⟨0x30124, 12, 0x1000, 1, 0x0⟩
  | .prtRxFcs => ⟨0x30130, 12, 0x1000, 1, 0x0⟩
  | .prtRxRunt => ⟨0x30134, 12, 0x1000, 1, 0x0⟩
  | .prtRxOversize => ⟨0x30138, 12, 0x1000, 1, 0x0⟩
  | .prtRxTrunc => ⟨0x3013C, 12, 0x1000, 1, 0x0⟩
  | .prtRxNobuf => ⟨0x30140, 12, 0x1000, 1, 0x0⟩
  | .prtRxPause => ⟨0x30144, 12, 0x1000, 1, 0x0⟩
  | .prtTxPause => ⟨0x30148, 12, 0x1000, 1, 0x0⟩
  | .prtTxFlushed => ⟨0x3014C, 12, 0x1000, 1, 0x0⟩
  | .prtTxSilent => ⟨0x30150, 12, 0x1000, 1, 0x0⟩
  | .prtFecUncorr => ⟨0x30154, 12, 0x1000, 1, 0x0⟩
  | .prtPauseWd => ⟨0x30158, 12, 0x1000, 1, 0x0⟩
  | .prtRxForeign => ⟨0x3015C, 12, 0x1000, 1, 0x0⟩
  | .pgrGraphCfg => ⟨0x40000, 16, 0x4, 1, 0x0⟩
  | .pgrPortCfg => ⟨0x40040, 10, 0x4, 1, 0x0⟩
  | .pgrStallEntry => ⟨0x40080, 16, 0x4, 1, 0x0⟩
  | .pgrLoadPtr => ⟨0x40100, 17, 0x10, 1, 0x0⟩
  | .pgrLoadData => ⟨0x40104, 17, 0x10, 1, 0x0⟩
  | .pgrLoadStat => ⟨0x40108, 17, 0x10, 1, 0x0⟩
  | .pgrPortStatFail => ⟨0x40220, 10, 0x10, 1, 0x0⟩
  | .pgrPortStatSteer => ⟨0x40224, 10, 0x10, 1, 0x0⟩
  | .pgrKindFail => ⟨0x40304, 7, 0x4, 1, 0x0⟩
  | .pgrStallFail => ⟨0x40340, 16, 0x4, 1, 0x0⟩
  | .pgrLastFail => ⟨0x40380, 1, 0x0, 1, 0x0⟩
  | .pgrHouseLimit => ⟨0x40384, 1, 0x0, 1, 0x0⟩
  | .clsCfg => ⟨0x50000, 1, 0x0, 1, 0x0⟩
  | .clsSeed => ⟨0x50040, 16, 0x4, 1, 0x0⟩
  | .clsQuota => ⟨0x50080, 16, 0x4, 1, 0x0⟩
  | .clsBound => ⟨0x500C0, 16, 0x4, 1, 0x0⟩
  | .clsBank => ⟨0x50380, 16, 0x4, 1, 0x0⟩
  | .clsBindCmd => ⟨0x50100, 17, 0x8, 1, 0x0⟩
  | .clsBindStatus => ⟨0x50104, 17, 0x8, 1, 0x0⟩
  | .clsLoadPtr => ⟨0x50200, 17, 0x10, 1, 0x0⟩
  | .clsLoadData => ⟨0x50204, 17, 0x10, 1, 0x0⟩
  | .clsLoadStat => ⟨0x50208, 17, 0x10, 1, 0x0⟩
  | .clsStatHit => ⟨0x50400, 16, 0x10, 1, 0x0⟩
  | .clsStatMiss => ⟨0x50404, 16, 0x10, 1, 0x0⟩
  | .clsStatKey => ⟨0x50408, 16, 0x10, 1, 0x0⟩
  | .clsStatDropped => ⟨0x5040C, 16, 0x10, 1, 0x0⟩
  | .clsHotHit => ⟨0x50500, 1, 0x0, 1, 0x0⟩
  | .clsHotMiss => ⟨0x50504, 1, 0x0, 1, 0x0⟩
  | .stnCfg => ⟨0x60000, 1, 0x0, 1, 0x0⟩
  | .stnRange => ⟨0x60040, 16, 0x4, 1, 0x0⟩
  | .stnStatHit => ⟨0x60800, 1, 0x0, 1, 0x0⟩
  | .stnStatMiss => ⟨0x60804, 1, 0x0, 1, 0x0⟩
  | .stnStatWriteback => ⟨0x60808, 1, 0x0, 1, 0x0⟩
  | .stnStatSetWait => ⟨0x6080C, 1, 0x0, 1, 0x0⟩
  | .stnCmdCmd => ⟨0x60100, 17, 0x20, 1, 0x0⟩
  | .stnCmdStart => ⟨0x60104, 17, 0x20, 1, 0x0⟩
  | .stnCmdMatch => ⟨0x60108, 17, 0x20, 1, 0x0⟩
  | .stnCmdAge => ⟨0x6010C, 17, 0x20, 1, 0x0⟩
  | .stnCmdResult => ⟨0x60110, 17, 0x20, 1, 0x0⟩
  | .espCfg => ⟨0x70000, 1, 0x0, 1, 0x0⟩
  | .espPrefix => ⟨0x70040, 16, 0x4, 1, 0x0⟩
  | .espRekey => ⟨0x70080, 16, 0x4, 1, 0x0⟩
  | .espNoprefix => ⟨0x700C0, 1, 0x0, 1, 0x0⟩
  | .espStatOk => ⟨0x70100, 16, 0x20, 1, 0x0⟩
  | .espStatAuth => ⟨0x70104, 16, 0x20, 1, 0x0⟩
  | .espStatNoSa => ⟨0x70108, 16, 0x20, 1, 0x0⟩
  | .espStatMalformed => ⟨0x7010C, 16, 0x20, 1, 0x0⟩
  | .espStatNocell => ⟨0x70110, 16, 0x20, 1, 0x0⟩
  | .espStatOutOk => ⟨0x70114, 16, 0x20, 1, 0x0⟩
  | .espLast => ⟨0x70300, 16, 0x4, 1, 0x0⟩
  | .stnLearnCtl => ⟨0x60400, 16, 0x20, 1, 0x0⟩
  | .stnLearnAge => ⟨0x60404, 16, 0x20, 1, 0x0⟩
  | .stnLearnSweep => ⟨0x60408, 16, 0x20, 1, 0x0⟩
  | .stnLearnSweepStat => ⟨0x6040C, 16, 0x20, 1, 0x0⟩
  | .stnLstatLearns => ⟨0x60600, 16, 0x20, 1, 0x0⟩
  | .stnLstatMoves => ⟨0x60604, 16, 0x20, 1, 0x0⟩
  | .stnLstatContests => ⟨0x60608, 16, 0x20, 1, 0x0⟩
  | .stnLstatNoPath => ⟨0x6060C, 16, 0x20, 1, 0x0⟩
  | .stnLstatAged => ⟨0x60610, 16, 0x20, 1, 0x0⟩
  | .pkmEcc => ⟨0x80000, 1, 0x0, 1, 0x0⟩
  | .pkmLastErr => ⟨0x80004, 1, 0x0, 1, 0x0⟩
  | .pkmSlice => ⟨0x80040, 16, 0x4, 1, 0x0⟩
  | .pkmPoolLimit => ⟨0x80100, 16, 0x20, 1, 0x0⟩
  | .pkmPoolGreen => ⟨0x80104, 16, 0x20, 1, 0x0⟩
  | .pkmPoolYellow => ⟨0x80108, 16, 0x20, 1, 0x0⟩
  | .pkmPoolRed => ⟨0x8010C, 16, 0x20, 1, 0x0⟩
  | .pkmPoolCtl => ⟨0x80110, 16, 0x20, 1, 0x0⟩
  | .pkmPoolStatus => ⟨0x80114, 16, 0x20, 1, 0x0⟩
  | .pkmPoolStat => ⟨0x80118, 16, 0x20, 1, 0x0⟩
  | .pkmPoolErr => ⟨0x8011C, 16, 0x20, 1, 0x0⟩
  | .pkmCellHandle => ⟨0x80800, 17, 0x10, 1, 0x0⟩
  | .pkmCellCmd => ⟨0x80804, 17, 0x10, 1, 0x0⟩
  | .pkmCellResult => ⟨0x80808, 17, 0x10, 1, 0x0⟩
  | .pkmCellLink => ⟨0x8080C, 17, 0x10, 1, 0x0⟩
  | .dspStallCtl => ⟨0x90000, 16, 0x20, 1, 0x0⟩
  | .dspStallBudget => ⟨0x90004, 16, 0x20, 1, 0x0⟩
  | .dspStallMap => ⟨0x90008, 16, 0x20, 1, 0x0⟩
  | .dspMaploadPtr => ⟨0x90200, 17, 0x10, 1, 0x0⟩
  | .dspMaploadData => ⟨0x90204, 17, 0x10, 1, 0x0⟩
  | .dspMaploadStat => ⟨0x90208, 17, 0x10, 1, 0x0⟩
  | .dspCluster => ⟨0x90400, 16, 0x20, 1, 0x0⟩
  | .dspClusterPackets => ⟨0x90404, 16, 0x20, 1, 0x0⟩
  | .dspClusterIssuedLo => ⟨0x90408, 16, 0x20, 1, 0x0⟩
  | .dspClusterIssuedHi => ⟨0x9040C, 16, 0x20, 1, 0x0⟩
  | .dspClusterMaxCycles => ⟨0x90410, 16, 0x20, 1, 0x0⟩
  | .dspClusterTurnWaits => ⟨0x90414, 16, 0x20, 1, 0x0⟩
  | .dspClusterQueue => ⟨0x90418, 16, 0x20, 1, 0x0⟩
  | .dspOos => ⟨0x90800, 1, 0x0, 1, 0x0⟩
  | .dspGateBanks => ⟨0x90804, 1, 0x0, 1, 0x0⟩
  | .dspGateFull => ⟨0x90808, 1, 0x0, 1, 0x0⟩
  | .dspStatAdmitted => ⟨0x90900, 16, 0x20, 1, 0x0⟩
  | .dspStatOverrun => ⟨0x90904, 16, 0x20, 1, 0x0⟩
  | .dspStatLate => ⟨0x90908, 16, 0x20, 1, 0x0⟩
  | .dspStatQueueFull => ⟨0x9090C, 16, 0x20, 1, 0x0⟩
  | .dspStatDefers => ⟨0x90910, 16, 0x20, 1, 0x0⟩
  | .dspStatDeferFull => ⟨0x90914, 16, 0x20, 1, 0x0⟩
  | .dspStatNoCluster => ⟨0x90918, 16, 0x20, 1, 0x0⟩
  | .cluCoreCtl => ⟨0xA0100, 16, 0x1000, 8, 0x40⟩
  | .cluCoreIssue => ⟨0xA0104, 16, 0x1000, 8, 0x40⟩
  | .cluCoreEmpty => ⟨0xA0108, 16, 0x1000, 8, 0x40⟩
  | .cluCoreMispredict => ⟨0xA010C, 16, 0x1000, 8, 0x40⟩
  | .cluCoreRefill => ⟨0xA0110, 16, 0x1000, 8, 0x40⟩
  | .cluCoreRefillWait => ⟨0xA0114, 16, 0x1000, 8, 0x40⟩
  | .cluCoreSbWait => ⟨0xA0118, 16, 0x1000, 8, 0x40⟩
  | .cluCoreSbFull => ⟨0xA011C, 16, 0x1000, 8, 0x40⟩
  | .cluCorePairSplit => ⟨0xA0120, 16, 0x1000, 8, 0x40⟩
  | .cluCoreTallySquash => ⟨0xA0124, 16, 0x1000, 8, 0x40⟩
  | .cluTrap => ⟨0xA0000, 16, 0x1000, 1, 0x0⟩
  | .cluSram => ⟨0xA0004, 16, 0x1000, 1, 0x0⟩
  | .scpSegLo => ⟨0x121000, 17, 0x80, 16, 0x8⟩
  | .scpSegHi => ⟨0x121004, 17, 0x80, 16, 0x8⟩
  | .tlyUnitOwner => ⟨0xB0000, 128, 0x20, 1, 0x0⟩
  | .tlyUnitCommands => ⟨0xB0004, 128, 0x20, 1, 0x0⟩
  | .tlyUnitBusyCycles => ⟨0xB0008, 128, 0x20, 1, 0x0⟩
  | .tlyUnitQfull => ⟨0xB000C, 128, 0x20, 1, 0x0⟩
  | .tlyUnitMchk => ⟨0xB0010, 128, 0x20, 1, 0x0⟩
  | .tlyUnitErrors => ⟨0xB0014, 128, 0x20, 1, 0x0⟩
  | .tlyPloadAddr => ⟨0xB8000, 1, 0x0, 1, 0x0⟩
  | .tlyPloadD0 => ⟨0xB8004, 1, 0x0, 1, 0x0⟩
  | .tlyPloadD1 => ⟨0xB8008, 1, 0x0, 1, 0x0⟩
  | .tlyPloadD2 => ⟨0xB800C, 1, 0x0, 1, 0x0⟩
  | .tlyPloadStat => ⟨0xB8010, 1, 0x0, 1, 0x0⟩
  | .tlyPatch => ⟨0xB8020, 1, 0x0, 1, 0x0⟩
  | .tlyTver => ⟨0xB8024, 1, 0x0, 1, 0x0⟩
  | .schThread => ⟨0xC0000, 1024, 0x4, 1, 0x0⟩
  | .schHthread => ⟨0xC1000, 8, 0x4, 1, 0x0⟩
  | .schChanPtr => ⟨0xC2000, 17, 0x10, 1, 0x0⟩
  | .schChanCfg => ⟨0xC2004, 17, 0x10, 1, 0x0⟩
  | .schChanStat => ⟨0xC2008, 17, 0x10, 1, 0x0⟩
  | .schClusterStoreFree => ⟨0xC3000, 16, 0x20, 1, 0x0⟩
  | .schClusterForkFail => ⟨0xC3004, 16, 0x20, 1, 0x0⟩
  | .schClusterTimerLate => ⟨0xC3008, 16, 0x20, 1, 0x0⟩
  | .schClusterCheBlock => ⟨0xC300C, 16, 0x20, 1, 0x0⟩
  | .schClusterDiscard => ⟨0xC3010, 16, 0x20, 1, 0x0⟩
  | .schStillCtl => ⟨0xC3400, 16, 0x8, 1, 0x0⟩
  | .schStillStat => ⟨0xC3404, 16, 0x8, 1, 0x0⟩
  | .atmCfg => ⟨0xD0000, 1, 0x0, 1, 0x0⟩
  | .atmStatAcquired => ⟨0xD0100, 16, 0x10, 1, 0x0⟩
  | .atmStatContended => ⟨0xD0104, 16, 0x10, 1, 0x0⟩
  | .atmStatAbandoned => ⟨0xD0108, 16, 0x10, 1, 0x0⟩
  | .atmStatLimit => ⟨0xD010C, 16, 0x10, 1, 0x0⟩
  | .atmQuerySel => ⟨0xD0200, 17, 0x10, 1, 0x0⟩
  | .atmQueryLo => ⟨0xD0204, 17, 0x10, 1, 0x0⟩
  | .atmQueryHi => ⟨0xD0208, 17, 0x10, 1, 0x0⟩
  | .swcPortCfg => ⟨0xE0000, 16, 0x100, 1, 0x0⟩
  | .swcPortPrioMap => ⟨0xE0004, 16, 0x100, 1, 0x0⟩
  | .swcPortQuanta0 => ⟨0xE0008, 16, 0x100, 1, 0x0⟩
  | .swcPortQuanta1 => ⟨0xE000C, 16, 0x100, 1, 0x0⟩
  | .swcPortCells => ⟨0xE0010, 16, 0x100, 1, 0x0⟩
  | .swcPortUnmatched => ⟨0xE0014, 16, 0x100, 1, 0x0⟩
  | .swcOutReq0 => ⟨0xE4000, 17, 0x40, 1, 0x0⟩
  | .swcOutReq1 => ⟨0xE4004, 17, 0x40, 1, 0x0⟩
  | .swcOutReq2 => ⟨0xE4008, 17, 0x40, 1, 0x0⟩
  | .swcOutReq3 => ⟨0xE400C, 17, 0x40, 1, 0x0⟩
  | .swcOutReq4 => ⟨0xE4010, 17, 0x40, 1, 0x0⟩
  | .swcOutReq5 => ⟨0xE4014, 17, 0x40, 1, 0x0⟩
  | .swcOutCmd => ⟨0xE4018, 17, 0x40, 1, 0x0⟩
  | .swcOutResult => ⟨0xE401C, 17, 0x40, 1, 0x0⟩
  | .swcLoadPtr => ⟨0xE6000, 17, 0x10, 1, 0x0⟩
  | .swcLoadData => ⟨0xE6004, 17, 0x10, 1, 0x0⟩
  | .swcLoadStat => ⟨0xE6008, 17, 0x10, 1, 0x0⟩
  | .swcQstatSel => ⟨0xE7000, 17, 0x20, 1, 0x0⟩
  | .swcQstatEnq => ⟨0xE7004, 17, 0x20, 1, 0x0⟩
  | .swcQstatEarly => ⟨0xE7008, 17, 0x20, 1, 0x0⟩
  | .swcQstatCap => ⟨0xE700C, 17, 0x20, 1, 0x0⟩
  | .swcQstatMark => ⟨0xE7010, 17, 0x20, 1, 0x0⟩
  | .swcQstatUnmark => ⟨0xE7014, 17, 0x20, 1, 0x0⟩
  | .swcQstatFlush => ⟨0xE7018, 17, 0x20, 1, 0x0⟩
  | .swcRecircSeq => ⟨0xE7800, 4, 0x10, 1, 0x0⟩
  | .swcRecircForeign => ⟨0xE7804, 4, 0x10, 1, 0x0⟩
  | .swcRecircDropped => ⟨0xE7808, 4, 0x10, 1, 0x0⟩
  | .stlCfg => ⟨0xF0000, 1, 0x0, 1, 0x0⟩
  | .stlPair => ⟨0xF0004, 1, 0x0, 1, 0x0⟩
  | .stlCtl => ⟨0xF0008, 1, 0x0, 1, 0x0⟩
  | .stlStatus => ⟨0xF000C, 1, 0x0, 1, 0x0⟩
  | .stlAcceptedLo => ⟨0xF0010, 1, 0x0, 1, 0x0⟩
  | .stlAcceptedHi => ⟨0xF0014, 1, 0x0, 1, 0x0⟩
  | .stlCal => ⟨0xF0040, 8, 0x4, 1, 0x0⟩
  | .stlJournalBase => ⟨0xF0080, 1, 0x0, 1, 0x0⟩
  | .stlJournalSize => ⟨0xF0084, 1, 0x0, 1, 0x0⟩
  | .stlJournalFree => ⟨0xF0088, 1, 0x0, 1, 0x0⟩
  | .stlStatMatched => ⟨0xF0100, 1, 0x0, 1, 0x0⟩
  | .stlStatFills => ⟨0xF0104, 1, 0x0, 1, 0x0⟩
  | .stlStatShadowOnly => ⟨0xF0108, 1, 0x0, 1, 0x0⟩
  | .stlStatShadowHost => ⟨0xF010C, 1, 0x0, 1, 0x0⟩
  | .stlStatUnsettled => ⟨0xF0110, 1, 0x0, 1, 0x0⟩
  | .stlStatRetx => ⟨0xF0114, 1, 0x0, 1, 0x0⟩
  | .stlStatAckTimeout => ⟨0xF0118, 1, 0x0, 1, 0x0⟩
  | .stlStatForeign => ⟨0xF011C, 1, 0x0, 1, 0x0⟩
  | .stlStatVolumeMax => ⟨0xF0120, 1, 0x0, 1, 0x0⟩
  | .stlLedgerBase => ⟨0xF0400, 16, 0x20, 1, 0x0⟩
  | .stlLedgerSize => ⟨0xF0404, 16, 0x20, 1, 0x0⟩
  | .stlLedgerNextLo => ⟨0xF0408, 16, 0x20, 1, 0x0⟩
  | .stlLedgerNextHi => ⟨0xF040C, 16, 0x20, 1, 0x0⟩
  | .stlLedgerRetiredLo => ⟨0xF0410, 16, 0x20, 1, 0x0⟩
  | .stlLedgerRetiredHi => ⟨0xF0414, 16, 0x20, 1, 0x0⟩
  | .stlLedgerFree => ⟨0xF0418, 16, 0x20, 1, 0x0⟩
  | .stlLedgerFull => ⟨0xF041C, 16, 0x20, 1, 0x0⟩
  | .stlAppendHandle => ⟨0xF0800, 17, 0x20, 1, 0x0⟩
  | .stlAppendLen => ⟨0xF0804, 17, 0x20, 1, 0x0⟩
  | .stlAppendTag => ⟨0xF0808, 17, 0x20, 1, 0x0⟩
  | .stlAppendCmd => ⟨0xF080C, 17, 0x20, 1, 0x0⟩
  | .stlAppendResult => ⟨0xF0810, 17, 0x20, 1, 0x0⟩
  | .drcCfg => ⟨0x100000, 4, 0x4000, 1, 0x0⟩
  | .drcStatus => ⟨0x100040, 4, 0x4000, 1, 0x0⟩
  | .drcRef => ⟨0x100044, 4, 0x4000, 1, 0x0⟩
  | .drcTrain => ⟨0x100048, 4, 0x4000, 1, 0x0⟩
  | .drcHot => ⟨0x10004C, 4, 0x4000, 1, 0x0⟩
  | .drcHot2 => ⟨0x100050, 4, 0x4000, 1, 0x0⟩
  | .drcScrub => ⟨0x100054, 4, 0x4000, 1, 0x0⟩
  | .drcScrubPos => ⟨0x100058, 4, 0x4000, 1, 0x0⟩
  | .drcEcc => ⟨0x100060, 4, 0x4000, 1, 0x0⟩
  | .drcErr => ⟨0x100064, 4, 0x4000, 1, 0x0⟩
  | .drcRfm => ⟨0x100068, 4, 0x4000, 1, 0x0⟩
  | .drcLogSel => ⟨0x100070, 4, 0x4000, 1, 0x0⟩
  | .drcLogLo => ⟨0x100074, 4, 0x4000, 1, 0x0⟩
  | .drcLogHi => ⟨0x100078, 4, 0x4000, 1, 0x0⟩
  | .drcTim => ⟨0x100010, 4, 0x4000, 6, 0x4⟩
  | .arbMapLo => ⟨0x110000, 9, 0x8, 1, 0x0⟩
  | .arbMapHi => ⟨0x110004, 9, 0x8, 1, 0x0⟩
  | .arbCap => ⟨0x110048, 1, 0x0, 1, 0x0⟩
  | .arbReqCtl => ⟨0x110100, 64, 0x20, 1, 0x0⟩
  | .arbReqGrants => ⟨0x110104, 64, 0x20, 1, 0x0⟩
  | .arbReqWaits => ⟨0x110108, 64, 0x20, 1, 0x0⟩
  | .arbReqLongest => ⟨0x11010C, 64, 0x20, 1, 0x0⟩
  | .arbReqMissed => ⟨0x110110, 64, 0x20, 1, 0x0⟩
  | .arbMoveSrc => ⟨0x111000, 32, 0x20, 1, 0x0⟩
  | .arbMoveDst => ⟨0x111004, 32, 0x20, 1, 0x0⟩
  | .arbMoveLen => ⟨0x111008, 32, 0x20, 1, 0x0⟩
  | .arbMoveCtl => ⟨0x11100C, 32, 0x20, 1, 0x0⟩
  | .arbMoveStatus => ⟨0x111010, 32, 0x20, 1, 0x0⟩
  | .arbMoveProgress => ⟨0x111014, 32, 0x20, 1, 0x0⟩
  | .scpCfg => ⟨0x120000, 1, 0x0, 1, 0x0⟩
  | .scpDrop => ⟨0x120004, 1, 0x0, 1, 0x0⟩
  | .scpStallCtl => ⟨0x120100, 17, 0x20, 1, 0x0⟩
  | .scpStallState => ⟨0x120104, 17, 0x20, 1, 0x0⟩
  | .scpStallLimit => ⟨0x120108, 17, 0x20, 1, 0x0⟩
  | .scpStallSession => ⟨0x12010C, 17, 0x20, 1, 0x0⟩
  | .scpStallLast => ⟨0x120110, 17, 0x20, 1, 0x0⟩
  | .scpStallDseq => ⟨0x120114, 17, 0x20, 1, 0x0⟩
  | .scpStallRto => ⟨0x120118, 17, 0x20, 1, 0x0⟩
  | .scpKey => ⟨0x120400, 16, 0x20, 8, 0x4⟩
  | .scpStatCmds => ⟨0x120800, 17, 0x20, 1, 0x0⟩
  | .scpStatAuth => ⟨0x120804, 17, 0x20, 1, 0x0⟩
  | .scpStatSeq => ⟨0x120808, 17, 0x20, 1, 0x0⟩
  | .scpStatRate => ⟨0x12080C, 17, 0x20, 1, 0x0⟩
  | .scpStatBadAck => ⟨0x120810, 17, 0x20, 1, 0x0⟩
  | .scpStatRetxDeliver => ⟨0x120814, 17, 0x20, 1, 0x0⟩
  | .scpStatNoticeDrop => ⟨0x120818, 17, 0x20, 1, 0x0⟩
  | .scpStatSilentAck => ⟨0x12081C, 17, 0x20, 1, 0x0⟩
  | .evcSrc => ⟨0x130000, 2048, 0x4, 1, 0x0⟩
  | .evcRaise => ⟨0x132000, 17, 0x10, 1, 0x0⟩
  | .evcOwnerPending => ⟨0x132200, 17, 0x10, 1, 0x0⟩
  | .evcOwnerLost => ⟨0x132204, 17, 0x10, 1, 0x0⟩
  | .evcOwnerDelivered => ⟨0x132208, 17, 0x10, 1, 0x0⟩
  | .ldgCfg => ⟨0x140000, 32, 0x40, 1, 0x0⟩
  | .ldgTrig => ⟨0x140004, 32, 0x40, 1, 0x0⟩
  | .ldgHbase => ⟨0x140008, 32, 0x40, 1, 0x0⟩
  | .ldgHwidth => ⟨0x14000C, 32, 0x40, 1, 0x0⟩
  | .ldgCtl => ⟨0x140010, 32, 0x40, 1, 0x0⟩
  | .ldgStat => ⟨0x140014, 32, 0x40, 1, 0x0⟩
  | .ldgCur => ⟨0x140018, 32, 0x40, 1, 0x0⟩
  | .ldgWin => ⟨0x140020, 32, 0x40, 8, 0x4⟩
  | .ldgSel => ⟨0x141000, 32, 0x40, 16, 0x4⟩
  | .supCtl => ⟨0x10000, 1, 0x0, 1, 0x0⟩
  | .supStatus => ⟨0x10004, 1, 0x0, 1, 0x0⟩
  | .supWdog => ⟨0x10008, 1, 0x0, 1, 0x0⟩
  | .supTemp => ⟨0x1000C, 1, 0x0, 1, 0x0⟩
  | .supRstCmd => ⟨0x10400, 17, 0x10, 1, 0x0⟩
  | .supRstStatus => ⟨0x10404, 17, 0x10, 1, 0x0⟩
  | .supPwr => ⟨0x10080, 1, 0x0, 1, 0x0⟩
  | .supBoot => ⟨0x10084, 1, 0x0, 1, 0x0⟩
  | .supImgver => ⟨0x10088, 1, 0x0, 1, 0x0⟩
  | .supMaint => ⟨0x100C0, 1, 0x0, 1, 0x0⟩
  | .supLc => ⟨0x10100, 1, 0x0, 1, 0x0⟩
  | .supLcReq => ⟨0x10104, 1, 0x0, 1, 0x0⟩
  | .supRollback => ⟨0x10108, 1, 0x0, 1, 0x0⟩
  | .supLcNonce => ⟨0x10110, 4, 0x4, 1, 0x0⟩
  | .supLcToken => ⟨0x10140, 38, 0x4, 1, 0x0⟩
  | .supHkey => ⟨0x10200, 8, 0x4, 1, 0x0⟩
  | .supRoot => ⟨0x10220, 12, 0x4, 1, 0x0⟩
  | .crsCapHead => ⟨0x0, 1, 0x0, 1, 0x0⟩
  | .crsPart => ⟨0x4, 1, 0x0, 1, 0x0⟩
  | .crsSerialLo => ⟨0x8, 1, 0x0, 1, 0x0⟩
  | .crsSerialHi => ⟨0xC, 1, 0x0, 1, 0x0⟩
  | .crsUnmapped => ⟨0x10, 1, 0x0, 1, 0x0⟩

/-- R17: whose scope an instance lies in. Everything not listed belongs to the device alone. -/
def Reg.scope : Reg → RegScope
  | .pgrGraphCfg => .graph
  | .pgrStallEntry => .stall
  | .pgrLoadPtr => .stall
  | .pgrLoadData => .stall
  | .pgrLoadStat => .stall
  | .pgrStallFail => .stall
  | .clsSeed => .stall
  | .clsQuota => .stall
  | .clsBound => .stall
  | .clsBank => .stall
  | .clsBindCmd => .stall
  | .clsBindStatus => .stall
  | .clsLoadPtr => .stall
  | .clsLoadData => .stall
  | .clsLoadStat => .stall
  | .clsStatHit => .stall
  | .clsStatMiss => .stall
  | .clsStatKey => .stall
  | .clsStatDropped => .stall
  | .stnRange => .stall
  | .stnCmdCmd => .stall
  | .stnCmdStart => .stall
  | .stnCmdMatch => .stall
  | .stnCmdAge => .stall
  | .stnCmdResult => .stall
  | .espPrefix => .stall
  | .espRekey => .stall
  | .espStatOk => .stall
  | .espStatAuth => .stall
  | .espStatNoSa => .stall
  | .espStatMalformed => .stall
  | .espStatNocell => .stall
  | .espStatOutOk => .stall
  | .espLast => .stall
  | .stnLearnCtl => .stall
  | .stnLearnAge => .stall
  | .stnLearnSweep => .stall
  | .stnLearnSweepStat => .stall
  | .stnLstatLearns => .stall
  | .stnLstatMoves => .stall
  | .stnLstatContests => .stall
  | .stnLstatNoPath => .stall
  | .stnLstatAged => .stall
  | .pkmPoolLimit => .stall
  | .pkmPoolGreen => .stall
  | .pkmPoolYellow => .stall
  | .pkmPoolRed => .stall
  | .pkmPoolCtl => .stall
  | .pkmPoolStatus => .stall
  | .pkmPoolStat => .stall
  | .pkmPoolErr => .stall
  | .pkmCellHandle => .stall
  | .pkmCellCmd => .stall
  | .pkmCellResult => .stall
  | .pkmCellLink => .stall
  | .dspStallCtl => .stall
  | .dspStallBudget => .stall
  | .dspStallMap => .stall
  | .dspMaploadPtr => .stall
  | .dspMaploadData => .stall
  | .dspMaploadStat => .stall
  | .dspCluster => .cluster
  | .dspClusterPackets => .cluster
  | .dspClusterIssuedLo => .cluster
  | .dspClusterIssuedHi => .cluster
  | .dspClusterMaxCycles => .cluster
  | .dspClusterTurnWaits => .cluster
  | .dspClusterQueue => .cluster
  | .dspStatAdmitted => .stall
  | .dspStatOverrun => .stall
  | .dspStatLate => .stall
  | .dspStatQueueFull => .stall
  | .dspStatDefers => .stall
  | .dspStatDeferFull => .stall
  | .dspStatNoCluster => .stall
  | .cluCoreCtl => .core
  | .cluCoreIssue => .core
  | .cluCoreEmpty => .core
  | .cluCoreMispredict => .core
  | .cluCoreRefill => .core
  | .cluCoreRefillWait => .core
  | .cluCoreSbWait => .core
  | .cluCoreSbFull => .core
  | .cluCorePairSplit => .core
  | .cluCoreTallySquash => .core
  | .cluTrap => .cluster
  | .cluSram => .cluster
  | .scpSegLo => .stallPair
  | .scpSegHi => .stallPair
  | .tlyUnitOwner => .unit
  | .tlyUnitCommands => .unit
  | .tlyUnitBusyCycles => .unit
  | .tlyUnitQfull => .unit
  | .tlyUnitMchk => .unit
  | .tlyUnitErrors => .unit
  | .schThread => .thread
  | .schHthread => .hthread
  | .schChanPtr => .stall
  | .schChanCfg => .stall
  | .schChanStat => .stall
  | .schClusterStoreFree => .cluster
  | .schClusterForkFail => .cluster
  | .schClusterTimerLate => .cluster
  | .schClusterCheBlock => .cluster
  | .schClusterDiscard => .cluster
  | .schStillCtl => .stall
  | .schStillStat => .stall
  | .atmStatAcquired => .stall
  | .atmStatContended => .stall
  | .atmStatAbandoned => .stall
  | .atmStatLimit => .stall
  | .atmQuerySel => .stall
  | .atmQueryLo => .stall
  | .atmQueryHi => .stall
  | .swcOutReq0 => .stall
  | .swcOutReq1 => .stall
  | .swcOutReq2 => .stall
  | .swcOutReq3 => .stall
  | .swcOutReq4 => .stall
  | .swcOutReq5 => .stall
  | .swcOutCmd => .stall
  | .swcOutResult => .stall
  | .swcLoadPtr => .stall
  | .swcLoadData => .stall
  | .swcLoadStat => .stall
  | .swcQstatSel => .stall
  | .swcQstatEnq => .stall
  | .swcQstatEarly => .stall
  | .swcQstatCap => .stall
  | .swcQstatMark => .stall
  | .swcQstatUnmark => .stall
  | .swcQstatFlush => .stall
  | .stlLedgerBase => .stall
  | .stlLedgerSize => .stall
  | .stlLedgerNextLo => .stall
  | .stlLedgerNextHi => .stall
  | .stlLedgerRetiredLo => .stall
  | .stlLedgerRetiredHi => .stall
  | .stlLedgerFree => .stall
  | .stlLedgerFull => .stall
  | .stlAppendHandle => .stall
  | .stlAppendLen => .stall
  | .stlAppendTag => .stall
  | .stlAppendCmd => .stall
  | .stlAppendResult => .stall
  | .arbMoveSrc => .mover
  | .arbMoveDst => .mover
  | .arbMoveLen => .mover
  | .arbMoveCtl => .mover
  | .arbMoveStatus => .mover
  | .arbMoveProgress => .mover
  | .scpStallCtl => .stall
  | .scpStallState => .stall
  | .scpStallLimit => .stall
  | .scpStallSession => .stall
  | .scpStallLast => .stall
  | .scpStallDseq => .stall
  | .scpStallRto => .stall
  | .scpKey => .stallKey
  | .scpStatCmds => .stall
  | .scpStatAuth => .stall
  | .scpStatSeq => .stall
  | .scpStatRate => .stall
  | .scpStatBadAck => .stall
  | .scpStatRetxDeliver => .stall
  | .scpStatNoticeDrop => .stall
  | .scpStatSilentAck => .stall
  | .evcSrc => .source
  | .evcRaise => .stall
  | .evcOwnerPending => .stall
  | .evcOwnerLost => .stall
  | .evcOwnerDelivered => .stall
  | .ldgCfg => .recorder
  | .ldgTrig => .recorder
  | .ldgHbase => .recorder
  | .ldgHwidth => .recorder
  | .ldgCtl => .recorder
  | .ldgStat => .recorder
  | .ldgCur => .recorder
  | .ldgWin => .recorderArr
  | .ldgSel => .recorderArr
  | .supRstCmd => .stall
  | .supRstStatus => .stall
  | _ => .dev

/-- Registers of which each accessor, in the sense of R15, has its own copy (R109, R155, R308, R346, R407, R64). -/
def Reg.perAccessor : Reg → Bool
  | .tmbTxtsTsLo => true
  | .tmbTxtsTsHi => true
  | .clsBindStatus => true
  | .pkmCellHandle => true
  | .pkmCellResult => true
  | .pkmCellLink => true
  | .swcOutReq0 => true
  | .swcOutReq1 => true
  | .swcOutReq2 => true
  | .swcOutReq3 => true
  | .swcOutReq4 => true
  | .swcOutReq5 => true
  | .swcOutResult => true
  | .stlAppendHandle => true
  | .stlAppendLen => true
  | .stlAppendTag => true
  | .stlAppendResult => true
  | .ldgCur => true
  | _ => false

/-- The fields of each register, from the least significant. -/
def Reg.fields : Reg → List FieldDesc
  | .tmbStatus => [⟨0, 3, .hw, .none, 0, (some .device), true, false⟩, ⟨3, 1, .hw, .none, 0, (some .device), true, false⟩, ⟨4, 1, .hw, .none, 0, (some .device), true, false⟩, ⟨5, 1, .hw, .none, 0, (some .device), true, false⟩, ⟨16, 16, .rc, .none, 0, (some .device), true, true⟩]
  | .tmbCtl => [⟨0, 1, .wo, .house, 0, none, false, false⟩, ⟨1, 1, .wo, .house, 0, none, false, false⟩, ⟨2, 1, .rw, .house, 0, (some .device), true, false⟩, ⟨3, 1, .rw, .house, 0, (some .device), true, false⟩, ⟨4, 1, .rw, .house, 0, (some .device), true, false⟩, ⟨5, 1, .rw, .house, 0, (some .device), true, false⟩]
  | .tmbFreqAdj => [⟨0, 32, .rw, .house, 0, (some .device), true, false⟩]
  | .tmbPhaseAdj => [⟨0, 32, .rw, .house, 0, (some .device), true, false⟩]
  | .tmbSlew => [⟨0, 16, .rw, .house, 0x2710, (some .device), true, false⟩]
  | .tmbHold => [⟨0, 8, .rw, .house, 16, (some .device), true, false⟩, ⟨8, 8, .rw, .house, 1, (some .device), true, false⟩, ⟨16, 16, .hw, .none, 0, (some .device), true, true⟩]
  | .tmbStab => [⟨0, 16, .rw, .house, 160, (some .device), true, false⟩]
  | .tmbTickCtl => [⟨0, 16, .rw, .house, 0, (some .device), true, false⟩]
  | .tmbTickOffset => [⟨0, 32, .hw, .none, 0, (some .device), true, false⟩]
  | .tmbPpsCtl => [⟨0, 10, .rw, .house, 100, (some .device), true, false⟩, ⟨16, 16, .rw, .house, 0, (some .device), true, false⟩]
  | .tmbPpsOffset => [⟨0, 32, .hw, .none, 0, (some .device), true, false⟩]
  | .tmbNow0 => [⟨0, 16, .hw, .none, 0, (some .device), true, false⟩]
  | .tmbNow1 => [⟨0, 32, .hw, .none, 0, (some .device), true, false⟩]
  | .tmbNow2 => [⟨0, 32, .hw, .none, 0, (some .device), true, false⟩]
  | .tmbNow3 => [⟨0, 16, .hw, .none, 0, (some .device), true, false⟩]
  | .tmbEpoch0 => [⟨0, 16, .rw, .house, 0, (some .device), true, false⟩]
  | .tmbEpoch1 => [⟨0, 32, .rw, .house, 0, (some .device), true, false⟩]
  | .tmbEpoch2 => [⟨0, 32, .rw, .house, 0, (some .device), true, false⟩]
  | .tmbEpoch3 => [⟨0, 16, .rw, .house, 0, (some .device), true, false⟩]
  | .tmbStampLo => [⟨0, 32, .hw, .none, 0, (some .device), true, false⟩]
  | .tmbStampHi => [⟨0, 32, .hw, .none, 0, (some .device), true, false⟩]
  | .tmbStepSec => [⟨0, 16, .rw, .house, 0, (some .device), true, false⟩, ⟨16, 1, .wo, .house, 0, none, false, false⟩, ⟨17, 2, .hw, .none, 0, none, false, false⟩, ⟨19, 1, .hw, .none, 0, none, false, false⟩, ⟨24, 8, .hw, .none, 0, none, false, false⟩]
  | .tmbStepNs => [⟨0, 32, .rw, .house, 0, (some .device), true, false⟩]
  | .tmbPortAdj => [⟨0, 16, .rw, .house, 0, (some .device), true, false⟩, ⟨16, 16, .rw, .house, 0, (some .device), true, false⟩]
  | .tmbTxtsStat => [⟨0, 7, .hw, .none, 0, (some .stall), false, false⟩, ⟨8, 8, .rc, .none, 0, (some .stall), false, true⟩, ⟨16, 8, .rc, .none, 0, (some .stall), false, true⟩]
  | .tmbTxtsTag => [⟨0, 16, .rc, .none, 0, (some .stall), false, false⟩]
  | .tmbTxtsTsLo => [⟨0, 32, .hw, .none, 0, (some .stall), false, false⟩]
  | .tmbTxtsTsHi => [⟨0, 32, .hw, .none, 0, (some .stall), false, false⟩]
  | .crsNowLo => [⟨0, 32, .hw, .none, 0, (some .device), true, false⟩]
  | .crsNowHi => [⟨0, 32, .hw, .none, 0, (some .device), true, false⟩]
  | .crsPos => [⟨0, 8, .hw, .none, 0, (some .device), true, false⟩, ⟨8, 3, .hw, .none, 2, (some .device), true, false⟩]
  | .crsLenChg => [⟨0, 3, .rw, .house, 2, (some .device), true, false⟩, ⟨3, 8, .rw, .house, 0, (some .device), true, false⟩, ⟨11, 1, .hw, .none, 0, (some .device), true, false⟩]
  | .crsFrameLo => [⟨0, 32, .hw, .none, 0, (some .device), true, false⟩]
  | .crsFrameHi => [⟨0, 16, .hw, .none, 0, (some .device), true, false⟩]
  | .prtCfg => [⟨0, 2, .rw, .house, 0, none, false, false⟩, ⟨2, 2, .rw, .house, 0, none, false, false⟩, ⟨4, 1, .rw, .house, 0, none, false, false⟩, ⟨16, 14, .rw, .house, 9216, none, false, false⟩]
  | .prtStatus => [⟨0, 1, .hw, .none, 0, none, false, false⟩, ⟨1, 1, .hw, .none, 0, none, false, false⟩, ⟨2, 1, .hw, .none, 0, none, false, false⟩, ⟨3, 1, .hw, .none, 0, none, false, false⟩, ⟨4, 1, .hw, .none, 0, none, false, false⟩, ⟨8, 8, .rc, .none, 0, (some .device), true, true⟩, ⟨16, 16, .rc, .none, 0, (some .device), true, true⟩]
  | .prtFc => [⟨0, 16, .rw, .house, 0xFFFF, none, false, false⟩, ⟨16, 8, .rw, .house, 0, none, false, false⟩, ⟨24, 8, .rw, .house, 0, none, false, false⟩]
  | .prtFec => [⟨0, 16, .rw, .house, 16, none, false, false⟩]
  | .prtSeq => [⟨0, 32, .hw, .none, 0, (some .device), true, false⟩]
  | .prtEq => [⟨0, 6, .rw, .house, 0, none, false, false⟩, ⟨8, 6, .rw, .house, 0, none, false, false⟩, ⟨16, 6, .rw, .house, 0, none, false, false⟩]
  | .prtRxFramesLo => [⟨0, 32, .hw, .none, 0, (some .device), true, false⟩]
  | .prtRxFramesHi => [⟨0, 32, .hw, .none, 0, (some .device), true, false⟩]
  | .prtRxBytesLo => [⟨0, 32, .hw, .none, 0, (some .device), true, false⟩]
  | .prtRxBytesHi => [⟨0, 32, .hw, .none, 0, (some .device), true, false⟩]
  | .prtTxFramesLo => [⟨0, 32, .hw, .none, 0, (some .device), true, false⟩]
  | .prtTxFramesHi => [⟨0, 32, .hw, .none, 0, (some .device), true, false⟩]
  | .prtTxBytesLo => [⟨0, 32, .hw, .none, 0, (some .device), true, false⟩]
  | .prtTxBytesHi => [⟨0, 32, .hw, .none, 0, (some .device), true, false⟩]
  | .prtFecCorrLo => [⟨0, 32, .hw, .none, 0, (some .device), true, false⟩]
  | .prtFecCorrHi => [⟨0, 32, .hw, .none, 0, (some .device), true, false⟩]
  | .prtRxFcs => [⟨0, 32, .rc, .none, 0, (some .device), true, true⟩]
  | .prtRxRunt => [⟨0, 32, .rc, .none, 0, (some .device), true, true⟩]
  | .prtRxOversize => [⟨0, 32, .rc, .none, 0, (some .device), true, true⟩]
  | .prtRxTrunc => [⟨0, 32, .rc, .none, 0, (some .device), true, true⟩]
  | .prtRxNobuf => [⟨0, 32, .rc, .none, 0, (some .device), true, true⟩]
  | .prtRxPause => [⟨0, 32, .rc, .none, 0, (some .device), true, true⟩]
  | .prtTxPause => [⟨0, 32, .rc, .none, 0, (some .device), true, true⟩]
  | .prtTxFlushed => [⟨0, 32, .rc, .none, 0, (some .device), true, true⟩]
  | .prtTxSilent => [⟨0, 32, .rc, .none, 0, (some .device), true, true⟩]
  | .prtFecUncorr => [⟨0, 32, .rc, .none, 0, (some .device), true, true⟩]
  | .prtPauseWd => [⟨0, 32, .rc, .none, 0, (some .device), true, true⟩]
  | .prtRxForeign => [⟨0, 32, .rc, .none, 0, (some .device), true, true⟩]
  | .pgrGraphCfg => [⟨0, 9, .rw, .sv, 0, (some .stall), false, false⟩, ⟨16, 2, .hw, .none, 0, (some .stall), false, false⟩, ⟨20, 5, .rw, .house, 31, (some .stall), false, false⟩]
  | .pgrPortCfg => [⟨0, 4, .rw, .house, 0, none, false, false⟩, ⟨8, 8, .rw, .house, 0, none, false, false⟩, ⟨16, 2, .rw, .house, 0, none, false, false⟩, ⟨18, 1, .rw, .house, 0, none, false, false⟩]
  | .pgrStallEntry => [⟨0, 4, .rw, .sv, 0, none, false, false⟩, ⟨4, 1, .rw, .sv, 0, none, false, false⟩, ⟨8, 4, .rw, .sv, 0, none, false, false⟩, ⟨12, 1, .rw, .sv, 0, none, false, false⟩, ⟨16, 8, .rw, .sv, 0, none, false, false⟩, ⟨24, 8, .rw, .sv, 0, none, false, false⟩]
  | .pgrLoadPtr => [⟨0, 6, .rw, .sv, 0, none, false, false⟩, ⟨8, 8, .rw, .sv, 0, none, false, false⟩, ⟨16, 4, .rw, .sv, 0, none, false, false⟩]
  | .pgrLoadData => [⟨0, 32, .rw, .sv, 0, (some .stall), false, false⟩]
  | .pgrLoadStat => [⟨0, 16, .rc, .none, 0, none, false, true⟩, ⟨16, 2, .hw, .none, 0, none, false, false⟩]
  | .pgrPortStatFail => [⟨0, 32, .rc, .none, 0, (some .device), true, true⟩]
  | .pgrPortStatSteer => [⟨0, 32, .rc, .none, 0, (some .device), true, true⟩]
  | .pgrKindFail => [⟨0, 32, .rc, .none, 0, (some .device), true, true⟩]
  | .pgrStallFail => [⟨0, 32, .rc, .none, 0, none, false, true⟩]
  | .pgrLastFail => [⟨0, 3, .hw, .none, 0, (some .device), true, false⟩, ⟨4, 4, .hw, .none, 0, (some .device), true, false⟩, ⟨8, 4, .hw, .none, 0, (some .device), true, false⟩, ⟨12, 4, .hw, .none, 0, (some .device), true, false⟩, ⟨16, 8, .hw, .none, 0, (some .device), true, false⟩, ⟨24, 5, .hw, .none, 0, (some .device), true, false⟩]
  | .pgrHouseLimit => [⟨0, 16, .rw, .house, 64, none, false, false⟩, ⟨16, 16, .rc, .none, 0, (some .device), true, true⟩]
  | .clsCfg => [⟨0, 16, .rw, .house, 0, none, false, false⟩, ⟨16, 1, .rw, .house, 0, none, false, false⟩]
  | .clsSeed => [⟨0, 32, .rw, .sv, 0, (some .device), true, false⟩]
  | .clsQuota => [⟨0, 21, .rw, .house, 0, (some .stall), false, false⟩]
  | .clsBound => [⟨0, 21, .hw, .none, 0, (some .device), true, false⟩]
  | .clsBank => [⟨0, 1, .rw, .sv, 0, none, false, false⟩]
  | .clsBindCmd => [⟨0, 20, .wo, .none, 0, none, false, false⟩, ⟨20, 2, .wo, .none, 0, none, false, false⟩, ⟨24, 4, .wo, .none, 0, none, false, false⟩]
  | .clsBindStatus => [⟨0, 3, .hw, .none, 0, none, false, false⟩, ⟨4, 20, .hw, .none, 0, none, false, false⟩]
  | .clsLoadPtr => [⟨0, 10, .rw, .sv, 0, none, false, false⟩, ⟨10, 1, .rw, .sv, 0, none, false, false⟩, ⟨12, 4, .rw, .sv, 0, none, false, false⟩]
  | .clsLoadData => [⟨0, 32, .rw, .sv, 0, none, false, false⟩]
  | .clsLoadStat => [⟨0, 16, .rc, .none, 0, none, false, true⟩, ⟨16, 2, .hw, .none, 0, none, false, false⟩]
  | .clsStatHit => [⟨0, 32, .rc, .none, 0, (some .device), true, true⟩]
  | .clsStatMiss => [⟨0, 32, .rc, .none, 0, (some .device), true, true⟩]
  | .clsStatKey => [⟨0, 16, .rc, .none, 0, (some .device), true, true⟩, ⟨16, 16, .rc, .none, 0, (some .device), true, true⟩]
  | .clsStatDropped => [⟨0, 32, .rc, .none, 0, (some .device), true, true⟩]
  | .clsHotHit => [⟨0, 32, .rc, .none, 0, (some .device), true, true⟩]
  | .clsHotMiss => [⟨0, 32, .rc, .none, 0, (some .device), true, true⟩]
  | .stnCfg => [⟨0, 12, .rw, .house, 0, none, false, false⟩, ⟨16, 8, .rw, .house, 16, none, false, false⟩]
  | .stnRange => [⟨0, 10, .rw, .house, 0, (some .device), true, false⟩, ⟨10, 11, .rw, .house, 0, (some .device), true, false⟩, ⟨21, 1, .hw, .none, 0, (some .device), true, false⟩]
  | .stnStatHit => [⟨0, 32, .rc, .none, 0, (some .device), true, true⟩]
  | .stnStatMiss => [⟨0, 32, .rc, .none, 0, (some .device), true, true⟩]
  | .stnStatWriteback => [⟨0, 32, .rc, .none, 0, (some .device), true, true⟩]
  | .stnStatSetWait => [⟨0, 32, .rc, .none, 0, (some .device), true, true⟩]
  | .stnCmdCmd => [⟨0, 2, .wo, .none, 0, none, false, false⟩, ⟨4, 4, .wo, .none, 0, none, false, false⟩]
  | .stnCmdStart => [⟨0, 20, .rw, .none, 0, none, false, false⟩]
  | .stnCmdMatch => [⟨0, 16, .rw, .none, 0, none, false, false⟩, ⟨16, 16, .rw, .none, 0, none, false, false⟩]
  | .stnCmdAge => [⟨0, 32, .rw, .none, 0, none, false, false⟩]
  | .stnCmdResult => [⟨0, 20, .hw, .none, 0, none, false, false⟩, ⟨20, 3, .hw, .none, 0, none, false, false⟩, ⟨24, 8, .hw, .none, 0, none, false, false⟩]
  | .espCfg => [⟨0, 11, .rw, .house, 0, none, false, false⟩, ⟨11, 1, .rw, .house, 0, none, false, false⟩]
  | .espPrefix => [⟨0, 11, .rw, .house, 0, (some .stall), false, false⟩, ⟨11, 1, .rw, .house, 0, (some .stall), false, false⟩]
  | .espRekey => [⟨0, 6, .rw, .sv, 0, (some .stall), false, false⟩]
  | .espNoprefix => [⟨0, 32, .rc, .none, 0, (some .device), true, true⟩]
  | .espStatOk => [⟨0, 32, .rc, .none, 0, (some .device), true, true⟩]
  | .espStatAuth => [⟨0, 16, .rc, .none, 0, (some .device), true, true⟩, ⟨16, 16, .rc, .none, 0, (some .device), true, true⟩]
  | .espStatNoSa => [⟨0, 16, .rc, .none, 0, (some .device), true, true⟩, ⟨16, 16, .rc, .none, 0, (some .device), true, true⟩]
  | .espStatMalformed => [⟨0, 16, .rc, .none, 0, (some .device), true, true⟩, ⟨16, 16, .rc, .none, 0, (some .device), true, true⟩]
  | .espStatNocell => [⟨0, 16, .rc, .none, 0, (some .device), true, true⟩, ⟨16, 16, .rc, .none, 0, (some .device), true, true⟩]
  | .espStatOutOk => [⟨0, 32, .rc, .none, 0, (some .device), true, true⟩]
  | .espLast => [⟨0, 3, .hw, .none, 0, (some .device), true, false⟩, ⟨11, 21, .hw, .none, 0, (some .device), true, false⟩]
  | .stnLearnCtl => [⟨0, 10, .rw, .sv, 255, (some .stall), false, false⟩, ⟨16, 16, .rw, .sv, 1000, (some .stall), false, false⟩]
  | .stnLearnAge => [⟨0, 32, .rw, .sv, 0, (some .stall), false, false⟩]
  | .stnLearnSweep => [⟨0, 16, .rw, .sv, 0, (some .stall), false, false⟩, ⟨16, 1, .rw, .sv, 0, (some .stall), false, false⟩, ⟨17, 1, .wo, .sv, 0, none, false, false⟩]
  | .stnLearnSweepStat => [⟨0, 2, .hw, .none, 0, none, false, false⟩, ⟨8, 8, .hw, .none, 0, none, false, false⟩, ⟨16, 16, .rc, .none, 0, (some .stall), false, true⟩]
  | .stnLstatLearns => [⟨0, 32, .rc, .none, 0, (some .device), true, true⟩]
  | .stnLstatMoves => [⟨0, 32, .rc, .none, 0, (some .device), true, true⟩]
  | .stnLstatContests => [⟨0, 16, .rc, .none, 0, (some .device), true, true⟩, ⟨16, 16, .rc, .none, 0, (some .device), true, true⟩]
  | .stnLstatNoPath => [⟨0, 16, .rc, .none, 0, (some .device), true, true⟩]
  | .stnLstatAged => [⟨0, 32, .rc, .none, 0, (some .device), true, true⟩]
  | .pkmEcc => [⟨0, 16, .rc, .none, 0, (some .device), true, true⟩, ⟨16, 16, .rc, .none, 0, (some .device), true, true⟩]
  | .pkmLastErr => [⟨0, 18, .hw, .none, 0, (some .device), true, false⟩, ⟨18, 4, .hw, .none, 0, (some .device), true, false⟩, ⟨22, 5, .hw, .none, 0, (some .device), true, false⟩]
  | .pkmSlice => [⟨0, 15, .hw, .none, 0x4000, none, false, false⟩, ⟨16, 16, .rc, .none, 0, (some .device), true, true⟩]
  | .pkmPoolLimit => [⟨0, 19, .rw, .house, 0, (some .stall), false, false⟩]
  | .pkmPoolGreen => [⟨0, 19, .rw, .house, 0, (some .stall), false, false⟩]
  | .pkmPoolYellow => [⟨0, 19, .rw, .house, 0, (some .stall), false, false⟩]
  | .pkmPoolRed => [⟨0, 19, .rw, .house, 0, (some .stall), false, false⟩]
  | .pkmPoolCtl => [⟨0, 16, .rw, .house, 256, (some .stall), false, false⟩, ⟨16, 16, .rw, .house, 64, (some .stall), false, false⟩]
  | .pkmPoolStatus => [⟨0, 19, .hw, .none, 0, (some .stall), false, false⟩, ⟨20, 2, .hw, .none, 0, (some .stall), false, false⟩]
  | .pkmPoolStat => [⟨0, 16, .rc, .none, 0, (some .device), true, true⟩, ⟨16, 16, .rc, .none, 0, (some .device), true, true⟩]
  | .pkmPoolErr => [⟨0, 10, .rc, .none, 0, (some .device), true, true⟩, ⟨10, 10, .rc, .none, 0, (some .device), true, true⟩, ⟨20, 10, .rc, .none, 0, (some .device), true, true⟩]
  | .pkmCellHandle => [⟨0, 32, .rw, .none, 0, (some .thread), false, false⟩]
  | .pkmCellCmd => [⟨0, 3, .wo, .none, 0, none, false, false⟩, ⟨8, 6, .wo, .none, 0, none, false, false⟩, ⟨16, 4, .wo, .none, 0, none, false, false⟩]
  | .pkmCellResult => [⟨0, 18, .hw, .none, 0, none, false, false⟩, ⟨18, 6, .hw, .none, 0, none, false, false⟩, ⟨24, 4, .hw, .none, 0, none, false, false⟩, ⟨28, 1, .hw, .none, 0, none, false, false⟩]
  | .pkmCellLink => [⟨0, 26, .hw, .none, 0, none, false, false⟩]
  | .dspStallCtl => [⟨0, 1, .rw, .sv, 0, (some .stall), false, false⟩, ⟨8, 8, .rw, .sv, 4, (some .stall), false, false⟩]
  | .dspStallBudget => [⟨0, 16, .rw, .sv, 0, (some .stall), false, false⟩]
  | .dspStallMap => [⟨0, 1, .wo, .sv, 0, none, false, false⟩, ⟨1, 1, .hw, .none, 0, (some .stall), false, false⟩, ⟨2, 2, .hw, .none, 0, none, false, false⟩, ⟨4, 4, .hw, .none, 0, none, false, false⟩, ⟨8, 8, .hw, .none, 0, none, false, false⟩]
  | .dspMaploadPtr => [⟨0, 9, .rw, .sv, 0, none, false, false⟩, ⟨9, 1, .rw, .sv, 0, none, false, false⟩, ⟨12, 4, .rw, .sv, 0, none, false, false⟩]
  | .dspMaploadData => [⟨0, 32, .rw, .sv, 0, (some .stall), false, false⟩]
  | .dspMaploadStat => [⟨0, 16, .rc, .none, 0, none, false, true⟩, ⟨16, 2, .hw, .none, 0, none, false, false⟩]
  | .dspCluster => [⟨0, 5, .rw, .house, 31, (some .stall), false, false⟩, ⟨8, 2, .hw, .none, 0, (some .stall), false, false⟩]
  | .dspClusterPackets => [⟨0, 32, .rc, .none, 0, (some .device), true, true⟩]
  | .dspClusterIssuedLo => [⟨0, 32, .hw, .none, 0, (some .device), true, false⟩]
  | .dspClusterIssuedHi => [⟨0, 32, .hw, .none, 0, (some .device), true, false⟩]
  | .dspClusterMaxCycles => [⟨0, 32, .rc, .none, 0, (some .device), true, false⟩]
  | .dspClusterTurnWaits => [⟨0, 32, .rc, .none, 0, (some .device), true, true⟩]
  | .dspClusterQueue => [⟨0, 10, .hw, .none, 0, none, false, false⟩]
  | .dspOos => [⟨0, 4, .rw, .house, 0, none, false, false⟩, ⟨4, 4, .rw, .house, 0, none, false, false⟩, ⟨8, 1, .wo, .house, 0, none, false, false⟩, ⟨9, 2, .hw, .none, 0, none, false, false⟩]
  | .dspGateBanks => [⟨0, 4, .hw, .none, 0, none, false, false⟩]
  | .dspGateFull => [⟨0, 32, .rc, .none, 0, (some .device), true, true⟩]
  | .dspStatAdmitted => [⟨0, 32, .rc, .none, 0, (some .device), true, true⟩]
  | .dspStatOverrun => [⟨0, 32, .rc, .none, 0, (some .device), true, true⟩]
  | .dspStatLate => [⟨0, 16, .rc, .none, 0, (some .device), true, true⟩, ⟨16, 16, .rc, .none, 0, (some .device), true, true⟩]
  | .dspStatQueueFull => [⟨0, 16, .rc, .none, 0, (some .device), true, true⟩, ⟨16, 16, .rc, .none, 0, (some .device), true, true⟩]
  | .dspStatDefers => [⟨0, 16, .rc, .none, 0, (some .device), true, true⟩, ⟨16, 16, .rc, .none, 0, (some .device), true, true⟩]
  | .dspStatDeferFull => [⟨0, 16, .rc, .none, 0, (some .device), true, true⟩, ⟨16, 16, .rc, .none, 0, (some .device), true, true⟩]
  | .dspStatNoCluster => [⟨0, 16, .rc, .none, 0, (some .device), true, true⟩]
  | .cluCoreCtl => [⟨0, 1, .rw, .sv, 1, (some .stall), false, false⟩, ⟨1, 1, .rw, .sv, 1, (some .stall), false, false⟩, ⟨8, 8, .rw, .sv, 32, (some .stall), false, false⟩]
  | .cluCoreIssue => [⟨0, 32, .rc, .none, 0, (some .device), true, false⟩]
  | .cluCoreEmpty => [⟨0, 32, .rc, .none, 0, (some .device), true, false⟩]
  | .cluCoreMispredict => [⟨0, 32, .rc, .none, 0, (some .device), true, true⟩]
  | .cluCoreRefill => [⟨0, 32, .rc, .none, 0, (some .device), true, true⟩]
  | .cluCoreRefillWait => [⟨0, 32, .rc, .none, 0, (some .device), true, true⟩]
  | .cluCoreSbWait => [⟨0, 32, .rc, .none, 0, (some .device), true, true⟩]
  | .cluCoreSbFull => [⟨0, 32, .rc, .none, 0, (some .device), true, true⟩]
  | .cluCorePairSplit => [⟨0, 32, .rc, .none, 0, (some .device), true, true⟩]
  | .cluCoreTallySquash => [⟨0, 32, .rc, .none, 0, (some .device), true, true⟩]
  | .cluTrap => [⟨0, 10, .rw, .sv, 0, (some .cluster), false, false⟩]
  | .cluSram => [⟨0, 16, .rc, .none, 0, (some .device), true, true⟩, ⟨16, 16, .rc, .none, 0, (some .device), true, true⟩]
  | .scpSegLo => [⟨0, 28, .rw, .house, 0, (some .stall), false, false⟩]
  | .scpSegHi => [⟨0, 18, .rw, .house, 0, (some .stall), false, false⟩, ⟨18, 3, .rw, .house, 0, (some .stall), false, false⟩, ⟨21, 1, .rw, .house, 0, (some .stall), false, false⟩, ⟨22, 2, .rw, .house, 0, (some .stall), false, false⟩]
  | .tlyUnitOwner => [⟨0, 3, .hw, .none, 0, none, false, false⟩, ⟨3, 1, .hw, .none, 0, none, false, false⟩, ⟨4, 1, .hw, .none, 0, none, false, false⟩, ⟨5, 1, .hw, .none, 0, none, false, false⟩, ⟨6, 3, .hw, .none, 0, none, false, false⟩]
  | .tlyUnitCommands => [⟨0, 32, .rc, .none, 0, (some .device), false, true⟩]
  | .tlyUnitBusyCycles => [⟨0, 32, .rc, .none, 0, (some .device), false, false⟩]
  | .tlyUnitQfull => [⟨0, 32, .rc, .none, 0, (some .device), false, true⟩]
  | .tlyUnitMchk => [⟨0, 11, .hw, .none, 0, (some .stall), false, false⟩, ⟨11, 1, .hw, .none, 0, (some .stall), false, false⟩, ⟨12, 1, .hw, .none, 0, (some .stall), false, false⟩]
  | .tlyUnitErrors => [⟨0, 32, .rc, .none, 0, (some .device), false, true⟩]
  | .tlyPloadAddr => [⟨0, 10, .rw, .house, 0, (some .stall), false, false⟩]
  | .tlyPloadD0 => [⟨0, 32, .rw, .house, 0, (some .stall), false, false⟩]
  | .tlyPloadD1 => [⟨0, 32, .rw, .house, 0, (some .stall), false, false⟩]
  | .tlyPloadD2 => [⟨0, 32, .rw, .house, 0, (some .stall), false, false⟩]
  | .tlyPloadStat => [⟨0, 16, .rc, .none, 0, (some .stall), false, true⟩]
  | .tlyPatch => [⟨0, 16, .rw, .house, 0, (some .stall), false, false⟩, ⟨16, 1, .wo, .house, 0, none, false, false⟩, ⟨17, 2, .hw, .none, 0, (some .stall), false, false⟩, ⟨24, 8, .hw, .none, 0, (some .stall), false, false⟩]
  | .tlyTver => [⟨0, 16, .hw, .none, 0, (some .stall), false, false⟩, ⟨16, 1, .hw, .none, 0, (some .stall), false, false⟩, ⟨24, 8, .ro, .none, 1, none, false, false⟩]
  | .schThread => [⟨0, 2, .rw, .sv, 0, (some .cluster), false, false⟩, ⟨2, 3, .rw, .sv, 0, (some .cluster), false, false⟩, ⟨8, 2, .hw, .none, 0, none, false, false⟩, ⟨10, 4, .hw, .none, 0, none, false, false⟩, ⟨14, 1, .hw, .none, 0, none, false, false⟩, ⟨15, 1, .hw, .none, 0, none, false, false⟩, ⟨16, 6, .hw, .none, 0, none, false, false⟩]
  | .schHthread => [⟨0, 2, .rw, .sv, 0, (some .cluster), false, false⟩, ⟨2, 3, .rw, .sv, 0, (some .cluster), false, false⟩, ⟨8, 2, .hw, .none, 0, none, false, false⟩, ⟨10, 4, .hw, .none, 0, none, false, false⟩, ⟨14, 1, .hw, .none, 0, none, false, false⟩, ⟨15, 1, .hw, .none, 0, none, false, false⟩, ⟨16, 6, .hw, .none, 0, none, false, false⟩]
  | .schChanPtr => [⟨0, 10, .rw, .sv, 0, none, false, false⟩, ⟨10, 4, .rw, .sv, 0, none, false, false⟩, ⟨14, 1, .rw, .sv, 0, none, false, false⟩]
  | .schChanCfg => [⟨0, 6, .rw, .sv, 0, (some .cluster), false, false⟩, ⟨6, 6, .rw, .sv, 0, (some .cluster), false, false⟩, ⟨12, 7, .rw, .sv, 127, (some .cluster), false, false⟩, ⟨19, 1, .rw, .sv, 0, (some .cluster), false, false⟩, ⟨20, 1, .rw, .sv, 0, (some .cluster), false, false⟩]
  | .schChanStat => [⟨0, 16, .rc, .none, 0, none, false, true⟩, ⟨16, 2, .hw, .none, 0, none, false, false⟩, ⟨18, 6, .hw, .none, 0, none, false, false⟩]
  | .schClusterStoreFree => [⟨0, 14, .hw, .none, 8192, none, false, false⟩]
  | .schClusterForkFail => [⟨0, 32, .rc, .none, 0, (some .device), true, true⟩]
  | .schClusterTimerLate => [⟨0, 32, .rc, .none, 0, (some .device), true, true⟩]
  | .schClusterCheBlock => [⟨0, 32, .rc, .none, 0, (some .device), true, true⟩]
  | .schClusterDiscard => [⟨0, 32, .rc, .none, 0, (some .device), true, true⟩]
  | .schStillCtl => [⟨0, 1, .rw, .sv, 1, (some .stall), false, false⟩]
  | .schStillStat => [⟨0, 2, .hw, .none, 0, none, false, false⟩, ⟨2, 1, .hw, .none, 0, none, false, false⟩, ⟨16, 16, .rc, .none, 0, (some .device), true, true⟩]
  | .atmCfg => [⟨0, 12, .hw, .none, 0, (some .stall), true, false⟩, ⟨12, 1, .w1c, .house, 0, (some .stall), true, false⟩]
  | .atmStatAcquired => [⟨0, 32, .rc, .none, 0, (some .device), true, true⟩]
  | .atmStatContended => [⟨0, 32, .rc, .none, 0, (some .device), true, true⟩]
  | .atmStatAbandoned => [⟨0, 16, .rc, .none, 0, (some .device), true, true⟩, ⟨16, 16, .rc, .none, 0, (some .device), true, true⟩]
  | .atmStatLimit => [⟨0, 16, .rc, .none, 0, (some .device), true, true⟩, ⟨16, 16, .rc, .none, 0, (some .device), true, true⟩]
  | .atmQuerySel => [⟨0, 10, .rw, .sv, 0, none, false, false⟩, ⟨10, 1, .rw, .sv, 0, none, false, false⟩, ⟨11, 3, .rw, .sv, 0, none, false, false⟩, ⟨16, 4, .hw, .none, 0, none, false, false⟩]
  | .atmQueryLo => [⟨0, 32, .hw, .none, 0, none, false, false⟩]
  | .atmQueryHi => [⟨0, 8, .hw, .none, 0, none, false, false⟩, ⟨8, 1, .hw, .none, 0, none, false, false⟩, ⟨9, 4, .hw, .none, 0, none, false, false⟩, ⟨13, 1, .hw, .none, 0, none, false, false⟩, ⟨14, 1, .hw, .none, 0, none, false, false⟩]
  | .swcPortCfg => [⟨0, 1, .rw, .house, 0, none, false, false⟩, ⟨1, 3, .rw, .house, 7, none, false, false⟩, ⟨8, 8, .rw, .house, 0, none, false, false⟩]
  | .swcPortPrioMap => [⟨0, 24, .rw, .house, 0xFAC688, none, false, false⟩]
  | .swcPortQuanta0 => [⟨0, 32, .rw, .house, 0x10101010, none, false, false⟩]
  | .swcPortQuanta1 => [⟨0, 32, .rw, .house, 0x10101010, none, false, false⟩]
  | .swcPortCells => [⟨0, 32, .hw, .none, 0, (some .device), true, false⟩]
  | .swcPortUnmatched => [⟨0, 32, .rc, .none, 0, (some .device), true, true⟩]
  | .swcOutReq0 => [⟨0, 32, .rw, .none, 0, (some .thread), false, false⟩]
  | .swcOutReq1 => [⟨0, 14, .rw, .none, 0, (some .thread), false, false⟩, ⟨16, 4, .rw, .none, 0, (some .thread), false, false⟩, ⟨20, 2, .rw, .none, 0, (some .thread), false, false⟩, ⟨24, 8, .rw, .none, 0, (some .thread), false, false⟩]
  | .swcOutReq2 => [⟨0, 12, .rw, .none, 0, (some .thread), false, false⟩, ⟨16, 5, .rw, .none, 0, (some .thread), false, false⟩]
  | .swcOutReq3 => [⟨0, 21, .rw, .none, 0, (some .thread), false, false⟩, ⟨24, 8, .rw, .none, 0, (some .thread), false, false⟩]
  | .swcOutReq4 => [⟨0, 14, .rw, .none, 0, (some .thread), false, false⟩, ⟨16, 8, .rw, .none, 0, (some .thread), false, false⟩, ⟨24, 8, .rw, .none, 0, (some .thread), false, false⟩]
  | .swcOutReq5 => [⟨0, 16, .rw, .none, 0, (some .thread), false, false⟩, ⟨16, 8, .rw, .none, 0, (some .thread), false, false⟩]
  | .swcOutCmd => [⟨0, 1, .wo, .none, 0, none, false, false⟩]
  | .swcOutResult => [⟨0, 18, .hw, .none, 0, none, false, false⟩, ⟨18, 4, .hw, .none, 0, none, false, false⟩]
  | .swcLoadPtr => [⟨0, 2, .rw, .sv, 0, none, false, false⟩, ⟨2, 4, .rw, .sv, 0, none, false, false⟩, ⟨6, 12, .rw, .sv, 0, none, false, false⟩]
  | .swcLoadData => [⟨0, 32, .rw, .sv, 0, none, false, false⟩]
  | .swcLoadStat => [⟨0, 16, .rc, .none, 0, none, false, true⟩, ⟨16, 2, .hw, .none, 0, none, false, false⟩]
  | .swcQstatSel => [⟨0, 4, .rw, .none, 0, none, false, false⟩, ⟨4, 12, .rw, .none, 0, none, false, false⟩]
  | .swcQstatEnq => [⟨0, 32, .rc, .none, 0, (some .device), true, true⟩]
  | .swcQstatEarly => [⟨0, 32, .rc, .none, 0, (some .device), true, true⟩]
  | .swcQstatCap => [⟨0, 32, .rc, .none, 0, (some .device), true, true⟩]
  | .swcQstatMark => [⟨0, 32, .rc, .none, 0, (some .device), true, true⟩]
  | .swcQstatUnmark => [⟨0, 32, .rc, .none, 0, (some .device), true, true⟩]
  | .swcQstatFlush => [⟨0, 32, .rc, .none, 0, (some .device), true, true⟩]
  | .swcRecircSeq => [⟨0, 32, .hw, .none, 0, (some .device), true, false⟩]
  | .swcRecircForeign => [⟨0, 32, .rc, .none, 0, (some .device), true, true⟩]
  | .swcRecircDropped => [⟨0, 32, .rc, .none, 0, (some .device), true, true⟩]
  | .stlCfg => [⟨0, 1, .rw, .house, 0, none, false, false⟩, ⟨1, 1, .rw, .house, 1, none, false, false⟩, ⟨8, 8, .rw, .house, 16, none, false, false⟩]
  | .stlPair => [⟨0, 32, .rw, .house, 0, none, false, false⟩]
  | .stlCtl => [⟨0, 1, .wo, .house, 0, none, false, false⟩]
  | .stlStatus => [⟨0, 3, .hw, .none, 0, none, false, false⟩, ⟨3, 1, .hw, .none, 0, none, false, false⟩, ⟨4, 2, .hw, .none, 0, none, false, false⟩, ⟨6, 1, .hw, .none, 0, none, false, false⟩, ⟨7, 1, .hw, .none, 0, (some .device), true, false⟩, ⟨8, 3, .hw, .none, 0, none, false, false⟩, ⟨11, 2, .hw, .none, 0, none, false, false⟩, ⟨16, 8, .hw, .none, 0, none, false, false⟩]
  | .stlAcceptedLo => [⟨0, 32, .hw, .none, 0, (some .device), true, false⟩]
  | .stlAcceptedHi => [⟨0, 32, .hw, .none, 0, (some .device), true, false⟩]
  | .stlCal => [⟨0, 16, .rw, .house, 0, (some .device), true, false⟩, ⟨16, 16, .hw, .none, 0, none, false, false⟩]
  | .stlJournalBase => [⟨0, 28, .rw, .house, 0, (some .device), true, false⟩]
  | .stlJournalSize => [⟨0, 16, .rw, .house, 0, (some .device), true, false⟩]
  | .stlJournalFree => [⟨0, 16, .hw, .none, 0, (some .device), true, false⟩, ⟨16, 16, .hw, .none, 0, (some .device), true, false⟩]
  | .stlStatMatched => [⟨0, 32, .rc, .none, 0, (some .device), true, true⟩]
  | .stlStatFills => [⟨0, 32, .rc, .none, 0, (some .device), true, true⟩]
  | .stlStatShadowOnly => [⟨0, 32, .rc, .none, 0, (some .device), true, true⟩]
  | .stlStatShadowHost => [⟨0, 32, .rc, .none, 0, (some .device), true, true⟩]
  | .stlStatUnsettled => [⟨0, 32, .rc, .none, 0, (some .device), true, true⟩]
  | .stlStatRetx => [⟨0, 32, .rc, .none, 0, (some .device), true, true⟩]
  | .stlStatAckTimeout => [⟨0, 32, .rc, .none, 0, (some .device), true, true⟩]
  | .stlStatForeign => [⟨0, 32, .rc, .none, 0, (some .device), true, true⟩]
  | .stlStatVolumeMax => [⟨0, 32, .rc, .none, 0, (some .device), true, true⟩]
  | .stlLedgerBase => [⟨0, 28, .rw, .house, 0, (some .device), true, false⟩]
  | .stlLedgerSize => [⟨0, 16, .rw, .house, 0, (some .device), true, false⟩]
  | .stlLedgerNextLo => [⟨0, 32, .hw, .none, 1, (some .device), true, false⟩]
  | .stlLedgerNextHi => [⟨0, 32, .hw, .none, 0, (some .device), true, false⟩]
  | .stlLedgerRetiredLo => [⟨0, 32, .hw, .none, 0, (some .device), true, false⟩]
  | .stlLedgerRetiredHi => [⟨0, 32, .hw, .none, 0, (some .device), true, false⟩]
  | .stlLedgerFree => [⟨0, 32, .hw, .none, 0, (some .device), true, false⟩]
  | .stlLedgerFull => [⟨0, 32, .rc, .none, 0, (some .device), true, true⟩]
  | .stlAppendHandle => [⟨0, 32, .rw, .none, 0, (some .thread), false, false⟩]
  | .stlAppendLen => [⟨0, 12, .rw, .none, 0, (some .thread), false, false⟩, ⟨16, 14, .rw, .none, 0, (some .thread), false, false⟩]
  | .stlAppendTag => [⟨0, 16, .rw, .none, 0, (some .thread), false, false⟩, ⟨16, 4, .rw, .none, 0, (some .thread), false, false⟩]
  | .stlAppendCmd => [⟨0, 1, .wo, .none, 0, none, false, false⟩]
  | .stlAppendResult => [⟨0, 3, .hw, .none, 0, none, false, false⟩]
  | .drcCfg => [⟨0, 2, .rw, .house, 2, (some .device), true, false⟩, ⟨2, 1, .rw, .house, 1, (some .device), true, false⟩, ⟨3, 1, .rw, .house, 1, (some .device), true, false⟩, ⟨4, 1, .rw, .house, 0, (some .device), true, false⟩, ⟨5, 2, .rw, .house, 3, (some .device), true, false⟩, ⟨7, 2, .rw, .house, 2, (some .device), true, false⟩, ⟨9, 2, .rw, .house, 0, (some .device), true, false⟩, ⟨11, 1, .rw, .house, 0, (some .device), true, false⟩, ⟨16, 1, .rw, .house, 0, (some .device), true, false⟩]
  | .drcStatus => [⟨0, 3, .hw, .none, 0, (some .device), true, false⟩, ⟨4, 4, .hw, .none, 0, none, false, false⟩, ⟨8, 3, .hw, .none, 0, (some .device), true, false⟩, ⟨11, 3, .hw, .none, 0, none, false, false⟩]
  | .drcRef => [⟨0, 4, .rw, .house, 8, (some .device), true, false⟩, ⟨16, 16, .rw, .house, 500, (some .device), true, false⟩]
  | .drcTrain => [⟨0, 12, .rw, .house, 1000, (some .device), true, false⟩, ⟨12, 4, .rw, .house, 5, (some .device), true, false⟩, ⟨16, 1, .wo, .house, 0, none, false, false⟩, ⟨17, 2, .hw, .none, 0, none, false, false⟩, ⟨24, 8, .hw, .none, 0, none, false, false⟩]
  | .drcHot => [⟨0, 12, .rw, .house, 1024, (some .device), true, false⟩, ⟨12, 8, .rw, .house, 4, (some .device), true, false⟩, ⟨20, 8, .rw, .house, 16, (some .device), true, false⟩]
  | .drcHot2 => [⟨0, 16, .rw, .house, 256, (some .device), true, false⟩, ⟨16, 16, .rc, .none, 0, (some .device), true, true⟩]
  | .drcScrub => [⟨0, 8, .rw, .house, 0, (some .device), true, false⟩, ⟨8, 2, .hw, .none, 0, none, false, false⟩, ⟨16, 8, .hw, .none, 0, none, false, false⟩, ⟨24, 8, .rc, .none, 0, (some .device), true, true⟩]
  | .drcScrubPos => [⟨0, 32, .hw, .none, 0, (some .device), true, false⟩]
  | .drcEcc => [⟨0, 16, .rc, .none, 0, (some .device), true, true⟩, ⟨16, 16, .rc, .none, 0, (some .device), true, true⟩]
  | .drcErr => [⟨0, 16, .rc, .none, 0, (some .device), true, true⟩, ⟨16, 16, .rc, .none, 0, (some .device), true, true⟩]
  | .drcRfm => [⟨0, 32, .rc, .none, 0, (some .device), true, true⟩]
  | .drcLogSel => [⟨0, 4, .rw, .none, 0, none, false, false⟩, ⟨4, 5, .hw, .none, 0, (some .device), true, false⟩, ⟨16, 16, .rc, .none, 0, (some .device), true, true⟩]
  | .drcLogLo => [⟨0, 18, .hw, .none, 0, (some .device), true, false⟩, ⟨18, 7, .hw, .none, 0, (some .device), true, false⟩, ⟨25, 5, .hw, .none, 0, (some .device), true, false⟩, ⟨30, 1, .hw, .none, 0, (some .device), true, false⟩, ⟨31, 1, .hw, .none, 0, (some .device), true, false⟩]
  | .drcLogHi => [⟨0, 3, .hw, .none, 0, (some .device), true, false⟩, ⟨3, 6, .hw, .none, 0, (some .device), true, false⟩, ⟨9, 7, .hw, .none, 0, (some .device), true, false⟩, ⟨16, 16, .hw, .none, 0, (some .device), true, false⟩]
  | .drcTim => [⟨0, 16, .rw, .house, 0, (some .device), true, false⟩, ⟨16, 16, .rw, .house, 0, (some .device), true, false⟩]
  | .arbMapLo => [⟨6, 26, .rw, .house, 0, (some .device), true, false⟩]
  | .arbMapHi => [⟨0, 8, .rw, .house, 0, (some .device), true, false⟩, ⟨8, 1, .rw, .house, 0, (some .device), true, false⟩]
  | .arbCap => [⟨0, 7, .hw, .none, 0, (some .device), true, false⟩, ⟨16, 16, .rc, .none, 0, (some .device), true, true⟩]
  | .arbReqCtl => [⟨0, 16, .rw, .house, 4096, (some .device), true, false⟩, ⟨16, 1, .hw, .none, 0, none, false, false⟩]
  | .arbReqGrants => [⟨0, 32, .rc, .none, 0, (some .device), true, true⟩]
  | .arbReqWaits => [⟨0, 32, .rc, .none, 0, (some .device), true, true⟩]
  | .arbReqLongest => [⟨0, 32, .rc, .none, 0, (some .device), true, true⟩]
  | .arbReqMissed => [⟨0, 32, .rc, .none, 0, (some .device), true, true⟩]
  | .arbMoveSrc => [⟨0, 32, .rw, .sv, 0, none, false, false⟩]
  | .arbMoveDst => [⟨0, 32, .rw, .sv, 0, none, false, false⟩]
  | .arbMoveLen => [⟨0, 32, .rw, .sv, 0, none, false, false⟩]
  | .arbMoveCtl => [⟨0, 16, .rw, .sv, 0, none, false, false⟩, ⟨16, 5, .rw, .house, 31, (some .stall), false, false⟩, ⟨21, 1, .wo, .sv, 0, none, false, false⟩, ⟨22, 1, .wo, .sv, 0, none, false, false⟩]
  | .arbMoveStatus => [⟨0, 4, .hw, .none, 0, none, false, false⟩]
  | .arbMoveProgress => [⟨0, 32, .hw, .none, 0, none, false, false⟩]
  | .scpCfg => [⟨0, 16, .rw, .house, 0x88B5, (some .device), true, false⟩, ⟨16, 1, .rw, .house, 0, (some .device), true, false⟩]
  | .scpDrop => [⟨0, 32, .rc, .none, 0, (some .device), true, true⟩]
  | .scpStallCtl => [⟨0, 2, .wo, .house, 0, none, false, false⟩]
  | .scpStallState => [⟨0, 3, .hw, .none, 0, (some .device), true, false⟩, ⟨3, 2, .hw, .none, 0, none, false, false⟩, ⟨5, 3, .hw, .none, 0, none, false, false⟩, ⟨8, 8, .hw, .none, 0, none, false, false⟩, ⟨16, 4, .hw, .none, 0, (some .device), true, false⟩, ⟨20, 1, .hw, .none, 0, (some .device), true, false⟩]
  | .scpStallLimit => [⟨0, 16, .rw, .house, 0, (some .device), true, false⟩, ⟨16, 8, .rw, .house, 16, (some .device), true, false⟩]
  | .scpStallSession => [⟨0, 1, .hw, .none, 0, (some .stall), true, false⟩, ⟨1, 1, .hw, .none, 0, (some .stall), true, false⟩, ⟨2, 1, .hw, .none, 0, (some .stall), true, false⟩]
  | .scpStallLast => [⟨0, 32, .hw, .none, 0, (some .stall), true, false⟩]
  | .scpStallDseq => [⟨0, 32, .hw, .none, 0, (some .stall), true, false⟩]
  | .scpStallRto => [⟨0, 16, .rw, .sv, 256, (some .device), true, false⟩]
  | .scpKey => [⟨0, 32, .wo, .house, 0, (some .device), true, false⟩]
  | .scpStatCmds => [⟨0, 32, .rc, .none, 0, (some .device), true, true⟩]
  | .scpStatAuth => [⟨0, 32, .rc, .none, 0, (some .device), true, true⟩]
  | .scpStatSeq => [⟨0, 32, .rc, .none, 0, (some .device), true, true⟩]
  | .scpStatRate => [⟨0, 32, .rc, .none, 0, (some .device), true, true⟩]
  | .scpStatBadAck => [⟨0, 32, .rc, .none, 0, (some .device), true, true⟩]
  | .scpStatRetxDeliver => [⟨0, 32, .rc, .none, 0, (some .device), true, true⟩]
  | .scpStatNoticeDrop => [⟨0, 32, .rc, .none, 0, (some .device), true, true⟩]
  | .scpStatSilentAck => [⟨0, 32, .rc, .none, 0, (some .device), true, true⟩]
  | .evcSrc => [⟨0, 5, .rw, .house, 0, (some .stall), false, false⟩, ⟨5, 1, .rw, .sv, 0, none, false, false⟩, ⟨6, 2, .rw, .sv, 1, none, false, false⟩, ⟨8, 3, .rw, .sv, 1, none, false, false⟩, ⟨11, 1, .ro, .none, 0, none, false, false⟩, ⟨12, 1, .hw, .none, 0, none, false, false⟩, ⟨16, 16, .rc, .none, 0, (some .device), true, true⟩]
  | .evcRaise => [⟨0, 5, .wo, .none, 0, none, false, false⟩, ⟨16, 16, .wo, .none, 0, none, false, false⟩]
  | .evcOwnerPending => [⟨0, 9, .hw, .none, 0, none, false, false⟩]
  | .evcOwnerLost => [⟨0, 32, .rc, .none, 0, (some .device), true, true⟩]
  | .evcOwnerDelivered => [⟨0, 32, .rc, .none, 0, (some .device), true, true⟩]
  | .ldgCfg => [⟨0, 1, .rw, .sv, 0, none, false, false⟩, ⟨1, 1, .rw, .sv, 0, none, false, false⟩, ⟨2, 2, .rw, .sv, 0, none, false, false⟩, ⟨4, 1, .rw, .sv, 0, none, false, false⟩, ⟨5, 1, .rw, .sv, 0, none, false, false⟩, ⟨6, 5, .rw, .sv, 0, none, false, false⟩, ⟨16, 5, .rw, .house, 31, (some .stall), false, false⟩]
  | .ldgTrig => [⟨0, 11, .rw, .sv, 0, none, false, false⟩, ⟨16, 16, .rw, .sv, 0, none, false, false⟩]
  | .ldgHbase => [⟨0, 32, .rw, .sv, 0, none, false, false⟩]
  | .ldgHwidth => [⟨0, 32, .rw, .sv, 0, none, false, false⟩]
  | .ldgCtl => [⟨0, 1, .wo, .sv, 0, none, false, false⟩, ⟨1, 1, .wo, .sv, 0, none, false, false⟩, ⟨2, 1, .wo, .sv, 0, none, false, false⟩, ⟨3, 2, .hw, .none, 0, none, false, false⟩, ⟨8, 8, .hw, .none, 0, none, false, false⟩]
  | .ldgStat => [⟨0, 10, .hw, .none, 0, (some .device), true, false⟩, ⟨10, 1, .hw, .none, 0, (some .device), true, false⟩, ⟨11, 1, .hw, .none, 0, (some .device), true, false⟩, ⟨16, 16, .rc, .none, 0, (some .device), true, true⟩]
  | .ldgCur => [⟨0, 8, .rw, .none, 0, none, false, false⟩, ⟨8, 10, .rw, .none, 0, none, false, false⟩]
  | .ldgWin => [⟨0, 32, .hw, .none, 0, (some .device), true, false⟩]
  | .ldgSel => [⟨0, 24, .rw, .sv, 0, none, false, false⟩]
  | .supCtl => [⟨0, 1, .rw, .house, 0, none, false, false⟩, ⟨1, 1, .wo, .house, 0, none, false, false⟩, ⟨2, 10, .rw, .house, 0, (some .stall), true, false⟩]
  | .supStatus => [⟨0, 3, .hw, .none, 0, (some .device), true, false⟩, ⟨16, 16, .rc, .none, 0, (some .device), true, true⟩]
  | .supWdog => [⟨0, 16, .rw, .house, 0, none, false, false⟩, ⟨16, 1, .wo, .house, 0, none, false, false⟩]
  | .supTemp => [⟨0, 8, .hw, .none, 0, none, false, false⟩, ⟨8, 8, .rw, .house, 95, (some .device), true, false⟩]
  | .supRstCmd => [⟨0, 3, .wo, .sv, 0, none, false, false⟩, ⟨3, 10, .wo, .sv, 0, none, false, false⟩]
  | .supRstStatus => [⟨0, 2, .hw, .none, 0, none, false, false⟩, ⟨2, 2, .hw, .none, 0, none, false, false⟩]
  | .supPwr => [⟨0, 2, .wo, .house, 0, none, false, false⟩, ⟨2, 2, .hw, .none, 0, none, false, false⟩, ⟨4, 1, .rw, .house, 0, none, false, false⟩, ⟨5, 2, .hw, .none, 0, none, false, false⟩, ⟨7, 2, .hw, .none, 0, none, false, false⟩, ⟨16, 8, .hw, .none, 0, none, false, false⟩, ⟨24, 5, .hw, .none, 0, none, false, false⟩]
  | .supBoot => [⟨0, 3, .hw, .none, 0, none, false, false⟩, ⟨3, 1, .hw, .none, 0, none, false, false⟩, ⟨4, 1, .hw, .none, 0, none, false, false⟩, ⟨5, 1, .hw, .none, 0, none, false, false⟩, ⟨6, 1, .hw, .none, 0, none, false, false⟩, ⟨8, 3, .hw, .none, 0, none, false, false⟩]
  | .supImgver => [⟨0, 32, .hw, .none, 0, none, false, false⟩]
  | .supMaint => [⟨0, 5, .hw, .none, 0, none, false, false⟩, ⟨8, 8, .hw, .none, 0, none, false, false⟩, ⟨16, 8, .hw, .none, 0, none, false, false⟩, ⟨24, 8, .rc, .none, 0, (some .device), true, true⟩]
  | .supLc => [⟨0, 3, .hw, .none, 0, (some .device), true, false⟩, ⟨3, 3, .hw, .none, 0, (some .device), true, false⟩, ⟨6, 6, .hw, .none, 0, (some .device), true, false⟩, ⟨12, 4, .hw, .none, 0, (some .device), true, false⟩]
  | .supLcReq => [⟨0, 3, .wo, .house, 0, none, false, false⟩, ⟨3, 1, .wo, .house, 0, none, false, false⟩, ⟨4, 2, .hw, .none, 0, none, false, false⟩, ⟨6, 2, .hw, .none, 0, none, false, false⟩]
  | .supRollback => [⟨0, 6, .wo, .house, 0, none, false, false⟩]
  | .supLcNonce => [⟨0, 32, .hw, .none, 0, (some .device), true, false⟩]
  | .supLcToken => [⟨0, 32, .wo, .house, 0, none, false, false⟩]
  | .supHkey => [⟨0, 32, .wo, .mk, 0, none, false, false⟩]
  | .supRoot => [⟨0, 32, .rw, .mk, 0, (some .device), true, false⟩]
  | .crsCapHead => [⟨0, 8, .ro, .none, 1, (some .device), true, false⟩, ⟨8, 8, .ro, .none, 1, (some .device), true, false⟩, ⟨16, 16, .ro, .none, 64, (some .device), true, false⟩]
  | .crsPart => [⟨0, 16, .ro, .none, 0x8128, (some .device), true, false⟩, ⟨16, 4, .ro, .none, 1, (some .device), true, false⟩, ⟨20, 4, .ro, .none, 0, (some .device), true, false⟩, ⟨24, 2, .ro, .none, 0, (some .device), true, false⟩]
  | .crsSerialLo => [⟨0, 32, .ro, .none, 0, (some .device), true, false⟩]
  | .crsSerialHi => [⟨0, 32, .ro, .none, 0, (some .device), true, false⟩]
  | .crsUnmapped => [⟨0, 24, .hw, .none, 0, (some .device), true, false⟩, ⟨24, 8, .rc, .none, 0, (some .device), true, true⟩]

def Reg.all0 : List Reg := [.tmbStatus, .tmbCtl, .tmbFreqAdj, .tmbPhaseAdj, .tmbSlew, .tmbHold, .tmbStab, .tmbTickCtl, .tmbTickOffset, .tmbPpsCtl, .tmbPpsOffset, .tmbNow0, .tmbNow1, .tmbNow2, .tmbNow3, .tmbEpoch0, .tmbEpoch1, .tmbEpoch2, .tmbEpoch3, .tmbStampLo, .tmbStampHi, .tmbStepSec, .tmbStepNs, .tmbPortAdj, .tmbTxtsStat, .tmbTxtsTag, .tmbTxtsTsLo, .tmbTxtsTsHi, .crsNowLo, .crsNowHi, .crsPos, .crsLenChg, .crsFrameLo, .crsFrameHi, .prtCfg, .prtStatus, .prtFc, .prtFec, .prtSeq, .prtEq]
def Reg.all1 : List Reg := [.prtRxFramesLo, .prtRxFramesHi, .prtRxBytesLo, .prtRxBytesHi, .prtTxFramesLo, .prtTxFramesHi, .prtTxBytesLo, .prtTxBytesHi, .prtFecCorrLo, .prtFecCorrHi, .prtRxFcs, .prtRxRunt, .prtRxOversize, .prtRxTrunc, .prtRxNobuf, .prtRxPause, .prtTxPause, .prtTxFlushed, .prtTxSilent, .prtFecUncorr, .prtPauseWd, .prtRxForeign, .pgrGraphCfg, .pgrPortCfg, .pgrStallEntry, .pgrLoadPtr, .pgrLoadData, .pgrLoadStat, .pgrPortStatFail, .pgrPortStatSteer, .pgrKindFail, .pgrStallFail, .pgrLastFail, .pgrHouseLimit, .clsCfg, .clsSeed, .clsQuota, .clsBound, .clsBank, .clsBindCmd]
def Reg.all2 : List Reg := [.clsBindStatus, .clsLoadPtr, .clsLoadData, .clsLoadStat, .clsStatHit, .clsStatMiss, .clsStatKey, .clsStatDropped, .clsHotHit, .clsHotMiss, .stnCfg, .stnRange, .stnStatHit, .stnStatMiss, .stnStatWriteback, .stnStatSetWait, .stnCmdCmd, .stnCmdStart, .stnCmdMatch, .stnCmdAge, .stnCmdResult, .espCfg, .espPrefix, .espRekey, .espNoprefix, .espStatOk, .espStatAuth, .espStatNoSa, .espStatMalformed, .espStatNocell, .espStatOutOk, .espLast, .stnLearnCtl, .stnLearnAge, .stnLearnSweep, .stnLearnSweepStat, .stnLstatLearns, .stnLstatMoves, .stnLstatContests, .stnLstatNoPath]
def Reg.all3 : List Reg := [.stnLstatAged, .pkmEcc, .pkmLastErr, .pkmSlice, .pkmPoolLimit, .pkmPoolGreen, .pkmPoolYellow, .pkmPoolRed, .pkmPoolCtl, .pkmPoolStatus, .pkmPoolStat, .pkmPoolErr, .pkmCellHandle, .pkmCellCmd, .pkmCellResult, .pkmCellLink, .dspStallCtl, .dspStallBudget, .dspStallMap, .dspMaploadPtr, .dspMaploadData, .dspMaploadStat, .dspCluster, .dspClusterPackets, .dspClusterIssuedLo, .dspClusterIssuedHi, .dspClusterMaxCycles, .dspClusterTurnWaits, .dspClusterQueue, .dspOos, .dspGateBanks, .dspGateFull, .dspStatAdmitted, .dspStatOverrun, .dspStatLate, .dspStatQueueFull, .dspStatDefers, .dspStatDeferFull, .dspStatNoCluster, .cluCoreCtl]
def Reg.all4 : List Reg := [.cluCoreIssue, .cluCoreEmpty, .cluCoreMispredict, .cluCoreRefill, .cluCoreRefillWait, .cluCoreSbWait, .cluCoreSbFull, .cluCorePairSplit, .cluCoreTallySquash, .cluTrap, .cluSram, .scpSegLo, .scpSegHi, .tlyUnitOwner, .tlyUnitCommands, .tlyUnitBusyCycles, .tlyUnitQfull, .tlyUnitMchk, .tlyUnitErrors, .tlyPloadAddr, .tlyPloadD0, .tlyPloadD1, .tlyPloadD2, .tlyPloadStat, .tlyPatch, .tlyTver, .schThread, .schHthread, .schChanPtr, .schChanCfg, .schChanStat, .schClusterStoreFree, .schClusterForkFail, .schClusterTimerLate, .schClusterCheBlock, .schClusterDiscard, .schStillCtl, .schStillStat, .atmCfg, .atmStatAcquired]
def Reg.all5 : List Reg := [.atmStatContended, .atmStatAbandoned, .atmStatLimit, .atmQuerySel, .atmQueryLo, .atmQueryHi, .swcPortCfg, .swcPortPrioMap, .swcPortQuanta0, .swcPortQuanta1, .swcPortCells, .swcPortUnmatched, .swcOutReq0, .swcOutReq1, .swcOutReq2, .swcOutReq3, .swcOutReq4, .swcOutReq5, .swcOutCmd, .swcOutResult, .swcLoadPtr, .swcLoadData, .swcLoadStat, .swcQstatSel, .swcQstatEnq, .swcQstatEarly, .swcQstatCap, .swcQstatMark, .swcQstatUnmark, .swcQstatFlush, .swcRecircSeq, .swcRecircForeign, .swcRecircDropped, .stlCfg, .stlPair, .stlCtl, .stlStatus, .stlAcceptedLo, .stlAcceptedHi, .stlCal]
def Reg.all6 : List Reg := [.stlJournalBase, .stlJournalSize, .stlJournalFree, .stlStatMatched, .stlStatFills, .stlStatShadowOnly, .stlStatShadowHost, .stlStatUnsettled, .stlStatRetx, .stlStatAckTimeout, .stlStatForeign, .stlStatVolumeMax, .stlLedgerBase, .stlLedgerSize, .stlLedgerNextLo, .stlLedgerNextHi, .stlLedgerRetiredLo, .stlLedgerRetiredHi, .stlLedgerFree, .stlLedgerFull, .stlAppendHandle, .stlAppendLen, .stlAppendTag, .stlAppendCmd, .stlAppendResult, .drcCfg, .drcStatus, .drcRef, .drcTrain, .drcHot, .drcHot2, .drcScrub, .drcScrubPos, .drcEcc, .drcErr, .drcRfm, .drcLogSel, .drcLogLo, .drcLogHi, .drcTim]
def Reg.all7 : List Reg := [.arbMapLo, .arbMapHi, .arbCap, .arbReqCtl, .arbReqGrants, .arbReqWaits, .arbReqLongest, .arbReqMissed, .arbMoveSrc, .arbMoveDst, .arbMoveLen, .arbMoveCtl, .arbMoveStatus, .arbMoveProgress, .scpCfg, .scpDrop, .scpStallCtl, .scpStallState, .scpStallLimit, .scpStallSession, .scpStallLast, .scpStallDseq, .scpStallRto, .scpKey, .scpStatCmds, .scpStatAuth, .scpStatSeq, .scpStatRate, .scpStatBadAck, .scpStatRetxDeliver, .scpStatNoticeDrop, .scpStatSilentAck, .evcSrc, .evcRaise, .evcOwnerPending, .evcOwnerLost, .evcOwnerDelivered, .ldgCfg, .ldgTrig, .ldgHbase]
def Reg.all8 : List Reg := [.ldgHwidth, .ldgCtl, .ldgStat, .ldgCur, .ldgWin, .ldgSel, .supCtl, .supStatus, .supWdog, .supTemp, .supRstCmd, .supRstStatus, .supPwr, .supBoot, .supImgver, .supMaint, .supLc, .supLcReq, .supRollback, .supLcNonce, .supLcToken, .supHkey, .supRoot, .crsCapHead, .crsPart, .crsSerialLo, .crsSerialHi, .crsUnmapped]

/-- Every register, in the order of the tables. -/
def Reg.all : List Reg := Reg.all0 ++ Reg.all1 ++ Reg.all2 ++ Reg.all3 ++ Reg.all4 ++ Reg.all5 ++ Reg.all6 ++ Reg.all7 ++ Reg.all8

/-- A field of a register, by its bits. -/
structure Fld where
  reg : Reg
  lo : Nat
  width : Nat
  deriving DecidableEq, Repr

namespace F

/-- TMB_STATUS [2:0] -/ def tmbStatus_STATE : Fld := ⟨.tmbStatus, 0, 3⟩
/-- TMB_STATUS [3:3] -/ def tmbStatus_ALIGNED : Fld := ⟨.tmbStatus, 3, 1⟩
/-- TMB_STATUS [4:4] -/ def tmbStatus_HOLD_DEGRADED : Fld := ⟨.tmbStatus, 4, 1⟩
/-- TMB_STATUS [5:5] -/ def tmbStatus_PPS_SEEN : Fld := ⟨.tmbStatus, 5, 1⟩
/-- TMB_STATUS [31:16] -/ def tmbStatus_CRC_ERRS : Fld := ⟨.tmbStatus, 16, 16⟩
/-- TMB_CTL [0:0] -/ def tmbCtl_START : Fld := ⟨.tmbCtl, 0, 1⟩
/-- TMB_CTL [1:1] -/ def tmbCtl_REJOIN : Fld := ⟨.tmbCtl, 1, 1⟩
/-- TMB_CTL [2:2] -/ def tmbCtl_DOMAIN_ROLE : Fld := ⟨.tmbCtl, 2, 1⟩
/-- TMB_CTL [3:3] -/ def tmbCtl_PPS_EN : Fld := ⟨.tmbCtl, 3, 1⟩
/-- TMB_CTL [4:4] -/ def tmbCtl_PPS_SERVO : Fld := ⟨.tmbCtl, 4, 1⟩
/-- TMB_CTL [5:5] -/ def tmbCtl_TICK_OUT_EN : Fld := ⟨.tmbCtl, 5, 1⟩
/-- TMB_FREQ_ADJ [31:0] -/ def tmbFreqAdj_FREQ : Fld := ⟨.tmbFreqAdj, 0, 32⟩
/-- TMB_PHASE_ADJ [31:0] -/ def tmbPhaseAdj_PHASE : Fld := ⟨.tmbPhaseAdj, 0, 32⟩
/-- TMB_SLEW [15:0] -/ def tmbSlew_MAX_PPB : Fld := ⟨.tmbSlew, 0, 16⟩
/-- TMB_HOLD [7:0] -/ def tmbHold_AVG_S : Fld := ⟨.tmbHold, 0, 8⟩
/-- TMB_HOLD [15:8] -/ def tmbHold_LIMIT_NS : Fld := ⟨.tmbHold, 8, 8⟩
/-- TMB_HOLD [31:16] -/ def tmbHold_EST_NS : Fld := ⟨.tmbHold, 16, 16⟩
/-- TMB_STAB [15:0] -/ def tmbStab_STAB : Fld := ⟨.tmbStab, 0, 16⟩
/-- TMB_TICK_CTL [15:0] -/ def tmbTickCtl_IN_DELAY : Fld := ⟨.tmbTickCtl, 0, 16⟩
/-- TMB_TICK_OFFSET [31:0] -/ def tmbTickOffset_OFFSET : Fld := ⟨.tmbTickOffset, 0, 32⟩
/-- TMB_PPS_CTL [9:0] -/ def tmbPpsCtl_WIDTH_US : Fld := ⟨.tmbPpsCtl, 0, 10⟩
/-- TMB_PPS_CTL [31:16] -/ def tmbPpsCtl_IN_DELAY : Fld := ⟨.tmbPpsCtl, 16, 16⟩
/-- TMB_PPS_OFFSET [31:0] -/ def tmbPpsOffset_OFFSET : Fld := ⟨.tmbPpsOffset, 0, 32⟩
/-- TMB_NOW0 [15:0] -/ def tmbNow0_FRAC : Fld := ⟨.tmbNow0, 0, 16⟩
/-- TMB_NOW1 [31:0] -/ def tmbNow1_NS : Fld := ⟨.tmbNow1, 0, 32⟩
/-- TMB_NOW2 [31:0] -/ def tmbNow2_SEC_LO : Fld := ⟨.tmbNow2, 0, 32⟩
/-- TMB_NOW3 [15:0] -/ def tmbNow3_SEC_HI : Fld := ⟨.tmbNow3, 0, 16⟩
/-- TMB_EPOCH0 [15:0] -/ def tmbEpoch0_FRAC : Fld := ⟨.tmbEpoch0, 0, 16⟩
/-- TMB_EPOCH1 [31:0] -/ def tmbEpoch1_NS : Fld := ⟨.tmbEpoch1, 0, 32⟩
/-- TMB_EPOCH2 [31:0] -/ def tmbEpoch2_SEC_LO : Fld := ⟨.tmbEpoch2, 0, 32⟩
/-- TMB_EPOCH3 [15:0] -/ def tmbEpoch3_SEC_HI : Fld := ⟨.tmbEpoch3, 0, 16⟩
/-- TMB_STAMP_LO [31:0] -/ def tmbStampLo_TL_LO : Fld := ⟨.tmbStampLo, 0, 32⟩
/-- TMB_STAMP_HI [31:0] -/ def tmbStampHi_TL_HI : Fld := ⟨.tmbStampHi, 0, 32⟩
/-- TMB_STEP_SEC [15:0] -/ def tmbStepSec_SEC : Fld := ⟨.tmbStepSec, 0, 16⟩
/-- TMB_STEP_SEC [16:16] -/ def tmbStepSec_GO : Fld := ⟨.tmbStepSec, 16, 1⟩
/-- TMB_STEP_SEC [18:17] -/ def tmbStepSec_STATUS : Fld := ⟨.tmbStepSec, 17, 2⟩
/-- TMB_STEP_SEC [19:19] -/ def tmbStepSec_REFUSED : Fld := ⟨.tmbStepSec, 19, 1⟩
/-- TMB_STEP_SEC [31:24] -/ def tmbStepSec_BUSY_ID : Fld := ⟨.tmbStepSec, 24, 8⟩
/-- TMB_STEP_NS [31:0] -/ def tmbStepNs_NS : Fld := ⟨.tmbStepNs, 0, 32⟩
/-- TMB_PORT_ADJn [15:0] -/ def tmbPortAdj_RX_ADJ : Fld := ⟨.tmbPortAdj, 0, 16⟩
/-- TMB_PORT_ADJn [31:16] -/ def tmbPortAdj_TX_ADJ : Fld := ⟨.tmbPortAdj, 16, 16⟩
/-- TMB_TXTS_n.STAT [6:0] -/ def tmbTxtsStat_COUNT : Fld := ⟨.tmbTxtsStat, 0, 7⟩
/-- TMB_TXTS_n.STAT [15:8] -/ def tmbTxtsStat_OVERFLOW : Fld := ⟨.tmbTxtsStat, 8, 8⟩
/-- TMB_TXTS_n.STAT [23:16] -/ def tmbTxtsStat_REFUSED : Fld := ⟨.tmbTxtsStat, 16, 8⟩
/-- TMB_TXTS_n.TAG [15:0] -/ def tmbTxtsTag_TAG : Fld := ⟨.tmbTxtsTag, 0, 16⟩
/-- TMB_TXTS_n.TS_LO [31:0] -/ def tmbTxtsTsLo_STAMP : Fld := ⟨.tmbTxtsTsLo, 0, 32⟩
/-- TMB_TXTS_n.TS_HI [31:0] -/ def tmbTxtsTsHi_STAMP : Fld := ⟨.tmbTxtsTsHi, 0, 32⟩
/-- CRS_NOW_LO [31:0] -/ def crsNowLo_COURSE : Fld := ⟨.crsNowLo, 0, 32⟩
/-- CRS_NOW_HI [31:0] -/ def crsNowHi_COURSE : Fld := ⟨.crsNowHi, 0, 32⟩
/-- CRS_POS [7:0] -/ def crsPos_LATH : Fld := ⟨.crsPos, 0, 8⟩
/-- CRS_POS [10:8] -/ def crsPos_LEN : Fld := ⟨.crsPos, 8, 3⟩
/-- CRS_LEN_CHG [2:0] -/ def crsLenChg_NEXT_LEN : Fld := ⟨.crsLenChg, 0, 3⟩
/-- CRS_LEN_CHG [10:3] -/ def crsLenChg_FRAMES : Fld := ⟨.crsLenChg, 3, 8⟩
/-- CRS_LEN_CHG [11:11] -/ def crsLenChg_PENDING : Fld := ⟨.crsLenChg, 11, 1⟩
/-- CRS_FRAME_LO [31:0] -/ def crsFrameLo_FRAME : Fld := ⟨.crsFrameLo, 0, 32⟩
/-- CRS_FRAME_HI [15:0] -/ def crsFrameHi_FRAME : Fld := ⟨.crsFrameHi, 0, 16⟩
/-- PRT_CFG [1:0] -/ def prtCfg_MODE : Fld := ⟨.prtCfg, 0, 2⟩
/-- PRT_CFG [3:2] -/ def prtCfg_FC_MODE : Fld := ⟨.prtCfg, 2, 2⟩
/-- PRT_CFG [4:4] -/ def prtCfg_ENABLE : Fld := ⟨.prtCfg, 4, 1⟩
/-- PRT_CFG [29:16] -/ def prtCfg_MAX_LEN : Fld := ⟨.prtCfg, 16, 14⟩
/-- PRT_STATUS [0:0] -/ def prtStatus_LINK : Fld := ⟨.prtStatus, 0, 1⟩
/-- PRT_STATUS [1:1] -/ def prtStatus_TRAINED : Fld := ⟨.prtStatus, 1, 1⟩
/-- PRT_STATUS [2:2] -/ def prtStatus_FLUSHING : Fld := ⟨.prtStatus, 2, 1⟩
/-- PRT_STATUS [3:3] -/ def prtStatus_SILENT : Fld := ⟨.prtStatus, 3, 1⟩
/-- PRT_STATUS [4:4] -/ def prtStatus_PAUSED : Fld := ⟨.prtStatus, 4, 1⟩
/-- PRT_STATUS [15:8] -/ def prtStatus_TRAIN_FAILS : Fld := ⟨.prtStatus, 8, 8⟩
/-- PRT_STATUS [31:16] -/ def prtStatus_LINK_DOWNS : Fld := ⟨.prtStatus, 16, 16⟩
/-- PRT_FC [15:0] -/ def prtFc_PAUSE_QUANTA : Fld := ⟨.prtFc, 0, 16⟩
/-- PRT_FC [23:16] -/ def prtFc_PFC_MASK : Fld := ⟨.prtFc, 16, 8⟩
/-- PRT_FC [31:24] -/ def prtFc_WD_COURSES : Fld := ⟨.prtFc, 24, 8⟩
/-- PRT_FEC [15:0] -/ def prtFec_UNCORR_THR : Fld := ⟨.prtFec, 0, 16⟩
/-- PRT_SEQ [31:0] -/ def prtSeq_NEXT_SEQ : Fld := ⟨.prtSeq, 0, 32⟩
/-- PRT_EQ [5:0] -/ def prtEq_PRE2 : Fld := ⟨.prtEq, 0, 6⟩
/-- PRT_EQ [13:8] -/ def prtEq_PRE1 : Fld := ⟨.prtEq, 8, 6⟩
/-- PRT_EQ [21:16] -/ def prtEq_POST : Fld := ⟨.prtEq, 16, 6⟩
/-- PRT_RX_FRAMES_LO [31:0] -/ def prtRxFramesLo_COUNT : Fld := ⟨.prtRxFramesLo, 0, 32⟩
/-- PRT_RX_FRAMES_HI [31:0] -/ def prtRxFramesHi_COUNT : Fld := ⟨.prtRxFramesHi, 0, 32⟩
/-- PRT_RX_BYTES_LO [31:0] -/ def prtRxBytesLo_COUNT : Fld := ⟨.prtRxBytesLo, 0, 32⟩
/-- PRT_RX_BYTES_HI [31:0] -/ def prtRxBytesHi_COUNT : Fld := ⟨.prtRxBytesHi, 0, 32⟩
/-- PRT_TX_FRAMES_LO [31:0] -/ def prtTxFramesLo_COUNT : Fld := ⟨.prtTxFramesLo, 0, 32⟩
/-- PRT_TX_FRAMES_HI [31:0] -/ def prtTxFramesHi_COUNT : Fld := ⟨.prtTxFramesHi, 0, 32⟩
/-- PRT_TX_BYTES_LO [31:0] -/ def prtTxBytesLo_COUNT : Fld := ⟨.prtTxBytesLo, 0, 32⟩
/-- PRT_TX_BYTES_HI [31:0] -/ def prtTxBytesHi_COUNT : Fld := ⟨.prtTxBytesHi, 0, 32⟩
/-- PRT_FEC_CORR_LO [31:0] -/ def prtFecCorrLo_COUNT : Fld := ⟨.prtFecCorrLo, 0, 32⟩
/-- PRT_FEC_CORR_HI [31:0] -/ def prtFecCorrHi_COUNT : Fld := ⟨.prtFecCorrHi, 0, 32⟩
/-- PRT_RX_FCS [31:0] -/ def prtRxFcs_COUNT : Fld := ⟨.prtRxFcs, 0, 32⟩
/-- PRT_RX_RUNT [31:0] -/ def prtRxRunt_COUNT : Fld := ⟨.prtRxRunt, 0, 32⟩
/-- PRT_RX_OVERSIZE [31:0] -/ def prtRxOversize_COUNT : Fld := ⟨.prtRxOversize, 0, 32⟩
/-- PRT_RX_TRUNC [31:0] -/ def prtRxTrunc_COUNT : Fld := ⟨.prtRxTrunc, 0, 32⟩
/-- PRT_RX_NOBUF [31:0] -/ def prtRxNobuf_COUNT : Fld := ⟨.prtRxNobuf, 0, 32⟩
/-- PRT_RX_PAUSE [31:0] -/ def prtRxPause_COUNT : Fld := ⟨.prtRxPause, 0, 32⟩
/-- PRT_TX_PAUSE [31:0] -/ def prtTxPause_COUNT : Fld := ⟨.prtTxPause, 0, 32⟩
/-- PRT_TX_FLUSHED [31:0] -/ def prtTxFlushed_COUNT : Fld := ⟨.prtTxFlushed, 0, 32⟩
/-- PRT_TX_SILENT [31:0] -/ def prtTxSilent_COUNT : Fld := ⟨.prtTxSilent, 0, 32⟩
/-- PRT_FEC_UNCORR [31:0] -/ def prtFecUncorr_COUNT : Fld := ⟨.prtFecUncorr, 0, 32⟩
/-- PRT_PAUSE_WD [31:0] -/ def prtPauseWd_COUNT : Fld := ⟨.prtPauseWd, 0, 32⟩
/-- PRT_RX_FOREIGN [31:0] -/ def prtRxForeign_COUNT : Fld := ⟨.prtRxForeign, 0, 32⟩
/-- PGR_GRAPH_CFGg [8:0] -/ def pgrGraphCfg_NODES : Fld := ⟨.pgrGraphCfg, 0, 9⟩
/-- PGR_GRAPH_CFGg [17:16] -/ def pgrGraphCfg_STATE : Fld := ⟨.pgrGraphCfg, 16, 2⟩
/-- PGR_GRAPH_CFGg [24:20] -/ def pgrGraphCfg_OWNER : Fld := ⟨.pgrGraphCfg, 20, 5⟩
/-- PGR_PORT_CFGn [3:0] -/ def pgrPortCfg_STEER_GRAPH : Fld := ⟨.pgrPortCfg, 0, 4⟩
/-- PGR_PORT_CFGn [15:8] -/ def pgrPortCfg_STEER_NODE : Fld := ⟨.pgrPortCfg, 8, 8⟩
/-- PGR_PORT_CFGn [17:16] -/ def pgrPortCfg_DEFAULT : Fld := ⟨.pgrPortCfg, 16, 2⟩
/-- PGR_PORT_CFGn [18:18] -/ def pgrPortCfg_STEER_VALID : Fld := ⟨.pgrPortCfg, 18, 1⟩
/-- PGR_STALL_ENTRYs [3:0] -/ def pgrStallEntry_OUTER_GRAPH : Fld := ⟨.pgrStallEntry, 0, 4⟩
/-- PGR_STALL_ENTRYs [4:4] -/ def pgrStallEntry_OUTER_VALID : Fld := ⟨.pgrStallEntry, 4, 1⟩
/-- PGR_STALL_ENTRYs [11:8] -/ def pgrStallEntry_INNER_GRAPH : Fld := ⟨.pgrStallEntry, 8, 4⟩
/-- PGR_STALL_ENTRYs [12:12] -/ def pgrStallEntry_INNER_VALID : Fld := ⟨.pgrStallEntry, 12, 1⟩
/-- PGR_STALL_ENTRYs [23:16] -/ def pgrStallEntry_OUTER_NODE : Fld := ⟨.pgrStallEntry, 16, 8⟩
/-- PGR_STALL_ENTRYs [31:24] -/ def pgrStallEntry_INNER_NODE : Fld := ⟨.pgrStallEntry, 24, 8⟩
/-- PGR_LOADx.PTR [5:0] -/ def pgrLoadPtr_REG : Fld := ⟨.pgrLoadPtr, 0, 6⟩
/-- PGR_LOADx.PTR [15:8] -/ def pgrLoadPtr_NODE : Fld := ⟨.pgrLoadPtr, 8, 8⟩
/-- PGR_LOADx.PTR [19:16] -/ def pgrLoadPtr_GRAPH : Fld := ⟨.pgrLoadPtr, 16, 4⟩
/-- PGR_LOADx.DATA [31:0] -/ def pgrLoadData_DATA : Fld := ⟨.pgrLoadData, 0, 32⟩
/-- PGR_LOADx.STAT [15:0] -/ def pgrLoadStat_REFUSED : Fld := ⟨.pgrLoadStat, 0, 16⟩
/-- PGR_LOADx.STAT [17:16] -/ def pgrLoadStat_LAST_REASON : Fld := ⟨.pgrLoadStat, 16, 2⟩
/-- PGR_PORT_STATn+0x0 [31:0] -/ def pgrPortStatFail_FAIL : Fld := ⟨.pgrPortStatFail, 0, 32⟩
/-- PGR_PORT_STATn+0x4 [31:0] -/ def pgrPortStatSteer_STEER_DROP : Fld := ⟨.pgrPortStatSteer, 0, 32⟩
/-- PGR_KIND_FAILk [31:0] -/ def pgrKindFail_COUNT : Fld := ⟨.pgrKindFail, 0, 32⟩
/-- PGR_STALL_FAILs [31:0] -/ def pgrStallFail_COUNT : Fld := ⟨.pgrStallFail, 0, 32⟩
/-- PGR_LAST_FAIL [2:0] -/ def pgrLastFail_KIND : Fld := ⟨.pgrLastFail, 0, 3⟩
/-- PGR_LAST_FAIL [7:4] -/ def pgrLastFail_PORT : Fld := ⟨.pgrLastFail, 4, 4⟩
/-- PGR_LAST_FAIL [11:8] -/ def pgrLastFail_GRAPH : Fld := ⟨.pgrLastFail, 8, 4⟩
/-- PGR_LAST_FAIL [15:12] -/ def pgrLastFail_STALL : Fld := ⟨.pgrLastFail, 12, 4⟩
/-- PGR_LAST_FAIL [23:16] -/ def pgrLastFail_NODE : Fld := ⟨.pgrLastFail, 16, 8⟩
/-- PGR_LAST_FAIL [28:24] -/ def pgrLastFail_VISITS : Fld := ⟨.pgrLastFail, 24, 5⟩
/-- PGR_HOUSE_LIMIT [15:0] -/ def pgrHouseLimit_FRAMES : Fld := ⟨.pgrHouseLimit, 0, 16⟩
/-- PGR_HOUSE_LIMIT [31:16] -/ def pgrHouseLimit_HOUSE_DROP : Fld := ⟨.pgrHouseLimit, 16, 16⟩
/-- CLS_CFG [15:0] -/ def clsCfg_TABLE_BASE : Fld := ⟨.clsCfg, 0, 16⟩
/-- CLS_CFG [16:16] -/ def clsCfg_ENABLE : Fld := ⟨.clsCfg, 16, 1⟩
/-- CLS_SEEDs [31:0] -/ def clsSeed_SEED : Fld := ⟨.clsSeed, 0, 32⟩
/-- CLS_QUOTAs [20:0] -/ def clsQuota_ENTRIES : Fld := ⟨.clsQuota, 0, 21⟩
/-- CLS_BOUNDs [20:0] -/ def clsBound_COUNT : Fld := ⟨.clsBound, 0, 21⟩
/-- CLS_BANKs [0:0] -/ def clsBank_ACTIVE : Fld := ⟨.clsBank, 0, 1⟩
/-- CLS_BINDx.CMD [19:0] -/ def clsBindCmd_HANDLE : Fld := ⟨.clsBindCmd, 0, 20⟩
/-- CLS_BINDx.CMD [21:20] -/ def clsBindCmd_OP : Fld := ⟨.clsBindCmd, 20, 2⟩
/-- CLS_BINDx.CMD [27:24] -/ def clsBindCmd_STALL : Fld := ⟨.clsBindCmd, 24, 4⟩
/-- CLS_BINDx.STATUS [2:0] -/ def clsBindStatus_CODE : Fld := ⟨.clsBindStatus, 0, 3⟩
/-- CLS_BINDx.STATUS [23:4] -/ def clsBindStatus_OTHER : Fld := ⟨.clsBindStatus, 4, 20⟩
/-- CLS_LOADx.PTR [9:0] -/ def clsLoadPtr_INDEX : Fld := ⟨.clsLoadPtr, 0, 10⟩
/-- CLS_LOADx.PTR [10:10] -/ def clsLoadPtr_BANK : Fld := ⟨.clsLoadPtr, 10, 1⟩
/-- CLS_LOADx.PTR [15:12] -/ def clsLoadPtr_STALL : Fld := ⟨.clsLoadPtr, 12, 4⟩
/-- CLS_LOADx.DATA [31:0] -/ def clsLoadData_DATA : Fld := ⟨.clsLoadData, 0, 32⟩
/-- CLS_LOADx.STAT [15:0] -/ def clsLoadStat_REFUSED : Fld := ⟨.clsLoadStat, 0, 16⟩
/-- CLS_LOADx.STAT [17:16] -/ def clsLoadStat_LAST_REASON : Fld := ⟨.clsLoadStat, 16, 2⟩
/-- CLS_STATs+0x0 [31:0] -/ def clsStatHit_HIT : Fld := ⟨.clsStatHit, 0, 32⟩
/-- CLS_STATs+0x4 [31:0] -/ def clsStatMiss_MISS : Fld := ⟨.clsStatMiss, 0, 32⟩
/-- CLS_STATs+0x8 [15:0] -/ def clsStatKey_KEYFAIL : Fld := ⟨.clsStatKey, 0, 16⟩
/-- CLS_STATs+0x8 [31:16] -/ def clsStatKey_FULL : Fld := ⟨.clsStatKey, 16, 16⟩
/-- CLS_STATs+0xC [31:0] -/ def clsStatDropped_DROPPED : Fld := ⟨.clsStatDropped, 0, 32⟩
/-- CLS_HOT+0x0 [31:0] -/ def clsHotHit_LINE_HIT : Fld := ⟨.clsHotHit, 0, 32⟩
/-- CLS_HOT+0x4 [31:0] -/ def clsHotMiss_LINE_MISS : Fld := ⟨.clsHotMiss, 0, 32⟩
/-- STN_CFG [11:0] -/ def stnCfg_RECORD_BASE : Fld := ⟨.stnCfg, 0, 12⟩
/-- STN_CFG [23:16] -/ def stnCfg_CLEAN_COURSES : Fld := ⟨.stnCfg, 16, 8⟩
/-- STN_RANGEs [9:0] -/ def stnRange_BASE : Fld := ⟨.stnRange, 0, 10⟩
/-- STN_RANGEs [20:10] -/ def stnRange_BLOCKS : Fld := ⟨.stnRange, 10, 11⟩
/-- STN_RANGEs [21:21] -/ def stnRange_READY : Fld := ⟨.stnRange, 21, 1⟩
/-- STN_STAT+0x0 [31:0] -/ def stnStatHit_HIT : Fld := ⟨.stnStatHit, 0, 32⟩
/-- STN_STAT+0x4 [31:0] -/ def stnStatMiss_MISS : Fld := ⟨.stnStatMiss, 0, 32⟩
/-- STN_STAT+0x8 [31:0] -/ def stnStatWriteback_WRITEBACK : Fld := ⟨.stnStatWriteback, 0, 32⟩
/-- STN_STAT+0xC [31:0] -/ def stnStatSetWait_SET_WAIT : Fld := ⟨.stnStatSetWait, 0, 32⟩
/-- STN_CMDx.CMD [1:0] -/ def stnCmdCmd_OP : Fld := ⟨.stnCmdCmd, 0, 2⟩
/-- STN_CMDx.CMD [7:4] -/ def stnCmdCmd_PORT : Fld := ⟨.stnCmdCmd, 4, 4⟩
/-- STN_CMDx.START [19:0] -/ def stnCmdStart_HANDLE : Fld := ⟨.stnCmdStart, 0, 20⟩
/-- STN_CMDx.MATCH [15:0] -/ def stnCmdMatch_VALUE : Fld := ⟨.stnCmdMatch, 0, 16⟩
/-- STN_CMDx.MATCH [31:16] -/ def stnCmdMatch_MASK : Fld := ⟨.stnCmdMatch, 16, 16⟩
/-- STN_CMDx.AGE [31:0] -/ def stnCmdAge_COURSES : Fld := ⟨.stnCmdAge, 0, 32⟩
/-- STN_CMDx.RESULT [19:0] -/ def stnCmdResult_HANDLE : Fld := ⟨.stnCmdResult, 0, 20⟩
/-- STN_CMDx.RESULT [22:20] -/ def stnCmdResult_STATUS : Fld := ⟨.stnCmdResult, 20, 3⟩
/-- STN_CMDx.RESULT [31:24] -/ def stnCmdResult_BUSY_ID : Fld := ⟨.stnCmdResult, 24, 8⟩
/-- ESP_CFG [10:0] -/ def espCfg_SA_BASE : Fld := ⟨.espCfg, 0, 11⟩
/-- ESP_CFG [11:11] -/ def espCfg_ENABLE : Fld := ⟨.espCfg, 11, 1⟩
/-- ESP_PREFIXs [10:0] -/ def espPrefix_PREFIX : Fld := ⟨.espPrefix, 0, 11⟩
/-- ESP_PREFIXs [11:11] -/ def espPrefix_VALID : Fld := ⟨.espPrefix, 11, 1⟩
/-- ESP_REKEYs [5:0] -/ def espRekey_SOFT_LOG2 : Fld := ⟨.espRekey, 0, 6⟩
/-- ESP_NOPREFIX [31:0] -/ def espNoprefix_COUNT : Fld := ⟨.espNoprefix, 0, 32⟩
/-- ESP_STATs+0x0 [31:0] -/ def espStatOk_OK : Fld := ⟨.espStatOk, 0, 32⟩
/-- ESP_STATs+0x4 [15:0] -/ def espStatAuth_AUTH : Fld := ⟨.espStatAuth, 0, 16⟩
/-- ESP_STATs+0x4 [31:16] -/ def espStatAuth_REPLAY : Fld := ⟨.espStatAuth, 16, 16⟩
/-- ESP_STATs+0x8 [15:0] -/ def espStatNoSa_NO_SA : Fld := ⟨.espStatNoSa, 0, 16⟩
/-- ESP_STATs+0x8 [31:16] -/ def espStatNoSa_KEY_BAD : Fld := ⟨.espStatNoSa, 16, 16⟩
/-- ESP_STATs+0xC [15:0] -/ def espStatMalformed_MALFORMED : Fld := ⟨.espStatMalformed, 0, 16⟩
/-- ESP_STATs+0xC [31:16] -/ def espStatMalformed_DUMMY : Fld := ⟨.espStatMalformed, 16, 16⟩
/-- ESP_STATs+0x10 [15:0] -/ def espStatNocell_NOCELL : Fld := ⟨.espStatNocell, 0, 16⟩
/-- ESP_STATs+0x10 [31:16] -/ def espStatNocell_OUT_REFUSED : Fld := ⟨.espStatNocell, 16, 16⟩
/-- ESP_STATs+0x14 [31:0] -/ def espStatOutOk_OUT_OK : Fld := ⟨.espStatOutOk, 0, 32⟩
/-- ESP_LASTs [2:0] -/ def espLast_CODE : Fld := ⟨.espLast, 0, 3⟩
/-- ESP_LASTs [31:11] -/ def espLast_INDEX : Fld := ⟨.espLast, 11, 21⟩
/-- STN_LEARNs.CTL [9:0] -/ def stnLearnCtl_PORTS : Fld := ⟨.stnLearnCtl, 0, 10⟩
/-- STN_LEARNs.CTL [31:16] -/ def stnLearnCtl_FLAP_NS : Fld := ⟨.stnLearnCtl, 16, 16⟩
/-- STN_LEARNs.AGE [31:0] -/ def stnLearnAge_LIMIT : Fld := ⟨.stnLearnAge, 0, 32⟩
/-- STN_LEARNs.SWEEP [15:0] -/ def stnLearnSweep_PERIOD : Fld := ⟨.stnLearnSweep, 0, 16⟩
/-- STN_LEARNs.SWEEP [16:16] -/ def stnLearnSweep_ACTION : Fld := ⟨.stnLearnSweep, 16, 1⟩
/-- STN_LEARNs.SWEEP [17:17] -/ def stnLearnSweep_START : Fld := ⟨.stnLearnSweep, 17, 1⟩
/-- STN_LEARNs.SWEEP_STAT [1:0] -/ def stnLearnSweepStat_STATUS : Fld := ⟨.stnLearnSweepStat, 0, 2⟩
/-- STN_LEARNs.SWEEP_STAT [15:8] -/ def stnLearnSweepStat_BUSY_ID : Fld := ⟨.stnLearnSweepStat, 8, 8⟩
/-- STN_LEARNs.SWEEP_STAT [31:16] -/ def stnLearnSweepStat_SKIPPED : Fld := ⟨.stnLearnSweepStat, 16, 16⟩
/-- STN_LSTATs+0x0 [31:0] -/ def stnLstatLearns_LEARNS : Fld := ⟨.stnLstatLearns, 0, 32⟩
/-- STN_LSTATs+0x4 [31:0] -/ def stnLstatMoves_MOVES : Fld := ⟨.stnLstatMoves, 0, 32⟩
/-- STN_LSTATs+0x8 [15:0] -/ def stnLstatContests_CONTESTS : Fld := ⟨.stnLstatContests, 0, 16⟩
/-- STN_LSTATs+0x8 [31:16] -/ def stnLstatContests_STALE : Fld := ⟨.stnLstatContests, 16, 16⟩
/-- STN_LSTATs+0xC [15:0] -/ def stnLstatNoPath_NO_PATH : Fld := ⟨.stnLstatNoPath, 0, 16⟩
/-- STN_LSTATs+0x10 [31:0] -/ def stnLstatAged_AGED : Fld := ⟨.stnLstatAged, 0, 32⟩
/-- PKM_ECC [15:0] -/ def pkmEcc_CORR : Fld := ⟨.pkmEcc, 0, 16⟩
/-- PKM_ECC [31:16] -/ def pkmEcc_UNCORR : Fld := ⟨.pkmEcc, 16, 16⟩
/-- PKM_LAST_ERR [17:0] -/ def pkmLastErr_HANDLE : Fld := ⟨.pkmLastErr, 0, 18⟩
/-- PKM_LAST_ERR [21:18] -/ def pkmLastErr_CODE : Fld := ⟨.pkmLastErr, 18, 4⟩
/-- PKM_LAST_ERR [26:22] -/ def pkmLastErr_OWNER : Fld := ⟨.pkmLastErr, 22, 5⟩
/-- PKM_SLICEn [14:0] -/ def pkmSlice_FREE : Fld := ⟨.pkmSlice, 0, 15⟩
/-- PKM_SLICEn [31:16] -/ def pkmSlice_FAILS : Fld := ⟨.pkmSlice, 16, 16⟩
/-- PKM_POOLs+0x0 [18:0] -/ def pkmPoolLimit_LIMIT : Fld := ⟨.pkmPoolLimit, 0, 19⟩
/-- PKM_POOLs+0x4 [18:0] -/ def pkmPoolGreen_GREEN : Fld := ⟨.pkmPoolGreen, 0, 19⟩
/-- PKM_POOLs+0x8 [18:0] -/ def pkmPoolYellow_YELLOW : Fld := ⟨.pkmPoolYellow, 0, 19⟩
/-- PKM_POOLs+0xC [18:0] -/ def pkmPoolRed_RED : Fld := ⟨.pkmPoolRed, 0, 19⟩
/-- PKM_POOLs+0x10 [15:0] -/ def pkmPoolCtl_HYST : Fld := ⟨.pkmPoolCtl, 0, 16⟩
/-- PKM_POOLs+0x10 [31:16] -/ def pkmPoolCtl_RED_RATE : Fld := ⟨.pkmPoolCtl, 16, 16⟩
/-- PKM_POOLs+0x14 [18:0] -/ def pkmPoolStatus_USED : Fld := ⟨.pkmPoolStatus, 0, 19⟩
/-- PKM_POOLs+0x14 [21:20] -/ def pkmPoolStatus_LEVEL : Fld := ⟨.pkmPoolStatus, 20, 2⟩
/-- PKM_POOLs+0x18 [15:0] -/ def pkmPoolStat_REFUSED : Fld := ⟨.pkmPoolStat, 0, 16⟩
/-- PKM_POOLs+0x18 [31:16] -/ def pkmPoolStat_THROTTLED : Fld := ⟨.pkmPoolStat, 16, 16⟩
/-- PKM_POOLs+0x1C [9:0] -/ def pkmPoolErr_DOUBLE_FREE : Fld := ⟨.pkmPoolErr, 0, 10⟩
/-- PKM_POOLs+0x1C [19:10] -/ def pkmPoolErr_OWNER : Fld := ⟨.pkmPoolErr, 10, 10⟩
/-- PKM_POOLs+0x1C [29:20] -/ def pkmPoolErr_HELD : Fld := ⟨.pkmPoolErr, 20, 10⟩
/-- PKM_CELLx.HANDLE [31:0] -/ def pkmCellHandle_HANDLE : Fld := ⟨.pkmCellHandle, 0, 32⟩
/-- PKM_CELLx.CMD [2:0] -/ def pkmCellCmd_OP : Fld := ⟨.pkmCellCmd, 0, 3⟩
/-- PKM_CELLx.CMD [13:8] -/ def pkmCellCmd_COUNT : Fld := ⟨.pkmCellCmd, 8, 6⟩
/-- PKM_CELLx.CMD [19:16] -/ def pkmCellCmd_STALL : Fld := ⟨.pkmCellCmd, 16, 4⟩
/-- PKM_CELLx.RESULT [17:0] -/ def pkmCellResult_HANDLE : Fld := ⟨.pkmCellResult, 0, 18⟩
/-- PKM_CELLx.RESULT [23:18] -/ def pkmCellResult_CELLS : Fld := ⟨.pkmCellResult, 18, 6⟩
/-- PKM_CELLx.RESULT [27:24] -/ def pkmCellResult_CODE : Fld := ⟨.pkmCellResult, 24, 4⟩
/-- PKM_CELLx.RESULT [28:28] -/ def pkmCellResult_WHOLE : Fld := ⟨.pkmCellResult, 28, 1⟩
/-- PKM_CELLx.LINK [25:0] -/ def pkmCellLink_ENTRY : Fld := ⟨.pkmCellLink, 0, 26⟩
/-- DSP_STALLs.CTL [0:0] -/ def dspStallCtl_OVERRUN : Fld := ⟨.dspStallCtl, 0, 1⟩
/-- DSP_STALLs.CTL [15:8] -/ def dspStallCtl_MIN_RUN : Fld := ⟨.dspStallCtl, 8, 8⟩
/-- DSP_STALLs.BUDGET [15:0] -/ def dspStallBudget_FRAMES : Fld := ⟨.dspStallBudget, 0, 16⟩
/-- DSP_STALLs.MAP [0:0] -/ def dspStallMap_SWITCH : Fld := ⟨.dspStallMap, 0, 1⟩
/-- DSP_STALLs.MAP [1:1] -/ def dspStallMap_ACTIVE : Fld := ⟨.dspStallMap, 1, 1⟩
/-- DSP_STALLs.MAP [3:2] -/ def dspStallMap_STATUS : Fld := ⟨.dspStallMap, 2, 2⟩
/-- DSP_STALLs.MAP [7:4] -/ def dspStallMap_REASON : Fld := ⟨.dspStallMap, 4, 4⟩
/-- DSP_STALLs.MAP [15:8] -/ def dspStallMap_BUSY_ID : Fld := ⟨.dspStallMap, 8, 8⟩
/-- DSP_MAPLOADx.PTR [8:0] -/ def dspMaploadPtr_INDEX : Fld := ⟨.dspMaploadPtr, 0, 9⟩
/-- DSP_MAPLOADx.PTR [9:9] -/ def dspMaploadPtr_BANK : Fld := ⟨.dspMaploadPtr, 9, 1⟩
/-- DSP_MAPLOADx.PTR [15:12] -/ def dspMaploadPtr_STALL : Fld := ⟨.dspMaploadPtr, 12, 4⟩
/-- DSP_MAPLOADx.DATA [31:0] -/ def dspMaploadData_ENTRIES : Fld := ⟨.dspMaploadData, 0, 32⟩
/-- DSP_MAPLOADx.STAT [15:0] -/ def dspMaploadStat_REFUSED : Fld := ⟨.dspMaploadStat, 0, 16⟩
/-- DSP_MAPLOADx.STAT [17:16] -/ def dspMaploadStat_LAST_REASON : Fld := ⟨.dspMaploadStat, 16, 2⟩
/-- DSP_CLUSTERc+0x0 [4:0] -/ def dspCluster_OWNER : Fld := ⟨.dspCluster, 0, 5⟩
/-- DSP_CLUSTERc+0x0 [9:8] -/ def dspCluster_STATE : Fld := ⟨.dspCluster, 8, 2⟩
/-- DSP_CLUSTERc+0x4 [31:0] -/ def dspClusterPackets_PACKETS : Fld := ⟨.dspClusterPackets, 0, 32⟩
/-- DSP_CLUSTERc+0x8 [31:0] -/ def dspClusterIssuedLo_ISSUED : Fld := ⟨.dspClusterIssuedLo, 0, 32⟩
/-- DSP_CLUSTERc+0xC [31:0] -/ def dspClusterIssuedHi_ISSUED : Fld := ⟨.dspClusterIssuedHi, 0, 32⟩
/-- DSP_CLUSTERc+0x10 [31:0] -/ def dspClusterMaxCycles_MAX_CYCLES : Fld := ⟨.dspClusterMaxCycles, 0, 32⟩
/-- DSP_CLUSTERc+0x14 [31:0] -/ def dspClusterTurnWaits_TURN_WAITS : Fld := ⟨.dspClusterTurnWaits, 0, 32⟩
/-- DSP_CLUSTERc+0x18 [9:0] -/ def dspClusterQueue_QUEUE : Fld := ⟨.dspClusterQueue, 0, 10⟩
/-- DSP_OOS [3:0] -/ def dspOos_CLUSTER : Fld := ⟨.dspOos, 0, 4⟩
/-- DSP_OOS [7:4] -/ def dspOos_REPL : Fld := ⟨.dspOos, 4, 4⟩
/-- DSP_OOS [8:8] -/ def dspOos_GO : Fld := ⟨.dspOos, 8, 1⟩
/-- DSP_OOS [10:9] -/ def dspOos_STATUS : Fld := ⟨.dspOos, 9, 2⟩
/-- DSP_GATE+0x0 [3:0] -/ def dspGateBanks_BANKS : Fld := ⟨.dspGateBanks, 0, 4⟩
/-- DSP_GATE+0x4 [31:0] -/ def dspGateFull_FULL : Fld := ⟨.dspGateFull, 0, 32⟩
/-- DSP_STATs+0x0 [31:0] -/ def dspStatAdmitted_ADMITTED : Fld := ⟨.dspStatAdmitted, 0, 32⟩
/-- DSP_STATs+0x4 [31:0] -/ def dspStatOverrun_OVERRUN : Fld := ⟨.dspStatOverrun, 0, 32⟩
/-- DSP_STATs+0x8 [15:0] -/ def dspStatLate_LATE : Fld := ⟨.dspStatLate, 0, 16⟩
/-- DSP_STATs+0x8 [31:16] -/ def dspStatLate_BUDGET : Fld := ⟨.dspStatLate, 16, 16⟩
/-- DSP_STATs+0xC [15:0] -/ def dspStatQueueFull_QUEUE_FULL : Fld := ⟨.dspStatQueueFull, 0, 16⟩
/-- DSP_STATs+0xC [31:16] -/ def dspStatQueueFull_STOPPED : Fld := ⟨.dspStatQueueFull, 16, 16⟩
/-- DSP_STATs+0x10 [15:0] -/ def dspStatDefers_DEFERS : Fld := ⟨.dspStatDefers, 0, 16⟩
/-- DSP_STATs+0x10 [31:16] -/ def dspStatDefers_DEFER_DROP : Fld := ⟨.dspStatDefers, 16, 16⟩
/-- DSP_STATs+0x14 [15:0] -/ def dspStatDeferFull_DEFER_FULL : Fld := ⟨.dspStatDeferFull, 0, 16⟩
/-- DSP_STATs+0x14 [31:16] -/ def dspStatDeferFull_BAD_RETIRE : Fld := ⟨.dspStatDeferFull, 16, 16⟩
/-- DSP_STATs+0x18 [15:0] -/ def dspStatNoCluster_NO_CLUSTER : Fld := ⟨.dspStatNoCluster, 0, 16⟩
/-- CLU_COREk+0x00 [0:0] -/ def cluCoreCtl_BTB_EN : Fld := ⟨.cluCoreCtl, 0, 1⟩
/-- CLU_COREk+0x00 [1:1] -/ def cluCoreCtl_PREFETCH : Fld := ⟨.cluCoreCtl, 1, 1⟩
/-- CLU_COREk+0x00 [15:8] -/ def cluCoreCtl_GUARD : Fld := ⟨.cluCoreCtl, 8, 8⟩
/-- CLU_COREk+0x04 [31:0] -/ def cluCoreIssue_ISSUE : Fld := ⟨.cluCoreIssue, 0, 32⟩
/-- CLU_COREk+0x08 [31:0] -/ def cluCoreEmpty_EMPTY : Fld := ⟨.cluCoreEmpty, 0, 32⟩
/-- CLU_COREk+0x0C [31:0] -/ def cluCoreMispredict_MISPREDICT : Fld := ⟨.cluCoreMispredict, 0, 32⟩
/-- CLU_COREk+0x10 [31:0] -/ def cluCoreRefill_REFILL : Fld := ⟨.cluCoreRefill, 0, 32⟩
/-- CLU_COREk+0x14 [31:0] -/ def cluCoreRefillWait_REFILL_WAIT : Fld := ⟨.cluCoreRefillWait, 0, 32⟩
/-- CLU_COREk+0x18 [31:0] -/ def cluCoreSbWait_SB_WAIT : Fld := ⟨.cluCoreSbWait, 0, 32⟩
/-- CLU_COREk+0x1C [31:0] -/ def cluCoreSbFull_SB_FULL : Fld := ⟨.cluCoreSbFull, 0, 32⟩
/-- CLU_COREk+0x20 [31:0] -/ def cluCorePairSplit_PAIR_SPLIT : Fld := ⟨.cluCorePairSplit, 0, 32⟩
/-- CLU_COREk+0x24 [31:0] -/ def cluCoreTallySquash_TALLY_SQUASH : Fld := ⟨.cluCoreTallySquash, 0, 32⟩
/-- CLU_TRAP [9:0] -/ def cluTrap_VBASE : Fld := ⟨.cluTrap, 0, 10⟩
/-- CLU_SRAM [15:0] -/ def cluSram_CORR : Fld := ⟨.cluSram, 0, 16⟩
/-- CLU_SRAM [31:16] -/ def cluSram_UNCORR : Fld := ⟨.cluSram, 16, 16⟩
/-- SCP_SEGx_g.LO [27:0] -/ def scpSegLo_BASE : Fld := ⟨.scpSegLo, 0, 28⟩
/-- SCP_SEGx_g.HI [17:0] -/ def scpSegHi_LIMIT : Fld := ⟨.scpSegHi, 0, 18⟩
/-- SCP_SEGx_g.HI [20:18] -/ def scpSegHi_KIND : Fld := ⟨.scpSegHi, 18, 3⟩
/-- SCP_SEGx_g.HI [21:21] -/ def scpSegHi_WRITE : Fld := ⟨.scpSegHi, 21, 1⟩
/-- SCP_SEGx_g.HI [23:22] -/ def scpSegHi_TABLE : Fld := ⟨.scpSegHi, 22, 2⟩
/-- TLY_UNITu+0x0 [2:0] -/ def tlyUnitOwner_OWNER : Fld := ⟨.tlyUnitOwner, 0, 3⟩
/-- TLY_UNITu+0x0 [3:3] -/ def tlyUnitOwner_OWNED : Fld := ⟨.tlyUnitOwner, 3, 1⟩
/-- TLY_UNITu+0x0 [4:4] -/ def tlyUnitOwner_BUSY : Fld := ⟨.tlyUnitOwner, 4, 1⟩
/-- TLY_UNITu+0x0 [5:5] -/ def tlyUnitOwner_FAILED : Fld := ⟨.tlyUnitOwner, 5, 1⟩
/-- TLY_UNITu+0x0 [8:6] -/ def tlyUnitOwner_QUEUE : Fld := ⟨.tlyUnitOwner, 6, 3⟩
/-- TLY_UNITu+0x4 [31:0] -/ def tlyUnitCommands_COMMANDS : Fld := ⟨.tlyUnitCommands, 0, 32⟩
/-- TLY_UNITu+0x8 [31:0] -/ def tlyUnitBusyCycles_BUSY_CYCLES : Fld := ⟨.tlyUnitBusyCycles, 0, 32⟩
/-- TLY_UNITu+0xC [31:0] -/ def tlyUnitQfull_QFULL : Fld := ⟨.tlyUnitQfull, 0, 32⟩
/-- TLY_UNITu+0x10 [10:0] -/ def tlyUnitMchk_MCHK_ADDR : Fld := ⟨.tlyUnitMchk, 0, 11⟩
/-- TLY_UNITu+0x10 [11:11] -/ def tlyUnitMchk_MCHK_BANK : Fld := ⟨.tlyUnitMchk, 11, 1⟩
/-- TLY_UNITu+0x10 [12:12] -/ def tlyUnitMchk_MCHK_VALID : Fld := ⟨.tlyUnitMchk, 12, 1⟩
/-- TLY_UNITu+0x14 [31:0] -/ def tlyUnitErrors_ERRORS : Fld := ⟨.tlyUnitErrors, 0, 32⟩
/-- TLY_PLOAD.ADDR [9:0] -/ def tlyPloadAddr_ADDR : Fld := ⟨.tlyPloadAddr, 0, 10⟩
/-- TLY_PLOAD.D0 [31:0] -/ def tlyPloadD0_DATA : Fld := ⟨.tlyPloadD0, 0, 32⟩
/-- TLY_PLOAD.D1 [31:0] -/ def tlyPloadD1_DATA : Fld := ⟨.tlyPloadD1, 0, 32⟩
/-- TLY_PLOAD.D2 [31:0] -/ def tlyPloadD2_DATA : Fld := ⟨.tlyPloadD2, 0, 32⟩
/-- TLY_PLOAD.STAT [15:0] -/ def tlyPloadStat_REFUSED : Fld := ⟨.tlyPloadStat, 0, 16⟩
/-- TLY_PATCH [15:0] -/ def tlyPatch_VERSION : Fld := ⟨.tlyPatch, 0, 16⟩
/-- TLY_PATCH [16:16] -/ def tlyPatch_APPLY : Fld := ⟨.tlyPatch, 16, 1⟩
/-- TLY_PATCH [18:17] -/ def tlyPatch_STATUS : Fld := ⟨.tlyPatch, 17, 2⟩
/-- TLY_PATCH [31:24] -/ def tlyPatch_BUSY_ID : Fld := ⟨.tlyPatch, 24, 8⟩
/-- TLY_TVER [15:0] -/ def tlyTver_VERSION : Fld := ⟨.tlyTver, 0, 16⟩
/-- TLY_TVER [16:16] -/ def tlyTver_PATCHED : Fld := ⟨.tlyTver, 16, 1⟩
/-- TLY_TVER [31:24] -/ def tlyTver_ROM_REV : Fld := ⟨.tlyTver, 24, 8⟩
/-- SCH_THREADt [1:0] -/ def schThread_CLASS : Fld := ⟨.schThread, 0, 2⟩
/-- SCH_THREADt [4:2] -/ def schThread_PRIO : Fld := ⟨.schThread, 2, 3⟩
/-- SCH_THREADt [9:8] -/ def schThread_STATE : Fld := ⟨.schThread, 8, 2⟩
/-- SCH_THREADt [13:10] -/ def schThread_WAIT : Fld := ⟨.schThread, 10, 4⟩
/-- SCH_THREADt [14:14] -/ def schThread_STAGING : Fld := ⟨.schThread, 14, 1⟩
/-- SCH_THREADt [15:15] -/ def schThread_CHILD : Fld := ⟨.schThread, 15, 1⟩
/-- SCH_THREADt [21:16] -/ def schThread_STAGED : Fld := ⟨.schThread, 16, 6⟩
/-- SCH_HTHREADt [1:0] -/ def schHthread_CLASS : Fld := ⟨.schHthread, 0, 2⟩
/-- SCH_HTHREADt [4:2] -/ def schHthread_PRIO : Fld := ⟨.schHthread, 2, 3⟩
/-- SCH_HTHREADt [9:8] -/ def schHthread_STATE : Fld := ⟨.schHthread, 8, 2⟩
/-- SCH_HTHREADt [13:10] -/ def schHthread_WAIT : Fld := ⟨.schHthread, 10, 4⟩
/-- SCH_HTHREADt [14:14] -/ def schHthread_STAGING : Fld := ⟨.schHthread, 14, 1⟩
/-- SCH_HTHREADt [15:15] -/ def schHthread_CHILD : Fld := ⟨.schHthread, 15, 1⟩
/-- SCH_HTHREADt [21:16] -/ def schHthread_STAGED : Fld := ⟨.schHthread, 16, 6⟩
/-- SCH_CHANx.PTR [9:0] -/ def schChanPtr_CHANNEL : Fld := ⟨.schChanPtr, 0, 10⟩
/-- SCH_CHANx.PTR [13:10] -/ def schChanPtr_CLUSTER : Fld := ⟨.schChanPtr, 10, 4⟩
/-- SCH_CHANx.PTR [14:14] -/ def schChanPtr_HCORE : Fld := ⟨.schChanPtr, 14, 1⟩
/-- SCH_CHANx.CFG [5:0] -/ def schChanCfg_MAXLEN : Fld := ⟨.schChanCfg, 0, 6⟩
/-- SCH_CHANx.CFG [11:6] -/ def schChanCfg_DEPTH : Fld := ⟨.schChanCfg, 6, 6⟩
/-- SCH_CHANx.CFG [18:12] -/ def schChanCfg_READER : Fld := ⟨.schChanCfg, 12, 7⟩
/-- SCH_CHANx.CFG [19:19] -/ def schChanCfg_SENDER : Fld := ⟨.schChanCfg, 19, 1⟩
/-- SCH_CHANx.CFG [20:20] -/ def schChanCfg_CROSS : Fld := ⟨.schChanCfg, 20, 1⟩
/-- SCH_CHANx.STAT [15:0] -/ def schChanStat_REFUSED : Fld := ⟨.schChanStat, 0, 16⟩
/-- SCH_CHANx.STAT [17:16] -/ def schChanStat_LAST_REASON : Fld := ⟨.schChanStat, 16, 2⟩
/-- SCH_CHANx.STAT [23:18] -/ def schChanStat_QUEUED : Fld := ⟨.schChanStat, 18, 6⟩
/-- SCH_CLUSTERc+0x0 [13:0] -/ def schClusterStoreFree_STORE_FREE : Fld := ⟨.schClusterStoreFree, 0, 14⟩
/-- SCH_CLUSTERc+0x4 [31:0] -/ def schClusterForkFail_FORK_FAIL : Fld := ⟨.schClusterForkFail, 0, 32⟩
/-- SCH_CLUSTERc+0x8 [31:0] -/ def schClusterTimerLate_TIMER_LATE : Fld := ⟨.schClusterTimerLate, 0, 32⟩
/-- SCH_CLUSTERc+0xC [31:0] -/ def schClusterCheBlock_CHE_BLOCK : Fld := ⟨.schClusterCheBlock, 0, 32⟩
/-- SCH_CLUSTERc+0x10 [31:0] -/ def schClusterDiscard_DISCARD : Fld := ⟨.schClusterDiscard, 0, 32⟩
/-- SCH_STILLs.CTL [0:0] -/ def schStillCtl_ENABLE : Fld := ⟨.schStillCtl, 0, 1⟩
/-- SCH_STILLs.STAT [1:0] -/ def schStillStat_COURSES : Fld := ⟨.schStillStat, 0, 2⟩
/-- SCH_STILLs.STAT [2:2] -/ def schStillStat_SUSPENDED : Fld := ⟨.schStillStat, 2, 1⟩
/-- SCH_STILLs.STAT [31:16] -/ def schStillStat_RAISED : Fld := ⟨.schStillStat, 16, 16⟩
/-- ATM_CFG [11:0] -/ def atmCfg_EPOCH : Fld := ⟨.atmCfg, 0, 12⟩
/-- ATM_CFG [12:12] -/ def atmCfg_WRAPPED : Fld := ⟨.atmCfg, 12, 1⟩
/-- ATM_STATs+0x0 [31:0] -/ def atmStatAcquired_ACQUIRED : Fld := ⟨.atmStatAcquired, 0, 32⟩
/-- ATM_STATs+0x4 [31:0] -/ def atmStatContended_CONTENDED : Fld := ⟨.atmStatContended, 0, 32⟩
/-- ATM_STATs+0x8 [15:0] -/ def atmStatAbandoned_ABANDONED : Fld := ⟨.atmStatAbandoned, 0, 16⟩
/-- ATM_STATs+0x8 [31:16] -/ def atmStatAbandoned_FORCED : Fld := ⟨.atmStatAbandoned, 16, 16⟩
/-- ATM_STATs+0xC [15:0] -/ def atmStatLimit_LIMIT : Fld := ⟨.atmStatLimit, 0, 16⟩
/-- ATM_STATs+0xC [31:16] -/ def atmStatLimit_CORRUPT : Fld := ⟨.atmStatLimit, 16, 16⟩
/-- ATM_QUERYx.SEL [9:0] -/ def atmQuerySel_THREAD : Fld := ⟨.atmQuerySel, 0, 10⟩
/-- ATM_QUERYx.SEL [10:10] -/ def atmQuerySel_HOUSE : Fld := ⟨.atmQuerySel, 10, 1⟩
/-- ATM_QUERYx.SEL [13:11] -/ def atmQuerySel_ENTRY : Fld := ⟨.atmQuerySel, 11, 3⟩
/-- ATM_QUERYx.SEL [19:16] -/ def atmQuerySel_HELD_COUNT : Fld := ⟨.atmQuerySel, 16, 4⟩
/-- ATM_QUERYx.LO [31:0] -/ def atmQueryLo_ADDR_LO : Fld := ⟨.atmQueryLo, 0, 32⟩
/-- ATM_QUERYx.HI [7:0] -/ def atmQueryHi_ADDR_HI : Fld := ⟨.atmQueryHi, 0, 8⟩
/-- ATM_QUERYx.HI [8:8] -/ def atmQueryHi_KIND : Fld := ⟨.atmQueryHi, 8, 1⟩
/-- ATM_QUERYx.HI [12:9] -/ def atmQueryHi_CLUSTER : Fld := ⟨.atmQueryHi, 9, 4⟩
/-- ATM_QUERYx.HI [13:13] -/ def atmQueryHi_VALID : Fld := ⟨.atmQueryHi, 13, 1⟩
/-- ATM_QUERYx.HI [14:14] -/ def atmQueryHi_WAITED : Fld := ⟨.atmQueryHi, 14, 1⟩
/-- SWC_PORTn+0x0 [0:0] -/ def swcPortCfg_GEOMETRY : Fld := ⟨.swcPortCfg, 0, 1⟩
/-- SWC_PORTn+0x0 [3:1] -/ def swcPortCfg_SCP_PRIO : Fld := ⟨.swcPortCfg, 1, 3⟩
/-- SWC_PORTn+0x0 [15:8] -/ def swcPortCfg_STRICT : Fld := ⟨.swcPortCfg, 8, 8⟩
/-- SWC_PORTn+0x4 [23:0] -/ def swcPortPrioMap_MAP : Fld := ⟨.swcPortPrioMap, 0, 24⟩
/-- SWC_PORTn+0x8 [31:0] -/ def swcPortQuanta0_QUANTUM : Fld := ⟨.swcPortQuanta0, 0, 32⟩
/-- SWC_PORTn+0xC [31:0] -/ def swcPortQuanta1_QUANTUM : Fld := ⟨.swcPortQuanta1, 0, 32⟩
/-- SWC_PORTn+0x10 [31:0] -/ def swcPortCells_COUNT : Fld := ⟨.swcPortCells, 0, 32⟩
/-- SWC_PORTn+0x14 [31:0] -/ def swcPortUnmatched_COUNT : Fld := ⟨.swcPortUnmatched, 0, 32⟩
/-- SWC_OUTx.REQ0 [31:0] -/ def swcOutReq0_HANDLE : Fld := ⟨.swcOutReq0, 0, 32⟩
/-- SWC_OUTx.REQ1 [13:0] -/ def swcOutReq1_LENGTH : Fld := ⟨.swcOutReq1, 0, 14⟩
/-- SWC_OUTx.REQ1 [19:16] -/ def swcOutReq1_OUTPUT : Fld := ⟨.swcOutReq1, 16, 4⟩
/-- SWC_OUTx.REQ1 [21:20] -/ def swcOutReq1_COLOUR : Fld := ⟨.swcOutReq1, 20, 2⟩
/-- SWC_OUTx.REQ1 [31:24] -/ def swcOutReq1_L3 : Fld := ⟨.swcOutReq1, 24, 8⟩
/-- SWC_OUTx.REQ2 [11:0] -/ def swcOutReq2_QUEUE : Fld := ⟨.swcOutReq2, 0, 12⟩
/-- SWC_OUTx.REQ2 [20:16] -/ def swcOutReq2_FLAGS : Fld := ⟨.swcOutReq2, 16, 5⟩
/-- SWC_OUTx.REQ3 [20:0] -/ def swcOutReq3_SA : Fld := ⟨.swcOutReq3, 0, 21⟩
/-- SWC_OUTx.REQ3 [31:24] -/ def swcOutReq3_ESP_OFF : Fld := ⟨.swcOutReq3, 24, 8⟩
/-- SWC_OUTx.REQ4 [13:0] -/ def swcOutReq4_PT_END : Fld := ⟨.swcOutReq4, 0, 14⟩
/-- SWC_OUTx.REQ4 [23:16] -/ def swcOutReq4_ORIGIN_OFF : Fld := ⟨.swcOutReq4, 16, 8⟩
/-- SWC_OUTx.REQ4 [31:24] -/ def swcOutReq4_CORR_OFF : Fld := ⟨.swcOutReq4, 24, 8⟩
/-- SWC_OUTx.REQ5 [15:0] -/ def swcOutReq5_TAG : Fld := ⟨.swcOutReq5, 0, 16⟩
/-- SWC_OUTx.REQ5 [23:16] -/ def swcOutReq5_UDP_OFF : Fld := ⟨.swcOutReq5, 16, 8⟩
/-- SWC_OUTx.CMD [0:0] -/ def swcOutCmd_GO : Fld := ⟨.swcOutCmd, 0, 1⟩
/-- SWC_OUTx.RESULT [17:0] -/ def swcOutResult_HANDLE : Fld := ⟨.swcOutResult, 0, 18⟩
/-- SWC_OUTx.RESULT [21:18] -/ def swcOutResult_CODE : Fld := ⟨.swcOutResult, 18, 4⟩
/-- SWC_LOADx.PTR [1:0] -/ def swcLoadPtr_TABLE : Fld := ⟨.swcLoadPtr, 0, 2⟩
/-- SWC_LOADx.PTR [5:2] -/ def swcLoadPtr_PORT : Fld := ⟨.swcLoadPtr, 2, 4⟩
/-- SWC_LOADx.PTR [17:6] -/ def swcLoadPtr_INDEX : Fld := ⟨.swcLoadPtr, 6, 12⟩
/-- SWC_LOADx.DATA [31:0] -/ def swcLoadData_DATA : Fld := ⟨.swcLoadData, 0, 32⟩
/-- SWC_LOADx.STAT [15:0] -/ def swcLoadStat_REFUSED : Fld := ⟨.swcLoadStat, 0, 16⟩
/-- SWC_LOADx.STAT [17:16] -/ def swcLoadStat_LAST_REASON : Fld := ⟨.swcLoadStat, 16, 2⟩
/-- SWC_QSTATx.SEL [3:0] -/ def swcQstatSel_PORT : Fld := ⟨.swcQstatSel, 0, 4⟩
/-- SWC_QSTATx.SEL [15:4] -/ def swcQstatSel_QUEUE : Fld := ⟨.swcQstatSel, 4, 12⟩
/-- SWC_QSTATx+0x4 [31:0] -/ def swcQstatEnq_ENQ : Fld := ⟨.swcQstatEnq, 0, 32⟩
/-- SWC_QSTATx+0x8 [31:0] -/ def swcQstatEarly_EARLY : Fld := ⟨.swcQstatEarly, 0, 32⟩
/-- SWC_QSTATx+0xC [31:0] -/ def swcQstatCap_CAP : Fld := ⟨.swcQstatCap, 0, 32⟩
/-- SWC_QSTATx+0x10 [31:0] -/ def swcQstatMark_MARK : Fld := ⟨.swcQstatMark, 0, 32⟩
/-- SWC_QSTATx+0x14 [31:0] -/ def swcQstatUnmark_UNMARK : Fld := ⟨.swcQstatUnmark, 0, 32⟩
/-- SWC_QSTATx+0x18 [31:0] -/ def swcQstatFlush_FLUSH : Fld := ⟨.swcQstatFlush, 0, 32⟩
/-- SWC_RECIRCr+0x0 [31:0] -/ def swcRecircSeq_SEQ : Fld := ⟨.swcRecircSeq, 0, 32⟩
/-- SWC_RECIRCr+0x4 [31:0] -/ def swcRecircForeign_FOREIGN : Fld := ⟨.swcRecircForeign, 0, 32⟩
/-- SWC_RECIRCr+0x8 [31:0] -/ def swcRecircDropped_DROPPED : Fld := ⟨.swcRecircDropped, 0, 32⟩
/-- STL_CFG [0:0] -/ def stlCfg_ARRANGE : Fld := ⟨.stlCfg, 0, 1⟩
/-- STL_CFG [1:1] -/ def stlCfg_JOIN_EN : Fld := ⟨.stlCfg, 1, 1⟩
/-- STL_CFG [15:8] -/ def stlCfg_JOIN_WAIT : Fld := ⟨.stlCfg, 8, 8⟩
/-- STL_PAIR [31:0] -/ def stlPair_PAIR_ID : Fld := ⟨.stlPair, 0, 32⟩
/-- STL_CTL [0:0] -/ def stlCtl_FORCE_LEAD : Fld := ⟨.stlCtl, 0, 1⟩
/-- STL_STATUS [2:0] -/ def stlStatus_STATE : Fld := ⟨.stlStatus, 0, 3⟩
/-- STL_STATUS [3:3] -/ def stlStatus_STRAP : Fld := ⟨.stlStatus, 3, 1⟩
/-- STL_STATUS [5:4] -/ def stlStatus_LANES : Fld := ⟨.stlStatus, 4, 2⟩
/-- STL_STATUS [6:6] -/ def stlStatus_ALIVE_IN : Fld := ⟨.stlStatus, 6, 1⟩
/-- STL_STATUS [7:7] -/ def stlStatus_WAS_ALONE : Fld := ⟨.stlStatus, 7, 1⟩
/-- STL_STATUS [10:8] -/ def stlStatus_JOIN : Fld := ⟨.stlStatus, 8, 3⟩
/-- STL_STATUS [12:11] -/ def stlStatus_JOIN_REASON : Fld := ⟨.stlStatus, 11, 2⟩
/-- STL_STATUS [23:16] -/ def stlStatus_BUSY_ID : Fld := ⟨.stlStatus, 16, 8⟩
/-- STL_ACCEPTED_LO [31:0] -/ def stlAcceptedLo_COURSE : Fld := ⟨.stlAcceptedLo, 0, 32⟩
/-- STL_ACCEPTED_HI [31:0] -/ def stlAcceptedHi_COURSE : Fld := ⟨.stlAcceptedHi, 0, 32⟩
/-- STL_CALn [15:0] -/ def stlCal_OFFSET : Fld := ⟨.stlCal, 0, 16⟩
/-- STL_CALn [31:16] -/ def stlCal_MEAN : Fld := ⟨.stlCal, 16, 16⟩
/-- STL_JOURNAL.BASE [27:0] -/ def stlJournalBase_BASE : Fld := ⟨.stlJournalBase, 0, 28⟩
/-- STL_JOURNAL.SIZE [15:0] -/ def stlJournalSize_MIB : Fld := ⟨.stlJournalSize, 0, 16⟩
/-- STL_JOURNAL.FREE [15:0] -/ def stlJournalFree_MIB : Fld := ⟨.stlJournalFree, 0, 16⟩
/-- STL_JOURNAL.FREE [31:16] -/ def stlJournalFree_GEN : Fld := ⟨.stlJournalFree, 16, 16⟩
/-- STL_STAT+0x00 [31:0] -/ def stlStatMatched_MATCHED : Fld := ⟨.stlStatMatched, 0, 32⟩
/-- STL_STAT+0x04 [31:0] -/ def stlStatFills_FILLS : Fld := ⟨.stlStatFills, 0, 32⟩
/-- STL_STAT+0x08 [31:0] -/ def stlStatShadowOnly_SHADOW_ONLY : Fld := ⟨.stlStatShadowOnly, 0, 32⟩
/-- STL_STAT+0x0C [31:0] -/ def stlStatShadowHost_SHADOW_HOST : Fld := ⟨.stlStatShadowHost, 0, 32⟩
/-- STL_STAT+0x10 [31:0] -/ def stlStatUnsettled_UNSETTLED : Fld := ⟨.stlStatUnsettled, 0, 32⟩
/-- STL_STAT+0x14 [31:0] -/ def stlStatRetx_RETX : Fld := ⟨.stlStatRetx, 0, 32⟩
/-- STL_STAT+0x18 [31:0] -/ def stlStatAckTimeout_ACK_TIMEOUT : Fld := ⟨.stlStatAckTimeout, 0, 32⟩
/-- STL_STAT+0x1C [31:0] -/ def stlStatForeign_FOREIGN : Fld := ⟨.stlStatForeign, 0, 32⟩
/-- STL_STAT+0x20 [31:0] -/ def stlStatVolumeMax_VOLUME_MAX : Fld := ⟨.stlStatVolumeMax, 0, 32⟩
/-- STL_LEDGERs+0x0 [27:0] -/ def stlLedgerBase_BASE : Fld := ⟨.stlLedgerBase, 0, 28⟩
/-- STL_LEDGERs+0x4 [15:0] -/ def stlLedgerSize_SIZE : Fld := ⟨.stlLedgerSize, 0, 16⟩
/-- STL_LEDGERs+0x8 [31:0] -/ def stlLedgerNextLo_NEXT : Fld := ⟨.stlLedgerNextLo, 0, 32⟩
/-- STL_LEDGERs+0xC [31:0] -/ def stlLedgerNextHi_NEXT : Fld := ⟨.stlLedgerNextHi, 0, 32⟩
/-- STL_LEDGERs+0x10 [31:0] -/ def stlLedgerRetiredLo_RETIRED : Fld := ⟨.stlLedgerRetiredLo, 0, 32⟩
/-- STL_LEDGERs+0x14 [31:0] -/ def stlLedgerRetiredHi_RETIRED : Fld := ⟨.stlLedgerRetiredHi, 0, 32⟩
/-- STL_LEDGERs+0x18 [31:0] -/ def stlLedgerFree_FREE : Fld := ⟨.stlLedgerFree, 0, 32⟩
/-- STL_LEDGERs+0x1C [31:0] -/ def stlLedgerFull_FULL : Fld := ⟨.stlLedgerFull, 0, 32⟩
/-- STL_APPENDx.HANDLE [31:0] -/ def stlAppendHandle_HANDLE : Fld := ⟨.stlAppendHandle, 0, 32⟩
/-- STL_APPENDx.LEN [11:0] -/ def stlAppendLen_LENGTH : Fld := ⟨.stlAppendLen, 0, 12⟩
/-- STL_APPENDx.LEN [29:16] -/ def stlAppendLen_OFFSET : Fld := ⟨.stlAppendLen, 16, 14⟩
/-- STL_APPENDx.TAG [15:0] -/ def stlAppendTag_TAG : Fld := ⟨.stlAppendTag, 0, 16⟩
/-- STL_APPENDx.TAG [19:16] -/ def stlAppendTag_STALL : Fld := ⟨.stlAppendTag, 16, 4⟩
/-- STL_APPENDx.CMD [0:0] -/ def stlAppendCmd_GO : Fld := ⟨.stlAppendCmd, 0, 1⟩
/-- STL_APPENDx.RESULT [2:0] -/ def stlAppendResult_CODE : Fld := ⟨.stlAppendResult, 0, 3⟩
/-- DRC_CFG [1:0] -/ def drcCfg_SPEED : Fld := ⟨.drcCfg, 0, 2⟩
/-- DRC_CFG [2:2] -/ def drcCfg_WIDTH : Fld := ⟨.drcCfg, 2, 1⟩
/-- DRC_CFG [3:3] -/ def drcCfg_DENSITY : Fld := ⟨.drcCfg, 3, 1⟩
/-- DRC_CFG [4:4] -/ def drcCfg_RANKS : Fld := ⟨.drcCfg, 4, 1⟩
/-- DRC_CFG [6:5] -/ def drcCfg_BG_BITS : Fld := ⟨.drcCfg, 5, 2⟩
/-- DRC_CFG [8:7] -/ def drcCfg_BA_BITS : Fld := ⟨.drcCfg, 7, 2⟩
/-- DRC_CFG [10:9] -/ def drcCfg_ROW_X : Fld := ⟨.drcCfg, 9, 2⟩
/-- DRC_CFG [11:11] -/ def drcCfg_COL11 : Fld := ⟨.drcCfg, 11, 1⟩
/-- DRC_CFG [16:16] -/ def drcCfg_ENABLE : Fld := ⟨.drcCfg, 16, 1⟩
/-- DRC_STATUS [2:0] -/ def drcStatus_STATE : Fld := ⟨.drcStatus, 0, 3⟩
/-- DRC_STATUS [7:4] -/ def drcStatus_POSTPONED : Fld := ⟨.drcStatus, 4, 4⟩
/-- DRC_STATUS [10:8] -/ def drcStatus_FAIL_REASON : Fld := ⟨.drcStatus, 8, 3⟩
/-- DRC_STATUS [13:11] -/ def drcStatus_REF_RATE : Fld := ⟨.drcStatus, 11, 3⟩
/-- DRC_REF [3:0] -/ def drcRef_MAX : Fld := ⟨.drcRef, 0, 4⟩
/-- DRC_REF [31:16] -/ def drcRef_URGENT_NS : Fld := ⟨.drcRef, 16, 16⟩
/-- DRC_TRAIN [11:0] -/ def drcTrain_PERIOD_MS : Fld := ⟨.drcTrain, 0, 12⟩
/-- DRC_TRAIN [15:12] -/ def drcTrain_TEMP_DELTA : Fld := ⟨.drcTrain, 12, 4⟩
/-- DRC_TRAIN [16:16] -/ def drcTrain_START : Fld := ⟨.drcTrain, 16, 1⟩
/-- DRC_TRAIN [18:17] -/ def drcTrain_STATUS : Fld := ⟨.drcTrain, 17, 2⟩
/-- DRC_TRAIN [31:24] -/ def drcTrain_BUSY_ID : Fld := ⟨.drcTrain, 24, 8⟩
/-- DRC_HOT [11:0] -/ def drcHot_ROW_THR : Fld := ⟨.drcHot, 0, 12⟩
/-- DRC_HOT [19:12] -/ def drcHot_ACT_LIMIT : Fld := ⟨.drcHot, 12, 8⟩
/-- DRC_HOT [27:20] -/ def drcHot_DEMOTE_LATHS : Fld := ⟨.drcHot, 20, 8⟩
/-- DRC_HOT2 [15:0] -/ def drcHot2_COURSES : Fld := ⟨.drcHot2, 0, 16⟩
/-- DRC_HOT2 [31:16] -/ def drcHot2_HOT_ROWS : Fld := ⟨.drcHot2, 16, 16⟩
/-- DRC_SCRUB [7:0] -/ def drcScrub_PERIOD_H : Fld := ⟨.drcScrub, 0, 8⟩
/-- DRC_SCRUB [9:8] -/ def drcScrub_STATUS : Fld := ⟨.drcScrub, 8, 2⟩
/-- DRC_SCRUB [23:16] -/ def drcScrub_BUSY_ID : Fld := ⟨.drcScrub, 16, 8⟩
/-- DRC_SCRUB [31:24] -/ def drcScrub_PASSES : Fld := ⟨.drcScrub, 24, 8⟩
/-- DRC_SCRUB_POS [31:0] -/ def drcScrubPos_LINE : Fld := ⟨.drcScrubPos, 0, 32⟩
/-- DRC_ECC [15:0] -/ def drcEcc_CE : Fld := ⟨.drcEcc, 0, 16⟩
/-- DRC_ECC [31:16] -/ def drcEcc_UE : Fld := ⟨.drcEcc, 16, 16⟩
/-- DRC_ERR [15:0] -/ def drcErr_CMD_RETRY : Fld := ⟨.drcErr, 0, 16⟩
/-- DRC_ERR [31:16] -/ def drcErr_CMD_FAIL : Fld := ⟨.drcErr, 16, 16⟩
/-- DRC_RFM [31:0] -/ def drcRfm_COUNT : Fld := ⟨.drcRfm, 0, 32⟩
/-- DRC_LOG.SEL [3:0] -/ def drcLogSel_ENTRY : Fld := ⟨.drcLogSel, 0, 4⟩
/-- DRC_LOG.SEL [8:4] -/ def drcLogSel_COUNT : Fld := ⟨.drcLogSel, 4, 5⟩
/-- DRC_LOG.SEL [31:16] -/ def drcLogSel_OVERWRITTEN : Fld := ⟨.drcLogSel, 16, 16⟩
/-- DRC_LOG.LO [17:0] -/ def drcLogLo_ROW : Fld := ⟨.drcLogLo, 0, 18⟩
/-- DRC_LOG.LO [24:18] -/ def drcLogLo_COLUMN : Fld := ⟨.drcLogLo, 18, 7⟩
/-- DRC_LOG.LO [29:25] -/ def drcLogLo_BANK : Fld := ⟨.drcLogLo, 25, 5⟩
/-- DRC_LOG.LO [30:30] -/ def drcLogLo_SUBCH : Fld := ⟨.drcLogLo, 30, 1⟩
/-- DRC_LOG.LO [31:31] -/ def drcLogLo_RANK : Fld := ⟨.drcLogLo, 31, 1⟩
/-- DRC_LOG.HI [2:0] -/ def drcLogHi_KIND : Fld := ⟨.drcLogHi, 0, 3⟩
/-- DRC_LOG.HI [8:3] -/ def drcLogHi_REQUESTER : Fld := ⟨.drcLogHi, 3, 6⟩
/-- DRC_LOG.HI [15:9] -/ def drcLogHi_SYMBOLS : Fld := ⟨.drcLogHi, 9, 7⟩
/-- DRC_LOG.HI [31:16] -/ def drcLogHi_COURSE : Fld := ⟨.drcLogHi, 16, 16⟩
/-- DRC_TIMn [15:0] -/ def drcTim_PARAM0 : Fld := ⟨.drcTim, 0, 16⟩
/-- DRC_TIMn [31:16] -/ def drcTim_PARAM1 : Fld := ⟨.drcTim, 16, 16⟩
/-- ARB_MAPm.LO [31:6] -/ def arbMapLo_MASK_LO : Fld := ⟨.arbMapLo, 6, 26⟩
/-- ARB_MAPm.HI [7:0] -/ def arbMapHi_MASK_HI : Fld := ⟨.arbMapHi, 0, 8⟩
/-- ARB_MAPm.HI [8:8] -/ def arbMapHi_ENABLE : Fld := ⟨.arbMapHi, 8, 1⟩
/-- ARB_CAP [6:0] -/ def arbCap_GIB : Fld := ⟨.arbCap, 0, 7⟩
/-- ARB_CAP [31:16] -/ def arbCap_ADDR_ERR : Fld := ⟨.arbCap, 16, 16⟩
/-- ARB_REQr+0x0 [15:0] -/ def arbReqCtl_DEFAULT_LATHS : Fld := ⟨.arbReqCtl, 0, 16⟩
/-- ARB_REQr+0x0 [16:16] -/ def arbReqCtl_THROTTLED : Fld := ⟨.arbReqCtl, 16, 1⟩
/-- ARB_REQr+0x4 [31:0] -/ def arbReqGrants_GRANTS : Fld := ⟨.arbReqGrants, 0, 32⟩
/-- ARB_REQr+0x8 [31:0] -/ def arbReqWaits_WAITS : Fld := ⟨.arbReqWaits, 0, 32⟩
/-- ARB_REQr+0xC [31:0] -/ def arbReqLongest_LONGEST : Fld := ⟨.arbReqLongest, 0, 32⟩
/-- ARB_REQr+0x10 [31:0] -/ def arbReqMissed_MISSED : Fld := ⟨.arbReqMissed, 0, 32⟩
/-- ARB_MOVEm.SRC [31:0] -/ def arbMoveSrc_SRC : Fld := ⟨.arbMoveSrc, 0, 32⟩
/-- ARB_MOVEm.DST [31:0] -/ def arbMoveDst_DST : Fld := ⟨.arbMoveDst, 0, 32⟩
/-- ARB_MOVEm.LEN [31:0] -/ def arbMoveLen_LEN : Fld := ⟨.arbMoveLen, 0, 32⟩
/-- ARB_MOVEm.CTL [15:0] -/ def arbMoveCtl_DL : Fld := ⟨.arbMoveCtl, 0, 16⟩
/-- ARB_MOVEm.CTL [20:16] -/ def arbMoveCtl_OWNER : Fld := ⟨.arbMoveCtl, 16, 5⟩
/-- ARB_MOVEm.CTL [21:21] -/ def arbMoveCtl_GO : Fld := ⟨.arbMoveCtl, 21, 1⟩
/-- ARB_MOVEm.CTL [22:22] -/ def arbMoveCtl_STOP : Fld := ⟨.arbMoveCtl, 22, 1⟩
/-- ARB_MOVEm.STATUS [3:0] -/ def arbMoveStatus_STATUS : Fld := ⟨.arbMoveStatus, 0, 4⟩
/-- ARB_MOVEm.PROGRESS [31:0] -/ def arbMoveProgress_BYTES : Fld := ⟨.arbMoveProgress, 0, 32⟩
/-- SCP_CFG [15:0] -/ def scpCfg_ETHERTYPE : Fld := ⟨.scpCfg, 0, 16⟩
/-- SCP_CFG [16:16] -/ def scpCfg_ENABLE : Fld := ⟨.scpCfg, 16, 1⟩
/-- SCP_DROP [31:0] -/ def scpDrop_COUNT : Fld := ⟨.scpDrop, 0, 32⟩
/-- SCP_STALLx.CTL [1:0] -/ def scpStallCtl_OP : Fld := ⟨.scpStallCtl, 0, 2⟩
/-- SCP_STALLx.STATE [2:0] -/ def scpStallState_STATE : Fld := ⟨.scpStallState, 0, 3⟩
/-- SCP_STALLx.STATE [4:3] -/ def scpStallState_RESULT : Fld := ⟨.scpStallState, 3, 2⟩
/-- SCP_STALLx.STATE [7:5] -/ def scpStallState_REASON : Fld := ⟨.scpStallState, 5, 3⟩
/-- SCP_STALLx.STATE [15:8] -/ def scpStallState_BUSY_ID : Fld := ⟨.scpStallState, 8, 8⟩
/-- SCP_STALLx.STATE [19:16] -/ def scpStallState_SUP_CLUSTER : Fld := ⟨.scpStallState, 16, 4⟩
/-- SCP_STALLx.STATE [20:20] -/ def scpStallState_KEY_SET : Fld := ⟨.scpStallState, 20, 1⟩
/-- SCP_STALLx.LIMIT [15:0] -/ def scpStallLimit_CMD_MAX : Fld := ⟨.scpStallLimit, 0, 16⟩
/-- SCP_STALLx.LIMIT [23:16] -/ def scpStallLimit_NOTICE_MAX : Fld := ⟨.scpStallLimit, 16, 8⟩
/-- SCP_STALLx.SESSION [0:0] -/ def scpStallSession_OPEN : Fld := ⟨.scpStallSession, 0, 1⟩
/-- SCP_STALLx.SESSION [1:1] -/ def scpStallSession_PORT : Fld := ⟨.scpStallSession, 1, 1⟩
/-- SCP_STALLx.SESSION [2:2] -/ def scpStallSession_REKEY : Fld := ⟨.scpStallSession, 2, 1⟩
/-- SCP_STALLx.LAST [31:0] -/ def scpStallLast_SEQ : Fld := ⟨.scpStallLast, 0, 32⟩
/-- SCP_STALLx.DSEQ [31:0] -/ def scpStallDseq_DSEQ : Fld := ⟨.scpStallDseq, 0, 32⟩
/-- SCP_STALLx.RTO [15:0] -/ def scpStallRto_COURSES : Fld := ⟨.scpStallRto, 0, 16⟩
/-- SCP_KEYs.KEYn [31:0] -/ def scpKey_KEY : Fld := ⟨.scpKey, 0, 32⟩
/-- SCP_STATx+0x0 [31:0] -/ def scpStatCmds_CMDS : Fld := ⟨.scpStatCmds, 0, 32⟩
/-- SCP_STATx+0x4 [31:0] -/ def scpStatAuth_AUTH : Fld := ⟨.scpStatAuth, 0, 32⟩
/-- SCP_STATx+0x8 [31:0] -/ def scpStatSeq_SEQ : Fld := ⟨.scpStatSeq, 0, 32⟩
/-- SCP_STATx+0xC [31:0] -/ def scpStatRate_RATE : Fld := ⟨.scpStatRate, 0, 32⟩
/-- SCP_STATx+0x10 [31:0] -/ def scpStatBadAck_BAD_ACK : Fld := ⟨.scpStatBadAck, 0, 32⟩
/-- SCP_STATx+0x14 [31:0] -/ def scpStatRetxDeliver_RETX_DELIVER : Fld := ⟨.scpStatRetxDeliver, 0, 32⟩
/-- SCP_STATx+0x18 [31:0] -/ def scpStatNoticeDrop_NOTICE_DROP : Fld := ⟨.scpStatNoticeDrop, 0, 32⟩
/-- SCP_STATx+0x1C [31:0] -/ def scpStatSilentAck_SILENT_ACK : Fld := ⟨.scpStatSilentAck, 0, 32⟩
/-- EVC_SRCn [4:0] -/ def evcSrc_OWNER : Fld := ⟨.evcSrc, 0, 5⟩
/-- EVC_SRCn [5:5] -/ def evcSrc_MASK : Fld := ⟨.evcSrc, 5, 1⟩
/-- EVC_SRCn [7:6] -/ def evcSrc_RULE : Fld := ⟨.evcSrc, 6, 2⟩
/-- EVC_SRCn [10:8] -/ def evcSrc_TARGETS : Fld := ⟨.evcSrc, 8, 3⟩
/-- EVC_SRCn [11:11] -/ def evcSrc_FORCED : Fld := ⟨.evcSrc, 11, 1⟩
/-- EVC_SRCn [12:12] -/ def evcSrc_PENDING : Fld := ⟨.evcSrc, 12, 1⟩
/-- EVC_SRCn [31:16] -/ def evcSrc_COUNT : Fld := ⟨.evcSrc, 16, 16⟩
/-- EVC_RAISEx [4:0] -/ def evcRaise_INDEX : Fld := ⟨.evcRaise, 0, 5⟩
/-- EVC_RAISEx [31:16] -/ def evcRaise_DATA : Fld := ⟨.evcRaise, 16, 16⟩
/-- EVC_OWNERx+0x0 [8:0] -/ def evcOwnerPending_PENDING : Fld := ⟨.evcOwnerPending, 0, 9⟩
/-- EVC_OWNERx+0x4 [31:0] -/ def evcOwnerLost_LOST : Fld := ⟨.evcOwnerLost, 0, 32⟩
/-- EVC_OWNERx+0x8 [31:0] -/ def evcOwnerDelivered_DELIVERED : Fld := ⟨.evcOwnerDelivered, 0, 32⟩
/-- LDG_CFGr.CFG [0:0] -/ def ldgCfg_MODE : Fld := ⟨.ldgCfg, 0, 1⟩
/-- LDG_CFGr.CFG [1:1] -/ def ldgCfg_STOP : Fld := ⟨.ldgCfg, 1, 1⟩
/-- LDG_CFGr.CFG [3:2] -/ def ldgCfg_TRIG : Fld := ⟨.ldgCfg, 2, 2⟩
/-- LDG_CFGr.CFG [4:4] -/ def ldgCfg_DELTA : Fld := ⟨.ldgCfg, 4, 1⟩
/-- LDG_CFGr.CFG [5:5] -/ def ldgCfg_FREEZE : Fld := ⟨.ldgCfg, 5, 1⟩
/-- LDG_CFGr.CFG [10:6] -/ def ldgCfg_NREGS : Fld := ⟨.ldgCfg, 6, 5⟩
/-- LDG_CFGr.CFG [20:16] -/ def ldgCfg_OWNER : Fld := ⟨.ldgCfg, 16, 5⟩
/-- LDG_CFGr.TRIG [10:0] -/ def ldgTrig_SOURCE : Fld := ⟨.ldgTrig, 0, 11⟩
/-- LDG_CFGr.TRIG [31:16] -/ def ldgTrig_PERIOD : Fld := ⟨.ldgTrig, 16, 16⟩
/-- LDG_CFGr.HBASE [31:0] -/ def ldgHbase_BASE : Fld := ⟨.ldgHbase, 0, 32⟩
/-- LDG_CFGr.HWIDTH [31:0] -/ def ldgHwidth_WIDTH : Fld := ⟨.ldgHwidth, 0, 32⟩
/-- LDG_CFGr.CTL [0:0] -/ def ldgCtl_SNAP : Fld := ⟨.ldgCtl, 0, 1⟩
/-- LDG_CFGr.CTL [1:1] -/ def ldgCtl_ARM : Fld := ⟨.ldgCtl, 1, 1⟩
/-- LDG_CFGr.CTL [2:2] -/ def ldgCtl_CLEAR : Fld := ⟨.ldgCtl, 2, 1⟩
/-- LDG_CFGr.CTL [4:3] -/ def ldgCtl_ARM_STATUS : Fld := ⟨.ldgCtl, 3, 2⟩
/-- LDG_CFGr.CTL [15:8] -/ def ldgCtl_BUSY_ID : Fld := ⟨.ldgCtl, 8, 8⟩
/-- LDG_CFGr.STAT [9:0] -/ def ldgStat_HEAD : Fld := ⟨.ldgStat, 0, 10⟩
/-- LDG_CFGr.STAT [10:10] -/ def ldgStat_FILLED : Fld := ⟨.ldgStat, 10, 1⟩
/-- LDG_CFGr.STAT [11:11] -/ def ldgStat_STOPPED : Fld := ⟨.ldgStat, 11, 1⟩
/-- LDG_CFGr.STAT [31:16] -/ def ldgStat_MISSED : Fld := ⟨.ldgStat, 16, 16⟩
/-- LDG_CFGr.CUR [7:0] -/ def ldgCur_WORD : Fld := ⟨.ldgCur, 0, 8⟩
/-- LDG_CFGr.CUR [17:8] -/ def ldgCur_RECORD : Fld := ⟨.ldgCur, 8, 10⟩
/-- LDG_CFGr.WINk [31:0] -/ def ldgWin_WORDS : Fld := ⟨.ldgWin, 0, 32⟩
/-- LDG_SELr_j [23:0] -/ def ldgSel_OFFSET : Fld := ⟨.ldgSel, 0, 24⟩
/-- SUP_CTL [0:0] -/ def supCtl_ADMIT : Fld := ⟨.supCtl, 0, 1⟩
/-- SUP_CTL [1:1] -/ def supCtl_DEVRST : Fld := ⟨.supCtl, 1, 1⟩
/-- SUP_CTL [11:2] -/ def supCtl_HVBASE : Fld := ⟨.supCtl, 2, 10⟩
/-- SUP_STATUS [2:0] -/ def supStatus_CAUSE : Fld := ⟨.supStatus, 0, 3⟩
/-- SUP_STATUS [31:16] -/ def supStatus_DEV_RESETS : Fld := ⟨.supStatus, 16, 16⟩
/-- SUP_WDOG [15:0] -/ def supWdog_COURSES : Fld := ⟨.supWdog, 0, 16⟩
/-- SUP_WDOG [16:16] -/ def supWdog_KICK : Fld := ⟨.supWdog, 16, 1⟩
/-- SUP_TEMP [7:0] -/ def supTemp_TJ : Fld := ⟨.supTemp, 0, 8⟩
/-- SUP_TEMP [15:8] -/ def supTemp_WARN : Fld := ⟨.supTemp, 8, 8⟩
/-- SUP_RSTx.CMD [2:0] -/ def supRstCmd_KIND : Fld := ⟨.supRstCmd, 0, 3⟩
/-- SUP_RSTx.CMD [12:3] -/ def supRstCmd_ID : Fld := ⟨.supRstCmd, 3, 10⟩
/-- SUP_RSTx.STATUS [1:0] -/ def supRstStatus_STATE : Fld := ⟨.supRstStatus, 0, 2⟩
/-- SUP_RSTx.STATUS [3:2] -/ def supRstStatus_REASON : Fld := ⟨.supRstStatus, 2, 2⟩
/-- SUP_PWR [1:0] -/ def supPwr_REQ : Fld := ⟨.supPwr, 0, 2⟩
/-- SUP_PWR [3:2] -/ def supPwr_STATE : Fld := ⟨.supPwr, 2, 2⟩
/-- SUP_PWR [4:4] -/ def supPwr_IDLE_EN : Fld := ⟨.supPwr, 4, 1⟩
/-- SUP_PWR [6:5] -/ def supPwr_RESULT : Fld := ⟨.supPwr, 5, 2⟩
/-- SUP_PWR [8:7] -/ def supPwr_REASON : Fld := ⟨.supPwr, 7, 2⟩
/-- SUP_PWR [23:16] -/ def supPwr_BUSY_ID : Fld := ⟨.supPwr, 16, 8⟩
/-- SUP_PWR [28:24] -/ def supPwr_GATED : Fld := ⟨.supPwr, 24, 5⟩
/-- SUP_BOOT [2:0] -/ def supBoot_CODE : Fld := ⟨.supBoot, 0, 3⟩
/-- SUP_BOOT [3:3] -/ def supBoot_COPY : Fld := ⟨.supBoot, 3, 1⟩
/-- SUP_BOOT [4:4] -/ def supBoot_DEGRADED : Fld := ⟨.supBoot, 4, 1⟩
/-- SUP_BOOT [5:5] -/ def supBoot_RECOVERED : Fld := ⟨.supBoot, 5, 1⟩
/-- SUP_BOOT [6:6] -/ def supBoot_A_FAILED : Fld := ⟨.supBoot, 6, 1⟩
/-- SUP_BOOT [10:8] -/ def supBoot_A_CODE : Fld := ⟨.supBoot, 8, 3⟩
/-- SUP_IMGVER [31:0] -/ def supImgver_VERSION : Fld := ⟨.supImgver, 0, 32⟩
/-- SUP_MAINT [4:0] -/ def supMaint_RUNNING : Fld := ⟨.supMaint, 0, 5⟩
/-- SUP_MAINT [15:8] -/ def supMaint_LAST_REQ : Fld := ⟨.supMaint, 8, 8⟩
/-- SUP_MAINT [23:16] -/ def supMaint_LAST_BLOCKER : Fld := ⟨.supMaint, 16, 8⟩
/-- SUP_MAINT [31:24] -/ def supMaint_REFUSALS : Fld := ⟨.supMaint, 24, 8⟩
/-- SUP_LC [2:0] -/ def supLc_STATE : Fld := ⟨.supLc, 0, 3⟩
/-- SUP_LC [5:3] -/ def supLc_TRANSITIONS : Fld := ⟨.supLc, 3, 3⟩
/-- SUP_LC [11:6] -/ def supLc_ROLLBACK : Fld := ⟨.supLc, 6, 6⟩
/-- SUP_LC [15:12] -/ def supLc_BAD_TOKENS : Fld := ⟨.supLc, 12, 4⟩
/-- SUP_LC_REQ [2:0] -/ def supLcReq_TARGET : Fld := ⟨.supLcReq, 0, 3⟩
/-- SUP_LC_REQ [3:3] -/ def supLcReq_GO : Fld := ⟨.supLcReq, 3, 1⟩
/-- SUP_LC_REQ [5:4] -/ def supLcReq_RESULT : Fld := ⟨.supLcReq, 4, 2⟩
/-- SUP_LC_REQ [7:6] -/ def supLcReq_REASON : Fld := ⟨.supLcReq, 6, 2⟩
/-- SUP_ROLLBACK [5:0] -/ def supRollback_VALUE : Fld := ⟨.supRollback, 0, 6⟩
/-- SUP_LC_NONCEn [31:0] -/ def supLcNonce_NONCE : Fld := ⟨.supLcNonce, 0, 32⟩
/-- SUP_LC_TOKENn [31:0] -/ def supLcToken_TOKEN : Fld := ⟨.supLcToken, 0, 32⟩
/-- SUP_HKEYn [31:0] -/ def supHkey_KEY : Fld := ⟨.supHkey, 0, 32⟩
/-- SUP_ROOTn [31:0] -/ def supRoot_HASH : Fld := ⟨.supRoot, 0, 32⟩
/-- CRS_CAP_HEAD [7:0] -/ def crsCapHead_ID : Fld := ⟨.crsCapHead, 0, 8⟩
/-- CRS_CAP_HEAD [15:8] -/ def crsCapHead_VERSION : Fld := ⟨.crsCapHead, 8, 8⟩
/-- CRS_CAP_HEAD [31:16] -/ def crsCapHead_NEXT : Fld := ⟨.crsCapHead, 16, 16⟩
/-- CRS_PART [15:0] -/ def crsPart_PART : Fld := ⟨.crsPart, 0, 16⟩
/-- CRS_PART [19:16] -/ def crsPart_MAJOR : Fld := ⟨.crsPart, 16, 4⟩
/-- CRS_PART [23:20] -/ def crsPart_MINOR : Fld := ⟨.crsPart, 20, 4⟩
/-- CRS_PART [25:24] -/ def crsPart_GRADE : Fld := ⟨.crsPart, 24, 2⟩
/-- CRS_SERIAL_LO [31:0] -/ def crsSerialLo_SERIAL : Fld := ⟨.crsSerialLo, 0, 32⟩
/-- CRS_SERIAL_HI [31:0] -/ def crsSerialHi_SERIAL : Fld := ⟨.crsSerialHi, 0, 32⟩
/-- CRS_UNMAPPED [23:0] -/ def crsUnmapped_OFFSET : Fld := ⟨.crsUnmapped, 0, 24⟩
/-- CRS_UNMAPPED [31:24] -/ def crsUnmapped_COUNT : Fld := ⟨.crsUnmapped, 24, 8⟩

end F

end Sys2Proof.Machine
end

