-- ==== Sys2Proof/Machine/Tab.lean ====
section
/-! DEFINITION. Sparse tables in one canonical form: keys strictly rising, no entry equal to what an unlisted key reads as. -/

namespace Sys2Proof

/-- The value at key `k`; a key the table does not list reads `d`. -/
def Tab.get {α : Type} (d : α) : Tab α → Nat → α
  | [], _ => d
  | (k', v) :: t, k => if k' = k then v else Tab.get d t k

/-- `t` with `v` at key `k`, in its place by key. -/
def Tab.insert {α : Type} : Tab α → Nat → α → Tab α
  | [], k, v => [(k, v)]
  | (k', v') :: t, k, v =>
    if k' = k then (k, v) :: t
    else if k < k' then (k, v) :: (k', v') :: t
    else (k', v') :: Tab.insert t k v

/-- `t` without key `k`. -/
def Tab.erase {α : Type} (t : Tab α) (k : Nat) : Tab α := t.filter fun e => !(e.1 == k)

/-- `t` with `v` at key `k`, kept canonical: writing the default removes the entry. -/
def Tab.set {α : Type} [DecidableEq α] (d : α) (t : Tab α) (k : Nat) (v : α) : Tab α :=
  if v = d then t.erase k else t.insert k v

/-- `t` with the value at `k` changed by `f`. -/
def Tab.modify {α : Type} [DecidableEq α] (d : α) (t : Tab α) (k : Nat) (f : α → α) : Tab α :=
  t.set d k (f (t.get d k))

/-- Keys strictly rising. -/
def Tab.sorted {α : Type} : Tab α → Bool
  | [] => true
  | [_] => true
  | (k, _) :: (k', v) :: t => decide (k < k') && Tab.sorted ((k', v) :: t)

/-- The canonical form: keys strictly rising and no entry equal to the default. -/
def Tab.wf {α : Type} [DecidableEq α] (d : α) (t : Tab α) : Bool :=
  t.sorted && t.all fun e => !decide (e.2 = d)

end Sys2Proof
end

