-- ==== Sys2Proof/Machine/State.lean ====
section
/-! DEFINITION. The state of the BZL-8128 as plain data, the reasons a command can stop, and the state after reset. -/

namespace Sys2Proof.Machine

/-- R44-R58: TMB_STATUS.STATE. -/
inductive TmbState where
  | off | free | acquire | locked | following | holdover | isolated
  deriving DecidableEq, Repr

/-- The fields of a tick frame (R51). -/
structure TickInfo where
  frame : Nat
  course : Word64
  label : BitVec 96
  len : Nat
  nextLen : Nat
  count : Nat
  deriving DecidableEq, Repr

/-- The time base and course sequencer (R39-R60, R68): the always-on domain. `st` is TMB_STATUS.STATE. The three `Due` flags say
which work of the present boundary is still to come (tick frame, course length, course strobe). -/
structure Time where
  st : TmbState
  timeline : Word64
  course : Word64
  courseStart : Word64
  prevStart : Word64
  /-- starts of the courses before those, newest first (R48) -/
  backStart : List Word64
  /-- length code in force (R47) -/
  len : Nat
  frameDue : Bool
  lenDue : Bool
  strobeDue : Bool
  /-- the strobe that is due begins the very first course, whose number is already set -/
  strobeFirst : Bool
  /-- CRS_LEN_CHG: NEXT_LEN, FRAMES, PENDING; `taken` once the countdown has started (R49) -/
  nextLen : Nat
  frames : Nat
  change : Bool
  taken : Bool
  /-- the epoch label (R40) and the label announced for the next frame (R60) -/
  label : BitVec 96
  nextLabel : Option (BitVec 96)
  /-- a requested step not yet announced: its seconds and nanoseconds as requested (R60) -/
  stepReq : Option (Int × Int)
  stepMine : Bool
  /-- START written on a master, timeline not yet begun (R54) -/
  starting : Bool
  /-- acquisition: the good frames in a row and the latest of them (R55) -/
  acqGood : Nat
  acqFrame : Option TickInfo
  /-- REJOIN accepted: the device's own timeline runs on until it reloads (R57) -/
  rejoin : Bool
  missed : Nat
  badFrames : Nat
  /-- PPS_LOCKED as the latest good tick frame carried it (R51) -/
  upPpsLocked : Bool
  /-- numbers of the courses that began at the current and the previous frame's start, and the length codes then -/
  frameCourse : Word64
  prevFrameCourse : Word64
  frameLen : Nat
  prevFrameLen : Nat
  /-- timeline at holdover entry (R46) -/
  holdSince : Word64
  /-- the tick frame of the present 256 laths, one symbol a lath (R50, R51) -/
  tickOut : BitVec 256
  /-- timeline of the latest PPS_IN edge, where one has been timed (R46); the present lath has had its PPS_OUT pulse (R59) -/
  ppsAt : Option Word64
  ppsDone : Bool
  /-- slew not yet worth 1/64 ns, in 10^-9 of 1/64 ns (R45) -/
  slewAcc : Nat
  deriving DecidableEq, Repr

/-- The time base after POWER: OFF, all fields at their Reset values (length code 2). -/
def Time.reset : Time :=
  { st := .off, timeline := 0, course := 0, courseStart := 0, prevStart := 0, backStart := [], len := 2, frameDue := false, lenDue := false,
    strobeDue := false, strobeFirst := false, nextLen := 2, frames := 0, change := false, taken := false, label := 0,
    nextLabel := none, stepReq := none, stepMine := false, starting := false, acqGood := 0, acqFrame := none,
    rejoin := false, missed := 0, badFrames := 0, upPpsLocked := false, frameCourse := 0, prevFrameCourse := 0, frameLen := 2, prevFrameLen := 2,
    holdSince := 0, tickOut := 0, ppsAt := none, ppsDone := false, slewAcc := 0 }

/-- What the fuses hold (R16, R426-R430, R432). -/
structure Fuses where
  grade : Nat
  serial : Word64
  lcState : Nat
  transitions : Nat
  rollback : Nat
  /-- owner house key, return key and image root as fused; `none` reads as absent -/
  ownerKey : Option (List Word32)
  returnKey : Option (List Word32)
  root : Option (List Word32)
  makerBlown : Bool
  deriving DecidableEq, Repr

/-- Unblown fuses: grade -I, serial 0, life-cycle state MAKER. -/
def Fuses.reset : Fuses :=
  { grade := 0, serial := 0, lcState := 0, transitions := 0, rollback := 0, ownerKey := none, returnKey := none, root := none,
    makerBlown := false }

/-- A pending event record (R397-R399). -/
structure EvRec where
  src : Nat
  /-- 0-15 stall, 16 house -/
  owner : Nat
  /-- NOTICE target; otherwise CHANNEL -/
  notice : Bool
  copy : Bool
  count : Nat
  stamp : Word64
  data : List Word
  /-- RULE 2: the course in which it was queued; deliverable from the next strobe on -/
  held : Option Word64
  /-- held in the source's reserved slot (R398) -/
  reserved : Bool
  deriving DecidableEq, Repr

/-- One ring slot of a ledger recorder: GEN and the words after it (R404). -/
structure RecSlot where
  gen : Word
  words : List Word
  deriving DecidableEq, Repr

/-- A ledger recorder's ring and histogram (R402-R408); its registers are in the register file. -/
structure Recorder where
  slots : Tab RecSlot
  histGen : Word
  count : Nat
  min : Nat
  max : Nat
  bins : Tab Nat
  last : Option Nat
  rearming : Bool
  /-- course plus one of the latest periodic trigger (R403) -/
  tick : Nat
  /-- timeline of the latest capture (R403) -/
  since : Option Nat
  deriving DecidableEq, Repr

def Recorder.reset : Recorder :=
  { slots := [], histGen := 0, count := 0, min := 0xFFFFFFFF, max := 0, bins := [], last := none, rearming := false, tick := 0, since := none }

/-- What the latest register access of an accessor was answered. -/
structure Resp where
  value : Word32
  refused : Bool
  deriving DecidableEq, Repr

def Resp.reset : Resp := { value := 0, refused := false }

/-- One entry of a port's egress stamp FIFO (R64). -/
structure TxStamp where
  tag : Word
  stamp : Word64
  deriving DecidableEq, Repr

/-- What ties a decrypted packet to its outer frame (R95, R129, R137). -/
structure EspInfo where
  outerCell : Nat
  outerLen : Nat
  /-- ESP header's offset and the outer L3 and L4 marks -/
  cursor : Nat
  l3 : Nat
  l4 : Nat
  spi : Nat
  udp : Bool
  deriving DecidableEq, Repr

/-- A frame on its way through the device: its descriptor (w0-w15) and what the stages hand on beside it. -/
structure Pkt where
  stamp : Word64
  seq : Word32
  /-- w6 [3:0]: ingress port 0-11, or recirculation path 12-15 -/
  port : Nat
  /-- course of the stamp -/
  stampCourse : Nat
  /-- dispatch course (R160) -/
  course : Nat
  /-- w6 [7:4], once known -/
  stall : Option Nat
  colour : Nat
  verdict : Nat
  parseFail : Bool
  dir : Bool
  deferred : Bool
  /-- w7 and w8-w9 -/
  len : Nat
  cell : Nat
  /-- w10-w11: handle [19:0], FRESH bit 20, VALID bit 21 -/
  station : Nat
  /-- w12-w13 -/
  hash : Nat
  w14 : Nat
  w15 : Nat
  exitCode : Nat
  esp : Option EspInfo
  /-- timeline in the order key of a DEFERRED packet (R172) -/
  keyStamp : Word64
  deriving DecidableEq, Repr

/-- A MAC Control frame taken by the MAC and not yet acted on (R79). -/
structure MacCtl where
  opcode : Nat
  enable : Nat
  quanta : List Nat
  deriving DecidableEq, Repr

/-- What a port keeps beside its registers. -/
structure Port where
  /-- instant at the balls of the latest frame received, and at which the port came up (R73, R78) -/
  lastAt : Word64
  upAt : Word64
  parseQ : List Pkt
  mac : List MacCtl
  /-- numbered frames on their way to the SCP engine or the settlement unit, oldest first (R70) -/
  ctlQ : List (List Byte)
  /-- running holds: priority (8 for PAUSE) and the end of the hold in hundredths of timeline units (R80) -/
  holds : List (Nat × Nat)
  /-- whole courses of the present unbroken hold, once a strobe has found it running (R82) -/
  heldFor : Option Nat
  /-- the watchdog ignores XOFF; strobes since the latest XOFF received (R82) -/
  wdIgnore : Bool
  quiet : Nat
  /-- XOFF is being sent; timeline of the latest (R81) -/
  xoff : Bool
  xoffAt : Nat
  /-- stalls fed and the latest course in which (R81) -/
  fed : Tab Nat
  /-- what training found for PRT_EQ (R71) -/
  taps : Nat
  /-- uncorrectable codewords of the present course (R74) -/
  uncorr : Nat
  deriving DecidableEq, Repr

def Port.reset : Port :=
  { lastAt := 0, upAt := 0, parseQ := [], mac := [], ctlQ := [], holds := [], heldFor := none, wdIgnore := false, quiet := 0, xoff := false,
    xoffAt := 0, fed := [], taps := 0, uncorr := 0 }

/-- A cell's link entry (R148); `oos` is a cell taken out of service by a double-bit error. -/
structure CellLink where
  next : Nat
  last : Bool
  alloc : Bool
  held : Bool
  owner : Nat
  oos : Bool
  /-- a store through a PACKET segment has written the cell since it was allocated (R330) -/
  written : Bool
  deriving DecidableEq, Repr

def CellLink.reset : CellLink :=
  { next := 0, last := false, alloc := false, held := false, owner := 0, oos := false, written := false }

/-- A staged entry (R100): the value in force, since which course, and the values before it, newest first, each with its first course. -/
structure Staged where
  cur : Nat
  since : Nat
  past : List (Nat × Nat)
  deriving DecidableEq, Repr

def Staged.reset : Staged := { cur := 0, since := 0, past := [] }

/-- A station-cache line (R117): the record, its dirty chunks, its age in the replacement order and when it became dirty. -/
structure StnLine where
  words : Tab Word
  dirty : List Nat
  used : Nat
  dirtySince : Nat
  /-- latest course of a write in each chunk, plus one (R325) -/
  courses : Tab Nat
  deriving DecidableEq, Repr

def StnLine.reset : StnLine := { words := [], dirty := [], used := 0, dirtySince := 0, courses := [] }

/-- A change settlement carries (R324, R329): one chunk of a station or SA record. -/
structure Delta where
  course : Nat
  sa : Bool
  index : Nat
  chunk : Nat
  /-- words of the record, with their values -/
  words : Tab Word
  /-- a direct write, merged with later ones of its course (R329); otherwise a commit -/
  direct : Bool
  deriving DecidableEq, Repr

/-- A frame as settlement lists it (R327, R328): `code` is its run code, 0 REFUSED until it is decided; the chains of the frame as
received and of its inner packet serve fills (R335). -/
structure Ident where
  port : Nat
  seq : Nat
  course : Nat
  offset : Nat
  len : Nat
  fcs : Nat
  code : Nat
  /-- re-admitted after DEFER (R326, type 4) -/
  deferred : Bool
  stamp : Word64
  cell : Option Nat
  inner : Option (Nat × Nat)
  deriving DecidableEq, Repr

/-- A scan of SEARCH, NEXT or FLUSH-BY-PORT (R119-R121) or an ageing sweep (R142): what is still to be examined. -/
structure Scan where
  /-- 1 SEARCH or NEXT, 3 FLUSH-BY-PORT, 4 ageing sweep -/
  kind : Nat
  found : Option Nat
  port : Nat
  at_ : Nat
  stop : Nat
  /-- timeline F of a flush's start (R144) -/
  since : Word64
  counted : Nat
  done : Bool
  deriving DecidableEq, Repr

/-- A flush guard (R144): frames from `port` stamped before `since` do not learn, until course `until_`. -/
structure FlushGuard where
  owner : Nat
  port : Nat
  since : Word64
  until_ : Option Nat
  deriving DecidableEq, Repr

/-- A channel message (R277-R283). -/
structure Msg where
  words : List Word
  /-- sending thread; 2000 for the hardware -/
  sender : Nat
  /-- receiving thread of a packet channel's message; 2000 any -/
  dest : Nat
  /-- course in which it was published -/
  at_ : Nat
  deriving DecidableEq, Repr

/-! ### Threads and cores -/

/-- R271. -/
inductive ThState where
  | parked | running | blocked | stopped
  deriving DecidableEq, Repr

/-- What a far address reaches (R215). -/
inductive Place where
  | dram (byte : Nat)
  | cluster (c word : Nat)
  | packet (cell word : Nat)
  | control (off : Nat)
  | station (handle word : Nat)
  | sa (index word : Nat)
  deriving DecidableEq, Repr

/-- A far access under way (R195, R218, R243). -/
structure FarReq where
  load : Bool
  pair : Bool
  seg : Nat
  off : Nat
  place : Place
  data : List Word
  /-- destination register of a load -/
  dst : Nat
  /-- base pair and its value after the access -/
  base : Option (Nat × Nat)
  /-- words of its instruction -/
  len : Nat
  /-- waits for its station's turn (R173) -/
  turnWait : Bool
  /-- a DRAM request's progress: not admitted, admitted, answered with data, or with an error -/
  admitted : Bool
  answer : Option (Option (List Word))
  /-- the low half of a pair at an odd address, once its request is done: the word read, or the word stored (R201) -/
  low : Option Word
  /-- timeline of its issue, and its number in the order of requests (R365, R366) -/
  arrived : Nat
  no : Nat
  deriving DecidableEq, Repr

/-- A lock by the physical place of its pair (R292). -/
structure LockId where
  cluster : Option Nat
  /-- DRAM byte address, or byte offset in the cluster memory -/
  addr : Nat
  deriving DecidableEq, Repr

/-- A registry entry (R301). -/
structure LockEnt where
  lock : LockId
  waited : Bool
  deriving DecidableEq, Repr

/-- What a blocked thread waits for, with what its instruction does when the wait ends. -/
inductive Wait where
  | none
  /-- CHR on channel key `ch`: near address of the copy and register a -/
  | chr (ch dst reg : Nat)
  /-- CHE: the whole message; `stores`: still waits for earlier far stores (R219) -/
  | che (ch : Nat) (msg : List Word) (stores : Bool)
  | join (child : Nat)
  | lka (lock : LockId)
  /-- a lock operation at the atomic unit: 0 LKA, 1 LKT, 2 LKR, 3 LKF -/
  | lockOp (op : Nat) (lock : LockId) (far : Nat)
  | far (r : FarReq)
  | tsync
  /-- TREL behind earlier far stores (R219) -/
  | trel (target : Nat) (start : Nat)
  deriving DecidableEq, Repr

/-- A packet in a window slot (R163-R167, R172-R174). -/
structure SlotPkt where
  pkt : Pkt
  /-- 0 being filled, 1 posted, 2 taken by CHR -/
  phase : Nat
  /-- it holds its station's turn -/
  turn : Bool
  /-- stores the turnstile holds, word and value (R174) -/
  held : Tab Word
  issued : Nat
  /-- order of taking (R451) -/
  order : Nat
  deriving DecidableEq, Repr

/-- A thread timer (R287-R289): its channel and tag words, lath of expiry plus one (0 idle), order of arming, lateness counted. -/
structure Timer where
  ch : Word
  tag : Word
  due : Nat
  order : Nat
  late : Bool
  deriving DecidableEq, Repr

def Timer.reset : Timer := { ch := 0, tag := 0, due := 0, order := 0, late := false }

/-- A value that a register may still read as for a while (R193, R263): the instructions left (none: until TSYNC), and whether the program
wrote the register meanwhile. -/
structure Shade where
  key : Nat
  alt : Word
  left : Option Nat
  clash : Bool
  deriving DecidableEq, Repr

structure Thread where
  /-- window file (224 words), t0-t3 at 224-227 (R209); fl's shades have key 228 -/
  file : Tab Word
  fl : Nat
  frame : Nat
  low : Nat
  spilled : Nat
  pc : Nat
  st : ThState
  wait : Wait
  /-- why STOPPED: 8 debugger, 9 double trap -/
  stopBy : Nat
  /-- a TSET has prepared the parked thread (R247) -/
  prepared : Bool
  /-- running as a forked child: its parent, class, priority and deadline course at the fork (R274, R277) -/
  parent : Option Nat
  childClass : Nat
  childPrio : Nat
  childDeadline : Option Nat
  /-- staging slot: channel key and words (R281) -/
  staging : Option (Nat × List Word)
  tpc : Nat
  tcause : Nat
  tfl : Nat
  taddr : Nat
  tinfo : Nat
  inTrap : Bool
  /-- held OVERRUN (its slot) and held STILL (R228) -/
  heldOverrun : Option Nat
  heldStill : Bool
  /-- a machine check waits for the thread's next boundary (R268) -/
  mchk : Bool
  slots : Tab (Option SlotPkt)
  timers : Tab Timer
  /-- captured words of LATH1-LATH3, by number (R287, R15) -/
  lathCap : List (Nat × Nat)
  locks : List LockEnt
  /-- posted far stores, oldest first (R219) -/
  posted : List FarReq
  shades : List Shade
  /-- the store-buffer entry a cancelled load waits for (R197) -/
  replay : Option Nat
  /-- order in which it last became eligible, and in which it blocked (R276, R282, R283) -/
  since : Nat
  blockedAt : Nat
  /-- the latest tally command was a completed TSYNC (R263) -/
  synced : Bool
  /-- instructions a debugger step still allows (R392) -/
  steps : Option Nat
  deriving DecidableEq, Repr

/-- R212: a parked thread with wp = 0x0001. -/
def Thread.reset : Thread :=
  { file := [], fl := 0, frame := 1, low := 0, spilled := 0, pc := 0, st := .parked, wait := .none, stopBy := 0, prepared := false,
    parent := none, childClass := 0, childPrio := 0, childDeadline := none, staging := none, tpc := 0, tcause := 0, tfl := 0,
    taddr := 0, tinfo := 0, inTrap := false, heldOverrun := none, heldStill := false, mchk := false, slots := [], timers := [],
    lathCap := [], locks := [], posted := [], shades := [], replay := none, since := 0, blockedAt := 0, synced := false, steps := none }

/-- A store-buffer entry (R196). -/
structure SbEntry where
  id : Nat
  thread : Nat
  addr : Nat
  data : List Word
  deriving DecidableEq, Repr

/-- A tally command in the unit's queue (R260, R261). -/
inductive TallyCmd where
  /-- KIND, N, W, PAIR, CLR and the words read -/
  | mtt (kind n w : Nat) (pair clr : Bool) (vals : List Word)
  /-- KIND, N, W, PAIR and the destination registers' keys -/
  | mft (kind n w : Nat) (pair : Bool) (dst : List Nat)
  | top (func dst scale sa sb sc sd : Nat)
  deriving DecidableEq, Repr

/-- A tally unit (R255-R270). -/
structure Tally where
  owner : Option Nat
  /-- accumulator words: 16 × accumulator + word -/
  acc : Tab Word
  scale : Tab Word
  /-- OVERFLOW 0, INVALID 1, DIVZERO 2, INEXACT 3, LAST_ZERO 4, LAST_NEG 5 -/
  status : Nat
  failed : Bool
  /-- thread and command, oldest first -/
  queue : List (Nat × TallyCmd)
  /-- live patch bank, and an exchange still to come (R270) -/
  bank : Nat
  exchange : Bool
  deriving DecidableEq, Repr

def Tally.reset : Tally :=
  { owner := none, acc := [], scale := [], status := 0, failed := false, queue := [], bank := 0, exchange := false }

structure Core where
  /-- line buffers, most recently used first (R185) -/
  lines : List Nat
  prefetch : List Nat
  /-- a guard cycle is in force; lines whose refill has had one (R192) -/
  guard : Bool
  guarded : List Nat
  /-- fetch address, target, counter; most recently used first (R188) -/
  btb : List (Nat × Nat × Nat)
  sb : List SbEntry
  /-- where a rotation among tied threads stands (R184) -/
  rotor : Nat
  /-- a thread whose instruction holds every stage, and its address (R196, R261) -/
  held : Option (Nat × Nat)
  deriving DecidableEq, Repr

def Core.reset : Core := { lines := [], prefetch := [], guard := false, guarded := [], btb := [], sb := [], rotor := 0, held := none }

/-! ### Dispatch, gate and switch -/

/-- An output request in the gate or beyond it (R308, R330): its order key, request registers, chain, and the packet it is of. -/
structure OutReq where
  stamp : Nat
  port : Nat
  seq : Nat
  idx : Nat
  /-- the packet (ingress port, ingress sequence), if the thread was running one -/
  ofPkt : Option (Nat × Nat)
  stall : Nat
  output : Nat
  queue : Nat
  colour : Nat
  l3 : Nat
  flags : Nat
  sa : Nat
  espOff : Nat
  ptEnd : Nat
  origin : Nat
  corr : Nat
  tag : Nat
  udp : Nat
  /-- REQ1.COLOUR as asked -/
  colourReq : Nat
  /-- length queued (ciphertext for ESP), chain queued -/
  len : Nat
  cell : Nat
  /-- the request names its packet's own chain, unwritten since (R330); for ESP the plaintext at the request; LENGTH as asked -/
  own : Bool
  plain : List Byte
  reqLen : Nat
  /-- the requesting packet was a DEFERRED one (R330, o0) -/
  deferred : Bool
  /-- its record's index among those of its output in its course (R332) -/
  recNo : Nat
  /-- stamp of the requesting packet's ingress (R66) and the course of the bank -/
  rxStamp : Nat
  course : Nat
  /-- CE is to be set on sending (R316) -/
  ce : Bool
  /-- it releases: its packet has passed, or it is of no packet (R330) -/
  live : Bool
  deriving DecidableEq, Repr

/-- R175: one course's bank (number `slot`) with its output requests. -/
structure Bank where
  course : Nat
  slot : Nat
  outs : List OutReq
  deriving DecidableEq, Repr

/-- R332: a released course: for each output its records in release order, and whether each is done; `marked` once a MARK with
RELEASED has gone. -/
structure Released where
  course : Nat
  done : Tab (List Bool)
  deriving DecidableEq, Repr

/-- R179: a move fence on cluster `new`. -/
structure Fence where
  stall : Nat
  bucket : Nat
  old : Nat
  new : Nat
  course : Nat
  deriving DecidableEq, Repr

/-- A bucket move accepted but not yet in force, or in force with fences (R178, R179); `oos` is cluster and replacement of R181. -/
structure Move where
  stall : Nat
  start : Nat
  live : Bool
  oos : Option (Nat × Nat)
  deriving DecidableEq, Repr

/-- A cluster being zeroed for its new owner (R180): 0 zeroing, 1 zeroed. -/
structure Gift where
  owner : Nat
  zeroed : Bool
  deriving DecidableEq, Repr

/-- A frame of the SCP engine (chapter 19): its session, KIND (2 response, 3 device-originated; R378), opcode, sequence, and its
header and body words. -/
structure ScpOut where
  session : Nat
  cls : Nat
  op : Nat
  seq : Nat
  /-- header and plain body -/
  words : List Word
  /-- header, body and tag as they are sent (R375, R378) -/
  sealed : List Byte
  /-- the Ethernet frame's length without FCS -/
  bytes : Nat
  deriving DecidableEq, Repr

/-- A frame in an egress queue or transmit buffer: an output request, or a frame of the SCP engine. -/
inductive EgItem where
  | out (r : OutReq)
  | scp (f : ScpOut)
  deriving DecidableEq, Repr

/-- R318: an active list with its deficits; `visit`: the head has had its quantum of the present visit. -/
structure Drr where
  active : List Nat
  deficit : Tab Nat
  visit : Bool
  deriving DecidableEq, Repr

def Drr.reset : Drr := { active := [], deficit := [], visit := false }

/-- R307: a frame in a transmit buffer: its PFC priority, its reserved places and the cells still to come. -/
structure BufEnt where
  item : EgItem
  prio : Nat
  places : Nat
  want : List Nat
  deriving DecidableEq, Repr

/-- An output's queues (R304, R313-R319). -/
structure OutPort where
  /-- queue number → frames, oldest first -/
  queues : Tab (List OutReq)
  scpQ : List EgItem
  /-- AVG of each class (R314) -/
  avg : Tab Nat
  lfsr : Nat
  /-- round robin of the units, and of the queues of each Wide unit -/
  units : Drr
  subs : Tab Drr
  buf : List BufEnt
  /-- the frame being sent (R80, R307) -/
  sending : Option BufEnt
  /-- recirculation FIFO (with whether the first cell has come) or house FIFO -/
  fifo : List (OutReq × Bool)
  deriving DecidableEq, Repr

def OutPort.reset : OutPort :=
  { queues := [], scpQ := [], avg := [], lfsr := 0xACE1, units := .reset, subs := [], buf := [], sending := none, fifo := [] }

/-- R305: a plane's grant and accept pointers, and the matching for the next cell time. -/
structure Plane where
  grant : Tab Nat
  accept : Tab Nat
  matched : List (Nat × Nat)
  deriving DecidableEq, Repr

def Plane.reset : Plane := { grant := [], accept := [], matched := [] }

/-- A frame a silent device holds (R333, R334): the entry (course, port, index) it matches with that entry's run code, whether an
output record references it, and whether the cipher rejected it here. -/
structure Held where
  pkt : Pkt
  fcs : Nat
  len : Nat
  entry : Option (Nat × Nat × Nat)
  code : Nat
  referenced : Bool
  bad : Bool
  deriving DecidableEq, Repr

/-- A delivery-ledger append (R346, R347); `ofPkt` and the order key as for an output request. -/
structure Append where
  stall : Nat
  course : Nat
  stamp : Nat
  port : Nat
  seq : Nat
  ofPkt : Option (Nat × Nat)
  live : Bool
  tag : Nat
  handle : Nat
  handleValid : Bool
  data : List Byte
  deriving DecidableEq, Repr

/-- R347: an entry of a delivery ledger with its sequence; `course` is the course whose settlement carries it. -/
structure LedgerEnt where
  stall : Nat
  course : Nat
  seq : Nat
  tag : Nat
  handle : Nat
  handleValid : Bool
  data : List Byte
  deriving DecidableEq, Repr

/-- R330: an output record: FRAME of (port, index), or INLINE bytes. -/
structure OutRec where
  inline : Bool
  port : Nat
  index : Nat
  req : OutReq
  bytes : List Byte
  deriving DecidableEq, Repr

/-- R326: a course's settlement. -/
structure Settlement where
  course : Nat
  state : Nat
  idents : List Ident
  deltas : List Delta
  ledger : List LedgerEnt
  outs : List OutRec
  saSeq : List (Nat × Nat)
  retire : List (Nat × Nat)
  deriving DecidableEq, Repr

/-- R343: a journal record: generation, words, byte offset in the ring, RELEASED, how far it is written (0 not begun, 1 up to its END section,
2 its END section, 3 a write was refused), and whether its END section has been written. -/
structure JRec where
  body : Settlement
  gen : Nat
  words : Nat
  at_ : Nat
  stage : Nat
  released : Bool
  complete : Bool
  deriving DecidableEq, Repr

/-- A settlement arriving at a shadow (R336): segments and words so far, the settlement once whole, whether it is applied, and the
entries (port, index) still to be filled. -/
structure Inbox where
  course : Nat
  segs : Nat
  words : List Word
  body : Option Settlement
  applied : Bool
  fills : List (Nat × Nat)
  deriving DecidableEq, Repr

/-- R341: an accepted course whose output the lead has not all released, with the latest MARK counts. -/
structure Kept where
  body : Settlement
  marks : Tab Nat
  deriving DecidableEq, Repr

/-- R350: a join that runs: on the lead, or (`joiner`) towards the course in which this device is to be SHADOW. -/
structure JoinRun where
  joiner : Bool
  at_ : Option Nat
  deriving DecidableEq, Repr

/-- R335: a fill that waits for cells. -/
structure FillWait where
  course : Nat
  port : Nat
  index : Nat
  stamp : Word64
  seq : Nat
  frame : List Byte
  inner : Option (List Byte)
  deriving DecidableEq, Repr

/-- The settlement unit beside its registers. -/
structure Stl where
  /-- state that begins at the next strobe (R338), and the takeover that leads to it with its course D (R341) -/
  toState : Option Nat
  takeover : Option Nat
  /-- timeline of the latest entry into a state -/
  since : Nat
  /-- the next course to be built, and the course from which acceptance is by ACK (R350) -/
  nextBuild : Nat
  ackFrom : Nat
  /-- courses built and not accepted, oldest first -/
  settled : List Settlement
  inbox : List Inbox
  kept : List Kept
  /-- OUT_SEQ assigned, by course and SA; retirements, by course and stall -/
  saUsed : List (Nat × Nat × Nat)
  retires : List (Nat × Nat × Nat)
  /-- timeline of the latest valid Elvant frame, and on each lane, plus one; the silence has been noted (R339) -/
  lastValid : Nat
  laneAt : Tab Nat
  quiet : Bool
  /-- timeline of the latest TWIN_ALIVE_IN edge, plus one; its loss is still to be noted; level of TWIN_ALIVE_OUT (R332) -/
  aliveAt : Nat
  aliveNote : Bool
  aliveOut : Bool
  /-- the other JOINING device has the same strap (R350) -/
  conflict : Bool
  join : Option JoinRun
  /-- matched differences by port: sum and count (R334) -/
  calSum : Tab Int
  calCount : Tab Nat
  /-- R344: recovery is still to run, for records of this generation -/
  recover : Option Nat
  /-- fills that wait for cells (R335) -/
  fillWait : List FillWait
  /-- bytes queued on each lane, and at which lath (R332) -/
  backlog : Tab (Nat × Nat)
  deriving DecidableEq, Repr

def Stl.reset : Stl :=
  { toState := none, takeover := none, since := 0, nextBuild := 0, ackFrom := 0, settled := [], inbox := [], kept := [], saUsed := [],
    retires := [], lastValid := 0, laneAt := [], quiet := false, aliveAt := 0, aliveNote := false, aliveOut := false, conflict := false,
    join := none, calSum := [], calCount := [], recover := none, fillWait := [], backlog := [] }

/-! ### DRAM -/

/-- R356: where a line lies. -/
structure DPlace where
  ch : Nat
  sub : Nat
  rank : Nat
  bg : Nat
  ba : Nat
  row : Nat
  col : Nat
  deriving DecidableEq, Repr

/-- R358: a request in a bank queue, and the thread it belongs to; none: a hardware unit's. -/
structure DReq where
  id : Nat
  place : DPlace
  read : Bool
  thread : Option Nat
  requester : Nat
  /-- deadline in 8 ns (R365) -/
  deadline : Nat
  passed : Nat
  deriving DecidableEq, Repr

/-- R365: a request of a hardware unit that waits in the arbiter: its requester, the line's byte address, its deadline in 8 ns and the
timeline of its arrival, its number in the order of requests, and the words that a write carries to its address on. -/
structure UnitReq where
  requester : Nat
  addr : Nat
  read : Bool
  deadline : Nat
  arrived : Nat
  no : Nat
  data : List Word
  deriving DecidableEq, Repr

/-- R360: a hot-row tracker's entry: row, activates, and by requester. -/
structure HotRow where
  row : Nat
  count : Nat
  by_ : Tab Nat
  deriving DecidableEq, Repr

/-- A bank: open row, rolling accumulated activates, an RFM owed before the next activate, and its tracker's window (R360). -/
structure BankSt where
  opened : Option Nat
  raa : Nat
  rfm : Bool
  hot : List HotRow
  since : Nat
  deriving DecidableEq, Repr

def BankSt.reset : BankSt := { opened := none, raa := 0, rfm := false, hot := [], since := 0 }

/-- A bulk mover beside its registers (R369, R370): to stop, or to end, after the current unit; the next GO starts afresh; the timeline of the
latest GO. Of the unit under way: its requests still in the arbiter or unanswered, whether they are its writes, an error response, and the
words read. -/
structure Mover where
  stop : Bool
  kill : Bool
  fresh : Bool
  go : Nat
  left : Nat
  writing : Bool
  err : Bool
  buf : List Nat
  deriving DecidableEq, Repr

def Mover.reset : Mover :=
  { stop := false, kill := false, fresh := false, go := 0, left := 0, writing := false, err := false, buf := [] }

/-- The DRAM controllers and the arbiter beside their registers, each table by channel unless it says otherwise. -/
structure Dram where
  /-- requests in bank queues, oldest first; reads whose column command has been issued -/
  queue : List DReq
  issued : List DReq
  /-- requests of the hardware units that wait in the arbiter (R365), oldest first -/
  units : List UnitReq
  /-- banks by (channel × 2 + subchannel) × 64 + rank × 32 + bank × 8 + bank group -/
  banks : Tab BankSt
  /-- rotors of activates by channel × 2 + subchannel (R358), and of the arbiter (R366) -/
  actRotor : Tab Nat
  arbRotor : Tab Nat
  /-- postponed refreshes: subchannel, rank, bank (R359) -/
  postponed : Tab (List (Nat × Nat × Nat))
  /-- throttled requesters: channel × 64 + requester → first course after the throttle (R361); activates admitted in a lath -/
  throttled : Tab Nat
  acts : Tab (Nat × Nat)
  /-- log rings, newest entry first: LO and HI (R362) -/
  log : Tab (List (Nat × Nat))
  lastTrain : Tab Nat
  /-- a channel under retraining: the subchannel out of service, and since which timeline (R355); the course from which a refused automatic start
  is tried again -/
  outSub : Tab (Nat × Nat)
  retryAt : Tab Nat
  /-- an automatic retraining is owed (R362) -/
  owed : List Nat
  scrubAcc : Tab Nat
  movers : Tab Mover
  /-- what the DDR5 section staged: channel × 512 + 256 for a PHY parameter + number → value plus one (R446) -/
  ddr : Tab Nat
  deriving DecidableEq, Repr

def Dram.reset : Dram :=
  { queue := [], issued := [], units := [], banks := [], actRotor := [], arbRotor := [], postponed := [], throttled := [], acts := [], log := [],
    lastTrain := [], outSub := [], retryAt := [], owed := [], scrubAcc := [], movers := [], ddr := [] }

/-! ### The SCP engine -/

/-- R375: an SCP frame as the engine takes it: its header, whether LENGTH places the tag within the frame, whether the tag verifies
under the key in force, and its body decrypted. -/
structure ScpFrame where
  cls : Nat
  version : Nat
  op : Nat
  target : Nat
  seq : Nat
  length : Nat
  fits : Bool
  auth : Bool
  body : List Word
  deriving DecidableEq, Repr

/-- A command of a session, authenticated and waiting (R379): its port, sequence, opcode, LENGTH and body. -/
structure ScpCmd where
  port : Nat
  seq : Nat
  op : Nat
  len : Nat
  body : List Word
  deriving DecidableEq, Repr

/-- What the engine keeps for a target beside its registers (R377-R391). -/
structure Session where
  /-- sessions opened so far, and the session key (R377) -/
  gen : Nat
  key : BitVec 256
  /-- HELLOs to be accepted: port and NH; the last 16 accepted nonces -/
  hellos : List (Nat × BitVec 128)
  nonces : List (BitVec 128)
  waiting : List ScpCmd
  /-- responses to the latest 16 sequences (R379) -/
  stored : List ScpOut
  /-- commands executed, and NOTICE frames sent, in a course -/
  cmds : Nat × Nat
  notices : Nat × Nat
  /-- the host's CUM and CREDIT; the latest sequence sent in this pass, and the highest ever; course of the latest progress (R389) -/
  cum : Nat
  credit : Nat
  sent : Nat
  high : Nat
  since : Nat
  /-- mails held while channel 3 is full (R387) -/
  mails : List (List Word)
  deriving DecidableEq, Repr

def Session.reset : Session :=
  { gen := 0, key := 0, hellos := [], nonces := [], waiting := [], stored := [], cmds := (0, 0), notices := (0, 0), cum := 0, credit := 0,
    sent := 0, high := 0, since := 0, mails := [] }

/-- R384: an accepted START: the boundary, who is answered, and the entries: thread, class, priority, start address. -/
structure StartReq where
  course : Nat
  session : Nat
  gen : Nat
  port : Nat
  seq : Nat
  entries : List (Nat × Nat × Nat × Nat)
  deriving DecidableEq, Repr

/-- R420: an entry into STANDBY under way: the course c of its acceptance, and whether the device came from ALONE (R345). -/
structure Standby where
  course : Nat
  alone : Bool
  deriving DecidableEq, Repr

/-- What the device finds in one copy of the boot image (R421, R422): what the checks find, and the contents. -/
structure BootCopy where
  /-- the flash is read without error; MAGIC and FORMAT are right -/
  readOk : Bool
  magicOk : Bool
  /-- the public key's hash equals the image root in force, and the signature verifies -/
  keyOk : Bool
  version : Nat
  /-- every section lies within the bounds, is of a known type, and overlaps no other -/
  sectionsOk : Bool
  entry : Nat
  hvbase : Nat
  regs : List (Word32 × Word32)
  ddr : List Word32
  tally : List (Word32 × List (Word32 × Word32 × Word32))
  graphs : List (Word32 × List Word32)
  house : List Word
  deriving DecidableEq, Repr

/-- R423: boot under way: both copies, whether copy A has failed, and whether a FAILED channel has been trained again. -/
structure BootRun where
  a : BootCopy
  b : BootCopy
  onB : Bool
  retried : Bool
  deriving DecidableEq, Repr

/-- The supervision block beside its registers. -/
structure Sup where
  /-- course of the latest KICK (R416) -/
  kicked : Nat
  /-- a thermal trip holds the device in reset (R417); WARN and the maximum have been reached and not yet left -/
  held : Bool
  warned : Bool
  crit : Bool
  standby : Option Standby
  /-- the device waits for boot (R414, R423), which a POWER reset began; boot waits for DRAM; boot has failed; boot is done -/
  bootDue : Bool
  fromPower : Bool
  booting : Option BootRun
  failed : Bool
  ready : Bool
  /-- a return from STANDBY, and whether to ALONE (R345); ADMIT waits for RECOVERED (R415) -/
  ret : Option Bool
  gate : Bool
  /-- nonces issued (R428) -/
  nonce : Nat
  /-- words of SUP_HKEY and SUP_ROOT written (R426) -/
  hkeys : List Nat
  roots : List Nat
  /-- the first boot in RETURN has still to zero DRAM (R429) -/
  wipe : Bool
  /-- clusters gated under IDLE (R419) -/
  gated : List Nat
  /-- level of the ROLE strap pin, which a reset samples (R25) -/
  pin : Nat
  deriving DecidableEq, Repr

/-- After POWER: boot is to come. -/
def Sup.reset : Sup :=
  { kicked := 0, held := false, warned := false, crit := false, standby := none, bootDue := true, fromPower := true, booting := none,
    failed := false, ready := false, ret := none, gate := false, nonce := 0, hkeys := [], roots := [], wipe := false, gated := [], pin := 0 }

/-- Why a command stops with a fault. No meaning of this model ends in a fault on a path the manual gives an effect. -/
inductive Fault where
  /-- raised by no command of this model; the type is kept so that the host's interface has its fault type. Safe. -/
  | none
  deriving DecidableEq, Repr

/-- Why a command is refused. -/
inductive Refusal where
  /-- raised by `exec` for a command that has no meaning yet, by its mnemonic. Safe. -/
  | notModelled (mnemonic : String)
  deriving DecidableEq, Repr

/-- The whole machine. -/
structure State where
  time : Time
  /-- the register file: byte offset (plus the accessor's block, for per-accessor registers) to value -/
  regs : Tab Word32
  /-- high halves captured by reads of low registers (R15, R67), by accessor and offset, plus one -/
  captures : Tab Nat
  resp : Tab Resp
  /-- the model's own counter behind the free values -/
  freeCtr : Nat
  /-- identities of the maintenance activities that run (R424) -/
  maint : List Nat
  fuses : Fuses
  evRecs : List EvRec
  /-- (owner, NOTICE) pairs whose next record is delivered with LOST set (R398) -/
  evLost : List (Nat × Bool)
  ldg : Tab Recorder
  /-- everything the device has sent on its balls, newest first (the model's own record) -/
  emits : List Emit
  /-- egress stamp FIFOs by port, oldest first (R64) -/
  txts : Tab (List TxStamp)
  ports : Tab Port
  /-- link entries (R148), contents of the cells, and the slices' rotors (R150) -/
  cells : Tab CellLink
  cellData : Tab (List Byte)
  rotors : Tab Nat
  /-- RED admission: lath and cells admitted in it, by stall (R153) -/
  redLath : Tab (Nat × Nat)
  /-- parse graph words by slot, node and word (R87), default-action frames to the house this course (R94) -/
  graphs : Tab Word
  houseFrames : Nat
  /-- course until whose end a slot drains (R99) -/
  drain : Tab Nat
  staged : Tab Staged
  /-- classification settings by stall, bank and word (R101) -/
  clsBanks : Tab Word
  /-- queues between the stages: cipher, re-parse, classifier, learning, dispatcher -/
  cipherQ : List Pkt
  reparseQ : List Pkt
  classQ : List Pkt
  learnQ : List Pkt
  dispQ : List Pkt
  /-- DRAM bytes by address (log entry 4: a byte nothing has written reads 0) -/
  dram : Tab Byte
  /-- hot bucket lines, most recent first (R108) -/
  hot : List Nat
  stn : Tab StnLine
  /-- lines that wait for a way of their set, with what has been written to them meanwhile (R117) -/
  stnWait : Tab StnLine
  /-- the model's own counter behind least-recently-used orders -/
  useCtr : Nat
  /-- reconciliation of the classification table in progress (R450) -/
  reconciling : Bool
  needReconcile : Bool
  scans : Tab (Option Scan)
  sweeps : Tab (Option Scan)
  /-- handle last FOUND, by owner (R120) -/
  lastFound : Tab (Option Nat)
  guards : List FlushGuard
  /-- course of the start of a stall's previous sweep (R143) -/
  sweepAt : Tab Nat
  /-- SA indices whose unwrapped keys are in the engine's key cache (R128) -/
  keyCache : List Nat
  /-- blocks of a station range being zeroed, by stall (R114) -/
  rangeZero : Tab (List Nat)
  /-- cells of failed packets, freed once their course is settled: course and chain head (R129, R171) -/
  freeAfter : List (Nat × Nat × Bool)
  /-- private chains of each thread (R157) -/
  chains : Tab (List Nat)
  /-- channel messages waiting, by cluster × 1,024 + channel; cluster 16 is the house core (R277) -/
  chans : Tab (List Msg)
  /-- changes for settlement, oldest first, and the frames of the courses not yet settled -/
  deltas : List Delta
  idents : List Ident
  /-- the latest accepted course plus one, zero before any (STL_ACCEPTED, R323) -/
  acceptedPlus : Nat
  /-- threads 0-1,023, house threads from 1,024; cores and tally units -/
  threads : Tab Thread
  cores : Tab Core
  units : Tab Tally
  /-- patch words: bank × 1,024 + address (R269); exchange under way since a course -/
  patches : Tab Nat
  patchFrom : Option Nat
  /-- local SRAM: core × 32,768 + word; code stores: cluster × 131,072 + address; cluster memories: cluster × 524,288 + word -/
  sram : Tab Word
  code : Tab Word
  clMem : Tab Word
  /-- threads queued in LKA, in order of blocking (R298) -/
  lockQ : List (Nat × LockId)
  /-- course since which banks exist: the strobe at which settlement left OFF (R175) -/
  gateFrom : Option Nat
  banks : List Bank
  released : List Released
  /-- dispatch queues, rotors, defer lists, frames admitted by stall × 4 + course mod 4 -/
  clusterQ : Tab (List Pkt)
  clusterRotor : Tab Nat
  defers : Tab (List Pkt)
  admitted : Tab (Nat × Nat)
  maps : Tab Nat
  moves : List Move
  fences : List Fence
  /-- what the moves in force changed, for frames of earlier courses (R179) -/
  oldMaps : List Fence
  gifts : Tab (Option Gift)
  /-- the cluster whose thread 0 holds a stall's supervisor role, as the latest course boundary left it (R373) -/
  roles : Tab (Option Nat)
  outPorts : Tab OutPort
  planes : Tab Plane
  /-- request lists of the crossbar: slice × 16 + output → cells, oldest first (R305) -/
  xbar : Tab (List Nat)
  /-- geometry tables: table × 65,536 + port × 4,096 + word, and queue statistics (R322) -/
  geom : Tab Nat
  qstat : Tab Nat
  /-- R290: the present course is not still for the stall -/
  restless : Tab Bool
  /-- SCH_CHANx.CFG by channel, cluster × 1,024 + channel (R280) -/
  chanCfg : Tab Nat
  /-- frames a silent device holds (R333) -/
  heldFrames : List Held
  /-- delivery-ledger appends waiting for their course's settlement (R346, R347) -/
  appends : List Append
  /-- delivery ledgers: entries not retired, by stall, oldest first (R346-R348) -/
  ledger : Tab (List LedgerEnt)
  /-- entries that an ACK has retired in a course not yet accepted, with that course (R344, R348) -/
  unretired : List (Nat × LedgerEnt)
  /-- journal records, oldest first (R343): they lie in DRAM, so they survive a DEVICE reset -/
  journal : List JRec
  stl : Stl
  ctl : Dram
  /-- the SCP engine, by target; STARTs and STOPs that wait for their boundary, by stall (R384, R385) -/
  sessions : Tab Session
  starts : Tab (Option StartReq)
  stops : Tab (Option Nat)
  sup : Sup
  /-- commands waiting, first in first out -/
  pending : List Instr
  deriving DecidableEq, Repr

/-- The machine right after POWER reset. -/
def State.reset : State :=
  { time := .reset, regs := [], captures := [], resp := [], freeCtr := 0, maint := [], fuses := .reset, evRecs := [],
    evLost := [], ldg := [], emits := [],
    txts := [],
    ports := [], cells := [], cellData := [], rotors := [], redLath := [], graphs := [], houseFrames := 0, drain := [], staged := [],
    clsBanks := [], cipherQ := [], reparseQ := [], classQ := [], learnQ := [], dispQ := [], dram := [], hot := [], stn := [], stnWait := [],
    useCtr := 0, reconciling := false, needReconcile := false, scans := [], sweeps := [], lastFound := [], guards := [],
    sweepAt := [], keyCache := [], rangeZero := [], freeAfter := [], chains := [], chans := [], deltas := [], idents := [], acceptedPlus := 0, threads := [], cores := [], units := [], patches := [], patchFrom := none, sram := [], code := [], clMem := [], lockQ := [], gateFrom := none, banks := [], released := [], clusterQ := [], clusterRotor := [], defers := [], admitted := [], maps := [], moves := [], fences := [], oldMaps := [], gifts := [], roles := [], outPorts := [], planes := [], xbar := [], geom := [], qstat := [], restless := [], chanCfg := [], heldFrames := [], appends := [], ledger := [], unretired := [], journal := [], stl := .reset, ctl := .reset, sessions := [], starts := [], stops := [], sup := .reset,
    pending := [] }

end Sys2Proof.Machine
end

