-- ==== Sys2Proof/Machine/Ops.lean ====
section
/-! DEFINITION. The named operations every command is built from: outcomes, the register file, access rights, free values. -/

namespace Sys2Proof.Machine

/-- What a command answers. -/
abbrev Res := Host.Outcome State Fault Refusal

/-- A command that is not of the time base: whatever `f` does, the time base and the queue stay as they are. -/
def run (s : State) (f : State → State) : Res :=
  .next { f s with time := s.time, pending := s.pending }

/-- A command that may act on the time base; the queue stays as it is. -/
def runT (s : State) (f : State → State) : Res :=
  .next { f s with pending := s.pending }

/-- `f` where the command is due; a command whose conditions do not hold changes nothing (log entry 1). -/
def onlyIf (c : Bool) (f : State → State) (s : State) : State := if c then f s else s

/-! ### Numbers -/

/-- Bits `[lo + width - 1 : lo]` of `w`. -/
def bits (w lo width : Nat) : Nat := w / 2 ^ lo % 2 ^ width

/-- `w` with bits `[lo + width - 1 : lo]` replaced by `v`'s low bits. -/
def putBits (w lo width v : Nat) : Nat := w % 2 ^ lo + v % 2 ^ width * 2 ^ lo + w / 2 ^ (lo + width) * 2 ^ (lo + width)

/-- The signed value of the low `width` bits of `n`. -/
def signed (width n : Nat) : Int :=
  let m := n % 2 ^ width
  if m < 2 ^ (width - 1) then m else (m : Int) - 2 ^ width

/-- `i` as a `width`-bit two's complement number. -/
def unsigned (width : Nat) (i : Int) : Nat := (i % (2 ^ width : Nat)).toNat

/-- Saturating addition at `width` bits (R14). -/
def satAdd (width a b : Nat) : Nat := min (a + b) (2 ^ width - 1)

/-! ### Register map -/

/-- R431: the byte offset of instance (i, j). -/
def Reg.off (r : Reg) (i j : Nat) : Nat := r.layout.base + i * r.layout.st1 + j * r.layout.st2

/-- R394: the owner of event source `n` at reset; a number the table does not list has no owner (log entry 5). -/
def evcOwnerReset (n : Nat) : Nat :=
  if 0x400 ≤ n ∧ n < 0x800 then (n - 0x400) / 64
  else if n ≤ 0x007 ∨ (0x010 ≤ n ∧ n ≤ 0x019) ∨ (0x040 ≤ n ∧ n < 0x080 ∧ n % 16 < 12) ∨ (0x080 ≤ n ∧ n ≤ 0x088) ∨
    (0x0C0 ≤ n ∧ n < 0x0E0) ∨ (0x100 ≤ n ∧ n ≤ 0x108) ∨ (0x140 ≤ n ∧ n < 0x15C) ∨ n = 0x180 ∨ n = 0x181 ∨
    (0x200 ≤ n ∧ n ≤ 0x204) ∨ (0x3C0 ≤ n ∧ n ≤ 0x3DF) then 16
  else 31

/-- R400: sources delivered to the house's channel 2 whatever MASK, TARGETS and OWNER hold. -/
def evForcedHouse (n : Nat) : Bool :=
  n == 0x080 || n == 0x083 || n == 0x087 || (0x0C0 ≤ n && n < 0x0E0) || (0x140 ≤ n && n < 0x144) || (0x154 ≤ n && n < 0x158)

/-- R394: the per-stall source number of stall source `n`. -/
def evStallPart (n : Nat) : Option Nat := if 0x400 ≤ n ∧ n < 0x800 then some ((n - 0x400) % 64) else none

/-- R400: the sources of the table "Events that always reach the house" (DOUBLE_TRAP 13, POOL_ERROR 10, STILL 15). -/
def evForced (n : Nat) : Bool :=
  evForcedHouse n || evStallPart n == some 13 || evStallPart n == some 10 || evStallPart n == some 15

/-- The Reset value of one instance of a register (R16); EVC_SRCn's OWNER and FORCED come from their table. -/
def Reg.resetNat (r : Reg) (i : Nat) : Nat :=
  let base := r.fields.foldl (fun a f => a + f.reset * 2 ^ f.lo) 0
  match r with
  | .evcSrc => putBits (putBits base 0 5 (evcOwnerReset i)) 11 1 (if evForced i then 1 else 0)
  | _ => base

def Reg.resetWord (r : Reg) (i : Nat) : Word32 := BitVec.ofNat 32 (r.resetNat i)

/-- The register file's key: the offset, in the accessor's own block for a register that each accessor has for itself. -/
def Reg.key (r : Reg) (a i j : Nat) : Nat := if r.perAccessor then r.off i j + 0x1000000 * (a + 1) else r.off i j

/-- R431: which register, and which instance, lies at an offset. -/
def Reg.hit (off : Nat) (r : Reg) : Option (Reg × Nat × Nat) :=
  let l := r.layout
  if off < l.base then none
  else
    let d := off - l.base
    let i := if l.n1 ≤ 1 then 0 else d / l.st1
    let e := d - i * l.st1
    let j := if l.n2 ≤ 1 then 0 else e / l.st2
    if i < l.n1 ∧ j < l.n2 ∧ e = j * l.st2 then some (r, i, j) else none

/-- The register at an offset, or none where no register lies (R435). -/
def Reg.find (off : Nat) : Option (Reg × Nat × Nat) := Reg.all.findSome? (Reg.hit off)

/-! ### Accessors (R11, R15) -/

end Sys2Proof.Machine

namespace Sys2Proof

/-- One number per accessor. -/
def Accessor.num : Accessor → Nat
  | .worker t => t.val
  | .house t => 1024 + t.val
  | .session x => 1032 + x.val
  | .debugger => 1049

/-- The house: its threads, its session (R382), and the debugger, which works through that session (chapter 22). -/
def Accessor.isHouse : Accessor → Bool
  | .worker _ => false
  | .house _ => true
  | .session x => x.val == 16
  | .debugger => true

/-- The accessor of a thread. -/
def Tid.acc (t : Tid) : Accessor :=
  if h : t.val < 1024 then .worker ⟨t.val, h⟩ else .house ⟨t.val - 1024, by omega⟩

end Sys2Proof

namespace Sys2Proof.Machine

/-! ### The register file -/

/-- The stored value of instance (i, j) for accessor number `a`. -/
def State.rdA (s : State) (a : Nat) (r : Reg) (i j : Nat) : Nat := (s.regs.get (r.resetWord i) (r.key a i j)).toNat

def State.wrA (s : State) (a : Nat) (r : Reg) (i j v : Nat) : State :=
  { s with regs := s.regs.set (r.resetWord i) (r.key a i j) (BitVec.ofNat 32 v) }

def State.rd (s : State) (r : Reg) (i : Nat := 0) (j : Nat := 0) : Nat := s.rdA 0 r i j

def State.wr (s : State) (r : Reg) (i j v : Nat) : State := s.wrA 0 r i j v

/-- A field's value. -/
def State.f (s : State) (fl : Fld) (i : Nat := 0) (j : Nat := 0) : Nat := bits (s.rd fl.reg i j) fl.lo fl.width

/-- A field set by the hardware. -/
def State.setF (s : State) (fl : Fld) (i : Nat) (v : Nat) (j : Nat := 0) : State :=
  s.wr fl.reg i j (putBits (s.rd fl.reg i j) fl.lo fl.width v)

/-- A one-bit field as a condition. -/
def State.b (s : State) (fl : Fld) (i : Nat := 0) (j : Nat := 0) : Bool := s.f fl i j == 1

/-- Fields of a register each accessor has for itself. -/
def State.fA (s : State) (a : Nat) (fl : Fld) (i : Nat := 0) (j : Nat := 0) : Nat := bits (s.rdA a fl.reg i j) fl.lo fl.width

def State.setFA (s : State) (a : Nat) (fl : Fld) (i : Nat) (v : Nat) (j : Nat := 0) : State :=
  s.wrA a fl.reg i j (putBits (s.rdA a fl.reg i j) fl.lo fl.width v)

/-- Whether a field saturates (R14, its Meaning column). -/
def Fld.sat (fl : Fld) : Bool :=
  match fl.reg.fields.find? (fun d => d.lo == fl.lo) with
  | some d => d.sat
  | none => false

/-- R14: a counter goes up by `n`: saturating where its Meaning says so, else wrapping. -/
def State.count (s : State) (fl : Fld) (i : Nat := 0) (n : Nat := 1) : State :=
  s.setF fl i (if fl.sat then satAdd fl.width (s.f fl i) n else s.f fl i + n)

/-- A 64-bit counter kept in a pair of registers (R15). -/
def State.count64 (s : State) (lo hi : Fld) (i n : Nat) : State :=
  let v := s.f lo i + 2 ^ 32 * s.f hi i + n
  (s.setF lo i v).setF hi i (v / 2 ^ 32)

def State.set64 (s : State) (lo hi : Fld) (i v : Nat) : State := (s.setF lo i v).setF hi i (v / 2 ^ 32)
def State.f64 (s : State) (lo hi : Fld) (i : Nat) : Nat := s.f lo i + 2 ^ 32 * s.f hi i

/-- Something is sent. -/
def State.emit (s : State) (e : Emit) : State := { s with emits := e :: s.emits }

/-- The next open choice, and the state in which it has been made. -/
def State.freeBool (s : State) : Bool × State := (Config.freeBool s.freeCtr, { s with freeCtr := s.freeCtr + 1 })
def State.freeWord (s : State) : Word × State := (Config.freeWord s.freeCtr, { s with freeCtr := s.freeCtr + 1 })
def State.freeNat (s : State) : Nat × State := (Config.freeNat s.freeCtr, { s with freeCtr := s.freeCtr + 1 })

/-! ### Ownership (R30-R32, R180, R371) -/

/-- The owner of a cluster: 0-15 stall, 31 UNOWNED. -/
def State.clusterOwner (s : State) (c : Nat) : Nat := s.f F.dspCluster_OWNER c

/-- The stall of a worker thread's cluster; 16 for the house core. -/
def State.tidOwner (s : State) (t : Nat) : Nat := if t < 1024 then s.clusterOwner (t / 64) else 16

/-- The stall's lowest-numbered cluster. -/
def State.lowCluster (s : State) (x : Nat) : Option Nat := (List.range 16).find? fun c => s.clusterOwner c == x

/-- R371, R373: the cluster of the stall's supervisor: the role moves at a course boundary. -/
def State.roleCluster (s : State) (x : Nat) : Option Nat :=
  match s.roles.get none x with
  | some c => if s.clusterOwner c = x then some c else s.lowCluster x
  | none => s.lowCluster x

/-- The supervisor thread: thread 0 of the first core of that cluster. -/
def State.supervisor (s : State) (x : Nat) : Option Nat := (s.roleCluster x).map (· * 64)

/-- The stall an accessor acts for; 16 the house. -/
def State.accOwner (s : State) : Accessor → Nat
  | .worker t => s.clusterOwner (t.val / 64)
  | .house _ => 16
  | .session x => x.val
  | .debugger => 16

/-- R11, R382: whether an accessor has the rights of stall `x`'s supervisor. -/
def State.isSupervisor (s : State) (a : Accessor) (x : Nat) : Bool :=
  match a with
  | .worker t => s.supervisor x == some t.val
  | .session y => y.val == x
  | _ => false

/-- Whether the maintenance sequencer's short kinds conflict is a table of R425. -/
inductive Act where
  | rt | sc | ag | fl | bm | tp | ts | ra | sr | tj | sb
  deriving DecidableEq, Repr

/-- R424: the activity of an identity, and the stall, channel or recorder it is of. -/
def Act.of (id : Nat) : Option (Act × Nat) :=
  if 0x10 ≤ id ∧ id < 0x14 then some (.rt, id - 0x10)
  else if 0x20 ≤ id ∧ id < 0x24 then some (.sc, id - 0x20)
  else if 0x30 ≤ id ∧ id < 0x40 then some (.ag, id - 0x30)
  else if 0x40 ≤ id ∧ id < 0x50 then some (.fl, id - 0x40)
  else if 0x50 ≤ id ∧ id < 0x60 then some (.bm, id - 0x50)
  else if id = 0x60 then some (.tp, 0)
  else if id = 0x61 then some (.ts, 0)
  else if id = 0x62 then some (.tj, 0)
  else if id = 0x63 then some (.sb, 0)
  else if 0x70 ≤ id ∧ id < 0x80 then some (.sr, id - 0x70)
  else if 0x80 ≤ id ∧ id < 0xA0 then some (.ra, id - 0x80)
  else if id = 0xA0 then some (.fl, 99)
  else none

/-- R425, "Conflict matrix": whether a running activity keeps a requested one from starting. "E" (STANDBY entry ends the other and
proceeds) keeps an ageing sweep or scrub from starting while STANDBY entry runs, and not the other way round. Number 99 is the
house register's FLUSH-BY-PORT, which conflicts as that of every stall. -/
def actConflict (running req : Act × Nat) : Bool :=
  let same := running.2 == req.2 || running.2 == 99 || req.2 == 99
  let between := fun (a b : Act) => decide (running.1 = a ∧ req.1 = b ∨ running.1 = b ∧ req.1 = a)
  if running.1 = .sb then true
  else if req.1 = .sb then !(running.1 == .sc || running.1 == .ag)
  else if running.1 = req.1 then same || [Act.rt, .tp, .ts, .tj, .sr].contains req.1
  else (same && (between .rt .sc || [Act.ag, .fl, .bm].any (between .sr))) || between .tj .tp || between .tj .sr

/-- R425: the BUSY_ID a request would be given, or none where it may start. -/
def State.maintBusy (s : State) (id : Nat) : Option Nat :=
  let conf := s.maint.filter fun m =>
    match Act.of m, Act.of id with
    | some x, some y => actConflict x y
    | _, _ => false
  match conf with
  | [] => if s.maint.length ≥ 16 then some 0xFF else none
  | m :: ms => some (ms.foldl min m)

/-- R425: the activity starts. -/
def State.maintStart (s : State) (id : Nat) : State :=
  let s1 := { s with maint := id :: s.maint }
  s1.setF F.supMaint_RUNNING 0 s1.maint.length

/-- R425: a refused request is noted in SUP_MAINT. -/
def State.maintRefuse (s : State) (id busy : Nat) : State :=
  ((s.setF F.supMaint_LAST_REQ 0 id).setF F.supMaint_LAST_BLOCKER 0 busy).count F.supMaint_REFUSALS

/-- An activity leaves the sequencer (its completion event is raised by `maintDone`). -/
def State.maintEnd (s : State) (id : Nat) : State :=
  let s1 := { s with maint := s.maint.filter (· != id) }
  s1.setF F.supMaint_RUNNING 0 s1.maint.length

end Sys2Proof.Machine
end

