-- ==== Sys2Proof/Machine/Loading.lean ====
section
/-! DEFINITION. What the loading and selecting registers show: parse graph words, classification banks, bucket maps, geometry tables,
queue statistics and channel configurations (R98, R113, R178, R280, R322), and a blocked thread's wait code (R271). -/

namespace Sys2Proof.Machine

/-- Word `i` of node `n` of slot `g`. -/
def State.nodeWord (s : State) (g n i : Nat) : Nat := (s.graphs.get 0 ((g * 256 + n) * 72 + i)).toNat

/-- A loading register's pointer: slot, node and register (36-63 act as 0). -/
def State.loadPtr (s : State) (x : Nat) : Nat × Nat × Nat :=
  let r := s.f F.pgrLoadPtr_REG x
  (s.f F.pgrLoadPtr_GRAPH x, s.f F.pgrLoadPtr_NODE x, if r < 36 then r else 0)

/-- The two node words at PTR. -/
def State.graphRead (s : State) (x : Nat) : Nat :=
  let (g, n, r) := s.loadPtr x
  s.nodeWord g n (2 * r) + 65536 * s.nodeWord g n (2 * r + 1)

/-- Word `i` of a stall's classification bank. -/
def State.bankWord (s : State) (x bank i : Nat) : Nat := (s.clsBanks.get 0 ((x * 2 + bank) * 768 + i)).toNat

/-- R113: the stall, bank and even index that CLS_LOADx.PTR names. -/
def State.clsPtr (s : State) (x : Nat) : Nat × Nat × Nat :=
  let i := s.f F.clsLoadPtr_INDEX x
  (if x = 16 then s.f F.clsLoadPtr_STALL x else x, s.f F.clsLoadPtr_BANK x, if 768 ≤ i then 0 else i / 2 * 2)

/-- The two classification words at PTR. -/
def State.clsRead (s : State) (x : Nat) : Nat :=
  let (y, bank, i) := s.clsPtr x
  s.bankWord y bank i + 65536 * s.bankWord y bank (i + 1)

/-- Where a bucket entry of a stall's map bank lies. -/
def mapKey (x bank b : Nat) : Nat := (x * 2 + bank) * 4096 + b

/-- The cluster a stall's map bank gives a bucket. -/
def State.mapEntry (s : State) (x bank b : Nat) : Nat := s.maps.get 0 (mapKey x bank b)

/-- R178: the stall and bank a map-loading register addresses. -/
def State.mapPtr (s : State) (x : Nat) : Nat × Nat × Nat :=
  (if x = 16 then s.f F.dspMaploadPtr_STALL x else x, s.f F.dspMaploadPtr_BANK x, s.f F.dspMaploadPtr_INDEX x)

/-- The eight bucket entries at PTR. -/
def State.mapRead (s : State) (x : Nat) : Nat :=
  let (y, bank, i) := s.mapPtr x
  (List.range 8).foldl (fun a j => a + s.mapEntry y bank (8 * i + j) * 16 ^ j) 0

/-- Words of a table. -/
def geomSize (table : Nat) : Nat := if table = 1 then 4096 else if table = 2 then 32 else 64

/-- Where a table word lies. -/
def geomKey (table port i : Nat) : Nat := table * 65536 + port * 4096 + i

/-- A table word's value after reset: 0, with each class's OWNER 31. -/
def geomReset (table i : Nat) : Nat := if table = 0 ∧ i % 8 = 0 then 31 * 2 ^ 22 else 0

/-- A geometry table word. -/
def State.geomWord (s : State) (table port i : Nat) : Nat := s.geom.get (geomReset table i) (geomKey table port i)

/-- R313: the owner in a class profile. -/
def State.classOwner (s : State) (port c : Nat) : Nat := bits (s.geomWord 0 port (8 * c)) 22 5

/-- R313: the port has the Wide geometry. -/
def State.isWide (s : State) (n : Nat) : Bool := n < 10 && s.b F.swcPortCfg_GEOMETRY n

/-- Queue statistics: 0 ENQ, 1 EARLY, 2 CAP, 3 MARK, 4 UNMARK, 5 FLUSH. -/
def qstatKey (port q k : Nat) : Nat := (port * 4096 + q) * 8 + k

/-- R322: the loading register's table, port and word index. -/
def State.swcPtr (s : State) (x : Nat) : Nat × Nat × Nat :=
  let t := if s.f F.swcLoadPtr_TABLE x = 3 then 0 else s.f F.swcLoadPtr_TABLE x
  (t, s.f F.swcLoadPtr_PORT x, s.f F.swcLoadPtr_INDEX x % geomSize t)

/-- The table word at PTR. -/
def State.swcRead (s : State) (x : Nat) : Nat :=
  let (t, port, i) := s.swcPtr x
  if 9 < port then 0 else s.geomWord t port i

/-- SWC_QSTATx: whether the register's owner may see the selected queue. -/
def State.qstatSeen (s : State) (x : Nat) : Bool :=
  let port := s.f F.swcQstatSel_PORT x
  let q := s.f F.swcQstatSel_QUEUE x
  port < 12 && (x == 16 || (port < 10 && if s.isWide port then q / 256 == x else q < 8 && s.classOwner port q == x))

/-- A statistic of the selected queue. -/
def State.qstatRead (s : State) (x k : Nat) : Nat :=
  if s.qstatSeen x then s.qstat.get 0 (qstatKey (s.f F.swcQstatSel_PORT x) (s.f F.swcQstatSel_QUEUE x) k) else 0

/-- R280: SCH_CHANx.CFG of an internal channel. -/
def State.chanConf (s : State) (k : Nat) : Nat := s.chanCfg.get (127 * 4096) k

/-- R271: SCH_THREADt.WAIT's code. -/
def Wait.code : Wait → Nat
  | .none => 0
  | .chr .. => 1
  | .che _ _ false => 2
  | .che _ _ true => 7
  | .join _ => 3
  | .lka _ => 4
  | .lockOp .. => 4
  | .far _ => 5
  | .tsync => 6
  | .trel .. => 7

/-- R271, R297: the code that a thread shows; LKR behind far stores waits for those. -/
def Thread.waitCode (th : Thread) : Nat :=
  match th.wait with
  | .lockOp 2 _ _ => if th.posted.isEmpty then 4 else 7
  | w => w.code

end Sys2Proof.Machine
end

