-- ==== Sys2Proof/Machine/Views.lean ====
section
/-! DEFINITION. Reading registers: the fields whose value is kept elsewhere in the state (HW fields of the Access column), the
capability list, and a read that disturbs nothing (R404). -/

namespace Sys2Proof.Machine

/-- TMB_STATUS.STATE's code. -/
def TmbState.code : TmbState → Nat
  | .off => 0 | .free => 1 | .acquire => 2 | .locked => 3 | .following => 4 | .holdover => 5 | .isolated => 6

/-- R67: the timeline has started. -/
def TmbState.running : TmbState → Bool
  | .off => false | .free => false | .acquire => false
  | .locked => true | .following => true | .holdover => true | .isolated => true

/-- R47: laths of a course by its length code. -/
def courseLaths (code : Nat) : Nat := 16 * 2 ^ code

/-- Timeline units of a course. -/
def courseUnits (code : Nat) : Nat := 1024 * courseLaths code

/-- R51: timeline units of a tick frame. -/
def frameUnits : Nat := 262144

/-- R40: device time as (TAI seconds, nanoseconds, fraction). -/
def deviceTime (label : BitVec 96) (timeline : Nat) : Nat × Nat × Nat :=
  let l := label.toNat
  let frac := l % 65536 + timeline % 16 * 4096
  let ns := l / 65536 % 2 ^ 32 + timeline / 16 + frac / 65536
  ((l / 2 ^ 48 + ns / 1000000000) % 2 ^ 48, ns % 1000000000, frac % 65536)

/-- The timeline runs: it has started, and a device that rejoins (R57) keeps its own until it reloads. -/
def Time.live (t : Time) : Bool := t.st.running || (t.st == .acquire && t.rejoin)

/-- Device time at the present timeline value, zero before the timeline starts (R67). -/
def State.deviceNow (s : State) : Nat × Nat × Nat :=
  if s.time.live then deviceTime s.time.label s.time.timeline.toNat else (0, 0, 0)

/-- The timeline, zero before it starts (R67). -/
def State.now (s : State) : Nat := if s.time.live then s.time.timeline.toNat else 0

/-- The current course number. -/
def State.course (s : State) : Nat := s.time.course.toNat

/-- R407: words of a record of recorder `r`, by slot (snapshot) or the histogram record. -/
def State.recordWord (s : State) (r record word : Nat) : Nat :=
  let rec_ := s.ldg.get Recorder.reset r
  if s.f F.ldgCfg_MODE r = 0 then
    if word ≥ 40 then 0
    else
      let slot := rec_.slots.get ⟨0, []⟩ record
      if word = 0 then slot.gen.toNat else (slot.words.getD (word - 1) 0).toNat
  else if word ≥ 136 then 0
  else if word = 0 then rec_.histGen.toNat
  else if word = 1 then 0
  else
    let v := if word < 4 then rec_.count else if word < 6 then rec_.min else if word < 8 then rec_.max
      else rec_.bins.get 0 ((word - 8) / 2)
    if word % 2 = 0 then v % 65536 else v / 65536 % 65536

/-- R394, R395: the owner of an event source: 0-15 stall, 16 house, 17-31 none. MOVE_DONE and LDG_STOPPED follow other registers. -/
def State.evOwner (s : State) (n : Nat) : Nat :=
  if 0x160 ≤ n ∧ n < 0x180 then s.f F.arbMoveCtl_OWNER (n - 0x160)
  else if 0x1C0 ≤ n ∧ n < 0x1E0 then s.f F.ldgCfg_OWNER (n - 0x1C0)
  else s.f F.evcSrc_OWNER n

def boolNat (b : Bool) : Nat := if b then 1 else 0

/-- A target's session is open. -/
def State.sessionOpen (s : State) (x : Nat) : Bool := s.b F.scpStallSession_OPEN x

/-- R99: whether a port entry value names slot `g`. -/
def portNames (v g : Nat) : Bool := bits v 18 1 == 1 && bits v 0 4 == g

/-- R99: whether a stall entry value names slot `g`. -/
def stallNames (v g : Nat) : Bool := (bits v 4 1 == 1 && bits v 0 4 == g) || (bits v 12 1 == 1 && bits v 8 4 == g)

/-- R99: whether an entry in force names slot `g`. -/
def State.namedInForce (s : State) (g : Nat) : Bool :=
  ((List.range 10).any fun n => portNames (s.staged.get Staged.reset (Reg.pgrPortCfg.off n 0)).cur g) ||
    (List.range 16).any fun x => stallNames (s.staged.get Staged.reset (Reg.pgrStallEntry.off x 0)).cur g

/-- R99: LIVE: an entry in force or staged names the slot. -/
def State.slotLive (s : State) (g : Nat) : Bool :=
  s.namedInForce g || ((List.range 10).any fun n => portNames (s.rd .pgrPortCfg n) g) ||
    (List.range 16).any fun x => stallNames (s.rd .pgrStallEntry x) g

/-- R99: 0 IDLE, 1 LIVE, 2 DRAINING (through the course after the one whose strobe removed the last name; log entry 9). -/
def State.slotState (s : State) (g : Nat) : Nat :=
  if s.slotLive g then 1 else if s.course < s.drain.get 0 g then 2 else 0

/-- R333: the device is a shadow. -/
def State.isShadow (s : State) : Bool := s.f F.stlStatus_STATE == 4

/-- R117: lines that a packet in flight holds through the turnstile are not replaced. -/
def State.stnHeld (s : State) (h : Nat) : Bool :=
  s.threads.any fun e => e.2.slots.any fun q =>
    match q.2 with
    | some p => bits p.pkt.station 21 1 == 1 && p.pkt.station % 2 ^ 20 == h
    | none => false


/-- R333: the device holds frames and dispatches none: JOINING, SHADOW or HELD. -/
def State.holdsFrames (s : State) : Bool :=
  let st := s.f F.stlStatus_STATE
  st == 2 || st == 4 || st == 6

/-- R332: TWIN_ALIVE_IN has toggled within the last 4 laths. -/
def State.aliveIn (s : State) : Bool := s.stl.aliveAt != 0 && decide (s.now / 1024 < (s.stl.aliveAt - 1) / 1024 + 4)

/-- STL_STATUS.LANES: a lane has carried a valid Elvant frame within two courses. -/
def State.laneValid (s : State) (n : Nat) : Bool :=
  let t := s.stl.laneAt.get 0 n
  t != 0 && decide (s.now < t + 2 * courseUnits s.time.len)

/-- Bytes a journal record takes (R343). -/
def JRec.bytes (r : JRec) : Nat := 2 * (r.words + 4)

def State.journalUsed (s : State) : Nat := s.journal.foldl (fun a r => a + r.bytes) 0

/-- Bytes an entry takes in a ledger's ring (R347). -/
def ledgerBytes (n : Nat) : Nat := 16 + (n + 15) / 16 * 16

/-- Bytes taken in a stall's ring, staged appends included. -/
def State.ledgerUsed (s : State) (x : Nat) : Nat :=
  (s.ledger.get [] x).foldl (fun a e => a + ledgerBytes e.data.length) 0 +
    (s.appends.filter fun a => a.stall == x).foldl (fun a e => a + ledgerBytes e.data.length) 0

def State.ledgerFree (s : State) (x : Nat) : Nat := s.f F.stlLedgerSize_SIZE x * 65536 - s.ledgerUsed x

def signedMean (sum : Int) (n : Nat) : Nat := if n = 0 then 0 else unsigned 16 (sum / (n : Int))

/-- House threads are numbered from 1,024. -/
def isHouseThread (t : Nat) : Bool := 1024 ≤ t

/-- The supervisor of its own stall. -/
def State.isSup (s : State) (t : Nat) : Bool := t < 1024 && s.tidOwner t < 16 && s.supervisor (s.tidOwner t) == some t

/-- R272: 0 SERVICE, 1 PACKET, 2 POOL. -/
def State.classOf (s : State) (t : Nat) : Nat :=
  if s.isSup t then 0
  else
    let c := if t < 1024 then s.f F.schThread_CLASS t else s.f F.schHthread_CLASS (t - 1024)
    if c = 3 then 0 else c

/-- R290: a thread of the stall is STOPPED by the debugger. -/
def State.debugStopped (s : State) (x : Nat) : Bool :=
  s.threads.any fun e => e.1 < 1024 && s.clusterOwner (e.1 / 64) == x && e.2.st == .stopped && e.2.stopBy == 8

/-- R290: stillness detection runs for the stall. -/
def State.stillOn (s : State) (x : Nat) : Bool := s.f F.scpStallState_STATE x == 2 && s.b F.schStillCtl_ENABLE x

/-- SCH_THREADt (R271): STATE, WAIT, STAGING, CHILD and STAGED beside CLASS and PRIO. -/
def State.threadView (s : State) (t w : Nat) : Nat :=
  let th := s.threads.get Thread.reset t
  let st := match th.st with | .parked => 0 | .running => 1 | .blocked => 2 | .stopped => 3
  let wt := match th.st with | .stopped => th.stopBy | .blocked => th.waitCode | _ => 0
  let staged := match th.staging with | some e => e.2.length | none => 0
  w % 256 / 4 * 4 + s.classOf t + st * 2 ^ 8 + wt * 2 ^ 10 + boolNat th.staging.isSome * 2 ^ 14 + boolNat th.parent.isSome * 2 ^ 15 + staged * 2 ^ 16

/-- Channel-store cells that the messages of a cluster's internal channels take (R282). -/
def State.storeCells (s : State) (c : Nat) : Nat :=
  s.chans.foldl (fun a e => if e.1 / 1024 == c && 16 ≤ e.1 % 1024 then a + (e.2.map fun m => (m.words.length + 7) / 8).sum else a) 0

/-- R32: SCH_CHANx shows only channels of its owner's own clusters; the house's shows every channel. -/
def State.chanSeen (s : State) (x : Nat) : Bool := x == 16 || s.clusterOwner (bits (s.rd .schChanPtr x) 10 4) == x

/-- The channel that SCH_CHANx.PTR names. -/
def State.chanPtr (s : State) (x : Nat) : Nat :=
  (if x = 16 ∧ s.b F.schChanPtr_HCORE x then 16 else s.f F.schChanPtr_CLUSTER x) * 1024 + s.f F.schChanPtr_CHANNEL x

/-- TLY_UNITu.OWNER: owner, busy, failed and queued commands beside the one in progress. -/
def State.unitView (s : State) (u : Nat) : Nat :=
  let t := s.units.get Tally.reset u
  (t.owner.getD 0) % 8 + boolNat t.owner.isSome * 8 + boolNat (!t.queue.isEmpty) * 16 + boolNat t.failed * 32 + min 4 (t.queue.length - 1) * 64

/-- R301: the locks of the thread that ATM_QUERYx names; another stall's thread shows none. -/
def State.queryLocks (s : State) (x : Nat) : List LockEnt :=
  let t := s.f F.atmQuerySel_THREAD x
  if x = 16 then (s.threads.get Thread.reset (if s.b F.atmQuerySel_HOUSE x then 1024 + t % 8 else t)).locks
  else if s.clusterOwner (t / 64) = x then (s.threads.get Thread.reset t).locks
  else []

def State.queryLock (s : State) (x : Nat) : Option LockEnt := (s.queryLocks x)[s.f F.atmQuerySel_ENTRY x]?

/-- ATM_QUERYx.HI. -/
def lockView (e : LockEnt) : Nat :=
  match e.lock.cluster with
  | none => e.lock.addr / 2 ^ 32 % 256 + 2 ^ 13 + boolNat e.waited * 2 ^ 14
  | some c => 2 ^ 8 + c * 2 ^ 9 + 2 ^ 13 + boolNat e.waited * 2 ^ 14

/-- A register's value as it reads: HW fields kept elsewhere in the state take their place in the stored word `w`. -/
def State.view (s : State) (a : Nat) (r : Reg) (i j w : Nat) : Nat :=
  match r with
  | .cluCoreEmpty | .cluCoreRefillWait | .cluCoreSbFull | .tlyUnitQfull =>
    (Config.cycleCount (r.off i j) s.freeCtr).toNat
  | .tmbStatus => putBits w 0 3 s.time.st.code
  | .tmbNow0 => s.deviceNow.2.2
  | .tmbNow1 => s.deviceNow.2.1
  | .tmbNow2 => s.deviceNow.1 % 2 ^ 32
  | .tmbNow3 => s.deviceNow.1 / 2 ^ 32
  | .tmbEpoch0 => bits s.time.label.toNat 0 16
  | .tmbEpoch1 => bits s.time.label.toNat 16 32
  | .tmbEpoch2 => bits s.time.label.toNat 48 32
  | .tmbEpoch3 => bits s.time.label.toNat 80 16
  | .tmbStampLo => s.now % 2 ^ 32
  | .tmbStampHi => s.now / 2 ^ 32
  | .crsNowLo => s.time.course.toNat % 2 ^ 32
  | .crsNowHi => s.time.course.toNat / 2 ^ 32
  | .crsPos => min ((s.time.timeline - s.time.courseStart).toNat / 1024) (courseLaths s.time.len - 1) + s.time.len * 256
  | .crsLenChg => s.time.nextLen + s.time.frames * 8 + boolNat s.time.change * 2048
  | .crsFrameLo => s.now / frameUnits % 2 ^ 32
  | .crsFrameHi => s.now / frameUnits / 2 ^ 32 % 2 ^ 16
  | .evcSrc => putBits (putBits w 0 5 (s.evOwner i)) 12 1 (boolNat (s.evRecs.any fun e => e.src == i))
  | .evcOwnerPending => (s.evRecs.filter fun e => e.owner == i).length
  | .ldgWin =>
    let cur := s.rdA a .ldgCur i 0
    let wd := bits cur 0 8 + 2 * j
    s.recordWord i (bits cur 8 10) wd + 65536 * s.recordWord i (bits cur 8 10) (wd + 1)
  | .crsPart => putBits w 24 2 s.fuses.grade
  | .crsSerialLo => s.fuses.serial.toNat % 2 ^ 32
  | .crsSerialHi => s.fuses.serial.toNat / 2 ^ 32
  | .supLc => putBits (putBits (putBits w 0 3 s.fuses.lcState) 3 3 s.fuses.transitions) 6 6 s.fuses.rollback
  | .prtEq => if s.f F.prtCfg_MODE i = 1 ∨ s.f F.prtCfg_MODE i = 2 then (s.ports.get Port.reset i).taps else w
  | .tmbTxtsStat => putBits w 0 7 (s.txts.get [] i).length
  | .tmbTxtsTag => ((s.txts.get [] i).head?.map fun e => e.tag.toNat).getD 0
  | .pkmSlice => putBits w 0 15 (16384 - (s.cells.filter fun e => e.1 / 16384 == i && (e.2.alloc || e.2.oos)).length)
  | .pkmPoolStatus => putBits w 0 19 (s.cells.filter fun e => e.2.alloc && e.2.owner == i).length
  | .pgrGraphCfg => putBits w 16 2 (s.slotState i)
  | .stlStatus => putBits (putBits w 4 1 (boolNat (s.laneValid 0))) 5 1 (boolNat (s.laneValid 1)) |> fun w => putBits w 6 1 (boolNat s.aliveIn)
  | .stlAcceptedLo => (s.acceptedPlus - 1) % 2 ^ 32
  | .stlAcceptedHi => (s.acceptedPlus - 1) / 2 ^ 32
  | .stlCal => putBits w 16 16 (signedMean (s.stl.calSum.get 0 i) (s.stl.calCount.get 0 i))
  | .stlJournalFree => putBits w 0 16 ((s.f F.stlJournalSize_MIB * 2 ^ 20 - s.journalUsed) / 2 ^ 20)
  | .stlLedgerFree => s.ledgerFree i
  | .dspGateBanks => s.banks.foldl (fun a b => a + 2 ^ b.slot) 0
  | .drcStatus => putBits w 4 4 (s.ctl.postponed.get [] i).length
  | .drcLogSel => putBits w 4 5 (s.ctl.log.get [] i).length
  | .drcLogLo => ((s.ctl.log.get [] i).getD (s.f F.drcLogSel_ENTRY i) (0, 0)).1
  | .drcLogHi => ((s.ctl.log.get [] i).getD (s.f F.drcLogSel_ENTRY i) (0, 0)).2
  | .arbReqCtl => putBits w 16 1 (boolNat ([0, 1, 2, 3].any fun c => s.course < s.ctl.throttled.get 0 (c * 64 + i)))
  | .pgrLoadData => s.graphRead i
  | .clsLoadData => s.clsRead i
  | .dspMaploadData => s.mapRead i
  | .swcLoadData => s.swcRead i
  | .swcQstatEnq => s.qstatRead i 0
  | .swcQstatEarly => s.qstatRead i 1
  | .swcQstatCap => s.qstatRead i 2
  | .swcQstatMark => s.qstatRead i 3
  | .swcQstatUnmark => s.qstatRead i 4
  | .swcQstatFlush => s.qstatRead i 5
  | .schThread => s.threadView i w
  | .schHthread => s.threadView (1024 + i) w
  | .schClusterStoreFree => 8192 - s.storeCells i
  | .schChanCfg => if s.chanSeen i then s.chanConf (s.chanPtr i) else 0
  | .schChanStat => putBits w 18 6 (if s.chanSeen i then (s.chans.get [] (s.chanPtr i)).length else 0)
  | .schStillStat => putBits w 2 1 (boolNat (s.stillOn i && s.debugStopped i))
  | .dspClusterQueue => (s.clusterQ.get [] i).length
  | .tlyUnitOwner => s.unitView i
  | .atmQuerySel => putBits w 16 4 (s.queryLocks i).length
  | .atmQueryLo => (s.queryLock i).map (fun e => e.lock.addr % 2 ^ 32) |>.getD 0
  | .atmQueryHi => (s.queryLock i).map lockView |>.getD 0
  | .scpStallState => putBits w 16 4 ((s.roleCluster i).getD 0)
  | .supLcNonce => (Config.lifeNonce s.sup.nonce i).toNat
  | .supRoot => match s.fuses.root with | some ws => (ws.getD i 0).toNat | none => w
  | _ => w

/-- R12: reserved bits read zero; R10: WO fields read zero. -/
def Reg.readMask (r : Reg) (w : Nat) : Nat :=
  r.fields.foldl (fun acc d => if d.access = .wo then acc else acc + bits w d.lo d.width * 2 ^ d.lo) 0

/-- A register's value, with nothing cleared, popped or captured. -/
def State.peekReg (s : State) (a : Nat) (r : Reg) (i j : Nat) : Nat :=
  r.readMask (s.view a r i j (s.rdA a r i j)) % 2 ^ 32

/-- R444: what JTAG's IDCODE reads: version 1, part 0x8128, manufacturer field 0, bit 0 set. -/
def jtagIdcode : Word32 := 0x18128001

/-- R431, R432: BASE and COUNT, and PARAM, of the capability entries after IDENTITY, in the table's order. -/
def capTable : List (Nat × Nat × Nat × Nat) :=
  [ (0x02, 0x010000, 1, 6), (0x03, 0x020000, 12, 12 + 64 * 65536), (0x04, 0x030000, 12, 0x1000), (0x05, 0x040000, 16, 256),
    (0x06, 0x050000, 16, 48), (0x07, 0x060000, 16, 1048576), (0x08, 0x070000, 16, 0xF), (0x09, 0x080000, 16, 262144),
    (0x0A, 0x090000, 16, 4096), (0x0B, 0x0A0000, 16, 0x1000), (0x0C, 0x0B0000, 128, 512) ] ++
  [ (0x0D, 0x0C0000, 16, 1024), (0x0E, 0x0D0000, 16, 8), (0x0F, 0x0E0000, 16, 4096), (0x10, 0x0F0000, 2, 3),
    (0x11, 0x100000, 4, 0x4000), (0x12, 0x110000, 32, 64), (0x13, 0x120000, 16, 1), (0x14, 0x130000, 1, 2048),
    (0x15, 0x140000, 32, 1024), (0x20, 0, 10, 7) ]

/-- The word at an offset of the capability entries, and the reserved words of the identity block. -/
def capWord (off : Nat) : Option Nat :=
  if 0x14 ≤ off ∧ off < 0x40 then some 0
  else if 0x40 ≤ off ∧ off < 0x190 then
    let i := (off - 0x40) / 16
    match capTable[i]? with
    | none => none
    | some (id, base, count, param) =>
      match (off - 0x40) % 16 with
      | 0 => some ((if i = 20 then 0 else (0x50 + 0x10 * i) * 65536) + 256 + id)
      | 4 => some (base + count * 2 ^ 24)
      | 8 => some param
      | _ => some 0
  else none

/-- The value at an offset, none where no register lies. -/
def State.peek (s : State) (a off : Nat) : Option Nat :=
  let off := off / 4 * 4
  match capWord off with
  | some w => some w
  | none => (Reg.find off).map fun (r, i, j) => s.peekReg a r i j

/-- R32, R435: whose an instance of a register is (0-15 stall, 16 house, 31 no one), or none for a register every accessor may
reach. -/
def State.instanceOwner (s : State) (r : Reg) (i : Nat) : Option Nat :=
  match r.scope with
  | .dev => none
  | .graph => none
  | .stall => match r with
    | .pgrStallEntry => none
    | .pgrLoadPtr => none
    | .pgrLoadData => none
    | .pgrLoadStat => none
    | .pgrStallFail => none
    | _ => some i
  | .stallPair => some i
  | .stallKey => some i
  | .cluster => some (s.clusterOwner i)
  | .core => some (s.clusterOwner i)
  | .thread => some (s.clusterOwner (i / 64))
  | .hthread => some 16
  | .mover => some (s.f F.arbMoveCtl_OWNER i)
  | .source => some (s.evOwner i)
  | .recorder => some (s.f F.ldgCfg_OWNER i)
  | .recorderArr => some (s.f F.ldgCfg_OWNER i)
  | .unit => some (s.clusterOwner (i / 8))

/-- R435: whether an accessor acting for `own` (16 the house) may reach the instance. -/
def State.mayReach (s : State) (own : Nat) (r : Reg) (i : Nat) : Bool :=
  own == 16 ||
    match s.instanceOwner r i with
    | none => true
    | some o => o == own

end Sys2Proof.Machine
end

