-- ==== Sys2Proof/Machine/Events.lean ====
section
/-! DEFINITION. Events and ledger recorders (R394-R409): one occurrence, its captures and its records. -/

namespace Sys2Proof.Machine

/-! ### Event source numbers (R394) -/

namespace Ev
def HOLDOVER := 0x000
def HOLD_DEGRADED := 0x001
def TICK_RESTORED := 0x002
def TICK_MISMATCH := 0x003
def COURSE_DISCONTINUITY := 0x004
def PPS_LOSS := 0x005
def STEP_APPLIED := 0x006
def LEN_CHANGE_APPLIED := 0x007
def TXTS_OVERFLOW (n : Nat) := 0x010 + n
def LINK_UP (n : Nat) := 0x040 + n
def LINK_DOWN (n : Nat) := 0x050 + n
def TRAIN_FAIL (n : Nat) := 0x060 + n
def PAUSE_STORM (n : Nat) := 0x070 + n
def PGR_PARITY := 0x080
def BIND_DIVERGE := 0x081
def ESP_NOPREFIX := 0x082
def PKM_LINK_ECC := 0x083
def GATE_FULL := 0x084
def TALLY_PATCH_DONE := 0x085
def LOCK_EPOCH_WRAP := 0x086
def HOUSE_DOUBLE_TRAP := 0x087
def HOUSE_FAR_STORE_ERROR := 0x088
def CODE_PARITY (c : Nat) := 0x0C0 + c
def TALLY_MCHK (c : Nat) := 0x0D0 + c
def PEER_LOST := 0x100
def TAKEOVER := 0x101
def PARTITIONED := 0x102
def ACK_TIMEOUT := 0x103
def TWIN_ALIVE_LOST := 0x104
def COURSE_MISMATCH := 0x105
def ROLE_CONFLICT := 0x106
def JOIN_DONE := 0x107
def JOURNAL_FULL := 0x108
def DRAM_FAIL (ch : Nat) := 0x140 + ch
def TRAIN_DONE (ch : Nat) := 0x144 + ch
def DRAM_HOT (ch : Nat) := 0x148 + ch
def HOT_ROW (ch : Nat) := 0x14C + ch
def DRAM_CE (ch : Nat) := 0x150 + ch
def DRAM_UE (ch : Nat) := 0x154 + ch
def DRAM_CMD (ch : Nat) := 0x158 + ch
def MOVE_DONE (m : Nat) := 0x160 + m
def SCP_AUTH := 0x180
def STALL_REMOVED := 0x181
def LDG_STOPPED (r : Nat) := 0x1C0 + r
def THERMAL_WARN := 0x200
def THERMAL_CRIT := 0x201
def MAINT_DONE := 0x202
def POWER_STATE := 0x203
def LIFECYCLE := 0x204
def HOUSE_SOFT (i : Nat) := 0x3C0 + i
def stall (x e : Nat) := 0x400 + 0x40 * x + e
def PARSE_FAIL (x : Nat) := stall x 0
def CLS_FULL (x : Nat) := stall x 1
def FLUSH_DONE (x : Nat) := stall x 2
def NO_SA (x : Nat) := stall x 3
def AUTH_FAIL (x : Nat) := stall x 4
def SA_EXHAUSTED (x : Nat) := stall x 5
def REKEY_DUE (x : Nat) := stall x 6
def STATION_CONTESTED (x : Nat) := stall x 7
def AGE_SWEEP_DONE (x : Nat) := stall x 8
def POOL_LEVEL (x : Nat) := stall x 9
def POOL_ERROR (x : Nat) := stall x 10
def OVERRUN (x : Nat) := stall x 11
def BUCKET_MOVE_DONE (x : Nat) := stall x 12
def DOUBLE_TRAP (x : Nat) := stall x 13
def FAR_STORE_ERROR (x : Nat) := stall x 14
def STILL (x : Nat) := stall x 15
def LOCK_ABANDONED (x : Nat) := stall x 16
def LOCK_CORRUPT (x : Nat) := stall x 17
def LEDGER_FULL (x : Nat) := stall x 18
def SOFT (x i : Nat) := stall x (32 + i)
end Ev

/-- The four words of a 64-bit number, low word first. -/
def words64 (n : Nat) : List Word := [BitVec.ofNat 16 n, BitVec.ofNat 16 (n / 2 ^ 16), BitVec.ofNat 16 (n / 2 ^ 32), BitVec.ofNat 16 (n / 2 ^ 48)]

/-- The two words of a 32-bit number, low word first. -/
def words32 (n : Nat) : List Word := [BitVec.ofNat 16 n, BitVec.ofNat 16 (n / 2 ^ 16)]

def word (n : Nat) : Word := BitVec.ofNat 16 n

/-! ### Captures -/

/-- R408: every write of a record adds 1 to its GEN before and after. -/
def genNext (g : Word) : Word := g + 2

/-- The value of the register a recorder samples: a debugger's read that disturbs nothing; zero where the owner may not read (R404). -/
def State.sample (s : State) (owner off : Nat) : Nat :=
  match Reg.find (off / 4 * 4) with
  | some (r, i, _) => if s.mayReach owner r i then (s.peek 1049 off).getD 0 else 0
  | none => (s.peek 1049 off).getD 0

/-- R404: a snapshot into ring slot HEAD. Trigger kind: 1 event, 2 periodic, 3 SNAP. -/
def State.snapshot (s : State) (r kind : Nat) : State :=
  let n := min 16 (s.f F.ldgCfg_NREGS r)
  let own := s.f F.ldgCfg_OWNER r
  let vals := (List.range n).map fun j => s.sample own (s.f F.ldgSel_OFFSET r j)
  let body := word (n + kind * 32) :: words64 s.now ++ (vals.map words32).flatten
  let rec_ := s.ldg.get Recorder.reset r
  let head := s.f F.ldgStat_HEAD r
  let old := rec_.slots.get ⟨0, []⟩ head
  let rec' := { rec_ with slots := rec_.slots.set ⟨0, []⟩ head ⟨genNext old.gen, body⟩ }
  let s1 := { s with ldg := s.ldg.set Recorder.reset r rec' }
  let s2 := s1.setF F.ldgStat_HEAD r (head + 1)
  if head = 1023 then s2.setF F.ldgStat_FILLED r 1 else s2

/-- R405: the bin of a sample. -/
def histBin (hwidth hbase v : Nat) : Nat :=
  if hwidth = 0 then (if v ≤ hbase then 0 else 1 + Nat.log2 (v - hbase))
  else if v < hbase then 0 else min 63 ((v - hbase) / hwidth)

/-- R405: a histogram capture. -/
def State.histogram (s : State) (r : Nat) : State :=
  let v0 := s.sample (s.f F.ldgCfg_OWNER r) (s.f F.ldgSel_OFFSET r 0)
  let rec_ := s.ldg.get Recorder.reset r
  let delta := s.f F.ldgCfg_DELTA r == 1
  let rec' :=
    if delta && rec_.last.isNone then { rec_ with last := some v0, histGen := genNext rec_.histGen }
    else
      let v := if delta then unsigned 32 ((v0 : Int) - (rec_.last.getD 0 : Nat)) else v0
      let b := histBin (s.f F.ldgHwidth_WIDTH r) (s.f F.ldgHbase_BASE r) v
      { rec_ with last := some v0, histGen := genNext rec_.histGen, bins := rec_.bins.set 0 b (satAdd 32 (rec_.bins.get 0 b) 1),
                  count := satAdd 32 rec_.count 1, min := min rec_.min v, max := max rec_.max v }
  { s with ldg := s.ldg.set Recorder.reset r rec' }

/-- R403: whether the latest capture still runs: it takes 64 FCLK cycles, which is less than a lath, so this is open in its own lath and the
next. -/
def State.capturing (s : State) (r : Nat) : Bool × State :=
  match (s.ldg.get Recorder.reset r).since with
  | some t => if s.now < t + 2048 then s.freeBool else (false, s)
  | none => (false, s)

/-- R403: a capture begins. -/
def State.captured (s : State) (r : Nat) : State :=
  { s with ldg := s.ldg.set Recorder.reset r { s.ldg.get Recorder.reset r with since := some s.now } }

/-! ### Occurrences -/

/-- R398: whether the pending store of an owner has no slot left; a forced source's record waits in its reserved slot. -/
def State.storeFull (s : State) (owner : Nat) : Bool :=
  256 ≤ (s.evRecs.filter fun e => e.owner == owner && !e.reserved).length

/-- Whether a pending record belongs to the same source, owner and target. -/
def EvRec.same (e : EvRec) (src owner : Nat) (notice copy : Bool) : Bool :=
  e.src == src && e.owner == owner && e.notice == notice && e.copy == copy

/-- R397 MERGE: the first record `p` holds of counts one more and takes the new data. -/
def mergeFirst (p : EvRec → Bool) (data : List Word) : List EvRec → List EvRec
  | [] => []
  | e :: es => if p e then { e with count := satAdd 16 e.count 1, data := data } :: es else e :: mergeFirst p data es

/-- R397, R398: one record for (owner, target) under RULE. -/
def State.queueRec (s : State) (src owner : Nat) (notice copy : Bool) (rule : Nat) (data : List Word) : State :=
  let same := fun (e : EvRec) => e.same src owner notice copy
  let here := fun (e : EvRec) => same e && e.held == some s.time.course
  let fresh : EvRec :=
    { src := src, owner := owner, notice := notice, copy := copy, count := 1, stamp := BitVec.ofNat 64 s.now, data := data,
      held := if rule = 2 then some s.time.course else none, reserved := s.storeFull owner && evForced src }
  if (rule = 1 ∨ rule = 3) ∧ s.evRecs.any same then { s with evRecs := mergeFirst same data s.evRecs }
  else if rule = 2 ∧ s.evRecs.any here then { s with evRecs := mergeFirst here data s.evRecs }
  else if s.storeFull owner then
    if s.evRecs.any same then { s with evRecs := mergeFirst same data s.evRecs }
    else if evForced src then { s with evRecs := s.evRecs ++ [fresh] }
    else
      let s1 := s.count F.evcOwnerLost_LOST owner
      { s1 with evLost := (owner, notice) :: s1.evLost.filter (· != (owner, notice)) }
  else { s with evRecs := s.evRecs ++ [fresh] }

/-- R391, R398: a NOTICE record goes nowhere, and is counted, while its owner has no open session; STILL waits. -/
def State.queueNotice (s : State) (src owner rule : Nat) (data : List Word) : State :=
  if s.sessionOpen owner || evStallPart src == some 15 then s.queueRec src owner true false rule data
  else s.count F.scpStatNoticeDrop_NOTICE_DROP owner

/-- R396 without the ledger triggers: COUNT, then the records. -/
def State.deliverOcc (s : State) (src : Nat) (data : List Word) : State :=
  let owner := s.evOwner src
  let mask := s.f F.evcSrc_MASK src = 1
  let rule := s.f F.evcSrc_RULE src
  let tg := s.f F.evcSrc_TARGETS src
  let still := evStallPart src == some 15
  let s1 :=
    if evForcedHouse src then s.queueRec src 16 false false rule data
    else if owner ≤ 16 ∧ tg % 2 = 1 ∧ ¬ mask then s.queueRec src owner false false rule data
    else s
  let s2 :=
    if owner ≤ 16 ∧ (still ∨ (tg / 2 % 2 = 1 ∧ ¬ mask)) then s1.queueNotice src owner rule data else s1
  let poolDouble := evStallPart src == some 10 && data.head? == some 5
  if evStallPart src == some 13 || poolDouble then s2.queueRec src 16 false true rule data else s2

/-- R403: recorders that an occurrence of `src` triggers. -/
def State.triggered (s : State) (src : Nat) : List Nat :=
  (List.range 32).filter fun r =>
    s.f F.ldgCfg_TRIG r == 1 && s.f F.ldgTrig_SOURCE r == src &&
      (s.f F.ldgCfg_OWNER r == 16 || s.f F.ldgCfg_OWNER r == s.evOwner src)

mutual
/-- R396: one occurrence. `fuel` bounds the chain of LDG_STOPPED events; each recorder can stop once, so 33 is enough. -/
def State.occur (fuel : Nat) (src : Nat) (data : List Word) (s : State) : State :=
  match fuel with
  | 0 => s
  | fuel + 1 =>
    let s1 := s.count F.evcSrc_COUNT src
    let s2 := if s1.f F.evcSrc_TARGETS src / 4 % 2 = 1 then State.captureAll fuel 1 (s1.triggered src) s1 else s1
    s2.deliverOcc src data

/-- R403: one trigger of each recorder listed, in order. -/
def State.captureAll (fuel kind : Nat) (rs : List Nat) (s : State) : State :=
  match fuel with
  | 0 => s
  | fuel + 1 =>
    match rs with
    | [] => s
    | r :: rest => State.captureAll fuel kind rest (State.capture fuel kind r s)

/-- R403-R406: one trigger of one recorder. -/
def State.capture (fuel kind : Nat) (r : Nat) (s : State) : State :=
  match fuel with
  | 0 => s
  | fuel + 1 =>
    let (busy, s) := s.capturing r
    if s.f F.ldgCfg_FREEZE r = 1 ∨ s.f F.ldgStat_STOPPED r = 1 ∨ (s.ldg.get Recorder.reset r).rearming ∨ busy then
      s.count F.ldgStat_MISSED r
    else if s.f F.ldgCfg_MODE r = 1 then (s.histogram r).captured r
    else
      let s1 := (s.snapshot r kind).captured r
      if s.f F.ldgCfg_STOP r = 1 ∧ s.f F.ldgStat_HEAD r = 1023 then
        State.occur fuel (Ev.LDG_STOPPED r) [] (s1.setF F.ldgStat_STOPPED r 1)
      else s1
end

/-- An event source occurs. -/
def State.raise (s : State) (src : Nat) (data : List Word := []) : State := State.occur 200 src data s

/-- R425: a maintenance activity completes and raises MAINT_DONE with its identity. -/
def State.maintDone (s : State) (id : Nat) : State := (s.maintEnd id).raise Ev.MAINT_DONE [word id]

end Sys2Proof.Machine
end

