-- ==== Sys2Proof/Machine/TimeBase.lean ====
section
/-! DEFINITION. Courses, laths and device time (R39-R68). -/

namespace Sys2Proof.Machine

/-! ### Tick frames (R51) -/

/-- R51: one bit of CRC-16/CCITT, polynomial 0x1021. -/
def crc16Bit (crc : Nat) (bit : Bool) : Nat :=
  let top := crc / 32768 % 2
  let sh := crc * 2 % 65536
  if top ≠ boolNat bit then Nat.xor sh 0x1021 else sh

/-- Bits `a` to `b` of a tick frame; frame bit 0 is sent first and is the most significant bit of the vector. -/
def tickBits (f : BitVec 256) (a b : Nat) : Nat := f.toNat / 2 ^ (255 - b) % 2 ^ (b - a + 1)

/-- R51: the CRC over frame bits 0 to 239, initial value 0xFFFF. -/
def tickCrc (f : BitVec 256) : Nat :=
  (List.range 240).foldl (fun crc i => crc16Bit crc (tickBits f i i == 1)) 0xFFFF

def tickInfo (f : BitVec 256) : TickInfo :=
  { frame := tickBits f 16 63, course := BitVec.ofNat 64 (tickBits f 64 127), label := BitVec.ofNat 96 (tickBits f 128 223),
    len := tickBits f 224 226, nextLen := tickBits f 227 229, count := tickBits f 230 237 }

/-- R51: a tick frame with its CRC. -/
def tickFrame (i : TickInfo) (ppsLocked hold : Bool) : BitVec 256 :=
  let put := fun (acc : Nat) (b v : Nat) => acc + v * 2 ^ (255 - b)
  let f := put (put (put (put (put (put (put (put (put 0 15 0x7E5A) 63 (i.frame % 2 ^ 48)) 127 i.course.toNat) 223 i.label.toNat)
    226 i.len) 229 i.nextLen) 237 i.count) 238 (boolNat ppsLocked)) 239 (boolNat hold)
  BitVec.ofNat 256 (f + tickCrc (BitVec.ofNat 256 f))

/-! ### Small parts -/

/-- R44, TMB_CTL.DOMAIN_ROLE. -/
def State.isMaster (s : State) : Bool := s.b F.tmbCtl_DOMAIN_ROLE

/-- Change the time base. -/
def State.setTime (s : State) (f : Time → Time) : State := { s with time := f s.time }

def State.port (s : State) (n : Nat) : Port := s.ports.get Port.reset n

def State.setPort (s : State) (n : Nat) (f : Port → Port) : State :=
  { s with ports := s.ports.set Port.reset n (f (s.port n)) }

/-- R54: the timeline, frame 0 and course 0 begin. When PPS_EN is 1 the label's ignored nanosecond and fraction fields are cleared in the label
itself (DESIGN CHOICE, log entry 116). -/
def Time.begin (t : Time) (whole : Bool) : Time :=
  { t with st := .locked, starting := false, timeline := 0, course := 0, courseStart := 0, prevStart := 0, backStart := [], frameDue := true,
           lenDue := false, strobeDue := true, strobeFirst := true,
           label := if whole then BitVec.ofNat 96 (t.label.toNat / 2 ^ 48 * 2 ^ 48) else t.label }

/-- R46: HOLDOVER ends; EST_NS and HOLD_DEGRADED are 0 outside it. -/
def State.leaveHoldover (s : State) (st : TmbState) : State :=
  ((s.setTime fun t => { t with st := st }).setF F.tmbHold_EST_NS 0 0).setF F.tmbStatus_HOLD_DEGRADED 0 0

/-- R46: EST_NS in 1/16 ns, `u` timeline units into holdover: 0.3 ns + t × (STAB/16 + 0.05) ns, rounded down (log entry 7). -/
def holdEstimate (stab u : Nat) : Nat := (24 * 16000000000 + u * (5 * stab + 4)) / 80000000000

/-- R46: the estimate follows the time in holdover, and HOLD_DEGRADED, raised as it is set, says whether it exceeds LIMIT_NS. -/
def State.holdStep (s : State) : State :=
  if s.time.st = .holdover then
    let est := holdEstimate (s.f F.tmbStab_STAB) (s.time.timeline - s.time.holdSince).toNat
    let s1 := s.setF F.tmbHold_EST_NS 0 (min est 65535)
    if 16 * s.f F.tmbHold_LIMIT_NS < est then
      if s.f F.tmbStatus_HOLD_DEGRADED = 0 then (s1.setF F.tmbStatus_HOLD_DEGRADED 0 1).raise Ev.HOLD_DEGRADED else s1
    else s1.setF F.tmbStatus_HOLD_DEGRADED 0 0
  else s

/-- R46: HOLDOVER begins, with the error at entry. -/
def State.enterHoldover (s : State) : State :=
  ((s.setTime fun t => { t with st := .holdover, holdSince := t.timeline }).raise Ev.HOLDOVER).holdStep

/-- R44, R45, R61: one lath of slew: while the registers are a master's active source, TMB_PHASE_ADJ's remainder shrinks by at most
MAX_PPB of a lath, in units of 1/64 ns. -/
def State.slewStep (s : State) : State :=
  if s.isMaster ∧ s.f F.tmbCtl_PPS_SERVO = 0 ∧ s.time.st = .locked ∧ s.f F.tmbPhaseAdj_PHASE ≠ 0 then
    let acc := s.time.slewAcc + 4096 * min 20000 (s.f F.tmbSlew_MAX_PPB)
    let n := acc / 1000000000
    let ph := signed 32 (s.f F.tmbPhaseAdj_PHASE)
    let ph' : Int := if ph < 0 then min 0 (ph + n) else max 0 (ph - n)
    (s.setTime fun t => { t with slewAcc := acc % 1000000000 }).setF F.tmbPhaseAdj_PHASE 0 (unsigned 32 ph')
  else s

/-- Whether the work of the present boundary is done, so that the next lath can begin. -/
def Time.clear (t : Time) : Bool := !t.frameDue && !t.lenDue && !t.strobeDue

/-- R47, R48: the timeline reaches the next lath boundary, which may begin a tick frame and a course. -/
def Time.lath (t : Time) : Time :=
  let tl := t.timeline + 1024
  { t with timeline := tl, ppsDone := false, frameDue := tl.toNat % frameUnits == 0,
           strobeDue := (tl - t.courseStart).toNat == courseUnits t.len }

/-- R50: the symbol of the lath that begins, on a TICK_OUT that is not held low. -/
def State.tickSymbol (s : State) : State :=
  if s.f F.tmbCtl_TICK_OUT_EN = 1 ∧ s.time.st ≠ .isolated ∧ s.time.st ≠ .off then
    let k := s.time.timeline.toNat / 1024 % 256
    s.emit (.tick (tickBits s.time.tickOut k k == 1))
  else s

/-- R47, R50: a lath begins (the time base's part of LATH_BOUNDARY). The first symbol of a frame waits until the frame is formed. -/
def State.lathTime (s : State) : State :=
  if s.time.live then
    let s1 := ((s.setTime Time.lath).slewStep).holdStep
    if s1.time.frameDue then s1 else s1.tickSymbol
  else if s.time.starting ∧ s.f F.tmbCtl_PPS_EN = 0 then s.setTime fun t => t.begin false
  else s

/-- R48: the course number rises by one (the time base's part of the strobe). -/
def Time.strobe (t : Time) : Time :=
  { t with course := if t.strobeFirst then t.course else t.course + 1, strobeFirst := false, strobeDue := false,
           prevStart := t.courseStart, courseStart := t.timeline, backStart := if t.strobeFirst then [] else (t.prevStart :: t.backStart).take 4 }

/-! ### Tick frame boundary -/

/-- R60: the label announced in the previous frame takes effect. -/
def State.stepApply (s : State) : State :=
  match s.time.nextLabel with
  | none => s
  | some l =>
    let mine := s.time.stepMine
    let s1 := s.setTime fun t => { t with label := l, nextLabel := none, stepMine := false }
    let s2 := s1.raise Ev.STEP_APPLIED ((words64 (s.now / frameUnits)).take 3)
    if mine then (s2.setF F.tmbStepSec_STATUS 0 2).maintDone 0x61 else s2

/-- R60: the label a step leads to. -/
def stepLabel (label : BitVec 96) (sec ns : Int) : BitVec 96 :=
  let l := label.toNat
  let total : Int := ((l / 2 ^ 48 : Nat) : Int) * 1000000000 + ((l / 65536 % 2 ^ 32 : Nat) : Int) + sec * 1000000000 + ns
  let t := unsigned 96 total
  let t := if total < 0 then unsigned 96 (total + 2 ^ 48 * 1000000000) else t
  BitVec.ofNat 96 (t / 1000000000 % 2 ^ 48 * 2 ^ 48 + t % 1000000000 * 65536 + l % 65536)

/-- R60: a requested step is announced in the frame now sent. -/
def State.stepAnnounce (s : State) : State :=
  match s.time.stepReq with
  | some (sec, ns) => s.setTime fun t => { t with nextLabel := some (stepLabel t.label sec ns), stepReq := none, stepMine := true }
  | none => s

/-- R49: the countdown at a frame boundary. -/
def Time.countdown (t : Time) : Time :=
  if t.change then
    if t.taken then
      if t.frames ≤ 1 then { t with frames := 0, lenDue := true } else { t with frames := t.frames - 1 }
    else { t with taken := true }
  else t

/-- R51: the frame that begins is formed, and its first symbol goes out. -/
def State.tickSend (s : State) : State :=
  let t := s.time
  let ppsLocked := if s.isMaster then s.f F.tmbCtl_PPS_SERVO = 1 ∧ t.st = .locked else t.upPpsLocked = true
  let i : TickInfo :=
    { frame := s.now / frameUnits, course := t.frameCourse, label := t.nextLabel.getD t.label,
      len := if t.lenDue then t.nextLen else t.len, nextLen := t.nextLen,
      count := if t.change ∧ t.taken ∧ ¬ t.lenDue then t.frames else 0 }
  (s.setTime fun t => { t with tickOut := tickFrame i (decide ppsLocked) (t.st == .holdover) }).tickSymbol

/-- R49, R51, R60: a tick frame begins. -/
def State.frameBoundary (s : State) : State :=
  let s1 := s.stepApply
  let s2 := s1.stepAnnounce
  let s3 := s2.setTime fun t =>
    let t := t.countdown
    let len := if t.lenDue then t.nextLen else t.len
    { t with frameDue := false, missed := 0, prevFrameCourse := t.frameCourse,
             frameCourse := if t.strobeFirst then t.course else t.course + 1, prevFrameLen := t.frameLen, frameLen := len }
  s3.tickSend

/-- R49: the announced length takes effect at the frame boundary at which the countdown reaches zero. -/
def State.lenChangeApply (s : State) : State :=
  (s.setTime fun t => { t with len := t.nextLen, change := false, taken := false, frames := 0, lenDue := false }).raise Ev.LEN_CHANGE_APPLIED

/-! ### Following (R55-R57) -/

/-- What a port measures by the timeline follows when the timeline is loaded anew (R57): its holds and its XOFF period keep what is left
of them, and stamps start afresh; the courses in which it fed a stall keep their distance. -/
def Port.reload (old new oldCourse newCourse : Nat) (p : Port) : Port :=
  { p with lastAt := 0, upAt := 0, holds := p.holds.map fun h => (h.1, h.2 + new * 100 - old * 100), xoffAt := p.xoffAt + new - old,
           fed := p.fed.map fun e => (e.1, e.2 + newCourse - oldCourse) }

/-- R55: a follower loads timeline, course, label and length at a frame boundary. -/
def State.followingEntry (s : State) (i : TickInfo) : State :=
  let start := (i.frame + 1) * frameUnits
  let course := i.course + BitVec.ofNat 64 (2 ^ (4 - i.len))
  let len := if i.len ≤ 4 then i.len else 2
  let s1 := (List.range 12).foldl (fun (u : State) n => u.setPort n (Port.reload s.now start s.course course.toNat)) s
  let s2 := s1.setTime fun t =>
    { t with st := .following, timeline := BitVec.ofNat 64 start, course := course, courseStart := BitVec.ofNat 64 start,
             prevStart := BitVec.ofNat 64 start, backStart := [], label := i.label, nextLabel := none, len := len,
             nextLen := if i.nextLen ≤ 4 then i.nextLen else len, change := i.count != 0 && decide (i.nextLen ≤ 4), taken := true,
             frames := i.count, frameDue := true, lenDue := false, strobeDue := true, strobeFirst := true, rejoin := false,
             acqGood := 0, acqFrame := none, missed := 0, badFrames := 0, ppsAt := none, ppsDone := false }
  if s.time.rejoin then s2.raise Ev.COURSE_DISCONTINUITY (words64 s.course ++ words64 course.toNat) else s2

/-- R56: whether a good frame agrees with the device's own timeline; just after a boundary the frame received is the previous one. -/
def Time.agrees (t : Time) (i : TickInfo) : Bool :=
  let cur := t.timeline.toNat / frameUnits
  (i.frame == cur % 2 ^ 48 && i.course == t.frameCourse && i.len == t.frameLen) ||
    (t.timeline.toNat % frameUnits < 17 * 1024 && i.frame + 1 == cur % 2 ^ 48 && i.course == t.prevFrameCourse && i.len == t.prevFrameLen)

/-- The frame received is the one before the present frame: it came in whole just after the boundary. -/
def Time.late (t : Time) (i : TickInfo) : Bool := !(i.frame == t.timeline.toNat / frameUnits % 2 ^ 48)

/-- R49: a follower hears that no change of length is pending. A change it has counted down and that a frame of its own shows in force is no
longer pending; any other is cancelled. -/
def Time.noChange (t : Time) (late : Bool) : Time :=
  if t.lenDue && !late then t
  else
    { t with change := false, taken := false, frames := 0, nextLen := t.len, lenDue := false,
             frameLen := if t.lenDue then t.len else t.frameLen }

/-- R49, R60: what a follower takes from an agreeing frame: the label for the next frame, and the pending change of length. -/
def Time.take (t : Time) (i : TickInfo) : Time :=
  let late := t.late i
  let left := if late then i.count - 1 else i.count
  let t := if i.label ≠ t.label then { t with nextLabel := some i.label } else if late then t else { t with nextLabel := none }
  if i.count = 0 then t.noChange late
  else if t.change = false ∧ left ≠ 0 ∧ i.nextLen ≤ 4 then { t with change := true, taken := true, nextLen := i.nextLen, frames := left }
  else t

/-- R52, R56: the residual of the lath edges, `r` in 1/64 ns, against the device's own lath starts. -/
def State.tickEdges (s : State) (r : Int) : State :=
  if s.time.live then
    let s1 := s.setF F.tmbTickOffset_OFFSET 0 (unsigned 32 r)
    if s.time.st = .following then s1.setF F.tmbStatus_ALIGNED 0 (boolNat (decide (-6 ≤ r ∧ r ≤ 6))) else s1
  else s

/-- R57: the device goes to ISOLATED. -/
def State.isolate (s : State) : State := ((s.leaveHoldover .isolated).setF F.tmbStatus_ALIGNED 0 0).raise Ev.TICK_MISMATCH

/-- R56: an edge within ±32 ns. -/
def edgeNear (r : Int) : Bool := decide (-2048 ≤ r) && decide (r ≤ 2048)

/-- R56: a frame with bad CRC is ignored, and its edges are not. -/
def State.tickBad (s : State) (r : Int) : State :=
  let s1 := (s.count F.tmbStatus_CRC_ERRS).setTime fun t => { t with acqGood := 0, badFrames := t.badFrames + 1 }
  if (s.time.st = .following ∨ s.time.st = .holdover) ∧ edgeNear r = false then s1.isolate
  else if s.time.st = .following ∧ 2 ≤ s1.time.badFrames then s1.enterHoldover
  else s1

/-- R49, R56, R60: a good frame agrees, and is taken; a label it brings late is in force at once. -/
def State.tickAgreed (s : State) (i : TickInfo) (r : Int) : State :=
  let s1 := s.setTime fun t => t.take i
  let s2 := if s.time.late i && !s.time.frameDue then s1.stepApply else s1
  if s.time.st = .holdover then ((s2.leaveHoldover .following).tickEdges r).raise Ev.TICK_RESTORED else s2

/-- R55: acquisition counts good frames in a row. -/
def Time.acquire (t : Time) (i : TickInfo) : Time :=
  let next := match t.acqFrame with
    | some p => 0 < t.acqGood && p.frame + 1 == i.frame
    | none => false
  { t with acqGood := if next then t.acqGood + 1 else 1, acqFrame := some i }

/-- R52, R55, R56: a whole tick frame from TICK_IN, with the offset of its edges at the ball in 1/64 ns. -/
def State.tickReceived (s : State) (f : BitVec 256) (offset : Int) : State :=
  if s.isMaster ∨ s.time.st = .off ∨ s.time.st = .free then s
  else
    let r := offset - s.f F.tmbTickCtl_IN_DELAY
    let s0 := s.tickEdges r
    if tickBits f 240 255 ≠ tickCrc f then s0.tickBad r
    else
      let i := tickInfo f
      let s1 := s0.setTime fun t => { t with badFrames := 0, upPpsLocked := tickBits f 238 238 == 1 }
      if s.time.st = .acquire then s1.setTime fun t => t.acquire i
      else if s.time.st = .isolated then s1
      else if s.time.agrees i && edgeNear r then s1.tickAgreed i r
      else s1.isolate

/-- R56: a lath with no edge within ±8 ns; four in one frame lose the source. -/
def State.lathMissed (s : State) : State :=
  if s.isMaster ∨ s.time.st ≠ .following then s
  else
    let s1 := s.setTime fun t => { t with missed := t.missed + 1 }
    if 4 ≤ s1.time.missed then s1.enterHoldover else s1

/-! ### PPS (R44, R46, R54, R59) -/

/-- R59: offset of an edge from the nearest whole second of device time, in 1/64 ns; `at` is 1/64 ns into the lath. -/
def State.ppsOffset (s : State) (edge : Nat) : Int :=
  let l := s.time.label.toNat
  let now : Nat := (l / 65536 % 2 ^ 32) * 64 + l % 65536 / 1024 + s.time.timeline.toNat * 4 + edge + 64000000000
  let r := (now - s.f F.tmbPpsCtl_IN_DELAY) % 64000000000
  if 32000000000 < r then (r : Int) - 64000000000 else r

/-- R54, R59: a PPS_IN rising edge. TMB_PPS_OFFSET holds an offset beyond its 32 bits modulo 2^32 (DESIGN CHOICE, log entry 117). -/
def State.ppsEdge (s : State) (edge : Nat) : State :=
  let s1 := s.setF F.tmbStatus_PPS_SEEN 0 1
  if s.time.starting then
    (if s.f F.tmbCtl_PPS_EN = 1 then s1.setTime fun t => { t.begin true with ppsAt := some 0 } else s1)
  else if s.time.live then
    let s2 := (s1.setF F.tmbPpsOffset_OFFSET 0 (unsigned 32 (s.ppsOffset edge))).setTime fun t =>
      { t with ppsAt := some (t.timeline + BitVec.ofNat 64 (edge / 4)) }
    if s.isMaster ∧ s.f F.tmbCtl_PPS_SERVO = 1 ∧ s.time.st = .holdover then s2.leaveHoldover .locked else s2
  else s1

/-- R46: no edge has been timed in the last 2 s. -/
def State.ppsGone (s : State) : Bool :=
  match s.time.ppsAt with
  | some e => decide (e.toNat + 32000000000 < s.time.timeline.toNat + 1024)
  | none => true

/-- R46: PPS_IN has been missing for 2 s. -/
def State.ppsLost (s : State) : State :=
  let s1 := s.setF F.tmbStatus_PPS_SEEN 0 0
  if s.isMaster ∧ s.f F.tmbCtl_PPS_SERVO = 1 ∧ s.time.st = .locked then (s1.enterHoldover).raise Ev.PPS_LOSS else s1

/-- Device time at the start of the present lath, in units of 2^-16 ns (R40). -/
def State.deviceUnits (s : State) : Nat :=
  let l := s.time.label.toNat
  (l / 2 ^ 48 * 1000000000 + l / 65536 % 2 ^ 32) * 65536 + l % 65536 + s.time.timeline.toNat * 4096

/-- R59: a whole second of device time falls in the present lath, and has had no pulse. -/
def State.secondNow (s : State) : Bool :=
  let d := 65536 * 1000000000
  s.time.live && !s.time.frameDue && !s.time.ppsDone && decide ((d - s.deviceUnits % d) % d < 1024 * 4096)

/-- R59: PPS_OUT's pulse. -/
def State.ppsOut (s : State) : State :=
  let w := s.f F.tmbPpsCtl_WIDTH_US
  let s1 := s.setTime fun t => { t with ppsDone := true }
  if w = 0 then s1 else s1.emit (.pps (min w 1000))

/-! ### Register writes of the block -/

/-- Whether any stall is STARTED (R57). -/
def State.anyStarted (s : State) : Bool := (List.range 16).any fun x => s.f F.scpStallState_STATE x == 2

/-- R44, R46: the steering source of a master in HOLDOVER is present: the registers, or a PPS_IN that has been seen. -/
def State.sourceBack (s : State) : Bool :=
  s.isMaster && s.time.st == .holdover && (s.f F.tmbCtl_PPS_SERVO == 0 || s.f F.tmbStatus_PPS_SEEN == 1)

/-- R54, R58: the role: free before START, afterwards changed only by a follower in HOLDOVER that becomes master. -/
def State.wrRole (s : State) (v : Nat) : State :=
  if s.time.st = .off then s.setF F.tmbCtl_DOMAIN_ROLE 0 v
  else if v = 1 ∧ s.time.st = .holdover then s.setF F.tmbCtl_DOMAIN_ROLE 0 1
  else s

/-- R54-R58: a write of TMB_CTL: the plain fields and the role, then START and REJOIN. -/
def State.wrTmbCtl (s : State) (v : Nat) : State :=
  let s1 := ((s.setF F.tmbCtl_PPS_EN 0 (bits v 3 1)).setF F.tmbCtl_PPS_SERVO 0 (bits v 4 1)).setF F.tmbCtl_TICK_OUT_EN 0 (bits v 5 1)
  let s2 := s1.wrRole (bits v 2 1)
  let s3 := if s2.sourceBack then s2.leaveHoldover .locked else s2
  let s4 :=
    if bits v 0 1 = 1 ∧ s.time.st = .off then
      if s3.isMaster then s3.setTime fun t => { t with st := .free, starting := true }
      else s3.setTime fun t => { t with st := .acquire, acqGood := 0, acqFrame := none }
    else s3
  if bits v 1 1 = 1 ∧ s.time.st = .isolated ∧ ¬ s.anyStarted then
    s4.setTime fun t => { t with st := .acquire, acqGood := 0, acqFrame := none, rejoin := true }
  else s4

/-- R49: a write of CRS_LEN_CHG. Before START it sets the initial length whatever DOMAIN_ROLE holds (DESIGN CHOICE, log entry 115). -/
def State.wrLenChg (s : State) (v : Nat) : State :=
  let nl := bits v 0 3
  let fr := bits v 3 8
  let t := s.time
  if t.st = .off then
    let c := if nl ≤ 4 then nl else 2
    s.setTime fun t => { t with len := c, nextLen := c }
  else if ¬ s.isMaster then s
  else if t.change then
    if fr = 0 ∧ (¬ t.taken ∨ 2 ≤ t.frames) then
      s.setTime fun t => { t with change := false, taken := false, frames := 0, nextLen := t.len }
    else s
  else if fr = 0 ∨ 4 < nl then s
  else s.setTime fun t => { t with change := true, taken := false, nextLen := nl, frames := max 2 fr }

/-- R60: a write of TMB_STEP_SEC. -/
def State.wrStepSec (s : State) (v : Nat) : State :=
  let s1 := s.setF F.tmbStepSec_SEC 0 (bits v 0 16)
  if bits v 16 1 = 0 then s1
  else
    let ns := signed 32 (s1.f F.tmbStepNs_NS)
    if ¬ s.isMaster ∨ ns ≤ -1000000000 ∨ 1000000000 ≤ ns then s1.setF F.tmbStepSec_REFUSED 0 1
    else
      match s1.maintBusy 0x61 with
      | some b => ((s1.maintRefuse 0x61 b).setF F.tmbStepSec_STATUS 0 3).setF F.tmbStepSec_BUSY_ID 0 b
      | none =>
        let s2 := ((s1.maintStart 0x61).setF F.tmbStepSec_STATUS 0 1).setF F.tmbStepSec_REFUSED 0 0
        s2.setTime fun t => { t with stepReq := some (signed 16 (bits v 0 16), ns) }

/-- R61: a write of TMB_PHASE_ADJ replaces what is not yet applied. -/
def State.wrPhaseAdj (s : State) (v : Nat) : State :=
  (s.setF F.tmbPhaseAdj_PHASE 0 v).setTime fun t => { t with slewAcc := 0 }

/-- R40, TMB_EPOCHn: a write of piece `n` of the epoch label, before START only. -/
def State.wrEpoch (s : State) (n v : Nat) : State :=
  if s.time.st = .off then
    let (lo, w) := match n with | 0 => (0, 16) | 1 => (16, 32) | 2 => (48, 32) | _ => (80, 16)
    s.setTime fun t => { t with label := BitVec.ofNat 96 (putBits t.label.toNat lo w v) }
  else s

/-! ### Commands -/

def execTickFrameBoundary (s : State) : Res := runT s (onlyIf s.time.frameDue State.frameBoundary)

def execFollowingEntry (s : State) : Res :=
  match s.time.acqFrame with
  | some i => runT s (onlyIf (s.time.st == .acquire && 2 ≤ s.time.acqGood) fun s => s.followingEntry i)
  | none => runT s id

/-- R52, R55, R56: `offset` is what the edges at the ball lie after the device's own lath starts, in 1/64 ns, signed. -/
def execTickFrameReceived (f : BitVec 256) (offset : Word32) (s : State) : Res := runT s fun s => s.tickReceived f offset.toInt

def execTickLathMissed (s : State) : Res := runT s State.lathMissed

/-- R49: due at the frame boundary at which the countdown has reached zero. -/
def execLenChangeApplied (s : State) : Res := runT s (onlyIf (s.time.lenDue && !s.time.frameDue) State.lenChangeApply)

/-- R54, R59: a rising edge `edge` 1/64 ns into the current lath. -/
def execPpsInEdge (edge : Fin 4096) (s : State) : Res := runT s fun s => s.ppsEdge edge.val

/-- R46: due once no edge has come for 2 s. -/
def execPpsLoss (s : State) : Res := runT s (onlyIf s.ppsGone State.ppsLost)

/-- R59: due in the lath that holds a whole second of device time. -/
def execPpsOutPulse (s : State) : Res := runT s (onlyIf s.secondNow State.ppsOut)

end Sys2Proof.Machine
end

