-- ==== Sys2Proof/Machine/PacketMem.lean ====
section
/-! DEFINITION. Packet memory and buffer pools (R147-R159, R452), and the back-pressure a quota level brings (R81). -/

namespace Sys2Proof.Machine

/-! ### Descriptors -/

/-- Descriptor w6. -/
def Pkt.w6 (p : Pkt) : Nat :=
  p.port % 16 + p.stall.getD 0 % 16 * 16 + p.colour % 4 * 256 + p.verdict % 8 * 1024 + boolNat p.parseFail * 8192 +
    boolNat p.dir * 16384 + boolNat p.deferred * 32768

/-- Descriptor words w0-w15. -/
def Pkt.desc (p : Pkt) : List Word :=
  words64 p.stamp.toNat ++ words32 p.seq.toNat ++ [word p.w6, word p.len] ++ words32 p.cell ++ words32 p.station ++
    words32 p.hash ++ [word p.w14, word p.w15]

/-! ### Cells and chains (R147-R150) -/

def State.cell (s : State) (h : Nat) : CellLink := s.cells.get CellLink.reset h

def State.setCell (s : State) (h : Nat) (c : CellLink) : State := { s with cells := s.cells.set CellLink.reset h c }

/-- Free cells of a slice. -/
def State.freeIn (s : State) (slice : Nat) : Nat :=
  16384 - (s.cells.filter fun e => e.1 / 16384 == slice && (e.2.alloc || e.2.oos)).length

/-- Cells charged to a stall: allocated cells it owns. -/
def State.used (s : State) (x : Nat) : Nat := (s.cells.filter fun e => e.2.alloc && e.2.owner == x).length

/-- R150: the free cell a slice gives: lowest of the first group at or after the rotor that holds one, and the rotor after it. -/
def State.findFree (s : State) (slice : Nat) : Option (Nat × Nat) :=
  let rotor := s.rotors.get 0 slice
  (List.range 256).findSome? fun g =>
    let grp := (rotor + g) % 256
    ((List.range 64).find? fun b =>
      let c := s.cell (slice * 16384 + grp * 64 + b)
      !c.alloc && !c.oos).map fun b => (slice * 16384 + grp * 64 + b, (grp + 1) % 256)

/-- One cell of a slice for `owner`. -/
def State.takeCell (s : State) (slice owner : Nat) : Option (Nat × State) :=
  (s.findFree slice).map fun (h, r) =>
    (h, ({ s with rotors := s.rotors.set 0 slice r, cellData := s.cellData.erase h }).setCell h
      { next := 0, last := true, alloc := true, held := false, owner := owner, oos := false, written := false })

/-- R147: the generated slice with most free cells, lowest number first. -/
def State.bestSlice (s : State) : Nat :=
  [13, 14, 15].foldl (fun b i => if s.freeIn b < s.freeIn i then i else b) 12

/-- Cells one after the other, each linked to the one before it; `slice` none takes from the generated slices. -/
def State.takeCells (s : State) (slice : Option Nat) (owner : Nat) : Nat → Option (List Nat × State)
  | 0 => some ([], s)
  | n + 1 =>
    match s.takeCell (slice.getD s.bestSlice) owner with
    | none => none
    | some (h, s1) =>
      match s1.takeCells slice owner n with
      | none => none
      | some (hs, s2) =>
        match hs with
        | [] => some ([h], s2)
        | h2 :: _ => some (h :: hs, s2.setCell h { s2.cell h with next := h2, last := false })

/-- R151: cells of a slice taken one after the other, as many of `n` as it has, and given back: only the slice's rotor has moved. -/
def State.passCells (s : State) (slice : Nat) : Nat → State
  | 0 => s
  | n + 1 =>
    match s.takeCell slice 17 with
    | none => s
    | some (h, s1) =>
      let s2 := s1.passCells slice n
      s2.setCell h { s2.cell h with alloc := false }

/-- Cells needed for `len` bytes. -/
def cellsFor (len : Nat) : Nat := (len + 255) / 256

/-- R148: the cells of a chain from its head; no chain of the device is longer than 36 cells. -/
def State.chainFrom (s : State) : Nat → Nat → List Nat
  | 0, _ => []
  | n + 1, h => if (s.cell h).last then [h] else h :: s.chainFrom n (s.cell h).next

def State.chain (s : State) (h : Nat) : List Nat := s.chainFrom 64 h

/-- A byte of a cell. -/
def State.cellByte (s : State) (h i : Nat) : Byte := (s.cellData.get [] h).getD i 0

/-- `n` bytes of a chain from byte `off` (R148). -/
def State.chainBytes (s : State) (h off n : Nat) : List Byte :=
  let cs := s.chain h
  (List.range n).map fun i => s.cellByte (cs.getD ((off + i) / 256) 0) ((off + i) % 256)

/-- Bytes laid into the cells listed. -/
def State.fillCells (s : State) : List Nat → List Byte → State
  | [], _ => s
  | h :: hs, bs => State.fillCells { s with cellData := s.cellData.set [] h (bs.take 256) } hs (bs.drop 256)

/-- One byte of a cell changed. -/
def State.setCellByte (s : State) (h i : Nat) (b : Byte) : State :=
  let d := s.cellData.get [] h
  let d' := d ++ List.replicate (i + 1 - d.length) 0
  { s with cellData := s.cellData.set [] h (d'.set i b) }

def State.setChainBytes (s : State) (h off : Nat) (bs : List Byte) : State :=
  let cs := s.chain h
  (List.zip (List.range bs.length) bs).foldl (fun s (i, b) => s.setCellByte (cs.getD ((off + i) / 256) 0) ((off + i) % 256) b) s

/-! ### Quota levels and flow control (R81, R153) -/

/-- R153: the threshold of a level, 0 never reached. -/
def State.threshold (s : State) (x lvl : Nat) : Nat :=
  match lvl with
  | 1 => s.f F.pkmPoolGreen_GREEN x
  | 2 => s.f F.pkmPoolYellow_YELLOW x
  | 3 => s.f F.pkmPoolRed_RED x
  | _ => 0

/-- R153: the level of stall `x` now: up at a threshold, down only below it less HYST. -/
def State.levelNow (s : State) (x : Nat) : Nat :=
  let u := s.used x
  let cur := s.f F.pkmPoolStatus_LEVEL x
  let hyst := s.f F.pkmPoolCtl_HYST x
  let stays := fun l =>
    let t := s.threshold x l
    t != 0 && (t ≤ u || (l ≤ cur && t ≤ u + hyst))
  if stays 3 then 3 else if stays 2 then 2 else if stays 1 then 1 else 0

/-- R81: a MAC Control frame leaves a port that is up and not silent. -/
def State.sendMac (s : State) (n opcode mask quanta : Nat) : State :=
  if s.b F.prtStatus_LINK n && !s.b F.prtStatus_SILENT n then
    (((s.count F.prtTxPause_COUNT n).count64 F.prtTxFramesLo_COUNT F.prtTxFramesHi_COUNT n 1).count64
      F.prtTxBytesLo_COUNT F.prtTxBytesHi_COUNT n 64).emit (.macControl n opcode mask quanta)
  else s

/-- R81: XOFF with `quanta`, or XON with quanta zero, in the port's flow-control mode. -/
def State.sendXoff (s : State) (n quanta : Nat) : State :=
  if s.f F.prtFc_PAUSE_QUANTA n = 0 then s
  else
    match s.f F.prtCfg_FC_MODE n with
    | 1 => s.sendMac n 0x0001 0 quanta
    | 2 => if s.f F.prtFc_PFC_MASK n = 0 then s else s.sendMac n 0x0101 (s.f F.prtFc_PFC_MASK n) quanta
    | _ => s

/-- R81: whether a stall fed by the port in this course or the one before is at YELLOW or beyond. -/
def State.xoffCond (s : State) (n : Nat) : Bool :=
  n < 10 && (s.port n).fed.any fun e => s.course ≤ e.2 + 1 && 2 ≤ s.f F.pkmPoolStatus_LEVEL e.1

/-- R81: XOFF where the condition begins, XON where it ends. -/
def State.flowPort (s : State) (n : Nat) : State :=
  let on := (s.port n).xoff
  if s.xoffCond n && !on then
    (s.setPort n fun p => { p with xoff := true, xoffAt := s.now }).sendXoff n (s.f F.prtFc_PAUSE_QUANTA n)
  else if !s.xoffCond n && on then (s.setPort n fun p => { p with xoff := false }).sendXoff n 0
  else s

def State.flowAll (s : State) : State := (List.range 10).foldl (fun s n => s.flowPort n) s

/-- R153: the level follows USED, and a change raises POOL_LEVEL and moves the back-pressure. -/
def State.relevel (s : State) (x : Nat) : State :=
  if 16 ≤ x then s
  else
    let l := s.levelNow x
    if l = s.f F.pkmPoolStatus_LEVEL x then s
    else ((s.setF F.pkmPoolStatus_LEVEL x l).raise (Ev.POOL_LEVEL x) [word l]).flowAll

/-! ### Freeing -/

/-- The cells listed become free; a cell taken out of service stays out. -/
def State.freeCells (s : State) (hs : List Nat) : State :=
  hs.foldl (fun s h => s.setCell h { s.cell h with alloc := false, held := false }) s

/-- A whole chain is freed and its stall's level follows. -/
def State.freeChain (s : State) (h : Nat) : State :=
  let owner := (s.cell h).owner
  if (s.cell h).alloc then (s.freeCells (s.chain h)).relevel owner else s

/-- The owner of every cell of a chain. -/
def State.ownChain (s : State) (h owner : Nat) : State :=
  (s.chain h).foldl (fun s c => s.setCell c { s.cell c with owner := owner }) s

def State.setHeld (s : State) (h : Nat) (b : Bool) : State := s.setCell h { s.cell h with held := b }

/-! ### Charging (R152, R153, R452) -/

/-- R153: cells admitted at RED in the current lath. -/
def State.redAdmitted (s : State) (x : Nat) : Nat :=
  let (l, n) := s.redLath.get (0, 0) x
  if l = s.now / 1024 then n else 0

/-- R153: the frame is charged to stall `x`, or refused, freed and counted; the colour is the level at that moment (R452). -/
def State.charge (s : State) (p : Pkt) (x : Nat) : Option Pkt × State :=
  let n := (s.chain p.cell).length
  let refuse := fun (s1 : State) =>
    let s2 := s1.freeChain p.cell
    (none, if p.port < 12 then s2.count F.prtRxNobuf_COUNT p.port else s2)
  let lvl := s.f F.pkmPoolStatus_LEVEL x
  if s.f F.pkmPoolLimit_LIMIT x < s.used x + n then refuse (s.count F.pkmPoolStat_REFUSED x)
  else if lvl = 3 ∧ s.f F.pkmPoolCtl_RED_RATE x ≤ s.redAdmitted x then refuse (s.count F.pkmPoolStat_THROTTLED x)
  else
    let red := s.redAdmitted x + n
    let s1 := (s.ownChain p.cell x)
    let s2 := { s1 with redLath := s1.redLath.set (0, 0) x (s.now / 1024, red) }
    let s3 :=
      if p.port < 10 then s2.setPort p.port fun q => { q with fed := q.fed.insert x s.course } else s2
    (some { p with stall := some x, colour := lvl - 1 }, (s3.relevel x).flowAll)

/-! ### Default action (R94) -/

/-- R94: the house's exception channel takes the frame while FRAMES allows and it holds fewer than 64 messages. -/
def State.postHouse (s : State) (p : Pkt) : State :=
  let key := 16 * 1024
  let q := s.chans.get [] key
  if s.houseFrames < s.f F.pgrHouseLimit_FRAMES ∧ q.length < 64 then
    let owner := (s.cell p.cell).owner
    let s1 := (s.ownChain p.cell 16).relevel owner
    { s1 with chans := s1.chans.set [] key (q ++ [⟨p.desc, 2000, 2000, s.course⟩]), houseFrames := s1.houseFrames + 1 }
  else (s.freeChain p.cell).count F.pgrHouseLimit_HOUSE_DROP

/-! ### PKM_CELLx (R155-R157) -/

/-- R156: a failed operation's RESULT, and for codes 5 to 7 its counters, PKM_LAST_ERR and event. -/
def State.cellFail (s : State) (acc x stall h code : Nat) : State :=
  let s1 := s.wrA acc .pkmCellResult x 0 (h % 2 ^ 18 + code * 2 ^ 24)
  if code = 5 ∨ code = 6 ∨ code = 7 then
    let fl := if code = 5 then F.pkmPoolErr_DOUBLE_FREE else if code = 6 then F.pkmPoolErr_OWNER else F.pkmPoolErr_HELD
    ((s1.count fl stall).wr .pkmLastErr 0 0 (h % 2 ^ 18 + code * 2 ^ 18 + x * 2 ^ 22)).raise (Ev.POOL_ERROR stall) (word code :: words32 h)
  else s1

/-- R155: RESULT of a finished operation. -/
def State.cellDone (s : State) (acc x h n : Nat) (whole : Bool) : State :=
  s.wrA acc .pkmCellResult x 0 (h % 2 ^ 18 + n * 2 ^ 18 + boolNat whole * 2 ^ 28)

/-- R156: whether the register's owner may work on a cell. -/
def State.cellOwned (s : State) (x stall h : Nat) : Bool :=
  (s.cell h).owner == stall || (x == 16 && (s.cell h).owner == 16)

/-- R157: the thread behind an accessor, if it is one. -/
def accThread : Accessor → Option Nat
  | .worker t => some t.val
  | .house t => some (1024 + t.val)
  | _ => none

/-- R155 ALLOC. -/
def State.cellAlloc (s : State) (a : Accessor) (x stall n : Nat) : State :=
  let acc := a.num
  if n = 0 then s.cellDone acc x 0 0 false
  else if 36 < n then s.cellFail acc x stall 0 2
  else if s.f F.pkmPoolLimit_LIMIT stall < s.used stall + n then s.cellFail acc x stall 0 3
  else if s.freeIn 12 + s.freeIn 13 + s.freeIn 14 + s.freeIn 15 < n then s.cellFail acc x stall 0 4
  else
    let full := match accThread a with
      | some t => decide (8 ≤ (s.chains.get [] t).length)
      | none => false
    if full then s.cellFail acc x stall 0 8
    else
      match s.takeCells none stall n with
      | none => s.cellFail acc x stall 0 4
      | some (hs, s1) =>
        let h := hs.headD 0
        let s2 := match accThread a with
          | some t => { s1 with chains := s1.chains.set [] t (s1.chains.get [] t ++ [h]) }
          | none => s1
        (s2.relevel stall).cellDone acc x h n false

/-- A private chain's head changes, or the chain leaves every private list (R157). -/
def State.renamePrivate (s : State) (h : Nat) (h' : Option Nat) : State :=
  { s with chains := (s.chains.map fun (t, hs) => (t, hs.flatMap fun c => if c = h then h'.toList else [c])).filter fun e => !e.2.isEmpty }

/-- R155 FREE: COUNT 0 frees the whole chain; every cell is checked before any changes (R156). -/
def State.cellFree (s : State) (a : Accessor) (x stall h n : Nat) : State :=
  let acc := a.num
  let all := s.chain h
  let cut := if n = 0 then all else all.take n
  match cut.find? (fun c => !(s.cell c).alloc) with
  | some c => s.cellFail acc x stall c 5
  | none =>
    match cut.find? (fun c => !s.cellOwned x stall c) with
    | some c => s.cellFail acc x stall c 6
    | none =>
      if (s.cell h).held then s.cellFail acc x stall h 7
      else
        let owner := (s.cell h).owner
        let rest := all.drop cut.length
        let s1 := ((s.freeCells cut).renamePrivate h rest.head?).relevel owner
        match rest with
        | [] => s1.cellDone acc x h cut.length true
        | h2 :: _ => s1.cellDone acc x h2 cut.length false

/-- R157: a private chain that its own thread names in an output request is private no longer. -/
def State.unPrivate (s : State) (t h : Nat) : State :=
  { s with chains := s.chains.set [] t ((s.chains.get [] t).filter (· != h)) }

/-- R155 RELEASE. -/
def State.cellRelease (s : State) (a : Accessor) (x h : Nat) : State :=
  let s1 := match accThread a with
    | some t => s.unPrivate t h
    | none => s
  s1.cellDone a.num x h 0 false

/-- R155 LINK. NEXT is undefined in a chain's last cell (R148). -/
def State.cellLink (s : State) (a : Accessor) (x stall h : Nat) : State :=
  let c := s.cell h
  if !c.alloc then s.cellFail a.num x stall h 5
  else if !s.cellOwned x stall h then s.cellFail a.num x stall h 6
  else
    let (open_, s1) := s.freeNat
    let (next, s1) := if c.last then (open_ % 2 ^ 18, s1) else (c.next, s)
    let e := next + boolNat c.last * 2 ^ 18 + 2 ^ 19 + boolNat c.held * 2 ^ 20 + c.owner * 2 ^ 21
    (s1.wrA a.num .pkmCellLink x 0 e).cellDone a.num x h 0 false

/-- R158: a cell leaves service; it is neither free nor allocated, so its owner's level may fall. -/
def State.cellLost (s : State) (h : Nat) : State :=
  (s.setCell h { s.cell h with alloc := false, oos := true }).relevel (s.cell h).owner

/-- R158: what the check of a link entry finds: a single-bit error is corrected and counted, a double-bit error takes the cell out of service. -/
def State.linkChecked (s : State) (h : Nat) (ecc : Ecc) : State :=
  match ecc with
  | .ok => s
  | .corrected => s.count F.pkmEcc_CORR
  | .double => ((s.cellLost h).count F.pkmEcc_UNCORR).raise Ev.PKM_LINK_ECC

/-- R155: a write of PKM_CELLx.CMD performs one operation. -/
def State.wrCellCmd (s : State) (a : Accessor) (x v : Nat) : State :=
  let h := s.rdA a.num .pkmCellHandle x 0
  let n := bits v 8 6
  let stall := if x = 16 then bits v 16 4 else x
  match bits v 0 3 with
  | 1 => s.cellAlloc a x stall n
  | 2 => if 2 ^ 18 ≤ h then s.cellFail a.num x stall h 1 else s.cellFree a x stall h n
  | 3 => if 2 ^ 18 ≤ h then s.cellFail a.num x stall h 1 else s.cellRelease a x h
  | 4 => if 2 ^ 18 ≤ h then s.cellFail a.num x stall h 1 else s.cellLink a x stall h
  | _ => s

/-- R157: a thread's private chains are freed (reset, exit). -/
def State.freePrivate (s : State) (t : Nat) : State :=
  let hs := s.chains.get [] t
  let s1 := { s with chains := s.chains.erase t }
  hs.foldl (fun s h => s.freeChain h) s1

end Sys2Proof.Machine
end

