-- ==== Sys2Proof/Machine/Crypto.lean ====
section
/-! DEFINITION. The algorithms the manual names: AES, AES-GCM, AES Key Wrap (RFC 3394), HMAC-SHA-384 and ECDSA on P-384 (R122, R123, R128,
R377, R378, R422, R428).
Bytes are numbers below 256 here; the functions on `Byte` lists stand at the end. -/

namespace Sys2Proof.Machine

/-! ### AES -/

/-- Element `i` of a table of `w`-bit numbers packed in one number, the first lowest. -/
def packed (t w i : Nat) : Nat := t / 2 ^ (w * i) % 2 ^ w

/-- The AES S-box and its inverse, 8 bits each. -/
def aesBox : Nat :=
  0x16BB54B00F2D99416842E6BF0D89A18CDF2855CEE9871E9B948ED9691198F8E19E1DC186B95735610EF6034866B53E708A8BBD4B1F74DDE8C6B4A61C2E2578BA08AE7A65EAF4566CA94ED58D6D37C8E779E4959162ACD3C25C2406490A3A32E0DB0B5EDE14B8EE4688902A22DC4F816073195D643D7EA7C41744975FEC130CCDD2F3FF1021DAB6BCF5389D928F40A351A89F3C507F02F94585334D43FBAAEFD0CF584C4A39BECB6A5BB1FC20ED00D153842FE329B3D63B52A05A6E1B1A2C830975B227EBE28012079A059618C323C7041531D871F1E5A534CCF73F362693FDB7C072A49CAFA2D4ADF04759FA7DC982CA76ABD7FE2B670130C56F6BF27B777C63
def aesUnbox : Nat :=
  0x7D0C2155631469E126D677BA7E042B17619953833CBBEBC8B0F52AAE4D3BE0A0EF9CC9939F7AE52D0D4AB519A97F51605FEC8027591012B131C7078833A8DD1FF45ACD78FEC0DB9A2079D2C64B3E56FC1BBE18AA0E62B76F89C5291D711AF1476EDF751CE837F9E28535ADE72274AC9673E6B4F0CECFF297EADC674F4111913A6B8A130103BDAFC1020F3FCA8F1E2CD00645B3B80558E4F70AD3BC8C00ABD890849D8DA75746155EDAB9EDFD5048706C92B6655DCC5CA4D41698688664F6F87225D18B6D49A25B76B224D92866A12E084EC3FA420B954CEE3D23C2A632947B54CBE9DEC444438E3487FF2F9B8239E37CFBD7F3819EA340BF38A53630D56A0952

def aesDouble (b : Nat) : Nat := if b < 128 then 2 * b else Nat.xor (2 * b) 0x11B

/-- A product in the AES field, by a factor below 16. -/
def aesTimes (k b : Nat) : Nat :=
  let d := aesDouble b
  let q := aesDouble d
  let pick := fun (i v : Nat) => if k / i % 2 = 1 then v else 0
  Nat.xor (Nat.xor (pick 1 b) (pick 2 d)) (Nat.xor (pick 4 q) (pick 8 (aesDouble q)))

def xorAll (a b : List Nat) : List Nat := List.zipWith Nat.xor a b

/-- The block moved along its rows by `k` columns per row number. -/
def aesRows (k : Nat) (b : List Nat) : List Nat := (List.range 16).map fun i => b.getD ((i + k * (i % 4)) % 16) 0

/-- The columns multiplied by the circulant matrix of four factors. -/
def aesColumns (m : List Nat) (b : List Nat) : List Nat :=
  (List.range 16).map fun i => (List.zip (List.range 4) m).foldl (fun a (j, k) => Nat.xor a (aesTimes k (b.getD (i / 4 * 4 + (i + j) % 4) 0))) 0

/-- The key schedule's word after `ws`, newest first, for a key of `nk` words; `rc` is the round constant. -/
def aesNextWord (nk rc : Nat) (ws : List (List Nat)) : List Nat :=
  let n := ws.length
  let t := ws.headD []
  let sub := fun (l : List Nat) => l.map (packed aesBox 8)
  let u := if n % nk = 0 then xorAll (sub (t.drop 1 ++ t.take 1)) [rc, 0, 0, 0] else if 6 < nk ∧ n % nk = 4 then sub t else t
  xorAll (ws.getD (nk - 1) []) u

def aesExpand (nk : Nat) : Nat → Nat → List (List Nat) → List (List Nat)
  | 0, _, ws => ws
  | n + 1, rc, ws => aesExpand nk n (if ws.length % nk = 0 then aesDouble rc else rc) (aesNextWord nk rc ws :: ws)

/-- Groups of `n`, the last perhaps shorter. -/
def chunks {α : Type} (n : Nat) : Nat → List α → List (List α)
  | 0, _ => []
  | k + 1, l => if l.isEmpty then [] else l.take n :: chunks n k (l.drop n)

/-- The round keys of a 16- or 32-byte key. -/
def aesKeys (key : List Nat) : List (List Nat) :=
  let nk := key.length / 4
  chunks 16 15 (aesExpand nk (3 * nk + 28) 1 (chunks 4 nk key).reverse).reverse.flatten

def aesRounds (b : List Nat) : List (List Nat) → List Nat
  | [] => b
  | k :: ks =>
    let r := aesRows 4 (b.map (packed aesBox 8))
    aesRounds (xorAll (if ks.isEmpty then r else aesColumns [2, 3, 1, 1] r) k) ks

def aesEncrypt (keys : List (List Nat)) (b : List Nat) : List Nat := aesRounds (xorAll b (keys.headD [])) keys.tail

def aesUnrounds (b : List Nat) : List (List Nat) → List Nat
  | [] => b
  | k :: ks =>
    let r := xorAll ((aesRows 12 b).map (packed aesUnbox 8)) k
    aesUnrounds (if ks.isEmpty then r else aesColumns [14, 11, 13, 9] r) ks

def aesDecrypt (keys : List (List Nat)) (b : List Nat) : List Nat :=
  let ks := keys.reverse
  aesUnrounds (xorAll b (ks.headD [])) ks.tail

/-! ### GCM -/

/-- Bytes as a number, the first most significant, and back. -/
def numOf (l : List Nat) : Nat := l.foldl (fun a b => a * 256 + b) 0
def bytesOf (n v : Nat) : List Nat := (List.range n).map fun i => v / 256 ^ (n - 1 - i) % 256

/-- One bit of the product in the GCM field: the sum so far and the factor's next multiple. -/
def ghashBit (x : Nat) (zv : Nat × Nat) (i : Nat) : Nat × Nat :=
  (if x / 2 ^ (127 - i) % 2 = 1 then Nat.xor zv.1 zv.2 else zv.1, if zv.2 % 2 = 1 then Nat.xor (zv.2 / 2) (0xE1 * 2 ^ 120) else zv.2 / 2)

def ghashTimes (x y : Nat) : Nat := ((List.range 128).foldl (ghashBit x) (0, y)).1

def padTo16 (l : List Nat) : List Nat := l ++ List.replicate ((16 - l.length % 16) % 16) 0

/-- The key stream's counter mode over a text, under a 12-byte nonce. -/
def gcmCrypt (keys : List (List Nat)) (nonce text : List Nat) : List Nat :=
  let bs := chunks 16 text.length text
  (List.zip (List.range bs.length) bs).flatMap fun (i, b) => xorAll b (aesEncrypt keys (nonce ++ bytesOf 4 (i + 2)))

/-- The 16-byte tag over the additional data and the ciphertext. -/
def gcmTag (keys : List (List Nat)) (nonce aad ct : List Nat) : List Nat :=
  let h := numOf (aesEncrypt keys (List.replicate 16 0))
  let d := padTo16 aad ++ padTo16 ct ++ bytesOf 8 (8 * aad.length) ++ bytesOf 8 (8 * ct.length)
  let y := (chunks 16 d.length d).foldl (fun y b => ghashTimes (Nat.xor y (numOf b)) h) 0
  xorAll (bytesOf 16 y) (aesEncrypt keys (nonce ++ [0, 0, 0, 1]))

/-! ### AES Key Wrap (RFC 3394) -/

/-- One step of the unwrap: the integrity word and the key's 8-byte parts, part `i` at step number `t`. -/
def unwrapStep (keys : List (List Nat)) (n : Nat) (ar : List Nat × List (List Nat)) (t : Nat) : List Nat × List (List Nat) :=
  let i := (t - 1) % n
  let b := aesDecrypt keys (xorAll ar.1 (bytesOf 8 t) ++ ar.2.getD i [])
  (b.take 8, ar.2.set i (b.drop 8))

/-- The key wrapped under a key-encryption key; `none` where the integrity check fails. -/
def keyUnwrap (kek wrapped : List Nat) : Option (List Nat) :=
  let parts := chunks 8 8 wrapped
  let n := parts.length - 1
  let ts := (List.range (6 * n)).map fun k => 6 * n - k
  let ar := ts.foldl (unwrapStep (aesKeys kek) n) (parts.headD [], parts.tail)
  if ar.1 = List.replicate 8 0xA6 then some ar.2.flatten else none

/-! ### HMAC-SHA-384 -/

/-- The round constants of SHA-512, 64 bits each, eight to a number. -/
def shaConstants : List Nat :=
  [0xAB1C5ED5DA6D8118923F82A4AF194F9B59F111F1B605D0193956C25BF348B538E9B5DBA58189DBBCB5C0FBCFEC4D3B2F7137449123EF65CD428A2F98D728AE22,
   0xC19BF174CF6926949BDC06A725C7123580DEB1FE3B1696B172BE5D74F27B896F550C7DC3D5FFB4E2243185BE4EE4B28C12835B0145706FBED807AA98A3030242,
   0x76F988DA831153B55CB0A9DCBD41FBD44A7484AA6EA6E4832DE92C6F592B0275240CA1CC77AC9C650FC19DC68B8CD5B5EFBE4786384F25E3E49B69C19EF14AD2,
   0x142929670A0E6E7006CA6351E003826FD5A79147930AA725C6E00BF33DA88FC2BF597FC7BEEF0EE4B00327C898FB213FA831C66D2DB43210983E5152EE66DFAB,
   0x92722C851482353B81C2C92E47EDAEE6766A0ABB3C77B2A8650A73548BAF63DE53380D139D95B3DF4D2C6DFC5AC42AED2E1B21385C26C92627B70A8546D22FFC,
   0x106AA07032BBD1B8F40E35855771202AD69906245565A910D192E819D6EF5218C76C51A30654BE30C24B8B70D0F89791A81A664BBC423001A2BFE8A14CF10364,
   0x682E6FF3D6B2B8A35B9CCA4F7763E3734ED8AA4AE3418ACB391C0CB3C5C95A6334B0BCB5E19B48A82748774CDF8EEB991E376C085141AB5319A4C116B8D2D0C8,
   0xC67178F2E372532BBEF9A3F7B2C67915A4506CEBDE82BDE990BEFFFA23631E288CC702081A6439EC84C87814A1F0AB7278A5636F43172F60748F82EE5DEFB2FC,
   0x1B710B35131C471B113F9804BEF90DAE0A637DC5A2C898A606F067AA72176FBAF57D4F7FEE6ED178EADA7DD6CDE0EB1ED186B8C721C0C207CA273ECEEA26619C,
   0x6C44198C4A4758175FCB6FAB3AD6FAEC597F299CFC657E2A4CC5D4BECB3E42B6431D67C49C100D4C3C9EBE0A15C9BEBC32CAAB7B40C7249328DB77F523047D84]

/-- The initial hash value of SHA-384, 64 bits each. -/
def shaStart : List Nat := (List.range 8).map (packed
  0x47B5481DBEFA4FA4DB0C2E0D64F98FA78EB44A876858151167332667FFC00B31152FECD8F70E59399159015A3070DD17629A292A367CD507CBBB9D5DC1059ED8 64)

def rotr64 (n x : Nat) : Nat := Nat.lor (x / 2 ^ n) (x * 2 ^ (64 - n) % 2 ^ 64)

/-- Three terms exclusive-ored: rotations by `a` and `b`, and `c`. -/
def shaMix (a b x c : Nat) : Nat := Nat.xor (Nat.xor (rotr64 a x) (rotr64 b x)) c

/-- One round: the schedule's window of 16 words and the eight working variables. -/
def shaRound (k : Nat) (w v : List Nat) : List Nat × List Nat :=
  let x := fun (i : Nat) => w.getD i 0
  let next := (x 0 + shaMix 1 8 (x 1) (x 1 / 128) + x 9 + shaMix 19 61 (x 14) (x 14 / 64)) % 2 ^ 64
  match v with
  | [a, b, c, d, e, f, g, h] =>
    let ch := Nat.xor (Nat.land e f) (Nat.land (2 ^ 64 - 1 - e) g)
    let maj := Nat.xor (Nat.xor (Nat.land a b) (Nat.land a c)) (Nat.land b c)
    let t1 := h + shaMix 14 18 e (rotr64 41 e) + ch + k + x 0
    let t2 := shaMix 28 34 a (rotr64 39 a) + maj
    (w.tail ++ [next], [(t1 + t2) % 2 ^ 64, a, b, c, (d + t1) % 2 ^ 64, e, f, g])
  | _ => (w, v)

def shaBlock (h block : List Nat) : List Nat :=
  let w := (chunks 8 16 block).map numOf
  let r := (List.range 80).foldl (fun (wv : List Nat × List Nat) i => shaRound (packed (shaConstants.getD (i / 8) 0) 64 (i % 8)) wv.1 wv.2) (w, h)
  List.zipWith (fun a b => (a + b) % 2 ^ 64) h r.2

/-- SHA-384 of a message of bytes. -/
def sha384 (m : List Nat) : List Nat :=
  let p := m ++ [0x80] ++ List.replicate ((239 - m.length % 128) % 128) 0 ++ bytesOf 16 (8 * m.length)
  (((chunks 128 p.length p).foldl shaBlock shaStart).take 6).flatMap (bytesOf 8)

/-- HMAC-SHA-384 with a key of at most 128 bytes. -/
def hmac384 (key m : List Nat) : List Nat :=
  let k := key ++ List.replicate (128 - key.length) 0
  sha384 (k.map (Nat.xor 0x5C) ++ sha384 (k.map (Nat.xor 0x36) ++ m))

/-! ### ECDSA on P-384 -/

/-- The field's prime, the order of the base point, and the curve's b. -/
def p384 : Nat := 2 ^ 384 - 2 ^ 128 - 2 ^ 96 + 2 ^ 32 - 1
def p384Order : Nat := 0xffffffffffffffffffffffffffffffffffffffffffffffffc7634d81f4372ddf581a0db248b0a77aecec196accc52973
def p384B : Nat := 0xb3312fa7e23ee7e4988e056be3f82d19181d9c6efe8141120314088f5013875ac656398d8a2ed19d2a85c8edd3ec2aef

/-- A point of the curve, X/Z² and Y/Z³; Z = 0 is the neutral point. -/
structure EcPoint where
  x : Nat
  y : Nat
  z : Nat
  deriving DecidableEq, Repr

def p384Base : EcPoint :=
  ⟨0xaa87ca22be8b05378eb1c71ef320ad746e1d3b628ba79b9859f741e082542a385502f25dbf55296c3a545e3872760ab7,
   0x3617de4a96262c6f5d9e98bf9292dc29f8f41dbd289a147ce9da3113b5f0b8c00a60b1ce1d7e819d7a431d7c90ea0e5f, 1⟩

/-- A difference modulo the field's prime, of terms below 16 times it. -/
def p384Sub (a b : Nat) : Nat := (a + 16 * p384 - b) % p384

def EcPoint.double (p : EcPoint) : EcPoint :=
  let d := p.z * p.z % p384
  let g := p.y * p.y % p384
  let b := p.x * g % p384
  let a := 3 * p384Sub p.x d * (p.x + d) % p384
  let x := p384Sub (a * a % p384) (8 * b)
  ⟨x, p384Sub (a * p384Sub (4 * b) x % p384) (8 * g * g % p384), 2 * p.y * p.z % p384⟩

def EcPoint.add (p q : EcPoint) : EcPoint :=
  if p.z = 0 then q
  else if q.z = 0 then p
  else
    let pz := p.z * p.z % p384
    let qz := q.z * q.z % p384
    let u := p.x * qz % p384
    let s := p.y * qz * q.z % p384
    let h := p384Sub (q.x * pz % p384) u
    let r := p384Sub (q.y * pz * p.z % p384) s
    if h = 0 then (if r = 0 then p.double else ⟨1, 1, 0⟩)
    else
      let hh := h * h % p384
      let hhh := h * hh % p384
      let v := u * hh % p384
      let x := p384Sub (r * r % p384) (hhh + 2 * v)
      ⟨x, p384Sub (r * p384Sub v x % p384) (s * hhh % p384), p.z * q.z * h % p384⟩

/-- The sum of two multiples, `i` bits at a time from the highest. -/
def ecSum (p q pq : EcPoint) (u v : Nat) : Nat → EcPoint → EcPoint
  | 0, r => r
  | i + 1, r =>
    let d := r.double
    ecSum p q pq u v i
      (match u / 2 ^ i % 2, v / 2 ^ i % 2 with
      | 0, 0 => d
      | 1, 0 => d.add p
      | 0, _ => d.add q
      | _, _ => d.add pq)

/-- A power modulo `m`, by the exponent's lowest `i` bits from the highest. -/
def powMod (m b e : Nat) : Nat → Nat → Nat
  | 0, r => r
  | i + 1, r =>
    let q := r * r % m
    powMod m b e i (if e / 2 ^ i % 2 = 1 then q * b % m else q)

/-- The public key is a point of the curve, and r and s lie in range. -/
def ecdsaRange (qx qy r s : Nat) : Bool :=
  decide (qx < p384) && decide (qy < p384) && qy * qy % p384 == (qx * qx * qx + (p384 - 3) * qx + p384B) % p384 &&
    decide (0 < r) && decide (r < p384Order) && decide (0 < s) && decide (s < p384Order)

/-- Whether the signature (r, s) verifies under the public key over a hash `e`. -/
def ecdsaOk (qx qy e r s : Nat) : Bool :=
  if !ecdsaRange qx qy r s then false
  else
    let q : EcPoint := ⟨qx, qy, 1⟩
    let w := powMod p384Order s (p384Order - 2) 384 1
    let t := ecSum p384Base q (p384Base.add q) (e * w % p384Order) (r * w % p384Order) 384 ⟨1, 1, 0⟩
    let zz := t.z * t.z % p384
    t.z != 0 && (t.x == r * zz % p384 || (decide (r + p384Order < p384) && t.x == (r + p384Order) * zz % p384))

/-! ### On bytes -/

def nats (bs : List Byte) : List Nat := bs.map BitVec.toNat
def bytes (l : List Nat) : List Byte := l.map (BitVec.ofNat 8)

/-- AES-GCM: the text en- or decrypted. -/
def gcmText (key nonce text : List Byte) : List Byte := bytes (gcmCrypt (aesKeys (nats key)) (nats nonce) (nats text))

/-- AES-GCM: the tag over additional data and ciphertext. -/
def gcmSeal (key nonce aad ct : List Byte) : List Byte := bytes (gcmTag (aesKeys (nats key)) (nats nonce) (nats aad) (nats ct))

/-- The four bytes of each word of a list, most significant first. -/
def w32Bytes (ws : List Word32) : List Byte := ws.flatMap fun w => bytes (bytesOf 4 w.toNat)

end Sys2Proof.Machine
end

