-- ==== Sys2Proof/Machine/Ports.lean ====
section
/-! DEFINITION. Ethernet ports (R69-R84): link up, receiving, PAUSE and PFC. Going down and transmitting are with the switch. -/

namespace Sys2Proof.Machine

def State.linkUp (s : State) (n : Nat) : Bool := s.b F.prtStatus_LINK n

/-- A 16-bit number of a frame, most significant byte first. -/
def be16 (bs : List Byte) (i : Nat) : Nat := (bs.getD i 0).toNat * 256 + (bs.getD (i + 1) 0).toNat

def etherType (bs : List Byte) : Nat := be16 bs 12

/-- One bit of the Ethernet CRC-32, least significant bit first. -/
def crc32Bit (c : Nat) : Nat := if c % 2 = 1 then Nat.xor (c / 2) 0xEDB88320 else c / 2

/-- The Ethernet CRC-32 of a frame's bytes. -/
def crc32 (bs : List Byte) : Nat :=
  Nat.xor (bs.foldl (fun c b => (List.range 8).foldl (fun c _ => crc32Bit c) (Nat.xor c b.toNat)) 0xFFFFFFFF) 0xFFFFFFFF

/-- A frame's bytes with its FCS, the CRC-32, least significant byte first. -/
def withFcs (bs : List Byte) : List Byte :=
  let c := crc32 bs
  bs ++ (List.range 4).map fun i => BitVec.ofNat 8 (c / 256 ^ i)

/-- The last four bytes are the FCS of those before them. -/
def fcsOk (bs : List Byte) : Bool := bs == withFcs (bs.take (bs.length - 4))

/-- R70, R375: an SCP frame by its EtherType; `elvant` by class 0xE in [15:12] of its first word (R331). -/
def State.isScp (s : State) (bs : List Byte) : Bool := etherType bs == s.f F.scpCfg_ETHERTYPE
def State.isElvant (s : State) (bs : List Byte) : Bool := s.isScp bs && be16 bs 14 / 4096 == 0xE

/-- R79: the MAC Control fields of a frame: opcode, priority-enable vector and quanta. -/
def macControl (bs : List Byte) : MacCtl :=
  if be16 bs 14 = 1 then { opcode := 1, enable := 0, quanta := [be16 bs 16] }
  else { opcode := be16 bs 14, enable := be16 bs 16, quanta := (List.range 8).map fun i => be16 bs (18 + 2 * i) }

/-- R48: the course of a stamp, never the strobe's: a stamp at or after a boundary whose strobe is still to come is of the course that begins
there. -/
def State.courseOf (s : State) (stamp : Word64) : Nat :=
  let t := s.time
  if t.strobeDue && !t.strobeFirst && decide (t.timeline ≤ stamp) then t.course.toNat + 1
  else if t.courseStart ≤ stamp then t.course.toNat
  else if t.prevStart ≤ stamp then t.course.toNat - 1
  else t.course.toNat - 2 - (t.backStart.takeWhile fun b => decide (stamp < b)).length

/-- The timeline at which the course of a stamp began. -/
def State.startOf (s : State) (stamp : Word64) : Word64 :=
  let t := s.time
  if t.strobeDue && !t.strobeFirst && decide (t.timeline ≤ stamp) then t.timeline
  else if t.courseStart ≤ stamp then t.courseStart
  else if t.prevStart ≤ stamp then t.prevStart
  else (t.backStart.find? fun b => decide (b ≤ stamp)).getD t.prevStart

/-- R42: the stamp at the reference plane: the instant at the balls less RX_ADJ (1/64 ns, a quarter of a timeline unit). -/
def State.rxStamp (s : State) (n : Nat) (at_ : Word64) : Word64 :=
  BitVec.ofInt 64 (((at_.toNat * 4 : Nat) - signed 16 (s.f F.tmbPortAdj_RX_ADJ n)) / 4)

/-- R77, R70: the first receive check a frame fails, as its counter. -/
def State.rxCheck (s : State) (n : Nat) (bs : List Byte) (err : Bool) : Option Fld :=
  if err then some F.prtRxTrunc_COUNT
  else if s.f F.prtCfg_MAX_LEN n < bs.length then some F.prtRxOversize_COUNT
  else if !fcsOk bs then some F.prtRxFcs_COUNT
  else if bs.length < 64 then some F.prtRxRunt_COUNT
  else if etherType bs = 0x8808 then some F.prtRxPause_COUNT
  else if 10 ≤ n ∧ !s.isElvant bs then some F.prtRxForeign_COUNT
  else none

/-- R78: the frame takes the port's next ingress sequence number. -/
def State.takeSeq (s : State) (n len : Nat) : Nat × State :=
  let q := s.f F.prtSeq_NEXT_SEQ n
  (q, ((s.setF F.prtSeq_NEXT_SEQ n (q + 1)).count64 F.prtRxFramesLo_COUNT F.prtRxFramesHi_COUNT n 1).count64
    F.prtRxBytesLo_COUNT F.prtRxBytesHi_COUNT n len)

/-- A packet fresh from a port. -/
def newPkt (stamp : Word64) (course seq port len cell : Nat) : Pkt :=
  { stamp := stamp, seq := BitVec.ofNat 32 seq, port := port, stampCourse := course, course := course, stall := none, colour := 0,
    verdict := 0, parseFail := false, dir := false, deferred := false, len := len, cell := cell, station := 0, hash := 0,
    w14 := 0, w15 := 0, exitCode := 0, esp := none, keyStamp := stamp }

/-- R327: the frame enters its course's IDENTITY list; the FCS is its last four bytes, as received. -/
def State.logFrame (s : State) (n : Nat) (stamp : Word64) (seq : Nat) (bs : List Byte) (cell : Option Nat) : State :=
  let c := s.courseOf stamp
  let e : Ident :=
    { port := n, seq := seq, course := c, offset := (stamp - s.startOf stamp).toNat, len := bs.length,
      fcs := be16 bs (bs.length - 4) * 65536 + be16 bs (bs.length - 2), code := 0, deferred := false,
      stamp := stamp, cell := cell, inner := none }
  { s with idents := s.idents ++ [e] }

/-- R70, R77, R78, R97, R151: a frame that passed the checks, in the cells it has, or without room in its slice. Frames of the SCP engine and
of the settlement unit go to their queue, and their cells are free again. -/
def State.rxAccept (s : State) (n : Nat) (stamp : Word64) (bs : List Byte) (cells : Option (List Nat)) : State :=
  let (seq, s1) := s.takeSeq n bs.length
  let log := fun (s : State) (c : Option Nat) => if n < 8 ∨ (n < 10 ∧ !s.isScp bs) then s.logFrame n stamp seq bs c else s
  match cells with
  | none => (log s1 none).count F.prtRxNobuf_COUNT n
  | some hs =>
    if 8 ≤ n ∧ (10 ≤ n ∨ s.isScp bs) then (s1.freeCells hs).setPort n fun p => { p with ctlQ := p.ctlQ ++ [bs] }
    else if 128 ≤ (s.port n).parseQ.length then (log (s1.freeCells hs) none).count F.prtRxNobuf_COUNT n
    else
      let pk := newPkt stamp (s.courseOf stamp) seq n bs.length (hs.headD 0)
      (log (s1.fillCells hs bs) hs.head?).setPort n fun p => { p with parseQ := p.parseQ ++ [pk] }

/-- A frame as a silent device holds it, matched with nothing yet (R333). -/
def heldOf (p : Pkt) (fcs len : Nat) (bad : Bool) : Held :=
  { pkt := p, fcs := fcs, len := len, entry := none, code := 0, referenced := false, bad := bad }

/-- R151: the cells a frame takes as its bytes arrive, reception stopping at MAX_LEN + 1 bytes; `none` where its slice runs out. -/
def State.rxCells (s : State) (n len : Nat) : Option (List Nat) × State :=
  let k := cellsFor (min len (s.f F.prtCfg_MAX_LEN n + 1))
  match s.takeCells (some n) 17 k with
  | some (hs, s1) => (some hs, s1)
  | none => (none, (s.passCells n k).count F.pkmSlice_FAILS n)

/-- R77, R78: the frame received meets the checks. -/
def State.rxJudge (s : State) (n : Nat) (stamp : Word64) (bs : List Byte) (err : Bool) (cells : Option (List Nat)) : State :=
  match s.rxCheck n bs err with
  | some c =>
    let s2 := (s.freeCells (cells.getD [])).count c n
    if c = F.prtRxPause_COUNT then s2.setPort n fun p => { p with mac := p.mac ++ [macControl bs] } else s2
  | none => s.rxAccept n stamp bs cells

/-- R74: codewords corrected and uncorrectable, these also for their course. -/
def State.countFec (s : State) (n corr uncorr : Nat) : State :=
  ((s.count64 F.prtFecCorrLo_COUNT F.prtFecCorrHi_COUNT n corr).count F.prtFecUncorr_COUNT n uncorr).setPort n fun p =>
    { p with uncorr := p.uncorr + uncorr }

/-- R74: the uncorrectable codewords of the course have reached UNCORR_THR. -/
def State.fecDown (s : State) (n : Nat) : Bool :=
  s.f F.prtFec_UNCORR_THR n != 0 && decide (s.f F.prtFec_UNCORR_THR n ≤ (s.port n).uncorr)

/-- R42, R73: whether a frame whose delimiter lies at this instant, at the balls, may be the next of its port: instants rise, none is later
than the present lath, and the port was up before it. -/
def State.rxDue (s : State) (n : Nat) (at_ : Word64) : Bool :=
  decide ((s.port n).lastAt.toNat ≤ at_.toNat) && ((s.port n).upAt == 0 || decide ((s.port n).upAt.toNat < at_.toNat)) &&
    decide (at_.toNat < s.now + 1024)

/-- R42, R73, R77, R78: a whole frame arrives on a port that is up. -/
def State.frameReceived (s : State) (n : Nat) (at_ : Word64) (bs : List Byte) (err : Bool) : State :=
  let (cells, s1) := (s.setPort n fun p => { p with lastAt := if s.time.live then at_ else 0 }).rxCells n bs.length
  s1.rxJudge n (s.rxStamp n at_) bs err cells

/-! ### PAUSE and PFC (R79, R80, R82) -/

/-- R80: the hold of one priority starts, changes or ends. -/
def holdSet (now : Nat) (holds : List (Nat × Nat)) (prio quanta : Nat) : List (Nat × Nat) :=
  let rest := holds.filter fun h => h.1 != prio
  if quanta = 0 then rest else rest ++ [(prio, now * 100 + quanta * 8192)]

/-- R79: the priorities and quanta a MAC Control frame names, where FC_MODE matches its opcode. -/
def holdsOf (mode : Nat) (m : MacCtl) : List (Nat × Nat) :=
  if mode = 1 ∧ m.opcode = 1 then [(8, m.quanta.headD 0)]
  else if mode = 2 ∧ m.opcode = 0x0101 then
    (List.range 8).filterMap fun i => if m.enable / 2 ^ i % 2 = 1 then some (i, m.quanta.getD i 0) else none
  else []

/-- PRT_STATUS.PAUSED follows the holds. -/
def State.setHolds (s : State) (n : Nat) (hs : List (Nat × Nat)) : State :=
  (s.setPort n fun p => { p with holds := hs, heldFor := if hs.isEmpty then none else p.heldFor }).setF F.prtStatus_PAUSED n
    (boolNat (!hs.isEmpty))

/-- R74, R82: a course starts: uncorrectable codewords count anew, a running hold has lasted one more course, and a full course without XOFF
ends the watchdog's ignoring. -/
def Port.strobe (p : Port) : Port :=
  { p with uncorr := 0, heldFor := if p.holds.isEmpty then none else some (match p.heldFor with | some c => c + 1 | none => 0),
           quiet := p.quiet + 1, wdIgnore := p.wdIgnore && decide (p.quiet = 0) }

def State.portStrobe (s : State) (n : Nat) : State := s.setPort n Port.strobe

/-! ### Commands -/

/-- R71: what training finds for the transmit taps is open; PRT_EQ reads it in MODE 1 and 2. -/
def State.trainTaps (s : State) (n : Nat) : State :=
  if s.f F.prtCfg_MODE n == 1 || s.f F.prtCfg_MODE n == 2 then
    let (k, s1) := s.freeNat
    s1.setPort n fun p => { p with taps := k % 64 + k / 64 % 64 * 256 + k / 4096 % 64 * 65536 }
  else s

/-- R73: negotiation, training and locks are complete, `at_` timeline units into the present lath, on an enabled port whose flush has ended. -/
def execLinkUp (n : Fin 12) (at_ : Fin 1024) (s : State) : Res :=
  run s (onlyIf (s.b F.prtCfg_ENABLE n && s.f F.prtCfg_MODE n != 0 && !s.linkUp n && !s.b F.prtStatus_FLUSHING n) fun s =>
    ((((s.trainTaps n).setPort n fun p => { p with upAt := if s.time.live then BitVec.ofNat 64 (s.now + at_.val) else 0 }).setF F.prtStatus_LINK n 1).setF
      F.prtStatus_TRAINED n 1).raise (Ev.LINK_UP n))

/-- R75: the flush ends. -/
def execFlushComplete (n : Fin 12) (s : State) : Res :=
  run s (onlyIf (s.b F.prtStatus_FLUSHING n) fun s => s.setF F.prtStatus_FLUSHING n 0)

/-- R72: negotiation restarts on an enabled port of MODE 1 or 2 that is not up. -/
def execTrainFail (n : Fin 12) (s : State) : Res :=
  run s (onlyIf (s.b F.prtCfg_ENABLE n && !s.linkUp n && (s.f F.prtCfg_MODE n == 1 || s.f F.prtCfg_MODE n == 2)) fun s =>
    (s.count F.prtStatus_TRAIN_FAILS n).raise (Ev.TRAIN_FAIL n))

end Sys2Proof.Machine
end

