-- ==== Sys2Proof/Machine/ParseGraph.lean ====
section
/-! DEFINITION. The parse graph (R85-R100): node words, the walk, its failures and results, loading and staging. -/

namespace Sys2Proof.Machine

/-! ### Staged entries (R100) -/

/-- The value of a staged register in force for a frame stamped in course `c`. -/
def State.inForce (s : State) (r : Reg) (i c : Nat) : Nat :=
  let e := s.staged.get Staged.reset (r.off i 0)
  if e.since ≤ c then e.cur else ((e.past.find? fun o => o.1 ≤ c).map (·.2)).getD 0

/-- At a strobe the staged value takes effect. -/
def State.stageApply (s : State) (r : Reg) (i : Nat) : State :=
  let e := s.staged.get Staged.reset (r.off i 0)
  let v := s.rd r i
  if v = e.cur then s
  else { s with staged := s.staged.set Staged.reset (r.off i 0) { cur := v, since := s.course, past := (e.since, e.cur) :: e.past } }

/-- R100: every staged register of the parse graph takes effect, and slots no longer named drain. -/
def State.graphStrobe (s : State) : State :=
  let s1 := (List.range 10).foldl (fun s n => s.stageApply .pgrPortCfg n) s
  let s2 := (List.range 16).foldl (fun s x => s.stageApply .pgrStallEntry x) s1
  (List.range 16).foldl
    (fun t g => if s.namedInForce g && !s2.namedInForce g then { t with drain := t.drain.set 0 g (s.course + 2) } else t) s2

/-! ### Nodes (R87, R88) -/

/-- R86: a slot's node count; values above 256 act as 256. -/
def State.nodeCount (s : State) (g : Nat) : Nat := min 256 (s.f F.pgrGraphCfg_NODES g)

/-- R88: `width` bits of the window from bit `start`, counted from the most significant bit of byte 0; none beyond byte W - 1. -/
def windowField (win : List Byte) (start width : Nat) : Option Nat :=
  if width = 0 then some 0
  else if win.length * 8 < start + width then none
  else
    let first := start / 8
    let n := (start + width + 7) / 8 - first
    let v := ((win.drop first).take n).foldl (fun a b => a * 256 + b.toNat) 0
    some (v / 2 ^ (n * 8 - (start % 8 + width)) % 2 ^ width)

/-- The fields of a node header and of transition `t`. -/
structure Node where
  selOff : Nat
  selBit : Nat
  selWidth : Nat
  ntrans : Nat
  wild : Bool
  short : Bool
  mask : Nat
  lenOff : Nat
  lenBit : Nat
  lenWidth : Nat
  deriving DecidableEq, Repr

def State.node (s : State) (g n : Nat) : Node :=
  let h := s.nodeWord g n
  { selOff := bits (h 0) 0 8, selBit := bits (h 0) 8 3, selWidth := bits (h 1) 0 6, ntrans := bits (h 1) 6 5,
    wild := bits (h 1) 11 1 == 1, short := bits (h 1) 12 1 == 1, mask := h 2 + 65536 * h 3, lenOff := bits (h 4) 0 8,
    lenBit := bits (h 4) 8 3, lenWidth := bits (h 4) 11 4 }

structure Trans where
  value : Nat
  next : Nat
  adv : Nat
  scale : Nat
  kind : Nat
  mark : Nat
  arg : Nat
  deriving DecidableEq, Repr

def State.trans (s : State) (g n t : Nat) : Trans :=
  let w := fun i => s.nodeWord g n (8 + 4 * t + i)
  { value := w 0 + 65536 * w 1, next := bits (w 2) 0 8, adv := bits (w 2) 8 8, scale := bits (w 3) 0 3, kind := bits (w 3) 3 3,
    mark := bits (w 3) 6 2, arg := bits (w 3) 8 8 }

/-! ### The walk (R89-R91) -/

/-- What a walk has marked and counted. -/
structure Marks where
  l3 : Nat
  l4 : Nat
  pay : Nat
  deriving DecidableEq, Repr

def Marks.set (m : Marks) (kind cursor : Nat) : Marks :=
  match kind with
  | 1 => { m with l3 := cursor }
  | 2 => { m with l4 := cursor }
  | 3 => { m with pay := cursor }
  | _ => m

/-- How a walk ends. -/
inductive WalkEnd where
  | exit (code node : Nat)
  | steerDrop
  | cipher (cursor : Nat)
  | fail (kind node slot visits : Nat)
  deriving DecidableEq, Repr

/-- Where a walk stands. `stall` none is phase STEER. `came` is the node a failed entry is blamed on (R93). -/
structure WalkAt where
  slot : Nat
  node : Nat
  came : Nat
  cursor : Nat
  visits : Nat
  stall : Option Nat
  marks : Marks
  deriving DecidableEq, Repr

/-- R85: whether a slot may serve in this phase. -/
def State.slotServes (s : State) (g : Nat) (stall : Option Nat) : Bool :=
  s.f F.pgrGraphCfg_OWNER g == stall.getD 16

/-- R89: the transition a node takes, or the failure. -/
def State.choose (s : State) (win : List Byte) (g n : Nat) (nd : Node) (cursor : Nat) : Nat ⊕ Nat :=
  match windowField win ((cursor + nd.selOff) * 8 + nd.selBit) nd.selWidth with
  | none => if nd.short && nd.wild && nd.ntrans != 0 then .inl (nd.ntrans - 1) else .inr 2
  | some v =>
    let f := Nat.land v nd.mask
    match (List.range nd.ntrans).find? fun t => Nat.land (s.trans g n t).value nd.mask == f with
    | some t => .inl t
    | none => if nd.wild && nd.ntrans != 0 then .inl (nd.ntrans - 1) else .inr 1

/-- One node visit: the walk goes on, or ends. `perr` is the visit at which a parity error is found (0 none); `entry` gives the
outer entry of a stall in force for the frame. -/
def State.visit (s : State) (win : List Byte) (perr : Nat) (entry : Nat → Nat) (w : WalkAt) : WalkAt ⊕ WalkEnd :=
  let v := w.visits + 1
  let g := w.slot
  let n := w.node
  if s.nodeCount g ≤ n || !s.slotServes g w.stall then .inr (.fail 4 w.came g w.visits)
  else if 24 < v then .inr (.fail 3 n g v)
  else if perr = v then .inr (.fail 7 n g v)
  else
    let nd := s.node g n
    if 32 < nd.selWidth ∨ 16 < nd.ntrans ∨ 8 < nd.lenWidth then .inr (.fail 4 n g v)
    else
      match s.choose win g n nd w.cursor with
      | .inr k => .inr (.fail k n g v)
      | .inl t =>
        let tr := s.trans g n t
        if 5 < tr.scale ∨ 3 < tr.kind then .inr (.fail 4 n g v)
        else
          let len := if tr.scale = 0 then some 0 else windowField win ((w.cursor + nd.lenOff) * 8 + nd.lenBit) nd.lenWidth
          match len with
          | none => .inr (.fail 2 n g v)
          | some len =>
            let cur := w.cursor + tr.adv + (if tr.scale = 0 then 0 else len * 2 ^ (tr.scale - 1))
            if win.length < cur ∨ (tr.mark ≠ 0 ∧ 255 < cur) then .inr (.fail 2 n g v)
            else
              let m := w.marks.set tr.mark cur
              match tr.kind, w.stall with
              | 0, _ => .inl { w with node := tr.next, came := n, cursor := cur, visits := v, marks := m }
              | 1, none => .inr .steerDrop
              | 1, some _ => .inr (.exit tr.arg n)
              | 2, none =>
                let x := tr.arg % 16
                let e := entry x
                if bits e 4 1 = 0 then .inr (.fail 6 n g v)
                else .inl { slot := bits e 0 4, node := bits e 16 8, came := bits e 16 8, cursor := cur, visits := v, stall := some x, marks := m }
              | 3, none => .inr (.cipher cur)
              | _, _ => .inr (.fail 5 n g v)

/-- The marks and stall with which a walk ended are those of the last node visited. -/
def Marks.after (s : State) (win : List Byte) (w : WalkAt) : Marks :=
  let nd := s.node w.slot w.node
  match s.choose win w.slot w.node nd w.cursor with
  | .inr _ => w.marks
  | .inl t =>
    let tr := s.trans w.slot w.node t
    let len := if tr.scale = 0 then 0 else (windowField win ((w.cursor + nd.lenOff) * 8 + nd.lenBit) nd.lenWidth).getD 0
    let cur := w.cursor + tr.adv + (if tr.scale = 0 then 0 else len * 2 ^ (tr.scale - 1))
    w.marks.set tr.mark cur

/-- R89: the whole walk, which ends within 25 node entries. MARK is recorded before KIND is carried out, so failures 5 and 6 keep the mark of
the transition they end. -/
def State.walk (s : State) (win : List Byte) (perr : Nat) (entry : Nat → Nat) : Nat → WalkAt → WalkEnd × WalkAt
  | 0, w => (.fail 3 w.node w.slot w.visits, w)
  | fuel + 1, w =>
    match s.visit win perr entry w with
    | .inl w' => s.walk win perr entry fuel w'
    | .inr (.fail k n g v) => (.fail k n g v, if k = 5 ∨ k = 6 then { w with marks := Marks.after s win w } else w)
    | .inr e => (e, { w with marks := Marks.after s win w })

/-! ### Results (R92-R95) -/

/-- R93: the failure is counted and captured. -/
def State.parseFail (s : State) (p : Pkt) (kind node slot visits : Nat) : State :=
  let s1 := (if p.port < 10 then s.count F.pgrPortStatFail_FAIL p.port else s).count F.pgrKindFail_COUNT (kind - 1)
  let s2 := match p.stall with
    | some x => (s1.count F.pgrStallFail_COUNT x).raise (Ev.PARSE_FAIL x)
    | none => s1
  let s3 := s2.wr .pgrLastFail 0 0
    (kind + p.port % 16 * 2 ^ 4 + slot * 2 ^ 8 + p.stall.getD 0 * 2 ^ 12 + node * 2 ^ 16 + visits % 32 * 2 ^ 24)
  if kind = 7 then s3.raise Ev.PGR_PARITY else s3

/-- A frame goes to the dispatcher. -/
def State.present (s : State) (p : Pkt) : State := { s with dispQ := s.dispQ ++ [p] }

/-- R94: the default action of the frame's ingress port. -/
def State.defaultAction (s : State) (p : Pkt) : State :=
  let d := if p.port < 10 then bits (s.inForce .pgrPortCfg p.port p.stampCourse) 16 2 else 0
  match d, p.stall with
  | 1, some _ => s.present { p with station := 0, hash := 0 }
  | 2, _ => s.postHouse p
  | _, _ => s.freeChain p.cell

/-- R93: what a failed walk leaves in the descriptor. -/
def Pkt.failed (p : Pkt) (m : Marks) (kind node : Nat) : Pkt :=
  { p with parseFail := true, w14 := m.l3 % 256 + m.l4 % 256 * 256, w15 := kind + node * 256 }

/-- R92: what a successful walk leaves in the descriptor. -/
def Pkt.parsed (p : Pkt) (m : Marks) (code node : Nat) : Pkt :=
  { p with parseFail := false, w14 := m.l3 + m.l4 * 256, w15 := m.pay + node * 256, exitCode := code }

/-- R89: the window of a frame from a port: never the FCS. -/
def State.outerWindow (s : State) (p : Pkt) : List Byte := s.chainBytes p.cell 0 (min 256 (p.len - 4))

/-- R96: the window of an inner packet. -/
def State.innerWindow (s : State) (p : Pkt) : List Byte := s.chainBytes p.cell 0 (min 256 p.len)

/-- The window of the walk that produced a frame's exit (R102). -/
def State.window (s : State) (p : Pkt) : List Byte := if p.esp.isSome || 12 ≤ p.port then s.innerWindow p else s.outerWindow p

/-- R89-R95, R152: the result of an outer walk; the frame is charged to the stall its steering reached. -/
def State.outerResult (s : State) (p : Pkt) (e : WalkEnd) (w : WalkAt) : State :=
  match e with
  | .steerDrop => (s.freeChain p.cell).count F.pgrPortStatSteer_STEER_DROP p.port
  | .cipher cursor =>
    if 512 ≤ s.cipherQ.length then (s.freeChain p.cell).count F.prtRxNobuf_COUNT p.port
    else
      let info : EspInfo :=
        { outerCell := p.cell, outerLen := p.len, cursor := cursor, l3 := w.marks.l3, l4 := w.marks.l4, spi := 0, udp := false }
      { s with cipherQ := s.cipherQ ++ [{ p with esp := some info }] }
  | .exit code node =>
    match s.charge p (w.stall.getD 0) with
    | (none, s1) => s1
    | (some p, s1) => { s1 with classQ := s1.classQ ++ [p.parsed w.marks code node] }
  | .fail kind node slot visits =>
    match w.stall with
    | none => (s.parseFail p kind node slot visits).defaultAction (p.failed w.marks kind node)
    | some x =>
      match s.charge p x with
      | (none, s1) => s1
      | (some p, s1) => (s1.parseFail p kind node slot visits).defaultAction (p.failed w.marks kind node)

/-- R89: the walk of an outer window received on port `n` in course `c`; none where the port has no steering graph. -/
def State.outerWalk (s : State) (n c perr : Nat) (win : List Byte) : Option (WalkEnd × WalkAt) :=
  let cfg := s.inForce .pgrPortCfg n c
  if bits cfg 18 1 = 0 then none
  else
    let start : WalkAt :=
      { slot := bits cfg 0 4, node := bits cfg 8 8, came := bits cfg 8 8, cursor := 0, visits := 0, stall := none, marks := ⟨255, 255, 255⟩ }
    some (s.walk win perr (fun x => s.inForce .pgrStallEntry x c) 26 start)

/-- R89: the walk of the oldest frame of a port's queue. -/
def State.parseWalk (s : State) (n perr : Nat) : State :=
  match (s.port n).parseQ with
  | [] => s
  | p :: rest =>
    let s1 := s.setPort n fun q => { q with parseQ := rest }
    match s1.outerWalk n p.stampCourse perr (s1.outerWindow p) with
    | none => (s1.freeChain p.cell).count F.pgrPortStatSteer_STEER_DROP n
    | some (e, w) => s1.outerResult p e w

/-- R96, R321: the walk of the oldest inner packet; a frame recirculated by outputs 12-13 brings its L3 in `w14`. -/
def State.innerWalk (s : State) (perr : Nat) : State :=
  match s.reparseQ with
  | [] => s
  | p :: rest =>
    let s1 := { s with reparseQ := rest }
    let x := p.stall.getD 0
    let e := s1.inForce .pgrStallEntry x p.stampCourse
    let m : Marks := ⟨if p.port = 12 ∨ p.port = 13 then p.w14 else 0, 255, 255⟩
    if bits e 12 1 = 0 then
      (s1.parseFail p 6 (bits e 24 8) (bits e 8 4) 0).defaultAction (p.failed m 6 (bits e 24 8))
    else
      let start : WalkAt :=
        { slot := bits e 8 4, node := bits e 24 8, came := bits e 24 8, cursor := 0, visits := 0, stall := some x, marks := m }
      match s1.walk (s1.innerWindow p) perr (fun _ => 0) 26 start with
      | (.exit code node, w) => { s1 with classQ := s1.classQ ++ [p.parsed w.marks code node] }
      | (.fail kind node slot visits, w) => (s1.parseFail p kind node slot visits).defaultAction (p.failed w.marks kind node)
      | (_, _) => s1

/-! ### Loading (R98, R99) -/

/-- R98: PTR advances, from register 35 to register 0 of the next node, and from node 255 to node 0. -/
def State.loadAdvance (s : State) (x : Nat) : State :=
  let (_, n, r) := s.loadPtr x
  if r = 35 then (s.setF F.pgrLoadPtr_REG x 0).setF F.pgrLoadPtr_NODE x (n + 1) else s.setF F.pgrLoadPtr_REG x (r + 1)

/-- R98: a refused loading write is counted with its reason; `true` says the write was taken. -/
def State.graphLoad (s : State) (x v : Nat) : Bool × State :=
  let (g, n, r) := s.loadPtr x
  if s.slotState g ≠ 0 then (false, (s.count F.pgrLoadStat_REFUSED x).setF F.pgrLoadStat_LAST_REASON x 1)
  else if s.f F.pgrGraphCfg_OWNER g ≠ x then (false, (s.count F.pgrLoadStat_REFUSED x).setF F.pgrLoadStat_LAST_REASON x 2)
  else
    let k := (g * 256 + n) * 72 + 2 * r
    (true, { s with graphs := (s.graphs.set 0 k (word v)).set 0 (k + 1) (word (v / 65536)) }.loadAdvance x)

/-- R99: a write of PGR_GRAPH_CFGg is ignored unless the slot is IDLE. -/
def State.wrGraphCfg (s : State) (g v : Nat) : State :=
  if s.slotState g = 0 then (s.setF F.pgrGraphCfg_NODES g (min 256 (bits v 0 9))).setF F.pgrGraphCfg_OWNER g (bits v 20 5) else s

/-- A STALL reset clears the stall's entry at once; its slots drain until the end of the following course (R99). -/
def State.graphStallReset (s : State) (x : Nat) : State :=
  let e := (s.staged.get Staged.reset (Reg.pgrStallEntry.off x 0)).cur
  let s1 := { s.wr .pgrStallEntry x 0 0 with staged := s.staged.erase (Reg.pgrStallEntry.off x 0) }
  (List.range 16).foldl (fun t g => if stallNames e g && !t.slotLive g then { t with drain := t.drain.set 0 g (s.course + 2) } else t) s1

/-! ### Commands -/

/-- R89: `perr` is the visit at which the engine reads a node word of wrong parity, 0 for none. -/
def execParseWalk (n : Fin 12) (perr : Fin 25) (s : State) : Res := run s fun s => s.parseWalk n perr

def execInnerWalk (perr : Fin 25) (s : State) : Res := run s fun s => s.innerWalk perr

end Sys2Proof.Machine
end

