-- ==== Sys2Proof/Machine/Stations.lean ====
section
/-! DEFINITION. DRAM bytes, the station table and its cache (R114-R118), scans (R119-R121), learning and ageing (R136-R146). -/

namespace Sys2Proof.Machine

/-! ### DRAM contents -/

def State.dramByte (s : State) (a : Nat) : Byte := s.dram.get 0 a

def State.setDramByte (s : State) (a : Nat) (b : Byte) : State := { s with dram := s.dram.set 0 a b }

/-- The word at a byte address, earlier byte in [15:8] (log entry 3). -/
def State.dramWord (s : State) (a : Nat) : Word := (s.dramByte a).append (s.dramByte (a + 1))

def State.setDramWord (s : State) (a : Nat) (w : Word) : State :=
  (s.setDramByte a (w.extractLsb' 8 8)).setDramByte (a + 1) (w.extractLsb' 0 8)

def State.setDramBytes (s : State) (a : Nat) (bs : List Byte) : State :=
  (List.zip (List.range bs.length) bs).foldl (fun s (i, b) => s.setDramByte (a + i) b) s

/-- DRAM bytes `a` to `a + n - 1` read 0. -/
def State.zeroDram (s : State) (a n : Nat) : State := { s with dram := s.dram.filter fun e => !(a ≤ e.1 && e.1 < a + n) }

/-! ### Station records -/

/-- R114: a record's byte address in DRAM. -/
def State.recordAddr (s : State) (h : Nat) : Nat := s.f F.stnCfg_RECORD_BASE * 2 ^ 28 + 256 * h

/-- R114: whether a handle lies in stall `x`'s range; blocks still being zeroed are outside it. -/
def State.inRange (s : State) (x h : Nat) : Bool :=
  let b := h / 1024
  s.f F.stnRange_BASE x ≤ b && b < s.f F.stnRange_BASE x + s.f F.stnRange_BLOCKS x && !(s.rangeZero.get [] x).contains b

/-- The stall whose range holds a handle. -/
def State.rangeOwner (s : State) (h : Nat) : Option Nat := (List.range 16).find? fun x => s.inRange x h

def State.stnPresent (s : State) (h : Nat) : Bool := s.stn.any fun e => e.1 == h

/-- R117: a miss on the record waits for a way of its set. -/
def State.stnWaits (s : State) (h : Nat) : Bool := s.stnWait.any fun e => e.1 == h

/-- R117: a word of a station record, through the cache. -/
def State.stnWord (s : State) (h w : Nat) : Nat :=
  if s.stnPresent h then ((s.stn.get StnLine.reset h).words.get 0 w).toNat
  else if s.stnWaits h then ((s.stnWait.get StnLine.reset h).words.get 0 w).toNat
  else (s.dramWord (s.recordAddr h + 2 * w)).toNat

/-- The latest accepted course, plus one; zero before any. -/
def State.acceptedNext (s : State) : Nat := s.acceptedPlus

/-! ### Requests of hardware units to the DRAM arbiter (R365) -/

/-- R365: the default deadline of a requester for what arrived then. -/
def State.defaultDeadline (s : State) (r arrived : Nat) : Nat := (arrived + max 1 (s.f F.arbReqCtl_DEFAULT_LATHS r) * 1024) / 128 % 2 ^ 32

/-- R108, R365: the deadline of a frame's reads: its stamp plus two laths. -/
def Pkt.deadline (p : Pkt) : Nat := (p.stamp.toNat + 2048) / 128 % 2 ^ 32

/-- R365: a unit presents one request; `data` are the words that a write of it stores when the arbiter admits it. -/
def State.unitAsk (s : State) (r addr deadline : Nat) (read : Bool) (data : List Word) : State :=
  let q : UnitReq := { requester := r, addr := addr, read := read, deadline := deadline, arrived := s.now, no := s.useCtr, data := data }
  { s with ctl := { s.ctl with units := s.ctl.units ++ [q] }, useCtr := s.useCtr + 1 }

/-- R365: a unit presents requests for `n` lines from a byte address on. -/
def State.unitRequest (s : State) (r addr n deadline : Nat) (read : Bool) : State :=
  (List.range n).foldl (fun (s : State) i => s.unitAsk r (addr + 64 * i) deadline read []) s

/-! ### The station cache (R117, R118, R325) -/

/-- R118, R325: the dirty chunks of a line that hold no write of an unaccepted course. -/
def State.acceptedChunks (s : State) (l : StnLine) : List Nat := l.dirty.filter fun c => l.courses.get 0 c ≤ s.acceptedNext

/-- R118: chunks of a line go to DRAM, each as a request of requester 16 with its default deadline. -/
def State.chunksBack (s : State) (h : Nat) (l : StnLine) (cs : List Nat) : State :=
  let s1 := cs.foldl (fun s c =>
    (List.range 16).foldl (fun s j => s.setDramWord (s.recordAddr h + 2 * (16 * c + j)) (l.words.get 0 (16 * c + j)))
      (s.unitRequest 16 (s.recordAddr h + 64 * (c / 2)) 1 (s.defaultDeadline 16 s.now) false)) s
  s1.count F.stnStatWriteback_WRITEBACK 0 cs.length

/-- R118, R325: dirty chunks that hold no write of an unaccepted course go to DRAM. -/
def State.stnClean (s : State) (h : Nat) : State :=
  let l := s.stn.get StnLine.reset h
  let ok := s.acceptedChunks l
  (({ s with stn := s.stn.set StnLine.reset h { l with dirty := l.dirty.filter fun c => !ok.contains c } }).chunksBack h l ok)

/-- R118: the line has been dirty for CLEAN_COURSES whole courses. -/
def State.cleanDue (s : State) (h : Nat) : Bool :=
  let n := s.f F.stnCfg_CLEAN_COURSES
  let l := s.stn.get StnLine.reset h
  s.stnPresent h && n != 0 && !l.dirty.isEmpty && decide (l.dirtySince + n < s.course)

/-- R117, R325: whether a line may be replaced. -/
def State.stnEvictable (s : State) (h : Nat) : Bool :=
  let l := s.stn.get StnLine.reset h
  !s.stnHeld h && l.dirty.all fun c => l.courses.get 0 c ≤ s.acceptedNext

/-- R117: the least recently used replaceable line of a full set. -/
def State.stnVictim (s : State) (h : Nat) : Option Nat :=
  let lines := s.stn.filter fun e => e.1 % 4096 == h % 4096 && s.stnEvictable e.1
  match lines with
  | [] => none
  | e :: es => some (es.foldl (fun b e => if e.2.used < b.2.used then e else b) e).1

/-- The line of a record as DRAM holds it, or as it waits for a way. -/
def State.stnSource (s : State) (h : Nat) : StnLine :=
  if s.stnWaits h then s.stnWait.get StnLine.reset h
  else
    let ws := (List.range 128).foldl (fun (t : Tab Word) w => Tab.set 0 t w (s.dramWord (s.recordAddr h + 2 * w))) []
    { words := ws, dirty := [], used := 0, dirtySince := 0, courses := [] }

/-- R117: the record is read from DRAM into a line, a request of requester 16 with the deadline `dl`. -/
def State.stnInstall (s : State) (h dl : Nat) : State :=
  let l := { s.stnSource h with used := s.useCtr + 1 }
  ({ s with stn := s.stn.set StnLine.reset h l, stnWait := s.stnWait.erase h, useCtr := s.useCtr + 1 }).unitRequest 16 (s.recordAddr h) 4 dl true

/-- R117: whether an access to the record need not wait: it is in the cache, or its set has a way for it. -/
def State.stnReady (s : State) (h : Nat) : Bool :=
  s.stnPresent h || (s.stn.filter fun e => e.1 % 4096 == h % 4096).length < 16 || (s.stnVictim h).isSome

/-- R117: an access to a record, with the deadline of its thread or frame: a hit, or a miss that brings the record in. A miss whose set has
every way held is counted once and waits; what is written to the record meanwhile waits with it. -/
def State.stnAccess (s : State) (h dl : Nat) : State :=
  if s.stnPresent h then
    ({ s with stn := s.stn.modify StnLine.reset h fun l => { l with used := s.useCtr + 1 }, useCtr := s.useCtr + 1 }).count
      F.stnStatHit_HIT
  else
    let s1 := if s.stnWaits h then s else s.count F.stnStatMiss_MISS
    if (s1.stn.filter fun e => e.1 % 4096 == h % 4096).length < 16 then s1.stnInstall h dl
    else
      match s1.stnVictim h with
      | some v => let s2 := s1.stnClean v; ({ s2 with stn := s2.stn.erase v }).stnInstall h dl
      | none => if s.stnWaits h then s else { s1 with stnWait := s1.stnWait.set StnLine.reset h (s1.stnSource h) }.count F.stnStatSetWait_SET_WAIT

/-- An access with the station cache's default deadline: scans, binds, settlement. -/
def State.stnTouch (s : State) (h : Nat) : State := s.stnAccess h (s.defaultDeadline 16 s.now)

/-- A line with a word written; `since` is the present course, `course` the course the write belongs to (R325). -/
def StnLine.write (l : StnLine) (w : Nat) (v : Word) (since course : Nat) : StnLine :=
  { l with words := l.words.set 0 w v, dirty := if l.dirty.contains (w / 16) then l.dirty else l.dirty ++ [w / 16],
           dirtySince := if l.dirty.isEmpty then since else l.dirtySince,
           courses := l.courses.set 0 (w / 16) (max (l.courses.get 0 (w / 16)) course) }

/-- A word of a record written through the cache; one whose record waits for a way waits with it. -/
def State.stnWrite (s : State) (h w : Nat) (v : Word) (course : Nat) : State :=
  if s.stnPresent h then { s with stn := s.stn.modify StnLine.reset h fun l => l.write w v s.course course }
  else { s with stnWait := s.stnWait.set StnLine.reset h ((s.stnSource h).write w v s.course course) }

/-- A write by the hardware that settlement does not carry (R145). -/
def State.stnHw (s : State) (h w v : Nat) : State := s.stnWrite h w (word v) 0

/-- R329: a direct write of one word joins its course's delta of the chunk, which moves to the end. -/
def State.deltaDirect (s : State) (sa : Bool) (index w : Nat) (v : Word) : State :=
  let same := fun (d : Delta) => d.direct && d.course == s.course && d.sa == sa && d.index == index && d.chunk == w / 16
  let old : Tab Word := match s.deltas.find? same with
    | some d => d.words
    | none => []
  let d : Delta := { course := s.course, sa := sa, index := index, chunk := w / 16, words := old.insert w v, direct := true }
  { s with deltas := s.deltas.filter (fun d => !same d) ++ [d] }

/-- R324: a direct write of a word, by a stall thread or a bind. -/
def State.stnDirect (s : State) (h w : Nat) (v : Word) : State :=
  (s.stnWrite h w v (s.course + 1)).deltaDirect false h w v

/-- The station record's LAST_SEEN and PATH_STAMP. -/
def State.stn64 (s : State) (h w : Nat) : Nat :=
  s.stnWord h w + 2 ^ 16 * s.stnWord h (w + 1) + 2 ^ 32 * s.stnWord h (w + 2) + 2 ^ 48 * s.stnWord h (w + 3)

def State.setStn64 (s : State) (h w v : Nat) : State :=
  (((s.stnHw h w v).stnHw h (w + 1) (v / 2 ^ 16)).stnHw h (w + 2) (v / 2 ^ 32)).stnHw h (w + 3) (v / 2 ^ 48)

/-! w0: BOUND 0, FRESH 1, CONTESTED 2, PATH_VALID 3. -/

def State.stnFlag (s : State) (h i : Nat) : Bool := bits (s.stnWord h 0) i 1 == 1
def State.setStnFlag (s : State) (h i : Nat) (b : Bool) : State := s.stnHw h 0 (putBits (s.stnWord h 0) i 1 (boolNat b))

/-! ### Learning (R136-R139, R144) -/

/-- What a frame teaches (R137): IPV6, address, outer port. -/
structure Endpoint where
  ipv6 : Bool
  addr : List Word
  port : Nat
  deriving DecidableEq, Repr

/-- R137: the endpoint a window teaches, or none; `portOk`: the outer port is bytes L4 + 0 and L4 + 1. -/
def endpointOf (win : List Byte) (l3 l4 : Nat) (portOk : Bool) : Option Endpoint :=
  let ver := (win.getD l3 0).toNat / 16
  if l3 = 255 ∨ win.length ≤ l3 ∨ (ver ≠ 4 ∧ ver ≠ 6) then none
  else
    let start := if ver = 4 then l3 + 12 else l3 + 8
    let n := if ver = 4 then 2 else 8
    if win.length < start + 2 * n ∨ (portOk ∧ win.length < l4 + 2) then none
    else
      let ws := (List.range n).map fun i => word (be16 win (start + 2 * i))
      some { ipv6 := ver == 6, addr := List.replicate (8 - n) 0 ++ ws, port := if portOk then be16 win l4 else 0 }

/-- R137: the endpoint a frame's outer headers teach. -/
def State.endpoint (s : State) (p : Pkt) : Option Endpoint :=
  match p.esp with
  | some e => endpointOf (s.chainBytes e.outerCell 0 (min 256 (e.outerLen - 4))) e.l3 e.l4 e.udp
  | none => endpointOf (s.outerWindow p) (p.w14 % 256) (p.w14 / 256) (p.w14 / 256 != 255)

/-- R138: the learned path of a record. -/
def State.pathOf (s : State) (h : Nat) : Nat × Endpoint :=
  (bits (s.stnWord h 32) 0 4,
   { ipv6 := bits (s.stnWord h 32) 4 1 == 1, addr := (List.range 8).map fun i => word (s.stnWord h (36 + i)), port := s.stnWord h 35 })

/-- R137, R138: the path is written; the SA index only for an ESP frame. -/
def State.setPath (s : State) (h port : Nat) (e : Endpoint) (t : Nat) (spi : Option Nat) : State :=
  let s1 := (s.stnHw h 32 (port + boolNat e.ipv6 * 16)).stnHw h 35 e.port
  let s2 := (List.zip (List.range 8) e.addr).foldl (fun s (i, w) => s.stnHw h (36 + i) w.toNat) s1
  let s3 := match spi with
    | some i => (s2.stnHw h 33 i).stnHw h 34 (i / 65536 % 32)
    | none => s2
  (s3.setStn64 h 44 t).setStnFlag h 3 true

/-- R144: a flush guard of the stall or of the house covers the frame. -/
def State.guarded (s : State) (x port t : Nat) : Bool :=
  s.guards.any fun g => (g.owner == x || g.owner == 16) && g.port == port && t < g.since.toNat

/-- R138: the learning rule for a frame of stall `x` that hit record `h` and teaches the endpoint `e`. -/
def State.learn (s : State) (x h : Nat) (p : Pkt) (e : Option Endpoint) : State :=
  let t := p.stamp.toNat
  let s := s.stnAccess h p.deadline
  let spi := p.esp.map fun i => i.spi % 2 ^ 21
  let s := if e.isNone then s.count F.stnLstatNoPath_NO_PATH x else s
  if s.stnFlag h 1 then
    let s1 := s.setStn64 h 4 t
    let s2 := match e with
      | some e => ((((s1.setPath h p.port e t spi).setStnFlag h 2 false).stnHw h 2 0).count F.stnLstatLearns_LEARNS x)
      | none => s1
    s2.setStnFlag h 1 false
  else
    let s1 := s.setStn64 h 4 (max (s.stn64 h 4) t)
    match e with
    | none => s1
    | some e =>
      if s1.guarded x p.port t then s1.count F.stnLstatContests_STALE x
      else if !s1.stnFlag h 3 then (s1.setPath h p.port e t spi).count F.stnLstatLearns_LEARNS x
      else
        let (pp, pe) := s1.pathOf h
        let ps := s1.stn64 h 44
        if pp = p.port ∧ pe = e then
          if ps < t then
            let s2 := s1.setStn64 h 44 t
            match spi with
            | some i => (s2.stnHw h 33 i).stnHw h 34 (i / 65536 % 32)
            | none => s2
          else s1
        else
          let w := s1.f F.stnLearnCtl_FLAP_NS x * 16
          let contest := p.port ≠ pp ∧ 0 < w ∧ (t - ps) + (ps - t) ≤ w
          let ports := if ps ≤ t then pp + p.port * 16 else p.port + pp * 16
          let s2 :=
            if contest then
              ((s1.setStnFlag h 2 true).count F.stnLstatContests_CONTESTS x).raise (Ev.STATION_CONTESTED x) (words32 h ++ [word ports])
            else s1
          if ps < t ∨ (t = ps ∧ p.port < pp) then
            ((s2.setPath h p.port e t spi).stnHw h 2 (satAdd 16 (s2.stnWord h 2) 1)).count F.stnLstatMoves_MOVES x
          else s2.count F.stnLstatContests_STALE x

/-- R136: a frame teaches its station's record, on the ports that learn. -/
def State.learns (s : State) (p : Pkt) : Bool := p.port < 10 && bits (s.f F.stnLearnCtl_PORTS (p.stall.getD 0)) p.port 1 == 1

def State.learnNow (s : State) (p : Pkt) : State := if s.learns p then s.learn (p.stall.getD 0) (p.station % 2 ^ 20) p (s.endpoint p) else s

/-- R136: the learning unit takes the oldest frame that waits for it; one whose record must wait for a way of its set (R117) stays. -/
def State.learnNext (s : State) : State :=
  match s.learnQ with
  | [] => s
  | p :: rest =>
    if s.learns p && !s.stnReady (p.station % 2 ^ 20) then s.stnAccess (p.station % 2 ^ 20) p.deadline
    else State.learnNow { s with learnQ := rest } p

/-! ### Scans (R119-R121, R141, R142) -/

/-- R141: the age of a stamp in courses. -/
def State.age (s : State) (t : Nat) : Nat :=
  let start := s.time.courseStart.toNat
  if start ≤ t then 0 else (start - t + courseUnits s.time.len - 1) / courseUnits s.time.len

/-- Whether a handle belongs to the scan of owner `x` (16: every stall's range). -/
def State.scanOwns (s : State) (x h : Nat) : Bool := if x = 16 then (s.rangeOwner h).isSome else s.inRange x h

/-- The next handle of the scan at or after `h`, by blocks of 1,024. -/
def State.nextHandle (s : State) (x h : Nat) : Option Nat :=
  if 2 ^ 20 ≤ h then none
  else if s.scanOwns x h then some h
  else ((List.range 1024).find? fun b => h / 1024 < b && s.scanOwns x (b * 1024)).map (· * 1024)

/-- R120: whether a record meets every criterion of SEARCH. -/
def State.searchHit (s : State) (x port h : Nat) : Bool :=
  let mask := s.f F.stnCmdMatch_MASK x
  let w0 := s.stnWord h 0
  Nat.land w0 mask == Nat.land (s.f F.stnCmdMatch_VALUE x) mask &&
    (port == 15 || (bits w0 3 1 == 1 && bits (s.stnWord h 32) 0 4 == port)) &&
    (s.f F.stnCmdAge_COURSES x == 0 || s.f F.stnCmdAge_COURSES x ≤ s.age (s.stn64 h 4))

/-- R144: the flush clears an old path of its port. -/
def State.flushRecord (s : State) (sc : Scan) (h : Nat) : State :=
  let s := s.stnTouch h
  if s.stnFlag h 3 && bits (s.stnWord h 32) 0 4 == sc.port && s.stn64 h 44 < sc.since.toNat then
    (s.setStnFlag h 3 false).setStnFlag h 2 false
  else s

/-- R142: the sweep of stall `x` examines one record; `true` counts it. -/
def State.sweepRecord (s : State) (x h : Nat) : Bool × State :=
  let s := s.stnTouch h
  let limit := s.f F.stnLearnAge_LIMIT x
  let aged := s.stnFlag h 0 && !s.stnFlag h 1 && limit != 0 && limit ≤ s.age (s.stn64 h 4)
  if !aged then (false, s)
  else if s.f F.stnLearnSweep_ACTION x = 0 then (true, s.count F.stnLstatAged_AGED x)
  else if s.stnFlag h 3 then (true, ((s.count F.stnLstatAged_AGED x).setStnFlag h 3 false).setStnFlag h 2 false)
  else (false, s)

/-- One lath of a scan: up to `n` records in ascending order; a record that must wait for a way of its set (R117) ends the lath's part. -/
def State.scanSteps (s : State) (x : Nat) (sc : Scan) : Nat → Scan × State
  | 0 => ({ sc with done := sc.done || (s.nextHandle x sc.at_).isNone }, s)
  | n + 1 =>
    if sc.done then (sc, s)
    else
      match s.nextHandle x sc.at_ with
      | none => ({ sc with done := true }, s)
      | some h =>
        if !s.stnReady h then (sc, s.stnTouch h)
        else
        match sc.kind with
        | 1 =>
          let s1 := s.stnTouch h
          if s1.searchHit x sc.port h then ({ sc with done := true, found := some h, at_ := h + 1 }, s1)
          else s1.scanSteps x { sc with at_ := h + 1 } n
        | 3 => (s.flushRecord sc h).scanSteps x { sc with at_ := h + 1 } n
        | _ =>
          let (c, s1) := s.sweepRecord x h
          s1.scanSteps x { sc with at_ := h + 1, counted := sc.counted + boolNat c } n

/-- R119, R142: the lath's part of every scan and sweep. -/
def State.scanLath (s : State) : State :=
  let s1 := (List.range 17).foldl (fun s x =>
    match s.scans.get none x with
    | none => s
    | some sc => let (sc', s') := s.scanSteps x sc 64; { s' with scans := s'.scans.set none x (some sc') }) s
  (List.range 16).foldl (fun s x =>
    match s.sweeps.get none x with
    | none => s
    | some sc => let (sc', s') := s.scanSteps x sc 64; { s' with sweeps := s'.sweeps.set none x (some sc') }) s1

/-- The maintenance identity of FLUSH-BY-PORT on register `x` (R424). -/
def flushId (x : Nat) : Nat := if x = 16 then 0xA0 else 0x40 + x

/-- R120: a SEARCH or NEXT begins at `h`. -/
def State.startSearch (s : State) (x port h : Nat) : State :=
  let sc : Scan := { kind := 1, found := none, port := port, at_ := h, stop := 2 ^ 20, since := 0, counted := 0, done := false }
  { s with scans := s.scans.set none x (some sc) }.setF F.stnCmdResult_STATUS x 1

/-- R121, R144: a FLUSH-BY-PORT begins, with its guard. -/
def State.startFlush (s : State) (x port : Nat) : State :=
  let since := BitVec.ofNat 64 s.now
  let sc : Scan := { kind := 3, found := none, port := port, at_ := 0, stop := 2 ^ 20, since := since, counted := 0,
                     done := (s.nextHandle x 0).isNone }
  let g : FlushGuard := { owner := x, port := port, since := since, until_ := none }
  ({ s with scans := s.scans.set none x (some sc), guards := g :: s.guards }.maintStart (flushId x)).setF F.stnCmdResult_STATUS x 1

/-- A scan's command is refused with BUSY. -/
def State.scanBusy (s : State) (x id : Nat) : State := (s.setF F.stnCmdResult_STATUS x 5).setF F.stnCmdResult_BUSY_ID x id

/-- R119-R121: a write of STN_CMDx.CMD. NEXT takes its own CMD.PORT as its criterion, with MATCH and AGE as they stand (DESIGN CHOICE, log
entry 124). -/
def State.wrStnCmd (s : State) (x v : Nat) : State :=
  let op := bits v 0 2
  let port := bits v 4 4
  let flushing := match s.scans.get none x with | some sc => sc.kind == 3 | none => false
  if op = 0 then s
  else if flushing then (if op = 3 then s.maintRefuse (flushId x) (flushId x) else s).scanBusy x (flushId x)
  else
    let s := { s with scans := s.scans.set none x none }
    match op with
    | 1 =>
      let h := s.f F.stnCmdStart_HANDLE x
      if s.scanOwns x h then s.startSearch x port h else s.setF F.stnCmdResult_STATUS x 4
    | 2 =>
      match s.lastFound.get none x with
      | none => s.setF F.stnCmdResult_STATUS x 3
      | some h => s.startSearch x port (h + 1)
    | _ =>
      match s.maintBusy (flushId x) with
      | some b => (s.maintRefuse (flushId x) b).scanBusy x b
      | none => s.startFlush x port

/-- R120: the scan's result. -/
def State.scanResult (s : State) (x : Nat) (sc : Scan) : State :=
  let s1 := { s with scans := s.scans.set none x none }
  match sc.found with
  | some h => ({ s1 with lastFound := s1.lastFound.set none x (some h) }.setF F.stnCmdResult_HANDLE x h).setF F.stnCmdResult_STATUS x 2
  | none => s1.setF F.stnCmdResult_STATUS x 3

/-- R121, R144: the flush is done; its guard stays for two courses more. -/
def State.flushDone (s : State) (x : Nat) : State :=
  let s1 := { s with scans := s.scans.set none x none,
                     guards := s.guards.map fun (g : FlushGuard) => if g.owner == x && g.until_.isNone then { g with until_ := some (s.course + 2) } else g }
  let s2 := (s1.setF F.stnCmdResult_STATUS x 6).maintDone (flushId x)
  if x < 16 then s2.raise (Ev.FLUSH_DONE x) else s2

/-- R143: an ageing sweep begins. -/
def State.startSweep (s : State) (x : Nat) : State :=
  let sc : Scan := { kind := 4, found := none, port := 0, at_ := 0, stop := 2 ^ 20, since := 0, counted := 0, done := false }
  ({ s with sweeps := s.sweeps.set none x (some sc), sweepAt := s.sweepAt.set 0 x s.course }.maintStart (0x30 + x)).setF
    F.stnLearnSweepStat_STATUS x 1

/-- R143: a write of STN_LEARNs.SWEEP. -/
def State.wrSweep (s : State) (x v : Nat) : State :=
  let s1 := (s.setF F.stnLearnSweep_PERIOD x (bits v 0 16)).setF F.stnLearnSweep_ACTION x (bits v 16 1)
  if bits v 17 1 = 0 then s1
  else
    match s1.maintBusy (0x30 + x) with
    | some b => ((s1.maintRefuse (0x30 + x) b).setF F.stnLearnSweepStat_STATUS x 3).setF F.stnLearnSweepStat_BUSY_ID x b
    | none => s1.startSweep x

/-- R143: an automatic start, or its skipping. -/
def State.sweepAuto (s : State) (x : Nat) : State :=
  match s.maintBusy (0x30 + x) with
  | some b => { (s.maintRefuse (0x30 + x) b).count F.stnLearnSweepStat_SKIPPED x with sweepAt := s.sweepAt.set 0 x s.course }
  | none => s.startSweep x

/-- R142: the sweep ends. -/
def State.sweepDone (s : State) (x : Nat) (sc : Scan) : State :=
  (({ s with sweeps := s.sweeps.set none x none }.setF F.stnLearnSweepStat_STATUS x 2).maintDone (0x30 + x)).raise
    (Ev.AGE_SWEEP_DONE x) (words32 sc.counted)

/-! ### Ranges (R114) -/

/-- R114: whether a block holds a bound record. -/
def State.blockBound (s : State) (b : Nat) : Bool := (List.range 1024).any fun i => s.stnFlag (b * 1024 + i) 0

def blocksOf (base n : Nat) : List Nat := (List.range n).map fun i => base + i

/-- R114: a write of STN_RANGEs. -/
def State.wrStnRange (s : State) (x v : Nat) : State :=
  let base := bits v 0 10
  let n := bits v 10 11
  let new := blocksOf base n
  let old := blocksOf (s.f F.stnRange_BASE x) (s.f F.stnRange_BLOCKS x)
  let overlap := (List.range 16).any fun y => y != x && n != 0 && s.f F.stnRange_BLOCKS y != 0 &&
    base < s.f F.stnRange_BASE y + s.f F.stnRange_BLOCKS y && s.f F.stnRange_BASE y < base + n
  let removed := old.filter fun b => !(base ≤ b && b < base + n)
  let added := new.filter fun b => !(s.f F.stnRange_BASE x ≤ b && b < s.f F.stnRange_BASE x + s.f F.stnRange_BLOCKS x)
  if overlap ∨ 1024 < base + n ∨ removed.any s.blockBound then s
  else
    let s1 := (s.setF F.stnRange_BASE x base).setF F.stnRange_BLOCKS x n
    let zeroing := (s.rangeZero.get [] x).filter (fun b => base ≤ b && b < base + n) ++ added
    let s2 := { s1 with rangeZero := s1.rangeZero.set [] x zeroing }
    if !zeroing.isEmpty then s2.setF F.stnRange_READY x 0
    else if !(s.rangeZero.get [] x).isEmpty then s2.setF F.stnRange_READY x 1
    else s2

/-- R114: the added blocks' records are zeroed and READY is set. -/
def State.rangeReady (s : State) (x : Nat) : State :=
  let bs := s.rangeZero.get [] x
  let s1 := bs.foldl (fun s b => s.zeroDram (s.recordAddr (b * 1024)) (256 * 1024)) s
  { s1 with stn := s1.stn.filter (fun e => !bs.contains (e.1 / 1024)), stnWait := s1.stnWait.filter (fun e => !bs.contains (e.1 / 1024)),
            rangeZero := s1.rangeZero.erase x }.setF F.stnRange_READY x 1

/-! ### Commands -/

/-- R117: a record's line is brought into the station cache. -/
def execStationCacheFill (h : Fin 1048576) (s : State) : Res := run s fun s => s.stnTouch h

/-- R118, R325: a line that has been dirty for CLEAN_COURSES whole courses is written back. -/
def execStationWriteback (h : Fin 1048576) (s : State) : Res := run s (onlyIf (s.cleanDue h) fun s => s.stnClean h)

def execRangeReady (x : Fin 16) (s : State) : Res := run s (onlyIf (!(s.rangeZero.get [] x).isEmpty) fun s => s.rangeReady x)

/-- R120: due when the scan has found a record or come to the end. -/
def execScanResult (x : Fin 17) (s : State) : Res :=
  match s.scans.get none x with
  | some sc => run s (onlyIf (sc.done && sc.kind == 1) fun s => s.scanResult x sc)
  | none => run s id

def execFlushDone (x : Fin 17) (s : State) : Res :=
  match s.scans.get none x with
  | some sc => run s (onlyIf (sc.done && sc.kind == 3) fun s => s.flushDone x)
  | none => run s id

/-- R144: two courses after DONE. -/
def execFlushGuardEnd (x : Fin 17) (s : State) : Res :=
  run s fun s =>
    { s with guards := s.guards.filter fun g => !(g.owner == x.val && (match g.until_ with | some c => decide (c ≤ s.course) | none => false)) }

def execLearn (s : State) : Res := run s State.learnNext

/-- R143: due at the first course at least PERIOD courses after the previous sweep's start. -/
def execAgeSweepAuto (x : Fin 16) (s : State) : Res :=
  let p := s.f F.stnLearnSweep_PERIOD x
  run s (onlyIf (p != 0 && s.sweepAt.get 0 x + p ≤ s.course) fun s => s.sweepAuto x)

def execAgeSweepDone (x : Fin 16) (s : State) : Res :=
  match s.sweeps.get none x with
  | some sc => run s (onlyIf sc.done fun s => s.sweepDone x sc)
  | none => run s id

end Sys2Proof.Machine
end

