-- ==== Sys2Proof/Machine/Classify.lean ====
section
/-! DEFINITION. Classification (R101-R113): key profiles, the fold hash, the table, lookup, bind and unbind, reconciliation (R450). -/

namespace Sys2Proof.Machine

/-! ### CRC-32C (R104) -/

/-- One bit of the reflected CRC. -/
def crc32cBit (c : Nat) : Nat := if c % 2 = 1 then Nat.xor (c / 2) 0x82F63B78 else c / 2

def crc32cByte (c : Nat) (b : Byte) : Nat :=
  crc32cBit (crc32cBit (crc32cBit (crc32cBit (crc32cBit (crc32cBit (crc32cBit (crc32cBit (Nat.xor c b.toNat))))))))

/-- R104: CRC-32C, initial value and final XOR 0xFFFF_FFFF. -/
def crc32c (bs : List Byte) : Nat := Nat.xor (bs.foldl crc32cByte 0xFFFFFFFF) 0xFFFFFFFF

/-- The bytes of a number, most significant first. -/
def beBytes (n v : Nat) : List Byte := (List.range n).map fun i => BitVec.ofNat 8 (v / 2 ^ (8 * (n - 1 - i)))

/-- R104: the fold hash of a key under a stall's seed. -/
def State.foldHash (s : State) (x : Nat) (key : List Byte) : Nat := crc32c (beBytes 4 (s.f F.clsSeed_SEED x) ++ key)

/-! ### Keys (R101-R103) -/

/-- A key-building descriptor. -/
structure KeyDesc where
  offset : Nat
  length : Nat
  anchor : Nat
  role : Nat
  deriving DecidableEq, Repr

def State.keyDesc (s : State) (x bank prof i : Nat) : KeyDesc :=
  let a := s.bankWord x bank (256 + 32 * prof + 2 + 2 * i)
  let b := s.bankWord x bank (256 + 32 * prof + 3 + 2 * i)
  { offset := bits a 0 8, length := bits a 8 5, anchor := bits a 13 2, role := bits b 0 3 }

/-- R103: the descriptors of one role. -/
def withRole (ds : List KeyDesc) (r : Nat) : List KeyDesc := ds.filter fun d => d.role == r

/-- R103: a paired profile's descriptors are as the rule wants them. -/
def pairedOk (ds : List KeyDesc) : Bool :=
  match withRole ds 1, withRole ds 2, withRole ds 3, withRole ds 4 with
  | [a], [b], [], [] => a.length == b.length
  | [a], [b], [c], [d] => a.length == b.length && c.length == d.length
  | _, _, _, _ => false

/-- R102: where a descriptor's bytes start; none if its anchor reads 0xFF. -/
def anchorAt (p : Pkt) (a : Nat) : Option Nat :=
  match a with
  | 0 => some 0
  | 1 => if p.w14 % 256 = 255 then none else some (p.w14 % 256)
  | 2 => if p.w14 / 256 % 256 = 255 then none else some (p.w14 / 256 % 256)
  | _ => if p.w15 % 256 = 255 then none else some (p.w15 % 256)

def descBytes (p : Pkt) (win : List Byte) (d : KeyDesc) : List Byte :=
  ((win.drop ((anchorAt p d.anchor).getD 0 + d.offset)).take d.length)

/-- The bytes of the descriptors of one role. -/
def roleBytes (p : Pkt) (win : List Byte) (ds : List KeyDesc) (r : Nat) : List Byte :=
  (withRole ds r).flatMap (descBytes p win)

/-- R103: byte strings of equal length compared as unsigned big-endian numbers. -/
def beNat (bs : List Byte) : Nat := bs.foldl (fun a b => a * 256 + b.toNat) 0

/-- R102, R103: the canonical key and DIR, or none where the build fails (BAD_PROFILE, NO_ANCHOR, WINDOW, TOO_LONG). -/
def State.buildKey (s : State) (x bank prof : Nat) (p : Pkt) (win : List Byte) : Option (List Byte × Bool) :=
  let q0 := s.bankWord x bank (256 + 32 * prof)
  let n := bits q0 9 4
  let paired := bits q0 8 1 == 1
  let ds := (List.range n).map fun i => s.keyDesc x bank prof i
  let bad := decide (12 < n) || (ds.any fun d => decide (16 < d.length) || decide (4 < d.role)) || (paired && !pairedOk ds)
  let live := ds.filter fun d => d.length != 0
  if bad then none
  else if live.any fun d => (anchorAt p d.anchor).isNone then none
  else if live.any fun d => decide (win.length < (anchorAt p d.anchor).getD 0 + d.offset + d.length) then none
  else if 48 < 1 + (ds.map (·.length)).foldl (· + ·) 0 then none
  else
    let a := roleBytes p win ds 1 ++ roleBytes p win ds 3
    let b := roleBytes p win ds 2 ++ roleBytes p win ds 4
    let swap := paired && decide (beNat b < beNat a)
    let swapped := fun r => if r = 1 then 2 else if r = 2 then 1 else if r = 3 then 4 else if r = 4 then 3 else r
    let part := fun (d : KeyDesc) => if swap && d.role != 0 then roleBytes p win ds (swapped d.role) else descBytes p win d
    some (BitVec.ofNat 8 (bits q0 0 8) :: ds.flatMap part, swap)

/-! ### The table (R105, R106, R108) -/

/-- R105: the byte address of slot `i` of bucket `b`. -/
def State.slotAddr (s : State) (b i : Nat) : Nat := s.f F.clsCfg_TABLE_BASE * 2 ^ 24 + 64 * b + 8 * i

/-- A classification slot. -/
structure ClsSlot where
  hash : Nat
  handle : Nat
  stall : Nat
  valid : Bool
  deriving DecidableEq, Repr

def State.clsSlot (s : State) (b i : Nat) : ClsSlot :=
  let w := fun j => (s.dramWord (s.slotAddr b i + 2 * j)).toNat
  { hash := w 0 + 65536 * w 1, handle := w 2 + 65536 * (w 3 % 16), stall := bits (w 3) 4 4, valid := bits (w 3) 15 1 == 1 }

def State.setClsSlot (s : State) (b i : Nat) (e : ClsSlot) : State :=
  let w := [e.hash, e.hash / 65536, e.handle, e.handle / 65536 % 16 + e.stall * 16 + boolNat e.valid * 32768]
  (List.zip (List.range 4) w).foldl (fun s (j, v) => s.setDramWord (s.slotAddr b i + 2 * j) (word v)) s

def ClsSlot.empty : ClsSlot := { hash := 0, handle := 0, stall := 0, valid := false }

/-- R106: a hash's two buckets. -/
def buckets (h : Nat) : Nat × Nat :=
  let b1 := h % 2 ^ 18
  let b2 := h / 2 ^ 14 % 2 ^ 18
  (b1, if b2 = b1 then Nat.xor b1 1 else b2)

/-- The sixteen slots of a hash in the order of R106. -/
def slotOrder (h : Nat) : List (Nat × Nat) :=
  ((List.range 8).map fun i => ((buckets h).1, i)) ++ (List.range 8).map fun i => ((buckets h).2, i)

/-- R116: the key a station record holds. -/
def State.recordKey (s : State) (h : Nat) : List Byte :=
  (List.range (min 48 (bits (s.stnWord h 1) 0 6))).map fun i =>
    let w := s.stnWord h (8 + i / 2)
    BitVec.ofNat 8 (if i % 2 = 0 then w / 256 else w)

/-- R106: whether a slot is a hit for the stall's key. -/
def State.slotHit (s : State) (x hash : Nat) (key : List Byte) (bi : Nat × Nat) : Bool :=
  let e := s.clsSlot bi.1 bi.2
  e.valid && e.stall == x && e.hash == hash && bits (s.stnWord e.handle 1) 0 6 == key.length && s.recordKey e.handle == key

/-- R106: the handle a key is bound to. -/
def State.lookup (s : State) (x : Nat) (key : List Byte) : Option Nat :=
  let h := s.foldHash x key
  ((slotOrder h).find? fun bi => s.slotHit x h key bi).map fun bi => (s.clsSlot bi.1 bi.2).handle

/-- How a lookup ends: a hit, a miss, or a candidate's record that waits for a way of its set (R117). -/
inductive Look where
  | hit (h : Nat)
  | miss
  | wait (h : Nat)
  deriving DecidableEq, Repr

/-- R106: the lookup over slots in order: each candidate's record is read through the station cache, with the frame's deadline. -/
def State.probe (s : State) (x hash : Nat) (key : List Byte) (dl : Nat) : List (Nat × Nat) → Look × State
  | [] => (.miss, s)
  | bi :: rest =>
    let e := s.clsSlot bi.1 bi.2
    if e.valid && e.stall == x && e.hash == hash then
      if !s.stnReady e.handle then (.wait e.handle, s)
      else
        let s1 := s.stnAccess e.handle dl
        if s.slotHit x hash key bi then (.hit e.handle, s1) else s1.probe x hash key dl rest
    else s.probe x hash key dl rest

/-- R108: the set of a bucket line; which of the 8,192 is the implementation's. -/
def hotSetOf (b : Nat) : Nat := Config.hotSet b % 8192

/-- R108: a bucket line becomes the most recently used of the hot cache; the ninth of its set leaves. -/
def hotAdd (hot : List Nat) (b : Nat) : List Nat :=
  let rest := hot.filter (· != b)
  if rest.length < 8 then b :: rest
  else
    let same := rest.filter fun c => hotSetOf c == hotSetOf b
    match same[7]? with
    | some v => b :: rest.filter (· != v)
    | none => b :: rest

/-- R108: the classifier reads a bucket line; one that is not hot is read from DRAM as requester 17, with the frame's deadline. -/
def State.hotTouch (s : State) (b dl : Nat) : State :=
  let s1 := if s.hot.contains b then s.count F.clsHotHit_LINE_HIT
    else (s.count F.clsHotMiss_LINE_MISS).unitRequest 17 (s.slotAddr b 0) 1 dl true
  { s1 with hot := hotAdd s.hot b }

/-! ### Classifying (R101, R107, R112) -/

/-- R112: the miss action of an exit map word. -/
def State.missAction (s : State) (p : Pkt) (exit : Nat) : State :=
  let x := p.stall.getD 0
  match bits exit 4 2 with
  | 0 => s.defaultAction { p with station := 0, hash := 0 }
  | 1 => s.present { p with station := 0 }
  | _ => (s.freeChain p.cell).count F.clsStatDropped_DROPPED x

/-- R101-R107, R112: the oldest frame that waits for the classifier; it stays while a candidate's record waits for a way (R117). Both its
bucket lines are read, whichever holds the hit (DESIGN CHOICE, log entry 122). -/
def State.classify (s : State) : State :=
  match s.classQ with
  | [] => s
  | p :: rest =>
    let s0 := s
    let s := { s with classQ := rest }
    let x := p.stall.getD 0
    let bank := s.inForce .clsBank x p.stampCourse % 2
    let exit := s.bankWord x bank (p.exitCode % 256)
    match s.buildKey x bank (bits exit 0 4) p (s.window p) with
    | none => ((s.count F.clsStatKey_KEYFAIL x).count F.clsStatMiss_MISS x).missAction { p with hash := 0 } exit
    | some (key, dir) =>
      let h := s.foldHash x key
      let p := { p with dir := dir, hash := h }
      if s.f F.clsCfg_ENABLE = 0 ∨ s.reconciling then (s.count F.clsStatMiss_MISS x).missAction p exit
      else
        let s1 := (s.hotTouch (buckets h).1 p.deadline).hotTouch (buckets h).2 p.deadline
        match s1.probe x h key p.deadline (slotOrder h) with
        | (.wait hd, _) => s0.stnAccess hd p.deadline
        | (.miss, s1) => (s1.count F.clsStatMiss_MISS x).missAction p exit
        | (.hit hd, s1) =>
          let s2 := s1.count F.clsStatHit_HIT x
          let p := { p with station := hd + boolNat (s2.stnFlag hd 1) * 2 ^ 20 + 2 ^ 21 }
          { s2.present p with learnQ := s2.learnQ ++ [p] }

/-! ### Binding (R109-R111) -/

/-- R109: the accessor's STATUS. -/
def State.bindStatus (s : State) (acc x code other : Nat) : State := s.wrA acc .clsBindStatus x 0 (code + other * 16)

/-- R110: the lowest free slot of b1, else of b2. -/
def State.freeSlot (s : State) (hash : Nat) : Option (Nat × Nat) := (slotOrder hash).find? fun bi => !(s.clsSlot bi.1 bi.2).valid

/-- R110: the entry is placed and the record marked BOUND and FRESH. -/
def State.bindPlace (s : State) (x h hash : Nat) (bi : Nat × Nat) : State :=
  let s1 := s.setClsSlot bi.1 bi.2 { hash := hash, handle := h, stall := x, valid := true }
  ((s1.stnTouch h).stnDirect h 0 (word (putBits (s.stnWord h 0) 0 2 3))).setF F.clsBound_COUNT x (s.f F.clsBound_COUNT x + 1)

/-- R109: a bind's status code, with the handle found for DUPLICATE and the slot for OK. -/
def State.bindCheck (s : State) (x h : Nat) : Nat × Nat × Nat × Nat :=
  if !s.inRange x h then (1, 0, 0, 0)
  else if s.stnFlag h 0 then (2, 0, 0, 0)
  else
    let len := bits (s.stnWord h 1) 0 6
    if len = 0 ∨ 48 < len then (3, 0, 0, 0)
    else
      match s.lookup x (s.recordKey h) with
      | some o => (4, o, 0, 0)
      | none =>
        if s.f F.clsQuota_ENTRIES x ≤ s.f F.clsBound_COUNT x then (5, 0, 0, 0)
        else
          match s.freeSlot (s.foldHash x (s.recordKey h)) with
          | none => (6, 0, 0, 0)
          | some (b, i) => (0, 0, b, i)

/-- R109, R110: a bind; answers its status. -/
def State.bindRec (s : State) (x h : Nat) : Nat × Nat × State :=
  let (code, other, b, i) := s.bindCheck x h
  if code = 0 then (0, 0, s.bindPlace x h (s.foldHash x (s.recordKey h)) (b, i))
  else if code = 6 then (6, 0, (s.count F.clsStatKey_FULL x).raise (Ev.CLS_FULL x))
  else (code, other, s)

/-- The slot that names a handle, if any. -/
def State.slotOf (s : State) (x h : Nat) : Option (Nat × Nat) :=
  (slotOrder (s.foldHash x (s.recordKey h))).find? fun bi =>
    let e := s.clsSlot bi.1 bi.2
    e.valid && e.stall == x && e.handle == h

/-- R110: an unbind; answers its status. -/
def State.unbindRec (s : State) (x h : Nat) : Nat × State :=
  if !s.inRange x h then (1, s)
  else if !s.stnFlag h 0 then (2, s)
  else
    let s1 := match s.slotOf x h with
      | some (b, i) => s.setClsSlot b i ClsSlot.empty
      | none => s
    (0, ((s1.stnTouch h).stnDirect h 0 (word (putBits (s.stnWord h 0) 0 1 0))).setF F.clsBound_COUNT x (s.f F.clsBound_COUNT x - 1))

/-- R109, R111: a write of CLS_BINDx.CMD; a shadow refuses a session's bind or unbind with STATE. -/
def State.wrBind (s : State) (a : Accessor) (x v : Nat) : State :=
  let h := bits v 0 20
  let y := if x = 16 then bits v 24 4 else x
  let scp := match a with | .session _ => true | _ => false
  let op := bits v 20 2
  if op = 0 ∨ op = 3 then s
  else if s.isShadow && scp then s.bindStatus a.num x 2 0
  else if op = 1 then
    let (code, other, s1) := s.bindRec y h
    s1.bindStatus a.num x code other
  else
    let (code, s1) := s.unbindRec y h
    s1.bindStatus a.num x code 0

/-! ### Reconciliation (R450) -/

/-- The slots of the table whose bytes are not all zero. -/
def State.usedSlots (s : State) : List (Nat × Nat) :=
  let base := s.f F.clsCfg_TABLE_BASE * 2 ^ 24
  let keys := s.dram.filterMap fun e => if base ≤ e.1 && e.1 < base + 2 ^ 24 then some ((e.1 - base) / 8) else none
  (keys.foldr (fun k (acc : List Nat) => if acc.head? == some k then acc else k :: acc) []).map fun k => (k / 8, k % 8)

/-- The handles whose record may hold something: cached, or not all zero in DRAM. -/
def State.usedHandles (s : State) : List Nat :=
  let base := s.f F.stnCfg_RECORD_BASE * 2 ^ 28
  let inDram := s.dram.filterMap fun e => if base ≤ e.1 && e.1 < base + 2 ^ 28 then some ((e.1 - base) / 256) else none
  (inDram ++ s.stn.map (·.1) ++ s.stnWait.map (·.1)).foldl (fun acc h => if acc.contains h then acc else acc ++ [h]) []

/-- R450: a slot that its record does not bear out is cleared. -/
def State.slotSound (s : State) (bi : Nat × Nat) : Bool :=
  let e := s.clsSlot bi.1 bi.2
  s.stnFlag e.handle 0 && s.inRange e.stall e.handle && s.foldHash e.stall (s.recordKey e.handle) == e.hash &&
    ((slotOrder e.hash).find? fun c => let f := s.clsSlot c.1 c.2; f.valid && f.handle == e.handle) == some bi

/-- R450: the whole reconciliation; a record bound again is bound as R110 states. -/
def State.reconcile (s : State) : State :=
  let s1 := s.usedSlots.foldl (fun t bi => if (t.clsSlot bi.1 bi.2).valid && !t.slotSound bi then t.setClsSlot bi.1 bi.2 ClsSlot.empty else t) s
  let s2 := s1.usedHandles.foldl (fun t h =>
    match t.rangeOwner h with
    | none => t
    | some x =>
      if t.stnFlag h 0 && (t.slotOf x h).isNone then
        let hash := t.foldHash x (t.recordKey h)
        let unbound := fun (t : State) (code : Word) => ((t.stnTouch h).setStnFlag h 0 false).raise Ev.BIND_DIVERGE (words32 h ++ [code])
        match t.lookup x (t.recordKey h), t.freeSlot hash with
        | none, some bi => t.bindPlace x h hash bi
        | some _, _ => unbound t 4
        | none, none => unbound ((t.count F.clsStatKey_FULL x).raise (Ev.CLS_FULL x)) 6
      else t) s1
  let count := fun (x : Nat) => (s2.usedSlots.filter fun bi => (s2.clsSlot bi.1 bi.2).valid && (s2.clsSlot bi.1 bi.2).stall == x).length
  let s3 := (List.range 16).foldl (fun t x => t.setF F.clsBound_COUNT x (count x)) s2
  { s3.setF F.clsCfg_ENABLE 0 1 with reconciling := false, needReconcile := false }

/-- R450, CLS_CFG: ENABLE written 1 after a DEVICE reset or STANDBY starts the reconciliation, and reads 0 until it completes. -/
def State.wrClsCfg (s : State) (v : Nat) : State :=
  let s1 := s.setF F.clsCfg_TABLE_BASE 0 (bits v 0 16)
  if bits v 16 1 = 0 then { s1.setF F.clsCfg_ENABLE 0 0 with reconciling := false }
  else if s.needReconcile then { s1.setF F.clsCfg_ENABLE 0 0 with reconciling := true }
  else s1.setF F.clsCfg_ENABLE 0 1

/-! ### Loading (R113) -/

def State.bankActive (s : State) (x bank : Nat) : Bool :=
  (s.staged.get Staged.reset (Reg.clsBank.off x 0)).cur % 2 == bank || s.f F.clsBank_ACTIVE x == bank

def State.clsAdvance (s : State) (x : Nat) : State :=
  let (_, _, i) := s.clsPtr x
  s.setF F.clsLoadPtr_INDEX x (if i = 766 then 0 else i + 2)

/-- R98, R113: a DATA write; `true` says it was taken. A house write that names an ABSENT stall's active bank gets LAST_REASON 1 (DESIGN CHOICE,
log entry 123). -/
def State.clsLoad (s : State) (x v : Nat) : Bool × State :=
  let (y, bank, i) := s.clsPtr x
  if s.bankActive y bank then (false, (s.count F.clsLoadStat_REFUSED x).setF F.clsLoadStat_LAST_REASON x 1)
  else if x = 16 ∧ s.f F.scpStallState_STATE y = 0 then (false, (s.count F.clsLoadStat_REFUSED x).setF F.clsLoadStat_LAST_REASON x 2)
  else
    let k := (y * 2 + bank) * 768 + i
    (true, { s with clsBanks := (s.clsBanks.set 0 k (word v)).set 0 (k + 1) (word (v / 65536)) }.clsAdvance x)

/-- R113: after a STALL reset both banks read zero. -/
def State.clsStallReset (s : State) (x : Nat) : State :=
  { s with clsBanks := s.clsBanks.filter fun e => !(x * 1536 ≤ e.1 && e.1 < (x + 1) * 1536),
           staged := s.staged.erase (Reg.clsBank.off x 0) }

/-! ### Commands -/

def execClassifyLookup (s : State) : Res := run s State.classify

/-- R450: within 2 ms of the write of ENABLE, and after any journal recovery (R344). -/
def execReconciliationComplete (s : State) : Res := run s (onlyIf (s.reconciling && s.stl.recover.isNone) State.reconcile)

end Sys2Proof.Machine
end

