-- ==== Sys2Proof/Machine/Cipher.lean ====
section
/-! DEFINITION. The ESP cipher engine: SA records, inbound checks, outbound encryption (R122-R135). -/

namespace Sys2Proof.Machine

/-! ### SA records (R126, R127) -/

/-- The byte address of word `w` of SA record `i`. -/
def State.saAddr (s : State) (i w : Nat) : Nat := s.f F.espCfg_SA_BASE * 2 ^ 29 + 256 * i + 2 * w

def State.saWord (s : State) (i w : Nat) : Nat := (s.dramWord (s.saAddr i w)).toNat

def State.setSaWord (s : State) (i w v : Nat) : State := s.setDramWord (s.saAddr i w) (word v)

/-- `n` words of an SA record as one number, low word first. -/
def State.saNat (s : State) (i w n : Nat) : Nat := (List.range n).foldl (fun a j => a + s.saWord i (w + j) * 2 ^ (16 * j)) 0

def State.setSaNat (s : State) (i w n v : Nat) : State :=
  (List.range n).foldl (fun s j => s.setSaWord i (w + j) (v / 2 ^ (16 * j))) s

def State.saFlag (s : State) (i b : Nat) : Bool := bits (s.saWord i 0) b 1 == 1

/-- R126: whether stall `x` owns an SA index. -/
def State.saOwned (s : State) (x i : Nat) : Bool := i < 2 ^ 21 && s.inRange x (i / 2)

/-- R126, R127: whether a stall thread may store word `w` of an SA record. -/
def State.saWritable (s : State) (i w : Nat) : Bool :=
  w == 0 || ((w == 2 || w == 3 || (12 ≤ w && w ≤ 55)) && !s.saFlag i 0)

/-- R127: the engine clears both sequences, both counts and the bitmap, and drops the index's cached key. -/
def State.saClear (s : State) (i : Nat) : State :=
  let ws := List.range 8 ++ [52, 53, 54, 55] ++ (List.range 64).map (· + 60)
  let s1 := ws.foldl (fun s k => s.setSaWord i (k + 4) 0) s
  { s1 with keyCache := s1.keyCache.filter (· != i) }

/-- R127, R134: a stall thread's store of a word of an SA record, already checked. -/
def State.saStore (s : State) (i w : Nat) (v : Word) : State :=
  let s1 := (s.setSaWord i w v.toNat).deltaDirect true i w v
  if w = 0 ∧ !s.saFlag i 0 ∧ v.toNat % 2 = 1 then s1.saClear i else s1

/-! ### Keys (R123, R128) -/

/-- Bytes an SA record holds from word `w` on, two to a word with the earlier byte in [15:8] (DEDUCED, log entry 120). -/
def State.saBytes (s : State) (i w n : Nat) : List Byte :=
  ((List.range ((n + 1) / 2)).flatMap fun j => beBytes 2 (s.saWord i (w + j))).take n

/-- The stall's SCP key, 32 bytes. -/
def State.scpKey (s : State) (x : Nat) : List Byte := w32Bytes ((List.range 8).map fun j => BitVec.ofNat 32 (s.rd .scpKey x j))

/-- R128: the stall's key-encryption key; the numbers are the ASCII bytes of "Brozel ESP KEK". -/
def State.kek (s : State) (x : Nat) : List Nat :=
  (hmac384 (nats (s.scpKey x)) [66, 114, 111, 122, 101, 108, 32, 69, 83, 80, 32, 75, 69, 75, x]).take 32

/-- R122, R128: the key wrapped at word `w` of an SA record, by KEY256; `none` where its unwrap check fails. -/
def State.saKey (s : State) (x i w : Nat) : Option (List Byte) :=
  (keyUnwrap (s.kek x) (nats (s.saBytes i w (if s.saFlag i 1 then 40 else 24)))).map bytes

/-- RFC 4106: the additional data of a packet: SPI, then the sequence number, of 64 bits with ESN. -/
def State.espAad (s : State) (i spi n : Nat) : List Byte := beBytes 4 spi ++ if s.saFlag i 3 then beBytes 8 n else beBytes 4 n

/-- R365: the engine reads or writes an SA record, as requester 18 (log entry 135). -/
def State.saAsk (s : State) (i dl : Nat) (read : Bool) : State := s.unitRequest 18 (s.saAddr i 0) 4 dl read

/-! ### Inbound (R129-R131) -/

/-- The stall of an SPI (R124). -/
def State.spiStall (s : State) (spi : Nat) : Option Nat :=
  if spi < 0x100 then none
  else (List.range 16).find? fun x => s.b F.espPrefix_VALID x && s.f F.espPrefix_PREFIX x == spi / 2 ^ 21

def be32 (bs : List Byte) (i : Nat) : Nat := be16 bs i * 65536 + be16 bs (i + 2)

/-- R130: the packet's sequence number under an SA, by RFC 4303 Appendix A with a window of 1,024. -/
def State.inferSeq (s : State) (i low : Nat) : Int :=
  if !s.saFlag i 3 then low
  else
    let t := s.saNat i 4 4
    let tl := t % 2 ^ 32
    let th : Int := t / 2 ^ 32
    let hi := if 1023 ≤ tl then (if tl - 1023 ≤ low then th else th + 1)
      else (if tl + 2 ^ 32 - 1023 ≤ low then th - 1 else th)
    hi * 2 ^ 32 + low

def State.replayBit (s : State) (i n : Nat) : Bool := bits (s.saWord i (64 + n / 16 % 64)) (n % 16) 1 == 1

def State.setReplayBit (s : State) (i n v : Nat) : State :=
  s.setSaWord i (64 + n / 16 % 64) (putBits (s.saWord i (64 + n / 16 % 64)) (n % 16) 1 v)

/-- R130: below the window, or already marked. -/
def State.replayed (s : State) (i : Nat) (n : Int) : Bool :=
  let t : Int := s.saNat i 4 4
  n < 0 || n + 1024 ≤ t || (n ≤ t && s.replayBit i n.toNat)

/-- R130: the window takes an authenticated number. -/
def State.windowTake (s : State) (i n : Nat) : State :=
  let t := s.saNat i 4 4
  if n ≤ t then s.setReplayBit i n 1
  else
    let s1 := (List.range (min 1024 (n - t))).foldl (fun s k => s.setReplayBit i (n - k) 0) s
    (s1.setSaNat i 4 4 n).setReplayBit i n 1

/-- R129, R171, R309: a chain waits for the settlement of its course; `gate`: it is a packet's own chain, which the gate bank holds. -/
def State.freeLater (s : State) (course cell : Nat) (gate : Bool) : State :=
  let s1 := { s with freeAfter := s.freeAfter ++ [(course, cell, gate)] }
  if gate then s1.setHeld cell true else s1

/-- R129: ESP_LASTs takes the failure. -/
def State.espLast (s : State) (x code spi : Nat) : State := (s.setF F.espLast_CODE x code).setF F.espLast_INDEX x (spi % 2 ^ 21)

/-- R129: a failed check of a known stall: counted, and its event. -/
def State.espFail (s : State) (x code spi : Nat) (keyBad : Bool) : State :=
  let s1 := s.espLast x code spi
  match code with
  | 3 => (s1.count (if keyBad then F.espStatNoSa_KEY_BAD else F.espStatNoSa_NO_SA) x).raise (Ev.NO_SA x)
  | 4 => s1.count F.espStatAuth_REPLAY x
  | 5 => (s1.count F.espStatAuth_AUTH x).raise (Ev.AUTH_FAIL x)
  | 7 => s1.count F.espStatMalformed_DUMMY x
  | _ => s1.count F.espStatMalformed_MALFORMED x

/-- The one's complement sum of the words of a header. -/
def onesSum (bs : List Byte) : Nat :=
  let n := (List.range ((bs.length + 1) / 2)).foldl (fun a i => a + be16 bs (2 * i)) 0
  let n := n % 65536 + n / 65536
  n % 65536 + n / 65536

/-- R131, R132: an IPv4 header with its checksum computed. -/
def ipv4Sum (hd : List Byte) : List Byte :=
  let z := hd.take 10 ++ [0, 0] ++ hd.drop 12
  hd.take 10 ++ beBytes 2 (65535 - onesSum z) ++ hd.drop 12

/-- Where the outer IP datagram ends, for a frame whose bytes without FCS are `bs`. -/
def ipEnd (bs : List Byte) (l3 : Nat) : Nat :=
  if l3 = 255 then bs.length
  else if (bs.getD l3 0).toNat / 16 = 4 then l3 + be16 bs (l3 + 2)
  else l3 + 40 + be16 bs (l3 + 4)

/-- R129, check 1: MF or a fragment offset in an outer IPv4 header. -/
def ipFragment (bs : List Byte) (l3 : Nat) : Bool :=
  l3 != 255 && (bs.getD l3 0).toNat / 16 == 4 && be16 bs (l3 + 6) % 16384 != 0

/-- The length an inner IP packet states; what follows it in a tunnel payload is TFC padding (R122). -/
def innerLen (bs : List Byte) : Nat :=
  let n := if (bs.getD 0 0).toNat / 16 = 4 then be16 bs 2 else 40 + be16 bs 4
  min n bs.length

/-- R131: transport mode: the outer IP header with protocol, length and checksum fixed, then the payload. -/
def transportPacket (bs : List Byte) (l3 cursor nh : Nat) (payload : List Byte) : List Byte :=
  let hd := (bs.drop l3).take (cursor - l3)
  if (hd.getD 0 0).toNat / 16 = 4 then
    let h1 := hd.take 2 ++ beBytes 2 (hd.length + payload.length) ++ (hd.drop 4).take 5 ++ [BitVec.ofNat 8 nh] ++ hd.drop 10
    ipv4Sum h1 ++ payload
  else
    (hd.take 4 ++ beBytes 2 (hd.length - 40 + payload.length) ++ [BitVec.ofNat 8 nh] ++ hd.drop 7) ++ payload

/-- R131: the inner packet is written into cells and goes to the re-parse queue. -/
def State.innerWrite (s : State) (p : Pkt) (x : Nat) (info : EspInfo) (bs : List Byte) : State :=
  match s.takeCells none x (cellsFor bs.length) with
  | none => s.count F.espStatNocell_NOCELL x
  | some (hs, s1) =>
    let s2 := (s1.fillCells hs bs).relevel x
    let mine := fun (e : Ident) => e.port == p.port && e.seq == p.seq.toNat && !e.deferred
    { s2 with reparseQ := s2.reparseQ ++ [{ p with cell := hs.headD 0, len := bs.length, esp := some info }],
              idents := s2.idents.map fun (e : Ident) => if mine e then { e with inner := some (hs.headD 0, bs.length) } else e }

/-- R135: a sequence number goes from `old` to `n`, and so reaches the soft limit of the stall's SAs. -/
def State.rekeyCheck (s : State) (x old n : Nat) : State :=
  let l := s.f F.espRekey_SOFT_LOG2 x
  if l ≠ 0 ∧ old < 2 ^ l ∧ 2 ^ l ≤ n then s.raise (Ev.REKEY_DUE x) else s

/-- The packet whose ESP header lies at the cursor, its outer datagram ending at `fin`: nonce IV, ciphertext and ICV. -/
def espIv (bs : List Byte) (cursor : Nat) : List Byte := (bs.drop (cursor + 8)).take 8
def espCt (bs : List Byte) (cursor fin : Nat) : List Byte := (bs.take (fin - 16)).drop (cursor + 16)
def espIcv (bs : List Byte) (fin : Nat) : List Byte := (bs.take fin).drop (fin - 16)

/-- R129, checks 5 to 7 and acceptance, under the key `key`. -/
def State.espOpen (s : State) (p : Pkt) (x spi n fin : Nat) (info : EspInfo) (bs key : List Byte) : State :=
  let i := spi % 2 ^ 21
  let nonce := s.saBytes i 12 4 ++ espIv bs info.cursor
  let ct := espCt bs info.cursor fin
  let icvOk := gcmSeal key nonce (s.espAad i spi n) ct == espIcv bs fin
  let plain := gcmText key nonce ct
  let c := plain.length
  let pad := (plain.getD (c - 2) 0).toNat
  let nh := (plain.getD (c - 1) 0).toNat
  let tunnel := s.saFlag i 2
  let padOk := 2 ≤ c && pad + 2 ≤ c && (List.range pad).all fun k => (plain.getD (c - 2 - pad + k) 0).toNat == (k + 1) % 256
  if !icvOk then s.espFail x 5 spi false
  else if !padOk || (tunnel && nh != 4 && nh != 41) then s.espFail x 6 spi false
  else
    let s1 := ((s.windowTake i n).saAsk i p.deadline false).rekeyCheck x (s.saNat i 4 4) n
    if nh = 59 then s1.espFail x 7 spi false
    else
      let payload := plain.take (c - 2 - pad)
      let out := if tunnel then payload.take (innerLen payload) else transportPacket bs info.l3 info.cursor nh payload
      let s2 := (s1.setSaNat i 56 2 (satAdd 32 (s1.saNat i 56 2) 1)).count F.espStatOk_OK x
      s2.innerWrite p x { info with spi := spi, udp := s.saFlag i 4 } out

/-- R129, checks 3 and 4. -/
def State.espChecks (s : State) (p : Pkt) (x spi low fin : Nat) (info : EspInfo) (bs : List Byte) : State :=
  let i := spi % 2 ^ 21
  let s := if s.saOwned x i then s.saAsk i p.deadline true else s
  if !s.saOwned x i || !s.saFlag i 0 || (!s.saFlag i 2 && s.saFlag i 4) then s.espFail x 3 spi false
  else
    match s.saKey x i 16 with
    | none => s.espFail x 3 spi true
    | some key =>
      let s1 := if s.keyCache.contains i then s else { s with keyCache := i :: s.keyCache }
      let n := s1.inferSeq i low
      if s1.replayed i n then s1.espFail x 4 spi false else s1.espOpen p x spi n.toNat fin info bs key

/-- R333, R334: a silent device holds a frame its cipher has rejected, which then matches nothing. -/
def State.holdBad (s : State) (p : Pkt) : State :=
  let e := s.idents.find? fun e => e.port == p.port && e.seq == p.seq.toNat
  { s with heldFrames := s.heldFrames ++ [heldOf p ((e.map (·.fcs)).getD 0) ((e.map (·.len)).getD p.len) true] }

/-- The SPI of a frame that waits for the engine. -/
def State.espSpi (s : State) (p : Pkt) : Nat := be32 (s.chainBytes p.cell 0 (p.len - 4)) ((p.esp.map (·.cursor)).getD 0)

/-- R130: the packet the engine takes next: of those with the SPI of the oldest in the queue, the one with the smallest ingress stamp. -/
def State.cipherNext (s : State) : Option Pkt :=
  match s.cipherQ with
  | [] => none
  | p :: rest => some ((rest.filter fun q => s.espSpi q == s.espSpi p).foldl (fun m q => if q.stamp < m.stamp then q else m) p)

/-- R97, R130: the engine takes its next packet: the re-parse queue has room, and no frame stamped earlier, which may be of the same SA, is
still to be parsed. -/
def State.cipherDue (s : State) : Bool :=
  match s.cipherNext with
  | none => false
  | some p => decide (s.reparseQ.length < 256) && s.ports.all fun e => e.2.parseQ.all fun q => decide (p.stamp ≤ q.stamp)

/-- R129, check 1. A frame that has no L3 mark, or whose ESP header leaves no room for an IP header after it, is malformed too (DESIGN
CHOICE, log entry 121). -/
def espMalformed (bs : List Byte) (l3 cursor : Nat) : Bool :=
  ipFragment bs l3 || decide (bs.length < ipEnd bs l3) || decide (min (ipEnd bs l3) bs.length < cursor + 32) ||
    (l3 == 255 || decide (cursor < l3 + 20))

/-- R129: a packet of the queue goes through the engine. -/
def State.cipherTake (s : State) (p : Pkt) (info : EspInfo) : State :=
  let bs := s.chainBytes p.cell 0 (p.len - 4)
  let spi := be32 bs info.cursor
  let bad := espMalformed bs info.l3 info.cursor
  let unknown := fun (s : State) => (s.count F.espNoprefix_COUNT).freeLater p.stampCourse p.cell false
  if s.f F.espCfg_ENABLE = 0 then (unknown s).raise Ev.ESP_NOPREFIX
  else
    match (if info.cursor + 4 ≤ bs.length then s.spiStall spi else none) with
    | none => if bad then unknown s else (unknown s).raise Ev.ESP_NOPREFIX
    | some x =>
      match (if 12 ≤ p.port then (some p, s) else s.charge p x) with
      | (none, s1) => s1
      | (some p, s1) =>
        let s2 := if bad then s1.espFail x 1 spi false
          else s1.espChecks p x spi (be32 bs (info.cursor + 4)) (min (ipEnd bs info.l3) bs.length) info bs
        if s2.holdsFrames && s2.reparseQ.length ≤ s.reparseQ.length && p.port < 8 then s2.holdBad p
        else s2.freeLater p.stampCourse info.outerCell false

def State.cipherIn (s : State) : State :=
  match s.cipherNext with
  | none => s
  | some p =>
    let s1 := { s with cipherQ := s.cipherQ.erase p }
    match p.esp with
    | none => s1
    | some info => s1.cipherTake p info

/-! ### Outbound (R132, R133) -/

/-- R132: what encryption asks for: SA index, offset of the ESP header space, end of the plaintext and the offset of the outer IP
header. -/
structure EspReq where
  index : Nat
  header : Nat
  fin : Nat
  l3 : Nat
  nh : Nat
  deriving DecidableEq, Repr

/-- R133: how a request stands with its SA. -/
inductive OutSa where
  | ok (key : List Byte)
  /-- not owned, or not valid for output -/
  | refused
  /-- the unwrap of OUT_KEY fails (R128) -/
  | keyBad
  /-- OUT_SEQ is at its limit -/
  | exhausted
  deriving DecidableEq, Repr

/-- R128, R132, R133: the checks of an SA for output. -/
def State.espOutCheck (s : State) (x i : Nat) : OutSa :=
  if !s.saOwned x i || !s.saFlag i 0 || !s.saFlag i 5 then .refused
  else
    match s.saKey x i 36 with
    | none => .keyBad
    | some key =>
      let n := s.saNat i 8 4
      if (if s.saFlag i 3 then n = 2 ^ 64 - 1 else 2 ^ 32 - 1 ≤ n) then .exhausted else .ok key

/-- `new` laid over `bs` at `off`. -/
def patchBytes (bs : List Byte) (off : Nat) (new : List Byte) : List Byte :=
  (bs.take off ++ new ++ bs.drop (off + new.length)).take bs.length

/-- R132: the outer IP header at `l3` of the bytes before the ESP header gets its length and, for IPv4, its checksum; `total` is the
packet's length. Where the request names no outer header (L3 0xFF), none is touched. -/
def fixOuter (head : List Byte) (l3 total : Nat) : List Byte :=
  if l3 = 255 then head
  else if (head.getD l3 0).toNat / 16 = 4 then
    let h := patchBytes head (l3 + 2) (beBytes 2 (total - l3))
    patchBytes h l3 (ipv4Sum ((h.drop l3).take (4 * ((h.getD l3 0).toNat % 16))))
  else patchBytes head (l3 + 4) (beBytes 2 (total - l3 - 40))

/-- R132: the encrypted packet: header space, SPI, sequence, IV, ciphertext with padding and trailer, ICV; outer lengths fixed. -/
def State.espBytes (s : State) (r : EspReq) (key : List Byte) (n : Nat) (bs : List Byte) : List Byte :=
  let i := r.index
  let plain := (bs.take r.fin).drop (r.header + 16)
  let pad := (4 - (plain.length + 2) % 4) % 4
  let full := plain ++ (List.range pad).map (fun k => BitVec.ofNat 8 (k + 1)) ++ [BitVec.ofNat 8 pad, BitVec.ofNat 8 r.nh]
  let iv := beBytes 8 (if s.saFlag i 3 then n else n % 2 ^ 32)
  let nonce := s.saBytes i 14 4 ++ iv
  let spi := s.saNat i 2 2
  let ct := gcmText key nonce full
  let esp := beBytes 4 spi ++ beBytes 4 (n % 2 ^ 32) ++ iv ++ ct ++ gcmSeal key nonce (s.espAad i spi n) ct
  let head := bs.take r.header
  let head1 := if s.saFlag i 4 then patchBytes head (r.header - 4) (beBytes 2 (esp.length + 8) ++ [0, 0]) else head
  fixOuter head1 r.l3 (r.header + esp.length) ++ esp

/-- R132: OUT_SEQ + 1 is assigned and the packet counted; settlement carries the highest of each course (R134). -/
def State.espAssign (s : State) (x i course : Nat) : Nat × State :=
  let n := s.saNat i 8 4 + 1
  let s1 := (s.setSaNat i 8 4 n).setSaNat i 58 2 (satAdd 32 (s.saNat i 58 2) 1)
  let s2 := s1.count F.espStatOutOk_OUT_OK x
  let used := (s2.stl.saUsed.filter fun e => !(e.1 == course && e.2.1 == i)) ++ [(course, i, n)]
  (n, { s2 with stl := { s2.stl with saUsed := used } }.rekeyCheck x (n - 1) n)

/-- R128, R133: the request fails. Only a stall has the counters. -/
def State.espRefuse (s : State) (x : Nat) (why : OutSa) : State :=
  if 16 ≤ x then s
  else
    let s1 := s.count F.espStatNocell_OUT_REFUSED x
    match why with
    | .keyBad => s1.count F.espStatNoSa_KEY_BAD x
    | .exhausted => s1.raise (Ev.SA_EXHAUSTED x)
    | _ => s1

/-! ### Registers and resets -/

/-- R124: a write of ESP_PREFIXs that would give two stalls the same valid prefix is ignored. -/
def State.wrEspPrefix (s : State) (x v : Nat) : State :=
  let clash := bits v 11 1 = 1 ∧ (List.range 16).any fun y =>
    y != x && s.b F.espPrefix_VALID y && s.f F.espPrefix_PREFIX y == bits v 0 11
  if clash then s else s.wr .espPrefix x 0 (v % 4096)

/-- R128: a STALL reset and a change of the stall's SCP key empty the key cache of its indices. -/
def State.dropKeys (s : State) (x : Nat) : State := { s with keyCache := s.keyCache.filter fun i => !s.saOwned x i }

/-! ### Commands -/

/-- R129, R130. -/
def execCipherInbound (s : State) : Res := run s (onlyIf s.cipherDue State.cipherIn)

end Sys2Proof.Machine
end

