-- ==== Sys2Proof/Machine/Tally.lean ====
section
/-! DEFINITION. Tally units: number format, operations, command queue, patches (R255-R270), and what a thread holds of them. -/

namespace Sys2Proof.Machine

/-! ### Threads and units -/

def State.th (s : State) (t : Nat) : Thread := s.threads.get Thread.reset t

def State.setTh (s : State) (t : Nat) (f : Thread → Thread) : State := { s with threads := s.threads.set Thread.reset t (f (s.th t)) }

def State.unit (s : State) (u : Nat) : Tally := s.units.get Tally.reset u

def State.setUnit (s : State) (u : Nat) (f : Tally → Tally) : State := { s with units := s.units.set Tally.reset u (f (s.unit u)) }

/-- A new value of the model's order counter. -/
def State.stampUse (s : State) : State := { s with useCtr := s.useCtr + 1 }

/-! ### Numbers (R255-R258) -/

/-- A decimal value: sign, coefficient, fraction digits. -/
structure Dec where
  neg : Bool
  coef : Nat
  fd : Nat
  deriving DecidableEq, Repr

/-- The coefficient of packed digits, lowest word first. -/
def bcdNat : List Nat → Nat
  | [] => 0
  | w :: ws => w % 16 + w / 16 % 16 * 10 + w / 256 % 16 * 100 + w / 4096 * 1000 + 10000 * bcdNat ws

def bcdOk (w : Nat) : Bool := w % 16 ≤ 9 && w / 16 % 16 ≤ 9 && w / 256 % 16 ≤ 9 && w / 4096 ≤ 9

/-- A four-digit word of a coefficient. -/
def bcdWord (n : Nat) : Nat := n % 10 + n / 10 % 10 * 16 + n / 100 % 10 * 256 + n / 1000 % 10 * 4096

def Tally.word (u : Tally) (a w : Nat) : Nat := (u.acc.get 0 (a * 16 + w)).toNat

def Tally.setWord (u : Tally) (a w v : Nat) : Tally := { u with acc := u.acc.set 0 (a * 16 + w) (Sys2Proof.Machine.word v) }

def Tally.clearAcc (u : Tally) (a : Nat) : Tally := (List.range 12).foldl (fun u w => u.setWord a w 0) u

/-- An accumulator as a source, or none where it is invalid (R255, R256, R265). -/
def Tally.source (u : Tally) (a : Nat) : Option Dec :=
  let ws := (List.range 10).map (u.word a)
  let w10 := u.word a 10
  if ws.any (fun w => !bcdOk w) || decide (39 < w10 % 64) || bits w10 6 1 == 1 then none
  else
    let c := bcdNat ws
    some { neg := bits w10 15 1 == 1 && c != 0, coef := c, fd := w10 % 64 }

def Dec.int (d : Dec) : Int := if d.neg then -(d.coef : Int) else d.coef

/-- R257: a scale register's target FD and rounding mode. -/
def Tally.target (u : Tally) (n : Nat) : Nat × Nat :=
  let v := (u.scale.get 0 n).toNat
  (min (v % 64) 39, v / 64 % 8)

/-- R257: whether the discarded part `r / den` rounds the magnitude `q` up. -/
def roundsUp (mode q r den : Nat) (neg : Bool) : Bool :=
  match mode with
  | 1 => den ≤ 2 * r
  | 2 => den < 2 * r
  | 3 => false
  | 4 => r != 0
  | 5 => neg && r != 0
  | 6 => !neg && r != 0
  | _ => den < 2 * r || (den == 2 * r && q % 2 == 1)

/-- R258: `num / den` rounded once to `fd` fraction digits; and whether digits were discarded. -/
def roundDec (num : Int) (den fd mode : Nat) : Dec × Bool :=
  let n := num.natAbs * 10 ^ fd
  let q := n / den
  let r := n % den
  let c := if roundsUp mode q r den (num < 0) then q + 1 else q
  ({ neg := decide (num < 0) && c != 0, coef := c, fd := fd }, r != 0)

/-- Significant digits of a coefficient, 0 for zero. -/
def digitCount : Nat → Nat → Nat
  | 0, _ => 0
  | fuel + 1, n => if n = 0 then 0 else 1 + digitCount fuel (n / 10)

def digits (n : Nat) : Nat := digitCount 200 n

/-- A value written into an accumulator: digits, FD and SIGN; TAG and word 10 [14:7] stay (R256). -/
def Tally.put (u : Tally) (a : Nat) (d : Dec) : Tally :=
  let u1 := (List.range 10).foldl (fun u j => u.setWord a j (bcdWord (d.coef / 10000 ^ j))) u
  u1.setWord a 10 (d.fd + (u.word a 10 / 128 % 256) * 128 + (if d.neg then 32768 else 0))

/-- R264, CVB: the coefficient as 64-bit two's complement in words 0-3. -/
def Tally.putBinary (u : Tally) (a : Nat) (d : Dec) : Tally :=
  let v := unsigned 64 d.int
  let u1 := (List.range 10).foldl (fun u j => u.setWord a j (if j < 4 then v / 65536 ^ j else 0)) u
  u1.setWord a 10 (d.fd + 64 + (u.word a 10 / 128 % 256) * 128 + (if d.neg then 32768 else 0))

/-- How a TOP ends: cycles, and a value to write with its INEXACT, LAST bits alone, or the sticky bit of a fault. -/
inductive TopEnd where
  | put (d : Dec) (inexact : Bool)
  | binary (d : Dec) (inexact : Bool)
  | last (v : Int)
  | fault (bit : Nat)
  /-- microcode of a patch: words 0 to 10 where it writes DST, LAST_ZERO and LAST_NEG where it sets them, and INEXACT -/
  | micro (words : Option (List Nat)) (lasts : Option Nat) (inexact : Bool)
  deriving DecidableEq, Repr

/-- R258: the exact value rounded, or OVERFLOW. -/
def Tally.finish (u : Tally) (n : Nat) (num : Int) (den : Nat) : TopEnd :=
  let (fd, mode) := u.target n
  let (d, ix) := roundDec num den fd mode
  if 10 ^ 40 ≤ d.coef then .fault 0 else .put d ix

/-- `a - b` over a common power of ten. -/
def Dec.sub (a b : Dec) : Int × Nat :=
  let m := max a.fd b.fd
  (a.int * 10 ^ (m - a.fd) - b.int * 10 ^ (m - b.fd), m)

/-- R264: a TOP's cycles and end. -/
def Tally.top (u : Tally) (func n sa sb sc sd : Nat) : Nat × TopEnd :=
  let fd := (u.target n).1
  match func with
  | 0 => (2, .put { neg := false, coef := 0, fd := fd } false)
  | 10 =>
    let v := signed 64 ((List.range 4).foldl (fun a j => a + u.word sa j * 65536 ^ j) 0)
    (20, .put { neg := v < 0, coef := v.natAbs, fd := fd } false)
  | _ =>
    match u.source sa with
    | none => (2, .fault 1)
    | some a =>
      let one := fun (c : Nat) (v : Int) => (c, u.finish n v (10 ^ a.fd))
      match func with
      | 1 => one 2 a.int
      | 6 => one 4 a.int
      | 8 => one 2 (-a.int)
      | 9 => one 2 a.coef
      | 11 =>
        match u.finish n a.int (10 ^ a.fd) with
        | .put d ix => (24, if d.int < -(2 ^ 63) ∨ 2 ^ 63 - 1 < d.int then .fault 0 else .binary d ix)
        | e => (24, e)
      | _ =>
        match u.source sb with
        | none => (2, .fault 1)
        | some b =>
          match func with
          | 2 => let (v, m) := a.sub { b with neg := !b.neg && b.coef != 0 }; (5, u.finish n v (10 ^ m))
          | 3 => let (v, m) := a.sub b; (5, u.finish n v (10 ^ m))
          | 4 => (10 + digits b.coef, u.finish n (a.int * b.int) (10 ^ (a.fd + b.fd)))
          | 5 =>
            if b.coef = 0 then (2, .fault 2)
            else
              let num := a.int * 10 ^ b.fd * (if b.neg then -1 else 1)
              let den := b.coef * 10 ^ a.fd
              let q := min 42 (digits (num.natAbs / den) + fd + 1)
              (12 + 3 * q, u.finish n num den)
          | 7 => let (v, _) := a.sub b; (4, .last v)
          | _ =>
            match u.source sc, u.source sd with
            | some c, some d =>
              let (v, m) := b.sub c
              let s1 := digits v.natAbs
              (14 + s1 + digits d.coef, u.finish n (a.int * v * d.int) (10 ^ (a.fd + m + d.fd)))
            | _, _ => (2, .fault 1)

def Tally.setLast (u : Tally) (v : Int) : Tally :=
  { u with status := u.status % 16 + (if v = 0 then 16 else 0) + (if v < 0 then 32 else 0) }

def Tally.sticky (u : Tally) (b : Nat) : Tally := { u with status := putBits u.status b 1 1 }

/-- What a patch's END applies; TAG and word 10 [14:7] stay (R256). -/
def Tally.applyMicro (u : Tally) (dst : Nat) (ws : Option (List Nat)) (ls : Option Nat) (ix : Bool) : Tally :=
  let u1 := match ws with
    | none => u
    | some ws => (List.range 11).foldl (fun v j =>
        let w := ws.getD j 0
        v.setWord dst j (if j = 10 then w % 128 + u.word dst 10 / 128 % 256 * 128 + w / 32768 * 32768 else w)) u
  let u2 := match ls with
    | none => u1
    | some l => { u1 with status := u1.status % 16 + l % 4 * 16 }
  if ix then u2.sticky 3 else u2

/-- R264, R265: the effects of a TOP. -/
def Tally.applyTop (u : Tally) (dst : Nat) (e : TopEnd) : Tally :=
  match e with
  | .put d ix => let v := (u.put dst d).setLast d.int; if ix then v.sticky 3 else v
  | .binary d ix => let v := (u.putBinary dst d).setLast d.int; if ix then v.sticky 3 else v
  | .last v => u.setLast v
  | .fault b => u.sticky b
  | .micro ws ls ix => u.applyMicro dst ws ls ix

/-- R263: the status word as an MFT reads it: BUSY, for that command is in progress, and the commands behind it in QUEUE (log entry 127). -/
def Tally.statusWord (u : Tally) : Nat :=
  u.status % 64 + 64 + boolNat u.failed * 128 + min 4 (u.queue.length - 1) * 256 +
    boolNat u.owner.isSome * 2048 + u.owner.getD 0 * 4096

/-- R260: the effect of an MTT. -/
def Tally.applyMtt (u : Tally) (kind n w : Nat) (clr : Bool) (vals : List Word) : Tally :=
  if kind = 0 then
    let u1 := if clr then u.clearAcc n else u
    (List.zip (List.range vals.length) vals).foldl (fun u (i, v) => u.setWord n (w + i) v.toNat) u1
  else { u with scale := u.scale.set 0 (n % 4) (Sys2Proof.Machine.word ((vals.headD 0).toNat % 512)) }

/-- R260: the words an MFT delivers. -/
def Tally.mftWords (u : Tally) (kind n w : Nat) (pair : Bool) : List Nat :=
  match kind with
  | 0 => if pair then [u.word n w, u.word n (w + 1)] else [u.word n w]
  | 1 => [(u.scale.get 0 (n % 4)).toNat]
  | _ => [u.statusWord]

/-! ### A thread's registers as an MFT leaves them (R193, R263) -/

/-- fl's key. -/
def flKey : Nat := 228

/-- A register word of the window file, t0-t3 or fl. -/
def Thread.keyWord (th : Thread) (k : Nat) : Word := if k = flKey then word th.fl else th.file.get 0 k

def Thread.setKey (th : Thread) (k : Nat) (v : Word) : Thread :=
  if k = flKey then { th with fl := v.toNat % 32 } else { th with file := th.file.set 0 k v }

/-- The shades left once the program has written a register: a forwarded result ends the counted ones (`keep`: the result has a shadow of its
own); while an MFT to it is outstanding either value is left (R263). -/
def Thread.written (th : Thread) (k : Nat) (keep : Bool) : List Shade :=
  th.shades.filterMap fun e =>
    if e.key != k then some e
    else
      match e.left with
      | some _ => if keep then some e else none
      | none => some { e with alt := if e.clash then e.alt else th.keyWord k, clash := true }

/-- Some flags change and the others keep what they hold, in every value that fl may still read as. -/
def Thread.updFl (th : Thread) (f : Nat → Nat) : Thread :=
  { th with fl := f th.fl,
            shades := th.shades.map fun e =>
              if e.key != flKey then e
              else
                match e.left with
                | some _ => { e with alt := word (f e.alt.toNat) }
                | none => { e with alt := if e.clash then e.alt else word th.fl, clash := true } }

/-- An MFT writes a register of which the program may not know when: the value before it stays possible until TSYNC. -/
def Thread.mftWrite (th : Thread) (k : Nat) (v : Word) : Thread :=
  { th.setKey k v with shades := { key := k, alt := th.keyWord k, left := none, clash := false } :: th.shades }

/-! ### Completion (R261, R262, R268) -/

/-- R262: the flags TSYNC sets from the status word; DC stays. -/
def tsyncFlags (fl status : Nat) : Nat :=
  let b := fun i => status / 2 ^ i % 2
  fl / 16 % 2 * 16 + b 4 + b 3 * 2 + b 5 * 4 + (if b 0 + b 1 + b 2 = 0 then 0 else 8)

/-- The one choice left of a register that the program wrote while an MFT was outstanding (R263). -/
def State.settleShades (s : State) (t : Nat) (p : Shade → Bool) : State :=
  let th := s.th t
  let s1 := (th.shades.filter fun e => p e && e.clash).foldl (fun (s : State) e =>
    let (b, s1) := s.freeBool
    s1.setTh t fun th => if b then th.setKey e.key e.alt else th) s
  s1.setTh t fun th => { th with shades := th.shades.filter fun e => !p e }

/-- R262: a waiting TSYNC completes. -/
def State.tsyncDone (s : State) (t : Nat) : State :=
  let u := s.unit (t / 8)
  let s1 := s.settleShades t fun e => e.left.isNone
  let fl := fun (fl : Nat) => if u.failed then fl % 8 + fl / 16 % 2 * 16 + 8 else tsyncFlags fl u.status
  let s2 := if u.failed then s1 else s1.setUnit (t / 8) fun u => { u with status := u.status / 16 * 16 }
  s2.stampUse.setTh t fun th =>
    { th.updFl fl with synced := true, st := .running, wait := .none, since := s2.useCtr, pc := (th.pc + 1) % 131072 }

/-! ### Microcode (R267, R268) -/

/-- A run of microcode: microaddress, return stack, digit counter, what its END will apply, and cycles so far. -/
structure Micro where
  pc : Nat
  stack : List Nat
  cnt : Nat
  dst : Bool
  last : Bool
  inexact : Bool
  cycles : Nat
  deriving DecidableEq, Repr

/-- The parity bit that makes 24 bits of a microword odd. -/
def parityBit (w i : Nat) : Nat := ((List.range 24).foldl (fun a b => a + bits w (24 * i + b) 1) 1) % 2

/-- The four parity bits of a microword, in their place. -/
def microParity (w : Nat) : Nat := (List.range 4).foldl (fun a i => a + parityBit w i * 2 ^ (96 + i)) 0

def microOk (w : Nat) : Bool := w / 2 ^ 96 * 2 ^ 96 == microParity w

/-- A microword: fixed, or of the live bank. A word that no patch has written has no parity. -/
def State.microWord (s : State) (u a : Nat) : Nat :=
  if a < 1536 then (Config.microRom a).toNat else s.patches.get 0 ((s.unit u).bank * 1024 + (a - 1536))

/-- The live bank's entry for a function; none where no patch has written it. -/
def State.microEntry (s : State) (u func : Nat) : Option Nat :=
  match s.patches.get 0 ((s.unit u).bank * 1024 + 512 + func) with
  | 0 => none
  | v => some (v % 2048)

/-- The condition of a microword. Those that the numbers under way decide are open, for the manual does not give the data path bit by bit. -/
def State.microCond (s : State) (m : Micro) (w : Nat) : Bool × State :=
  let c := bits w 14 5
  if c = 1 then (m.cnt == 0, s) else if c ≤ 10 then s.freeBool else (false, s)

/-- How a step, or a run, of microcode leaves it. -/
inductive MicroEnd where
  | go (m : Micro)
  | ended (m : Micro)
  | fault (stat cycles : Nat)
  | mchk (addr : Nat)
  deriving DecidableEq, Repr

/-- R267, R268: one microword. A counter load counts from the next word on (log entry 128). -/
def State.microStep (s : State) (u : Nat) (m : Micro) : MicroEnd × State :=
  let w := s.microWord u m.pc
  if !microOk w then (.mchk m.pc, s)
  else
    let (c, s1) := s.microCond m w
    let next := bits w 0 11
    let load := bits w 47 1 == 1
    let m1 := { m with cycles := m.cycles + 1, dst := m.dst || bits w 27 4 == 4, last := m.last || bits w 64 1 == 1,
                       inexact := m.inexact || bits w 65 1 == 1, cnt := if load then bits w 41 6 else m.cnt }
    (match bits w 11 3 with
      | 0 => .go { m1 with pc := next }
      | 1 => .go { m1 with pc := next / 2 * 2 + boolNat c }
      | 2 => .go { m1 with pc := next / 2 * 2 + boolNat (m.cnt == 0), cnt := if load then m1.cnt else m.cnt - 1 }
      | 3 => if 4 ≤ m.stack.length then .mchk m.pc else .go { m1 with pc := next, stack := bits w 48 11 :: m.stack }
      | 4 => match m.stack with
        | [] => .mchk m.pc
        | r :: rest => .go { m1 with pc := r, stack := rest }
      | 5 => .ended m1
      | 6 => .fault (bits w 68 3) m1.cycles
      | _ => .mchk m.pc, s1)

def State.microRun (s : State) (u : Nat) : Nat → Micro → MicroEnd × State
  | 0, m => (.go m, s)
  | n + 1, m =>
    match s.microStep u m with
    | (.go m1, s1) => s1.microRun u n m1
    | r => r

/-- How a TOP goes on: it ends, meets a machine check, or still runs. -/
inductive TopRun where
  | ends (cycles : Nat) (e : TopEnd)
  | mchk (addr : Nat)
  | runs
  deriving DecidableEq, Repr

/-- Unspecified words. -/
def State.freeWords (s : State) : Nat → List Nat × State
  | 0 => ([], s)
  | n + 1 =>
    let (w, s1) := s.freeWord
    let (ws, s2) := s1.freeWords n
    (w.toNat :: ws, s2)

/-- What a patch's microcode delivers: which of its effects there are is the words' doing, their values are open. -/
def State.microEnds (s : State) (e : MicroEnd) : TopRun × State :=
  match e with
  | .go _ => (.runs, s)
  | .mchk a => (.mchk a, s)
  | .fault stat cyc => let (k, s1) := s.freeNat; (.ends cyc (.fault (if 1 ≤ stat ∧ stat ≤ 3 then stat - 1 else k % 3)), s1)
  | .ended m =>
    let (ws, s1) := s.freeWords 11
    let (l, s2) := s1.freeNat
    let (ix, s3) := s2.freeBool
    (.ends m.cycles (.micro (if m.dst then some ws else none) (if m.last then some l else none) (m.inexact && ix)), s3)

/-- R264, R267: a TOP runs: the fixed routine of its function, unless the live bank's entry table names another microaddress. -/
def State.topRun (s : State) (u func n sa sb sc sd : Nat) : TopRun × State :=
  let fixed := fun (f : Nat) => let (cyc, e) := (s.unit u).top f n sa sb sc sd; TopRun.ends cyc e
  match s.microEntry u func with
  | none => (fixed func, s)
  | some a =>
    match if 1536 ≤ a then none else (List.range 13).find? fun f => Config.romEntry f == a with
    | some f => (fixed f, s)
    | none =>
      let (e, s1) := s.microRun u 65536 { pc := a, stack := [], cnt := 0, dst := false, last := false, inexact := false, cycles := 0 }
      s1.microEnds e

/-- R268: a machine check: the command and the queue go, the unit has failed, and the issuing thread is to trap at its next boundary. -/
def State.tallyBreak (s : State) (u addr : Nat) : State :=
  match (s.unit u).queue with
  | [] => s
  | (t, _) :: _ =>
    let s1 := s.setUnit u fun x => { x with queue := [], failed := true }
    let s2 := (s1.wr .tlyUnitMchk u 0 (addr % 2048 + (s.unit u).bank * 2048 + 4096)).raise (Ev.TALLY_MCHK (u / 8))
    if (s2.th t).st == .parked then s2 else s2.setTh t fun th => { th with mchk := true }

/-- R261: the oldest command of a unit completes and applies its effects; a patch that has not ended goes on. -/
def State.tallyApply (s : State) (u : Nat) : State :=
  match (s.unit u).queue with
  | [] => s
  | (t, c) :: rest =>
    let pop := fun (s : State) (cyc : Nat) =>
      ((s.setUnit u fun x => { x with queue := rest }).count F.tlyUnitCommands_COMMANDS u).count F.tlyUnitBusyCycles_BUSY_CYCLES u cyc
    match c with
    | .mtt kind n w _ clr vals => (pop s 1).setUnit u fun x => x.applyMtt kind n w clr vals
    | .mft kind n w pair dst =>
      (List.zip dst ((s.unit u).mftWords kind n w pair)).foldl (fun (s : State) (k, v) => s.setTh t fun th => th.mftWrite k (word v)) (pop s 1)
    | .top func dst n sa sb sc sd =>
      match s.topRun u func n sa sb sc sd with
      | (.runs, _) => s
      | (.mchk a, s1) => s1.tallyBreak u a
      | (.ends cyc e, s1) =>
        let s2 := (pop s1 cyc).setUnit u fun x => x.applyTop dst e
        match e with
        | .fault _ => s2.count F.tlyUnitErrors_ERRORS u
        | _ => s2

/-- Whether a thread has commands in its unit's queue. -/
def State.tallyPending (s : State) (t : Nat) : Bool := (s.unit (t / 8)).queue.any fun e => e.1 == t

/-- R262: a TSYNC whose thread has no command left completes. -/
def State.tsyncCheck (s : State) (t : Nat) : State :=
  if (s.th t).st == .blocked && (s.th t).wait == .tsync && !s.tallyPending t then s.tsyncDone t else s

/-- R262: the threads of a core whose TSYNC waits for nothing any more go on. -/
def State.tsyncAll (s : State) (u : Nat) : State := (List.range 8).foldl (fun s i => s.tsyncCheck (u * 8 + i)) s

/-- R194: at a trap or stop every outstanding MFT of the thread writes its destination: the unit runs up to the thread's last MFT. -/
def State.mftFlush (s : State) (t : Nat) : Nat → State
  | 0 => s
  | n + 1 =>
    let q := (s.unit (t / 8)).queue
    let mine := q.any fun e => e.1 == t && (match e.2 with | .mft .. => true | _ => false)
    if mine && t < 1024 then ((s.tallyApply (t / 8)).tsyncAll (t / 8)).mftFlush t n else s

/-- R194: before anything is reported, every register of the thread holds its final value. -/
def State.finalRegs (s : State) (t : Nat) : State := (s.mftFlush t 5).settleShades t fun _ => true

/-! ### Patches (R269, R270) -/

/-- R270: whether the apply is at the course from whose start units exchange. -/
def State.patchRunning (s : State) : Bool := s.patchFrom.isSome

/-- R269: a write of D2 stores one word in every standby bank; `false` where it is refused. -/
def State.patchWord (s : State) (d2 : Nat) : State :=
  let a := s.f F.tlyPloadAddr_ADDR
  if 528 ≤ a || s.patchRunning then s.count F.tlyPloadStat_REFUSED
  else
    let bank := 1 - (s.unit 0).bank
    let d0 := s.rd .tlyPloadD0
    let d1 := s.rd .tlyPloadD1
    let w := d0 + d1 * 2 ^ 32 + d2 * 2 ^ 64
    let v := if a < 512 then w + microParity w else d0 % 2048 + 2048
    { s with patches := s.patches.set 0 (bank * 1024 + a) v }.setF F.tlyPloadAddr_ADDR 0 (a + 1)

/-- R270: the apply ends once every unit has exchanged. -/
def State.patchCheck (s : State) : State :=
  if s.patchRunning && (List.range 128).all fun u => !(s.unit u).exchange then
    let s1 := ((s.setF F.tlyTver_VERSION 0 (s.f F.tlyPatch_VERSION)).setF F.tlyTver_PATCHED 0 1).setF F.tlyPatch_STATUS 0 2
    ({ s1 with patchFrom := none }.raise Ev.TALLY_PATCH_DONE).maintDone 0x60
  else s

/-- R270: an apply is requested (R424 identity 0x60). Before courses run the banks exchange at once (R423). -/
def State.patchApply (s : State) : State :=
  match s.maintBusy 0x60 with
  | some b => ((s.maintRefuse 0x60 b).setF F.tlyPatch_STATUS 0 3).setF F.tlyPatch_BUSY_ID 0 b
  | none =>
    let s1 := (s.maintStart 0x60).setF F.tlyPatch_STATUS 0 1
    let go := s.time.live
    let s2 := (List.range 128).foldl (fun (s : State) u =>
      s.setUnit u fun x => { x with exchange := go, bank := if go then x.bank else 1 - x.bank }) s1
    let s3 : State := { s2 with patchFrom := some (s.course + 1) }
    if go then s3 else s3.patchCheck

/-- R270: from the second course on a unit that has not exchanged admits no command. -/
def State.tallyHeld (s : State) (u : Nat) : Bool :=
  (s.unit u).exchange && (match s.patchFrom with | some c => decide (c + 1 ≤ s.course) | none => false)

/-- A unit's exchange. -/
def State.bankExchange (s : State) (u : Nat) : State :=
  (s.setUnit u fun x => { x with bank := 1 - x.bank, exchange := false }).patchCheck

/-! ### Resets (R266) -/

/-- R259, R266: the unit is the thread's no longer. -/
def State.tallyRelease (s : State) (t : Nat) : State :=
  if t < 1024 then s.setUnit (t / 8) fun x => if x.owner == some (t % 8) then { x with owner := none } else x else s

/-- R266, R268: at a THREAD reset or EXIT its committed commands stay and complete, and nothing they meet comes back to the thread. -/
def State.tallyOrphan (s : State) (t : Nat) : State :=
  if t < 1024 then s.setUnit (t / 8) fun x => { x with queue := x.queue.map fun e => if e.1 = t then (2000, e.2) else e } else s

/-- R266: a CORE, CLUSTER or STALL reset. -/
def State.tallyReset (s : State) (u : Nat) : State :=
  s.setUnit u fun x => { Tally.reset with bank := x.bank, exchange := x.exchange }

/-! ### Commands -/

/-- R270. -/
def execBankExchange (u : Fin 128) (s : State) : Res :=
  run s (onlyIf ((s.unit u).exchange && (s.unit u).queue.isEmpty &&
    (match s.patchFrom with | some c => decide (c ≤ s.course) | none => false)) fun s => s.bankExchange u)

end Sys2Proof.Machine
end

