-- ==== Sys2Proof/Machine/Window.lean ====
section
/-! DEFINITION. Threads: visible registers, the register window, traps (R206-R212, R226-R228), classes and ranking (R271-R277). -/

namespace Sys2Proof.Machine

/-! ### Places -/

/-- A thread's core (128: the house core) and its number there; its cluster (16: the house core). -/
def coreOf (t : Nat) : Nat := t / 8
def clusterOf (t : Nat) : Nat := t / 64

/-- A per-core counter; the house core has no CLU_CORE registers. -/
def State.countCore (s : State) (fl : Fld) (k : Nat) (n : Nat := 1) : State :=
  if k < 128 then s.setF fl (k / 8) (if fl.sat then satAdd fl.width (s.f fl (k / 8) (k % 8)) n else s.f fl (k / 8) (k % 8) + n) (k % 8)
  else s

/-- A counter of the SCH_CLUSTERc group; the house core has none. -/
def State.countCluster (s : State) (fl : Fld) (c : Nat) : State := if c < 16 then s.count fl c else s

def State.core (s : State) (k : Nat) : Core := s.cores.get Core.reset k

def State.setCore (s : State) (k : Nat) (f : Core → Core) : State := { s with cores := s.cores.set Core.reset k (f (s.core k)) }

/-- A word of a core's local SRAM. -/
def State.sramWord (s : State) (k a : Nat) : Nat := (s.sram.get 0 (k * 32768 + a)).toNat

def State.setSram (s : State) (k a v : Nat) : State := { s with sram := s.sram.set 0 (k * 32768 + a) (word v) }

/-! ### Privilege (R225) -/

/-- Stall supervisor or house. -/
def State.privileged (s : State) (t : Nat) : Bool := isHouseThread t || s.isSup t

/-! ### Registers (R206-R209) -/

/-- Where a register code lies in the window file: none for zr and wp. -/
def Thread.key (th : Thread) (c : Nat) : Option Nat :=
  if c < 6 then some ((th.frame + 15) % 16 * 14 + 8 + c)
  else if c < 20 then some (th.frame % 16 * 14 + (c - 6))
  else if c < 24 then some (224 + (c - 20))
  else if c = 25 then some flKey
  else none

def Thread.wp (th : Thread) : Nat := th.frame + th.low * 16 + th.spilled * 256

/-- A register's value with nothing left open. -/
def Thread.reg (th : Thread) (c : Nat) : Nat :=
  match th.key c with
  | some k => (th.keyWord k).toNat
  | none => if c = 26 then th.wp else 0

/-- R193: a read of a register in a shadow gives one of the values it may have. -/
def State.readReg (s : State) (t c : Nat) : Nat × State :=
  let th := s.th t
  match th.key c with
  | none => (th.reg c, s)
  | some k =>
    match th.shades.filter fun e => e.key == k with
    | [] => (th.reg c, s)
    | es => let (n, s1) := s.freeNat; ((es.map fun e => e.alt.toNat).getD (n % (es.length + 1)) (th.reg c), s1)

/-- A register written by an instruction; a write while an MFT to it is outstanding leaves either value (R263). -/
def Thread.putReg (th : Thread) (c v : Nat) : Thread :=
  match th.key c with
  | some k => { th.setKey k (word v) with shades := th.written k false }
  | none => th

def State.putReg (s : State) (t c v : Nat) : State := s.setTh t fun th => th.putReg c v

/-- A register written with a shadow of `n` instructions (R193). -/
def Thread.putShadow (th : Thread) (c v n : Nat) : Thread :=
  match th.key c with
  | some k => { th.setKey k (word v) with shades := { key := k, alt := th.keyWord k, left := some n, clash := false } :: th.written k true }
  | none => th

/-- R193: one instruction of the thread passes every counted shadow. -/
def Thread.ageShades (th : Thread) : Thread :=
  { th with shades := th.shades.filterMap fun e =>
      match e.left with
      | none => some e
      | some n => if n ≤ 1 then none else some { e with left := some (n - 1) } }

/-- R208: an even pair code, or zr. -/
def pairOk (c : Nat) : Bool := (c < 24 && c % 2 == 0) || c == 24

/-- R206: a register code that exists. -/
def regOk (c : Nat) : Bool := c ≤ 26

def State.readPair (s : State) (t c : Nat) : Nat × State :=
  if c = 24 then (0, s)
  else
    let (lo, s1) := s.readReg t c
    let (hi, s2) := s1.readReg t (c + 1)
    (lo + 65536 * hi, s2)

def Thread.putPair (th : Thread) (c v : Nat) : Thread :=
  if c = 24 then th else (th.putReg c (v % 65536)).putReg (c + 1) (v / 65536)

def State.putPair (s : State) (t c v : Nat) : State := s.setTh t fun th => th.putPair c v

/-! ### Window (R210-R212) -/

/-- Unspecified words at `n` consecutive places of the window file. -/
def State.freeKeys (s : State) (t k : Nat) : Nat → State
  | 0 => s
  | n + 1 => let (w, s1) := s.freeWord; (s1.setTh t fun th => th.setKey k w).freeKeys t (k + 1) n

/-- R210, step 1: whether a slide down writes a slot to the spill area. -/
def Thread.spillDue (th : Thread) : Bool := (th.frame + 1) % 16 == th.low

/-- R210: the window slides down; none where the spill area is full. -/
def State.slideDown (s : State) (t : Nat) (link : Option Nat) : Option State :=
  let th := s.th t
  if th.spillDue && th.spilled == 73 then none
  else
    let base := 0x4000 + 1024 * (t % 8) + 14 * th.spilled
    let s1 :=
      if th.spillDue then
        ((List.range 14).foldl (fun (s : State) i => s.setSram (coreOf t) (base + i) (th.keyWord (th.low * 14 + i)).toNat) s).setTh t
          fun th => { th with spilled := th.spilled + 1, low := (th.low + 1) % 16 }
      else s
    let f := (th.frame + 1) % 16
    let s2 := ((s1.setTh t fun th => { th with frame := f }).freeKeys t (f * 14) (if link.isSome then 6 else 8)).freeKeys t (f * 14 + 8) 6
    match link with
    | some a => some (s2.setTh t fun th => (th.setKey (f * 14 + 6) (word a)).setKey (f * 14 + 7) (word (a / 65536 % 2)))
    | none => some s2

/-- R211, step 1: the bottom frame. -/
def Thread.bottom (th : Thread) : Bool := th.frame == (th.low + 1) % 16 && th.spilled == 0

/-- R211, step 4: whether sliding up reads a slot back. -/
def Thread.fillDue (th : Thread) : Bool := (th.frame + 15) % 16 == th.low && th.spilled != 0

/-- R211, steps 3 and 4. -/
def State.slideUp (s : State) (t : Nat) : State :=
  let th := s.th t
  let s1 := s.setTh t fun th => { th with frame := (th.frame + 15) % 16 }
  if th.fillDue then
    let base := 0x4000 + 1024 * (t % 8) + 14 * (th.spilled - 1)
    let slot := (th.low + 15) % 16
    let s2 := (List.range 14).foldl (fun (s : State) i => s.setTh t fun th => th.setKey (slot * 14 + i) (word (s.sramWord (coreOf t) (base + i)))) s1
    s2.setTh t fun th => { th with spilled := th.spilled - 1, low := slot }
  else s1

/-- R211, R193: the return target in the link pair. -/
def State.linkTarget (s : State) (t : Nat) : Nat × State := s.readPair t 12

/-! ### Classes and ranking (R272-R277) -/

def State.prioOf (s : State) (t : Nat) : Nat := if t < 1024 then s.f F.schThread_PRIO t else s.f F.schHthread_PRIO (t - 1024)

/-- The packets in a thread's slots. -/
def Thread.packets (th : Thread) : List (Nat × SlotPkt) := th.slots.filterMap fun e => e.2.map fun p => (e.1, p)

def Thread.slot (th : Thread) (i : Nat) : Option SlotPkt := th.slots.get none i

def State.setSlot (s : State) (t i : Nat) (p : Option SlotPkt) : State :=
  s.setTh t fun th => { th with slots := th.slots.set none i p }

/-- R451: the current packet: the latest taken of those still running. -/
def Thread.current (th : Thread) : Option (Nat × SlotPkt) :=
  (th.packets.filter fun e => e.2.phase == 2).foldl (fun b e =>
    match b with
    | none => some e
    | some x => if x.2.order < e.2.order then some e else b) none

/-- R277: the course whose start strobe is the thread's deadline. -/
def State.deadlineOf (s : State) (t : Nat) : Option Nat :=
  let th := s.th t
  if th.parent.isSome then
    match th.childDeadline with
    | some d => if s.course < d then some d else none
    | none => none
  else
    (th.packets.filter fun e => e.2.phase == 1 || e.2.phase == 2).foldl (fun b e =>
      match b with
      | none => some (e.2.pkt.course + 2)
      | some d => some (min d (e.2.pkt.course + 2))) none

/-- R365: the requester number of a thread's accesses. -/
def threadRequester (t : Nat) : Nat := if t < 1024 then t / 64 else 21

/-- The present in the 8 ns of deadlines (R365). -/
def State.now8 (s : State) : Nat := s.now / 128 % 2 ^ 32

/-- R277, R365: the deadline of a thread's access. -/
def State.threadDeadline (s : State) (t arrived : Nat) : Nat :=
  match s.deadlineOf t with
  | some d => (s.time.courseStart.toNat + (d - s.course) * courseUnits s.time.len) / 128 % 2 ^ 32
  | none => s.defaultDeadline (threadRequester t) arrived

/-- R276: a thread's place in the order, lower first. -/
def State.rank (s : State) (t : Nat) : Nat :=
  let th := s.th t
  let cls := if th.parent.isSome then th.childClass else s.classOf t
  let prio := if th.parent.isSome then th.childPrio else s.prioOf t
  if cls = 1 then 8 * 2 ^ 70 + (s.deadlineOf t).getD (2 ^ 66)
  else if 4 ≤ prio then (7 - prio) * 2 ^ 70 + th.since
  else (12 - prio) * 2 ^ 70 + th.since

/-! ### Traps (R226-R228) -/

/-- R226: a vector's handler. -/
def State.handler (s : State) (t vec : Nat) : Nat :=
  let vb := if t < 1024 then s.f F.cluTrap_VBASE (clusterOf t) else s.f F.supCtl_HVBASE
  (128 * vb + 8 * vec) % 131072

/-- An ECC check whose outcome nothing at hand decides (log entry 129). -/
def State.freeEcc (s : State) : Ecc × State :=
  let (k, s1) := s.freeNat
  (if k % 3 = 1 then .corrected else if k % 3 = 2 then .double else .ok, s1)

/-- What the ECC of the words read finds (R214). -/
def State.countSram (s : State) (t : Nat) (corr : Bool) : State :=
  if t < 1024 then s.count (if corr then F.cluSram_CORR else F.cluSram_UNCORR) (clusterOf t) else s

/-- R189, R195, R202: up to `n` younger instructions of the thread are squashed: their issue slots count, and the tally commands among them
with the cycles their unit spends on them. How many there are is open (log entry 126). -/
def State.squash (s : State) (t n : Nat) : State :=
  let (k, s1) := s.freeNat
  let (m, s2) := s1.freeNat
  let (c, s3) := s2.freeNat
  let i := k % (n + 1)
  let j := m % (i + 1)
  let s4 := s3.countCore F.cluCoreIssue_ISSUE (coreOf t) i
  if j = 0 ∨ 1024 ≤ t then s4
  else (s4.countCore F.cluCoreTallySquash_TALLY_SQUASH (coreOf t) j).count F.tlyUnitBusyCycles_BUSY_CYCLES (coreOf t) c

/-- R276: the thread is eligible afresh. -/
def State.renew (s : State) (t : Nat) : State := s.stampUse.setTh t fun th => { th with since := s.useCtr }

/-- R290: a course in which a stall's thread runs, or something is pending for it, is not still. -/
def State.stir (s : State) (x : Nat) : State := if x < 16 then { s with restless := s.restless.set false x true } else s

/-- R227: the thread stops, with every register final (R194), and DOUBLE_TRAP is raised; a wait it was in is kept. -/
def State.doubleTrap (s : State) (t : Nat) : State :=
  let s := s.finalRegs t
  let s1 := s.setTh t fun th => { th with st := .stopped, stopBy := 9 }
  if t < 1024 then
    if s.tidOwner t < 16 then s1.raise (Ev.DOUBLE_TRAP (s.tidOwner t)) [word t, word (s.th t).tcause] else s1
  else s1.raise Ev.HOUSE_DOUBLE_TRAP [word (t - 1024), word (s.th t).tcause]

/-- R227, R210: the window slides down and the handler runs; an error in the rows that a spill moves stops the thread (R214). -/
def State.trapEnter (s : State) (t vec : Nat) : State :=
  let moves := (s.th t).spillDue && (s.th t).spilled != 73
  let (ecc, s1) := if moves then s.freeEcc else (Ecc.ok, s)
  match ecc with
  | .double => (s1.countSram t false).doubleTrap t
  | _ =>
    let s2 := if ecc == .corrected then s1.countSram t true else s1
    match s2.slideDown t none with
    | none => s2.doubleTrap t
    | some s3 => (s3.renew t).setTh t fun th => { th with inTrap := true, pc := s.handler t vec }

/-- R227: a trap is taken: vector, detail, faulting address, TINFO and return address. -/
def State.trap (s : State) (t vec detail addr info tpc : Nat) : State :=
  let s := (s.finalRegs t).setTh t fun th => { th with wait := .none }
  if (s.th t).inTrap then s.doubleTrap t
  else
    ((s.stir (s.tidOwner t)).setTh t fun th =>
      { th with tpc := tpc % 2 ^ 32, tcause := vec + detail * 256, taddr := addr, tinfo := info, tfl := th.fl, st := .running }).trapEnter t vec

/-- R211, R246: control passes to a target; above 131,071 the ILLEGAL trap is taken there. -/
def State.goto (s : State) (t target : Nat) : State :=
  if 131071 < target then s.trap t 0 0 0 0 target else s.setTh t fun th => { th with pc := target }

/-! ### Waits -/

/-- A thread blocks at its instruction. -/
def State.block (s : State) (t : Nat) (w : Wait) : State :=
  s.stampUse.setTh t fun th => { th with st := .blocked, wait := w, since := s.useCtr, blockedAt := s.useCtr }

/-- R228, R268: a machine check that waited for the thread's boundary. -/
def State.pendingTraps (s : State) (t : Nat) : State :=
  if (s.th t).mchk && (s.th t).st == .running then
    (s.setTh t fun th => { th with mchk := false }).trap t 11 1 0 0 (s.th t).pc
  else s

/-- A blocked thread's instruction completes and the thread runs on at the next one, `len` words further; a debugger stop that caught
it in its wait keeps it stopped (R284). -/
def State.unblock (s : State) (t len : Nat) : State :=
  let s1 := (s.stir (s.tidOwner t)).stampUse.setTh t fun th =>
    { th with st := if th.st == .stopped then .stopped else .running, wait := .none, pc := (th.pc + len) % 131072, since := s.useCtr }
  s1.pendingTraps t

/-! ### The lock word (R292) -/

def State.clWord (s : State) (c o : Nat) : Nat := (s.clMem.get 0 (c * 524288 + o)).toNat

def State.setClWord (s : State) (c o v : Nat) : State := { s with clMem := s.clMem.set 0 (c * 524288 + o) (word v) }

def State.lockLow (s : State) (l : LockId) : Nat :=
  match l.cluster with
  | none => (s.dramWord l.addr).toNat
  | some c => s.clWord c (l.addr / 2)

def State.lockHigh (s : State) (l : LockId) : Nat :=
  match l.cluster with
  | none => (s.dramWord (l.addr + 2)).toNat
  | some c => s.clWord c (l.addr / 2 + 1)

def State.setLock (s : State) (l : LockId) (lo hi : Nat) : State :=
  match l.cluster with
  | none => (s.setDramWord l.addr (word lo)).setDramWord (l.addr + 2) (word hi)
  | some c => (s.setClWord c (l.addr / 2) lo).setClWord c (l.addr / 2 + 1) hi

/-- R292: a thread is queued on a lock. -/
def State.lockAwaited (s : State) (l : LockId) : Bool := s.lockQ.any fun e => e.2 == l

/-- R292, R298: a thread leaves the queue of its LKA without the lock, and WAITERS says whether others remain. -/
def State.lockLeave (s : State) (t : Nat) : State :=
  let mine := (s.lockQ.filter fun e => e.1 == t).map (·.2)
  mine.foldl (fun (s : State) l => s.setLock l (putBits (s.lockLow l) 11 1 (boolNat (s.lockAwaited l))) (s.lockHigh l))
    { s with lockQ := s.lockQ.filter fun e => e.1 != t }

/-! ### OVERRUN and STILL -/

/-- R169, R291: an OVERRUN or STILL for a thread: the wait it is blocked in is abandoned. -/
def State.abandonWait (s : State) (t : Nat) : State :=
  (s.lockLeave t).setTh t fun th =>
    if th.st == .blocked then { th with st := .running, wait := .none } else { th with wait := .none }

/-- R169, R228: the OVERRUN trap, held while the thread is in a handler. -/
def State.overrunTrap (s : State) (t slot : Nat) : State :=
  let th := s.th t
  if th.st == .parked then s
  else if th.st == .stopped && th.stopBy == 9 then s
  else if th.inTrap || th.st == .stopped then s.setTh t fun th => { th with heldOverrun := some slot }
  else (s.abandonWait t).trap t 8 0 0 slot th.pc

/-- R291: the STILL trap for a blocked supervisor. -/
def State.stillTrap (s : State) (t : Nat) : State :=
  let th := s.th t
  if th.inTrap then s.setTh t fun th => { th with heldStill := true }
  else (s.abandonWait t).trap t 10 0 0 0 th.pc

/-- R228: after RETT, or when a stopped thread resumes, a held OVERRUN or STILL is taken; held together they merge into OVERRUN. -/
def State.takeHeld (s : State) (t : Nat) : State :=
  let th := s.th t
  if th.inTrap || th.st != .running then s
  else
    match th.heldOverrun with
    | some i => (s.setTh t fun th => { th with heldOverrun := none, heldStill := false }).trap t 8 0 0 i th.pc
    | none => if th.heldStill then (s.setTh t fun th => { th with heldStill := false }).trap t 10 0 0 0 th.pc else s.pendingTraps t

end Sys2Proof.Machine
end

