-- ==== Sys2Proof/Machine/Locks.lean ====
section
/-! DEFINITION. The far map (R215, R216) and word locks (R292-R303). -/

namespace Sys2Proof.Machine

/-! ### The far map -/

/-- Bits of SCP_SEGx_g.HI. -/
structure Seg where
  base : Nat
  limit : Nat
  kind : Nat
  write : Bool
  table : Nat
  deriving DecidableEq, Repr

def State.seg (s : State) (x g : Nat) : Seg :=
  let hi := s.rd .scpSegHi x g
  { base := bits (s.rd .scpSegLo x g) 0 28, limit := min (bits hi 0 18) 131072, kind := bits hi 18 3, write := bits hi 21 1 == 1,
    table := bits hi 22 2 }

/-- R180: a cluster is IN_SERVICE for a stall. -/
def State.inService (s : State) (c x : Nat) : Bool := c < 16 && s.f F.dspCluster_STATE c == 1 && s.clusterOwner c == x

/-- R215, R216: the checks in EX of one word of a far access by owner `x`; its place, or none where it faults. -/
def State.farPlace (s : State) (x addr : Nat) (store pair : Bool) : Option Place :=
  let g := addr / 2 ^ 28 % 16
  let o := addr % 2 ^ 28
  let sg := s.seg x g
  if 16 < x ∨ sg.limit = 0 ∨ sg.limit * 2048 ≤ o ∨ (store ∧ !sg.write) then none
  else
    match sg.kind with
    | 1 => some (.dram ((sg.base * 4096 + 2 * o) % 2 ^ 40))
    | 2 => if o < 524288 && (x == 16 || s.inService (sg.base % 16) x) then some (.cluster (sg.base % 16) o) else none
    | 3 => some (.packet (o / 128) (o % 128))
    | 4 => if pair && o % 2 == 0 && o < 0x800000 then some (.control (2 * o)) else none
    | 5 => if sg.table = 0 then some (.station (o / 128) (o % 128))
      else if sg.table = 1 then some (.sa (o / 128) (o % 128)) else none
    | _ => none

/-- The second half of a pair lies in the block of the first (R216). -/
def Place.follows (p q : Place) (o : Nat) : Bool :=
  match p, q with
  | .packet .., .packet .. => o % 128 != 127
  | .station .., .station .. => o % 128 != 127
  | .sa .., .sa .. => o % 128 != 127
  | .control .., .control .. => true
  | .dram _, .dram _ => true
  | .cluster .., .cluster .. => true
  | _, _ => false

/-- R216: a far access checked in EX: its place, or the PAIR_HIGH bit of the fault. -/
def State.farCheck (s : State) (x addr : Nat) (store pair : Bool) : Place ⊕ Nat :=
  match s.farPlace x addr store pair with
  | none => .inr 0
  | some p =>
    if !pair then .inl p
    else
      match p with
      | .control _ => .inl p
      | _ =>
        if addr % 2 ^ 28 = 2 ^ 28 - 1 then .inr 16
        else
          match s.farPlace x (addr + 1) store pair with
          | none => .inr 16
          | some q => if p.follows q (addr % 2 ^ 28) then .inl p else .inr 16

/-! ### The lock word (R292, R293) -/

def State.epoch (s : State) : Nat := s.f F.atmCfg_EPOCH

/-- R293: held, and not stale. -/
def State.lockHeld (s : State) (l : LockId) : Bool := bits (s.lockLow l) 15 1 == 1 && bits (s.lockHigh l) 0 12 == s.epoch

def State.lockStale (s : State) (l : LockId) : Bool := bits (s.lockLow l) 15 1 == 1 && bits (s.lockHigh l) 0 12 != s.epoch

/-- R292: HOLDER and HOUSE of a thread. -/
def holderBits (t : Nat) : Nat := if t < 1024 then t else (t - 1024) + 1024

/-- The thread a held lock names. -/
def State.lockHolder (s : State) (l : LockId) : Nat :=
  let lo := s.lockLow l
  if bits lo 10 1 = 1 then 1024 + lo % 8 else lo % 1024

/-- A counter of ATM_STATs; house threads have none. -/
def State.countAtm (s : State) (fl : Fld) (t : Nat) : State := if s.tidOwner t < 16 then s.count fl (s.tidOwner t) else s

/-- Z and C as a lock operation sets them. -/
def lockFlags (fl : Nat) (z c : Bool) : Nat := fl / 4 * 4 + boolNat z + boolNat c * 2

/-- R296, R298: the lock becomes thread `t`'s. -/
def State.lockTake (s : State) (t : Nat) (l : LockId) (abandoned waiters waited : Bool) : State :=
  let hi := s.lockHigh l
  let lo := holderBits t + boolNat waiters * 2048 + boolNat abandoned * 16384 + 32768
  let s1 := (s.setLock l lo (s.epoch + (hi / 4096 + 1) % 16 * 4096)).countAtm F.atmStatAcquired_ACQUIRED t
  s1.setTh t fun th => { th with locks := th.locks ++ [⟨l, waited⟩] }

/-- A lock operation's instruction completes with its flags. -/
def State.lockEnd (s : State) (t : Nat) (z c : Bool) : State :=
  (s.setTh t fun th => th.updFl fun fl => lockFlags fl z c).unblock t 1

/-- R298: the earliest queued thread that is not stopped. -/
def State.nextWaiter (s : State) (l : LockId) : Option Nat :=
  (s.lockQ.find? fun e => e.2 == l && (s.th e.1).st == .blocked).map (·.1)

/-- R298: a freed lock is granted, or HELD is cleared. -/
def State.lockFree (s : State) (l : LockId) (clean : Bool) : State :=
  match s.nextWaiter l with
  | some t =>
    let s1 := { s with lockQ := s.lockQ.filter fun e => !(e.1 == t && e.2 == l) }
    (s1.lockTake t l (!clean) (s1.lockAwaited l) true).lockEnd t true (!clean)
  | none =>
    let lo := s.lockLow l
    s.setLock l (putBits (putBits (putBits lo 15 1 0) 14 1 (boolNat (!clean))) 11 1 (boolNat (s.lockAwaited l))) (s.lockHigh l)

def Thread.holds (th : Thread) (l : LockId) : Bool := th.locks.any fun e => e.lock == l

def State.dropLock (s : State) (t : Nat) (l : LockId) : State :=
  s.setTh t fun th => { th with locks := th.locks.filter fun e => e.lock != l }

/-- R302: a thread's locks are freed as abandoned, in the order they were acquired. -/
def State.freeLocks (s : State) (t : Nat) : State :=
  let ls := (s.th t).locks
  let s1 := s.setTh t fun th => { th with locks := [] }
  let s2 := ls.foldl (fun (s : State) e =>
    let s1 := s.countAtm F.atmStatAbandoned_ABANDONED t
    if s1.lockHeld e.lock && s1.lockHolder e.lock == t then s1.lockFree e.lock false else s1) s1
  if ls.isEmpty || 16 ≤ s.tidOwner t then s2 else s2.raise (Ev.LOCK_ABANDONED (s.tidOwner t)) [word t, word ls.length]

/-- R302: the locks of every thread of a scope; their waits leave the queues first. -/
def State.freeLocksOf (s : State) (ts : List Nat) : State :=
  ts.foldl (fun s t => s.freeLocks t) (ts.foldl (fun s t => s.lockLeave t) s)

/-! ### The atomic unit (R295-R300) -/

/-- R296: the read-modify-write of LKA (`op` 0) and LKT (1). -/
def State.lockAcquire (s : State) (t op : Nat) (l : LockId) : State :=
  if !s.lockHeld l then
    let c := s.lockStale l || bits (s.lockLow l) 14 1 == 1
    (s.lockTake t l c (s.lockAwaited l) false).lockEnd t true c
  else if op = 1 then s.lockEnd t false false
  else
    let s1 := (s.setLock l (putBits (s.lockLow l) 11 1 1) (s.lockHigh l)).countAtm F.atmStatContended_CONTENDED t
    let s2 := { s1 with lockQ := s1.lockQ ++ [(t, l)] }
    s2.block t (.lka l)

/-- R297: LKR. -/
def State.lockRelease (s : State) (t : Nat) (l : LockId) : State :=
  let z := fun (s : State) (b : Bool) => s.setTh t fun th => th.updFl fun fl => fl / 2 * 2 + boolNat b
  if !(s.th t).holds l then (z s false).unblock t 1
  else
    let s1 := s.dropLock t l
    if s1.lockHeld l && s1.lockHolder l == t then ((z (s1.lockFree l true) true)).unblock t 1
    else
      let s2 := s1.countAtm F.atmStatLimit_CORRUPT t
      let s3 := if s.tidOwner t < 16 then s2.raise (Ev.LOCK_CORRUPT (s.tidOwner t)) else s2
      (z s3 false).unblock t 1

/-- R299: LKF; every forced free counts: for the stall of the former holder, or else of the thread that forces (log entry 130). -/
def State.lockForce (s : State) (t : Nat) (l : LockId) : State :=
  let z := fun (s : State) (b : Bool) => s.setTh t fun th => th.updFl fun fl => fl / 2 * 2 + boolNat b
  if !s.lockHeld l then (z s false).unblock t 1
  else
    let h := s.lockHolder l
    let s1 := (s.dropLock h l).countAtm F.atmStatAbandoned_FORCED (if s.tidOwner h < 16 then h else t)
    (z (s1.lockFree l false) true).unblock t 1

/-- R219, R300: a lock operation waits for earlier far stores: LKR for all of them, the others for those to the pair's segment. -/
def Thread.lockWaits (th : Thread) (op far : Nat) : Bool := th.posted.any fun r => op == 2 || r.seg == far / 2 ^ 28

/-- R295: the operation a blocked thread has at the unit is done; `err` is an uncorrectable error of a pair in DRAM. -/
def State.lockDone (s : State) (t : Nat) (err : Bool) : State :=
  let th := s.th t
  match th.wait with
  | .lockOp op l far =>
    if th.lockWaits op far then s
    else if err && l.cluster.isNone then s.trap t 3 0 far 4 th.pc
    else if op = 2 then s.lockRelease t l
    else if op = 3 then s.lockForce t l
    else s.lockAcquire t op l
  | _ => s

/-- R295: due for a thread that has an operation at the atomic unit. -/
def execLockOperationDone (t : Tid) (err : Bool) (s : State) : Res :=
  run s (onlyIf ((s.th t).st == .blocked) fun s => s.lockDone t err)

end Sys2Proof.Machine
end

