-- ==== Sys2Proof/Machine/Channels.lean ====
section
/-! DEFINITION. Channels (R278-R286), thread timers (R287-R289) and stillness (R290, R291). -/

namespace Sys2Proof.Machine

/-! ### Names and rights -/

/-- A channel by cluster (16: the house core) and number. -/
def chanKey (c n : Nat) : Nat := c * 1024 + n

def State.chanQ (s : State) (k : Nat) : List Msg := s.chans.get [] k

def State.setChanQ (s : State) (k : Nat) (q : List Msg) : State := { s with chans := s.chans.set [] k q }

def State.chanMax (s : State) (k : Nat) : Nat :=
  if k % 1024 = 1 then 1 else if k % 1024 < 16 then 32 else min (bits (s.chanConf k) 0 6) 32

def State.chanDepth (s : State) (k : Nat) : Nat := max 1 (bits (s.chanConf k) 6 6)

/-- R278: the channel a channel word names for a thread, or the trap's detail code. -/
def State.chanNamed (s : State) (t w : Nat) : Nat ⊕ Nat :=
  let n := w % 1024
  if bits w 14 1 = 1 then .inr 5
  else
    let c := if bits w 15 1 = 1 then clusterOf t else bits w 10 4
    if t < 1024 ∧ !(s.inService c (s.tidOwner t) || c == clusterOf t) then .inr 6
    else if 5 ≤ n ∧ n < 16 then .inr 5
    else if c = 16 ∧ n = 1 then .inr 5
    else if 16 ≤ n ∧ bits (s.chanConf (chanKey c n)) 0 6 = 0 then .inr 5
    else .inl (chanKey c n)

/-- R278-R280: whether a thread may write a channel. -/
def State.mayWrite (s : State) (t k : Nat) : Bool :=
  let c := k / 1024
  let n := k % 1024
  if 16 ≤ n then isHouseThread t || c == clusterOf t || bits (s.chanConf k) 20 1 == 1
  else if n = 1 then t < 1024 && c == clusterOf t
  else if n = 4 then c == clusterOf t && s.privileged t
  else false

/-- R280: the thread that reads a channel; none for any. -/
def State.chanReader (s : State) (k : Nat) : Option Nat :=
  let r := bits (s.chanConf k) 12 7
  if k / 1024 = 16 then (if r < 8 then some (1024 + r) else none)
  else if r < 64 then some (k / 1024 * 64 + r) else none

/-- A thread's class as it runs: a child has its parent's. -/
def State.runClass (s : State) (t : Nat) : Nat := if (s.th t).parent.isSome then (s.th t).childClass else s.classOf t

/-- R278-R280: whether a thread may read a channel. -/
def State.mayRead (s : State) (t k : Nat) : Bool :=
  let n := k % 1024
  if k / 1024 != clusterOf t then false
  else if 16 ≤ n then (match s.chanReader k with | none => true | some r => r == t)
  else if n = 0 then isHouseThread t || s.runClass t == 1
  else if n = 2 || n = 3 then s.privileged t
  else false

/-- R286: a CHW's or CHE's checks: the channel, or the detail code. `fin` is a CHE. -/
def State.chanPut (s : State) (t w : Nat) (fin : Bool) : Nat ⊕ Nat :=
  match s.chanNamed t w with
  | .inr d => .inr d
  | .inl k =>
    if !s.mayWrite t k then .inr 3
    else
      let staged := match (s.th t).staging with | some (_, ws) => ws.length | none => 0
      let sender := if 16 ≤ k % 1024 ∧ bits (s.chanConf k) 19 1 = 1 then 1 else 0
      if (match (s.th t).staging with | some (k', _) => k' != k | none => false) then .inr 1
      else if k % 1024 = 1 ∧ !fin then .inr 2
      else if s.chanMax k < staged + 1 + sender then .inr 2
      else .inl k

/-- R286: a CHR's or CHP's checks. -/
def State.chanTake (s : State) (t w : Nat) : Nat ⊕ Nat :=
  match s.chanNamed t w with
  | .inr d => .inr d
  | .inl k => if s.mayRead t k then .inl k else .inr 4

/-! ### The channel store (R282) -/

def cellsOf (n : Nat) : Nat := (n + 7) / 8

/-- Cells of a cluster's channel store in use: messages on its internal channels. -/
def State.storeUsed (s : State) (c : Nat) : Nat :=
  s.chans.foldl (fun a e => if e.1 / 1024 == c && 16 ≤ e.1 % 1024 then a + (e.2.map fun m => cellsOf m.words.length).sum else a) 0

/-- R282: whether a channel takes a message of `n` words now. -/
def State.chanRoom (s : State) (k n : Nat) : Bool :=
  if k % 1024 = 1 then true
  else if k % 1024 < 16 then (s.chanQ k).length < 16
  else (s.chanQ k).length < s.chanDepth k && s.storeUsed (k / 1024) + cellsOf n ≤ 8192

/-- Threads blocked in CHE on a channel for room; one that is STOPPED is passed over (R284). -/
def State.blockedWriters (s : State) (k : Nat) : List Nat :=
  (s.threads.filter fun e => e.2.st == .blocked && (match e.2.wait with | .che k' _ false => k' == k | _ => false)).map (·.1)

/-- R282: writers publish in the order they blocked; one that has not blocked for room comes after all of them. -/
def State.firstWriter (s : State) (t k : Nat) : Bool :=
  let ws := s.blockedWriters k
  ws.all fun u => ws.contains t && (s.th t).blockedAt ≤ (s.th u).blockedAt

/-- R280: the words a reader gets. -/
def State.withSender (s : State) (t k : Nat) (ws : List Word) : List Word :=
  if 16 ≤ k % 1024 ∧ bits (s.chanConf k) 19 1 = 1 then word (t % 1024) :: ws else ws

/-- R281: a message is published; on channels 2 to 4 it is something pending for its stall (R290). -/
def State.publish (s : State) (t k : Nat) (ws : List Word) : State :=
  let s1 := s.setChanQ k (s.chanQ k ++ [⟨ws, t, 2000, s.course⟩])
  if 2 ≤ k % 1024 && k % 1024 ≤ 4 then s1.stir (s.clusterOwner (k / 1024)) else s1

/-- R166: a retire message takes effect as its CHE performs: the packet it names is retired from then on, or it is ignored and counted. -/
def State.sealRetire (s : State) (t k : Nat) (ws : List Word) : State :=
  let w := (ws.headD 0).toNat
  let x := s.tidOwner t
  match ((s.th t).slot (w % 4)).filter fun p => p.phase == 2 && (bits w 2 2 == 1 || bits w 2 2 == 2) with
  | some p => (s.publish t k ws).setSlot t (w % 4) (some { p with phase := 3 })
  | none => if x < 16 then s.count F.dspStatDeferFull_BAD_RETIRE x else s

/-- R281, R166: what a CHE sends. -/
def State.send (s : State) (t k : Nat) (ws : List Word) : State := if k % 1024 = 1 then s.sealRetire t k ws else s.publish t k ws

/-! ### Readers (R283) -/

/-- The messages of a channel that a thread may take, with their places in the queue. -/
def State.readable (s : State) (t k : Nat) : List (Nat × Msg) :=
  (List.zip (List.range (s.chanQ k).length) (s.chanQ k)).filter fun e =>
    k % 1024 != 0 || k / 1024 == 16 || e.2.dest == t

/-- Threads waiting in CHR on a channel that can be given a message. -/
def State.chrWaiters (s : State) (k : Nat) : List Nat :=
  (s.threads.filter fun e => e.2.st == .blocked && (match e.2.wait with | .chr k' _ _ => k' == k | _ => false)).map (·.1)

/-- R283: the message an arriving CHR or CHP gets: those already waiting come first. -/
def State.messageFor (s : State) (t k : Nat) : Option (Nat × Msg) :=
  let ahead := if k % 1024 = 0 ∧ k / 1024 < 16 then 0 else (s.chrWaiters k).length
  (s.readable t k)[ahead]?

/-- R252: whether the copy's words lie in one region. -/
def copyOk (dst n : Nat) : Bool := (dst + n ≤ 0x4000) || (0x6000 ≤ dst && dst + n ≤ 0x8000)

/-- R196, R197, R214: a store-buffer entry is performed, or stops its thread for a double-bit error; loads cancelled for it come again. -/
def State.drainEntry (s : State) (k : Nat) (e : SbEntry) (ecc : Ecc) : State :=
  let s1 := s.setCore k fun c => { c with sb := c.sb.filter fun x => x.id != e.id }
  let s2 := match ecc with
    | .double => (s1.countSram e.thread false).doubleTrap e.thread
    | _ =>
      let s2 := if ecc == .corrected then s1.countSram e.thread true else s1
      (List.zip (List.range e.data.length) e.data).foldl (fun (s : State) (i, w) => s.setSram k (e.addr + i) w.toNat) s2
  (List.range 8).foldl (fun (s : State) i =>
    let t := k * 8 + i
    if (s.th t).replay == some e.id then (s.setTh t fun th => { th with replay := none }).renew t else s) s2

/-- Every store that the core has buffered is performed. -/
def State.drainAll (s : State) (k : Nat) : State :=
  (s.core k).sb.foldl (fun (s : State) e => let (ecc, s1) := s.freeEcc; s1.drainEntry k e ecc) s

/-- R371: the cluster of a target's supervisor: 16 for the house. -/
def State.supCluster (s : State) (x : Nat) : Option Nat := if x = 16 then some 16 else s.roleCluster x

/-- R387: mails held for target `x` enter channel 3 while it has room. -/
def State.mailIn (s : State) (x : Nat) : Nat → State
  | 0 => s
  | n + 1 =>
    let e := s.sessions.get Session.reset x
    match e.mails, s.supCluster x with
    | m :: rest, some c =>
      if (s.chanQ (chanKey c 3)).length < 16 then
        (({ s with sessions := s.sessions.set Session.reset x { e with mails := rest } }).publish 2000 (chanKey c 3) m).mailIn x n
      else s
    | _, _ => s

/-- A message has left a channel: mails held for it come in. -/
def State.mailNext (s : State) (k : Nat) : State :=
  if k % 1024 = 3 then s.mailIn (if k / 1024 = 16 then 16 else s.clusterOwner (k / 1024)) 16 else s

/-- R252, R165: a message is taken from the queue and copied, the core's earlier stores being done; a packet message's packet is now taken. -/
def State.takeMsg (s : State) (t k dst idx : Nat) (m : Msg) : State :=
  let s1 := (s.setChanQ k ((s.chanQ k).eraseIdx idx)).mailNext k
  let s2 := (List.zip (List.range m.words.length) m.words).foldl (fun (s : State) (i, w) => s.setSram (coreOf t) (dst + i) w.toNat) s1
  if k % 1024 = 0 ∧ k / 1024 < 16 then
    let i := (m.words.getD 16 0).toNat % 4
    match (s2.th t).slot i with
    | some p => s2.stampUse.setSlot t i (some { p with phase := 2, order := s2.useCtr, issued := 0 })
    | none => s2
  else s2

/-- R230: a result with its flags; a write to fl takes the place of the listed flag updates. -/
def Thread.result (th : Thread) (c v : Nat) (fl : Nat → Nat) : Thread :=
  if c = 25 then th.putReg c v else (th.putReg c v).updFl fl

def setZ (z : Bool) (fl : Nat) : Nat := fl / 2 * 2 + boolNat z

/-- R252, R283: a waiting CHR gets its message; a copy that is not within one region traps, and the message stays. -/
def State.chrWake (s : State) (t : Nat) : State :=
  match (s.th t).wait with
  | .chr k dst r =>
    match s.readable t k with
    | [] => s
    | (idx, m) :: _ =>
      if !(s.chrWaiters k).all (fun u => (s.th t).blockedAt ≤ (s.th u).blockedAt) && !(k % 1024 == 0 && k < 16384) then s
      else if !copyOk dst m.words.length then s.trap t 2 0 dst 8 (s.th t).pc
      else
        let s := s.drainAll (coreOf t)
        if (s.th t).st == .stopped then s
        else ((s.takeMsg t k dst idx m).setTh t fun th => th.result r m.words.length (setZ false)).unblock t 1
  | _ => s

/-! ### CHE (R251, R282) -/

/-- R281: the message goes out and the CHE completes. -/
def State.cheDone (s : State) (t k : Nat) (ws : List Word) : State :=
  ((s.send t k ws).setTh t fun th => { th with staging := none }).unblock t 1

/-- R282: once the far stores are performed, the message is published or the thread blocks for room. -/
def State.chePublish (s : State) (t k : Nat) (ws : List Word) : State :=
  if s.chanRoom k ws.length && s.firstWriter t k then s.cheDone t k ws
  else (s.countCluster F.schClusterCheBlock_CHE_BLOCK (clusterOf t)).block t (.che k ws false)

/-- R282, R286: a blocked CHE goes on. -/
def State.cheUnblock (s : State) (t : Nat) : State :=
  match (s.th t).wait with
  | .che k ws stores =>
    if t < 1024 ∧ !(s.inService (k / 1024) (s.tidOwner t)) ∧ k / 1024 ≠ clusterOf t then
      s.trap t 13 6 0 0 (s.th t).pc
    else if stores then (if (s.th t).posted.isEmpty then s.chePublish t k ws else s)
    else if s.chanRoom k ws.length && s.firstWriter t k then s.cheDone t k ws
    else s
  | _ => s

/-! ### Configuration (R280) -/

/-- R280: a write of SCH_CHANx.CFG. -/
def State.wrChanCfg (s : State) (x v : Nat) : State :=
  let p := s.rd .schChanPtr x
  let c := if x = 16 ∧ bits p 14 1 = 1 then 16 else bits p 10 4
  let n := bits p 0 10
  let k := chanKey c n
  let refuse := fun (r : Nat) => (s.count F.schChanStat_REFUSED x).setF F.schChanStat_LAST_REASON x r
  let busy := !(s.chanQ k).isEmpty || s.threads.any fun e => match e.2.wait with | .chr k' _ _ => k' == k | .che k' _ _ => k' == k | _ => false
  if x ≠ 16 ∧ s.clusterOwner c ≠ x then refuse 2
  else if n < 16 then refuse 3
  else if busy then refuse 1
  else { s with chanCfg := s.chanCfg.set (127 * 4096) k (v % 2 ^ 21) }

/-! ### Resets (R285) -/

/-- R285: every channel of a cluster is emptied, and each message counted. -/
def State.emptyChannels (s : State) (c : Nat) : State :=
  let n := s.chans.foldl (fun a e => if e.1 / 1024 == c then a + e.2.length else a) 0
  let s1 := { s with chans := s.chans.filter fun e => e.1 / 1024 != c }
  if c < 16 then s1.setF F.schClusterDiscard_DISCARD c (satAdd 32 (s1.f F.schClusterDiscard_DISCARD c) n) else s1

/-! ### Timers (R287-R289) -/

def State.lathNow (s : State) : Nat := s.now / 1024

def State.timer (s : State) (t i : Nat) : Timer := (s.th t).timers.get Timer.reset i

def State.setTimer (s : State) (t i : Nat) (f : Timer → Timer) : State :=
  s.setTh t fun th => { th with timers := th.timers.set Timer.reset i (f (th.timers.get Timer.reset i)) }

/-- R288: the checks of arming are CHE's: the channel, or the detail code. -/
def State.timerChan (s : State) (t i : Nat) : Nat ⊕ Nat :=
  match s.chanNamed t (s.timer t i).ch.toNat with
  | .inr d => .inr d
  | .inl k => if s.mayWrite t k then .inl k else .inr 3

/-- R288: a store of `n` to TMR_ARMi. -/
def State.timerArm (s : State) (t i n : Nat) : Nat ⊕ State :=
  if n = 0 then .inr s
  else
    match s.timerChan t i with
    | .inr d => .inl d
    | .inl _ => .inr ((s.stir (s.tidOwner t)).stampUse.setTimer t i fun m => { m with due := s.lathNow + n + 1, order := s.useCtr, late := false })

/-- R287: a store to TMR_STATi. -/
def State.timerCancel (s : State) (t i : Nat) : State := s.setTimer t i fun m => { m with due := 0, late := false }

/-- R289: the timers of a cluster that have expired: due lath, order, thread, timer. -/
def State.timersDue (s : State) (c : Nat) : List (Nat × Nat × Nat × Nat) :=
  (s.threads.filter fun e => clusterOf e.1 == c).flatMap fun e =>
    e.2.timers.filterMap fun m => if m.2.due != 0 && m.2.due ≤ s.lathNow + 1 then some (m.2.due, m.2.order, e.1, m.1) else none

/-- R289: whether timer i of thread t posts next. -/
def State.timerNext (s : State) (t i : Nat) : Bool :=
  let m := s.timer t i
  m.due != 0 && m.due ≤ s.lathNow + 1 &&
    (s.timersDue (clusterOf t)).all fun e => m.due < e.1 || (m.due == e.1 && m.order ≤ e.2.1)

/-- R289: a timer that cannot post is counted once, and tried again at the next lath. -/
def State.timerStay (s : State) (t i : Nat) (m : Timer) : State :=
  let s1 := if m.late then s else s.countCluster F.schClusterTimerLate_TIMER_LATE (clusterOf t)
  s1.setTimer t i fun m => { m with due := s.lathNow + 2, late := true }

/-- R289: the timer posts its tag, or stays due until the next boundary. -/
def State.timerExpire (s : State) (t i : Nat) : State :=
  let m := s.timer t i
  match s.timerChan t i with
  | .inl k =>
    if s.chanRoom k 1 then (s.publish t k [m.tag]).setTimer t i fun m => { m with due := 0, late := false }
    else s.timerStay t i m
  | .inr _ => s.timerStay t i m

/-! ### Stillness (R290, R291) -/

/-- R290: whether a thread is in one of the still states. -/
def Thread.still (th : Thread) : Bool :=
  match th.st with
  | .parked => true
  | .stopped => th.stopBy == 9
  | .blocked =>
    match th.wait with
    | .chr k _ _ => 16 ≤ k % 1024
    | .che k _ false => 16 ≤ k % 1024
    | .join _ => true
    | .lka _ => true
    | _ => false
  | .running => false

/-- R290: the stall is still at this moment. -/
def State.stillNow (s : State) (x : Nat) : Bool :=
  let mine := s.threads.filter fun e => e.1 < 1024 && s.clusterOwner (clusterOf e.1) == x && s.f F.dspCluster_STATE (clusterOf e.1) != 0
  mine.all (fun e => e.2.still && e.2.timers.all (fun m => m.2.due == 0) && e.2.packets.all fun p => p.2.phase != 1) &&
    s.clusterQ.all (fun e => e.2.all fun p => p.stall != some x) && (s.defers.get [] x).isEmpty && (s.sessions.get Session.reset x).mails.isEmpty &&
    (match s.roleCluster x with
     | some c => [2, 3, 4].all fun n => (s.chanQ (chanKey c n)).isEmpty
     | none => true)

/-- R290: at the strobe: the course's stillness is counted, and the next course begins. -/
def State.stillStrobe (s : State) (x : Nat) : State :=
  let quiet := s.stillOn x && !s.debugStopped x && !s.restless.get false x && s.stillNow x
  let n := if quiet then s.f F.schStillStat_COURSES x + 1 else 0
  { s.setF F.schStillStat_COURSES x (min n 2) with
    restless := s.restless.set false x false }

/-- R291: STILL: the event, and the trap of a blocked supervisor. -/
def State.stillRaise (s : State) (x : Nat) : State :=
  let s1 := (s.count F.schStillStat_RAISED x).setF F.schStillStat_COURSES x 0
  let sup := s.supervisor x
  let trapped := match sup with | some t => (s.th t).st == .blocked | none => false
  let s2 := s1.raise (Ev.STILL x) [word (boolNat (!trapped))]
  match sup with
  | some t => if trapped then s2.stillTrap t else s2
  | none => s2

/-! ### Commands -/

/-- R283: due for a thread that waits in CHR. -/
def execChrWake (t : Tid) (s : State) : Res := run s (onlyIf ((s.th t).st == .blocked) fun s => s.chrWake t)

def execCheUnblock (t : Tid) (s : State) : Res := run s (onlyIf ((s.th t).st == .blocked) fun s => s.cheUnblock t)

/-- R288: a running thread's store to TMR_ARMi; a channel it may not write takes the CHANNEL trap. -/
def execTimerArm (t : Tid) (i : Fin 8) (n : Word) (s : State) : Res :=
  run s (onlyIf ((s.th t).st == .running) fun s =>
    match s.timerArm t i n.toNat with
    | .inl d => s.trap t 13 d 0 0 (s.th t).pc
    | .inr s1 => s1)

/-- R287: a running thread's store of any value to TMR_STATi. -/
def execTimerCancel (t : Tid) (i : Fin 8) (v : Word) (s : State) : Res :=
  run s (onlyIf ((s.th t).st == .running && v.toNat < 65536) fun s => s.timerCancel t i)

def execTimerExpiry (t : Tid) (i : Fin 8) (s : State) : Res :=
  run s (onlyIf (s.timerNext t i) fun s => s.timerExpire t i)

/-- R291: due at the strobe that ends the second still course. -/
def execStill (x : StallId) (s : State) : Res :=
  run s (onlyIf (s.f F.schStillStat_COURSES x == 2) fun s => s.stillRaise x)

end Sys2Proof.Machine
end

