-- ==== Sys2Proof/Machine/Flags.lean ====
section
/-! DEFINITION. Results and flags of the Phouz instructions on 16-bit numbers (R207, R234-R241). fl: Z 0, C 1, N 2, V 3, DC 4. -/

namespace Sys2Proof.Machine

/-- fl from its five flags. -/
def flags (z c n v dc : Bool) : Nat := boolNat z + boolNat c * 2 + boolNat n * 4 + boolNat v * 8 + boolNat dc * 16

def flZ (fl : Nat) : Bool := bits fl 0 1 == 1
def flC (fl : Nat) : Bool := bits fl 1 1 == 1
def flN (fl : Nat) : Bool := bits fl 2 1 == 1
def flV (fl : Nat) : Bool := bits fl 3 1 == 1
def flDC (fl : Nat) : Bool := bits fl 4 1 == 1

/-- A 16-bit result and the flags after it. -/
structure Res16 where
  val : Nat
  fl : Nat
  deriving DecidableEq, Repr

def neg16 (v : Nat) : Bool := 32768 ≤ v % 65536

/-- R234: addition: C the carry out of bit 15, V the signed overflow. -/
def add16 (fl a b c : Nat) : Res16 :=
  let s := a + b + c
  let r := s % 65536
  let i := signed 16 a + signed 16 b + c
  ⟨r, flags (r == 0) (65536 ≤ s) (neg16 r) (i < -32768 || 32767 < i) (flDC fl)⟩

/-- R234: subtraction: C the borrow. -/
def sub16 (fl a b c : Nat) : Res16 :=
  let r := (a + 131072 - b - c) % 65536
  let i := signed 16 a - signed 16 b - c
  ⟨r, flags (r == 0) (a < b + c) (neg16 r) (i < -32768 || 32767 < i) (flDC fl)⟩

/-- R234: AND, OR and XOR: V := 0, C unchanged. -/
def logic16 (fl r : Nat) : Res16 := ⟨r % 65536, flags (r % 65536 == 0) (flC fl) (neg16 r) false (flDC fl)⟩

/-- R236: Z and N alone. -/
def unary16 (fl r : Nat) : Res16 := ⟨r % 65536, flags (r % 65536 == 0) (flC fl) (neg16 r) (flV fl) (flDC fl)⟩

inductive ShiftKind where
  | shl | shr | sar
  deriving DecidableEq, Repr

/-- R238: a shift by 1 to 31; a shift by 0 changes nothing. -/
def shift16 (k : ShiftKind) (fl a n : Nat) : Res16 :=
  if n = 0 then ⟨a, fl⟩
  else
    let fill := if neg16 a then 65535 else 0
    let (r, c) :=
      match k with
      | .shl => if n ≤ 16 then (a * 2 ^ n % 65536, bits a (16 - n) 1 == 1) else (0, false)
      | .shr => if n ≤ 16 then (a / 2 ^ n, bits a (n - 1) 1 == 1) else (0, false)
      | .sar => if n ≤ 15 then ((a + fill * 65536) / 2 ^ n % 65536, bits a (n - 1) 1 == 1) else (fill, neg16 a)
    ⟨r, flags (r == 0) c (neg16 r) (flV fl) (flDC fl)⟩

/-- R237: the product of MUL or MULS and the flags. -/
def mul16 (sgn : Bool) (fl a b : Nat) : Res16 :=
  if sgn then
    let p := signed 16 a * signed 16 b
    let r := unsigned 32 p
    ⟨r, flags (r == 0) (p < -32768 || 32767 < p) (2 ^ 31 ≤ r) (flV fl) (flDC fl)⟩
  else
    let r := a * b
    ⟨r, flags (r == 0) (65536 ≤ r) (2 ^ 31 ≤ r) (flV fl) (flDC fl)⟩

/-- Digit i of a packed word. -/
def digit (w i : Nat) : Nat := bits w (4 * i) 4

/-- R239: DADD or DSUB. -/
def dec16 (sub : Bool) (fl a b : Nat) : Res16 :=
  let step := fun (st : Nat × Nat × Bool) (i : Nat) =>
    let (r, c, inval) := st
    let x := digit a i
    let y := digit b i
    let bad := inval || 9 < x || 9 < y
    if sub then
      let n : Int := (x : Int) - y - c
      if n < 0 then (r + ((n + 10) % 16).toNat * 16 ^ i, 1, bad) else (r + n.toNat * 16 ^ i, 0, bad)
    else
      let n := x + y + c
      if 10 ≤ n then (r + (n - 10) % 16 * 16 ^ i, 1, bad) else (r + n * 16 ^ i, 0, bad)
  let (r, c, inval) := (List.range 4).foldl step (0, boolNat (flDC fl), false)
  ⟨r, flags (r == 0) (flC fl) (flN fl) inval (c == 1)⟩

/-- R240: DAJ. -/
def daj16 (fl s y : Nat) : Res16 :=
  let x := (s + 65536 - y) % 65536
  let k := Nat.xor (Nat.xor s x) y
  let step := fun (st : Nat × Nat) (i : Nat) =>
    let (r, c) := st
    let out := if i < 3 then bits k (4 * i + 4) 1 == 1 else flC fl
    let n := digit s i + c
    let (d, c') := if out then (n + 6, if 16 ≤ n + 6 then 1 else 0) else if 9 < n then (n - 10, 1) else (n, 0)
    (r + d % 16 * 16 ^ i, c')
  let (r, c) := (List.range 4).foldl step (0, 0)
  ⟨r, flags (r == 0) (flC fl) (flN fl) (flV fl) (flC fl || c == 1)⟩

/-- R241: DSHL and DSHR. -/
def dshl16 (fl a b : Nat) : Res16 :=
  let r := (a * 16 + b / 4096) % 65536
  ⟨r, flags (r == 0) (flC fl) (flN fl) (flV fl) (a / 4096 != 0)⟩

def dshr16 (fl a b : Nat) : Res16 :=
  let r := a / 16 + b % 16 * 4096
  ⟨r, flags (r == 0) (flC fl) (flN fl) (flV fl) (5 ≤ a % 16)⟩

/-- The table "Condition codes" of R207. -/
def condTrue (fl cc : Nat) : Bool :=
  let z := flZ fl
  let c := flC fl
  let n := flN fl
  let v := flV fl
  match cc with
  | 0 => z
  | 1 => !z
  | 2 => c
  | 3 => !c
  | 4 => n
  | 5 => !n
  | 6 => v
  | 7 => !v
  | 8 => !c && !z
  | 9 => c || z
  | 10 => n == v
  | 11 => n != v
  | 12 => !z && n == v
  | 13 => z || n != v
  | 14 => flDC fl
  | _ => true

end Sys2Proof.Machine
end

