-- ==== Sys2Proof/Machine/Turnstile.lean ====
section
/-! DEFINITION. The turnstile: order keys, the horizon, a packet's turn, its held stores (R172-R174), and move fences (R179). -/

namespace Sys2Proof.Machine

/-- R172: the handle a packet registers under. -/
def Pkt.handle (p : Pkt) : Option Nat := if bits p.station 21 1 = 1 then some (p.station % 2 ^ 20) else none

/-- R160: a frame's bucket. -/
def Pkt.bucket (p : Pkt) : Nat := p.hash % 4096

/-- R172: the order key. -/
def Pkt.key (p : Pkt) : Nat := (p.keyStamp.toNat * 16 + p.port) * 2 ^ 32 + p.seq.toNat

/-- The packets of a cluster that have been posted, with their threads and slots. -/
def State.clusterPackets (s : State) (c : Nat) : List (Nat × Nat × SlotPkt) :=
  (s.threads.filter fun e => clusterOf e.1 == c).flatMap fun e =>
    e.2.packets.filterMap fun p => if p.2.phase = 0 then none else some (e.1, p.1, p.2)

/-- R179: registered packets of a bucket of a stall on a cluster. -/
def State.bucketOn (s : State) (x b c : Nat) : Bool :=
  (s.clusterPackets c).any fun e => e.2.2.pkt.stall == some x && e.2.2.pkt.bucket == b && e.2.2.pkt.handle.isSome

/-- R179: a fence covers a bucket on a cluster. -/
def State.fenced (s : State) (x b c : Nat) : Bool := s.fences.any fun f => f.stall == x && f.bucket == b && f.new == c

/-- R173: the smallest stamp of a frame received and not yet decided, of the stall or of no stall yet. -/
def State.undecided (s : State) (x : Nat) : List Pkt :=
  (s.ports.flatMap (fun e => e.2.parseQ) ++ s.cipherQ ++ s.reparseQ ++ s.classQ ++ s.dispQ).filter fun p =>
    match p.stall with
    | none => true
    | some y => y == x

/-- R173: the horizon has passed a stamp. -/
def State.horizonPast (s : State) (x stamp : Nat) : Bool := (s.undecided x).all fun p => stamp < p.stamp.toNat

/-- R173: whether a packet of a cluster has its station's turn. -/
def State.turnOk (s : State) (c : Nat) (p : Pkt) : Bool :=
  let x := p.stall.getD 16
  (s.clusterPackets c).all (fun e => e.2.2.pkt.handle != p.handle || p.key ≤ e.2.2.pkt.key) &&
    s.horizonPast x p.keyStamp.toNat && !s.fenced x p.bucket c

/-- R173: whether a far access of a thread is to its current packet's own station record: the slot. -/
def State.ownRecord (s : State) (t : Nat) (pl : Place) : Option (Nat × SlotPkt) :=
  match pl, (s.th t).current with
  | .station h _, some (i, p) => if p.pkt.handle = some h then some (i, p) else none
  | _, _ => none

/-- R173: the packet of a slot is given the turn. -/
def State.giveTurn (s : State) (t i : Nat) : State :=
  s.setTh t fun th => { th with slots := th.slots.modify none i fun o => o.map fun p => { p with turn := true } }

/-- R140: a supervisor's store to w32 sets PATH_VALID by the port and clears CONTESTED. -/
def State.pathStore (s : State) (h : Nat) (v : Word) : State :=
  (s.setStnFlag h 3 (v.toNat % 16 ≤ 9)).setStnFlag h 2 false

/-- R174: the held words go to the station cache at one instant; a commit yields one delta per chunk (R329). -/
def State.turnCommit (s : State) (p : SlotPkt) : State :=
  match p.pkt.handle with
  | none => s
  | some h =>
    if p.held.isEmpty then s
    else
      let s0 := p.held.foldl (fun (s : State) e => s.stnWrite h e.1 e.2 (p.pkt.course + 1)) (s.stnTouch h)
      let s1 := match p.held.find? fun e => e.1 == 32 with
        | some e => s0.pathStore h e.2
        | none => s0
      (List.range 8).foldl (fun (s : State) c =>
        let ws := (p.held.filter fun e => e.1 / 16 == c)
        if ws.isEmpty then s
        else { s with deltas := s.deltas ++ [{ course := p.pkt.course, sa := false, index := h, chunk := c, words := ws, direct := false }] }) s1

/-- R173: TURN_GRANT. -/
def execTurnGrant (t : Tid) (i : Fin 4) (s : State) : Res :=
  let th := s.th t
  run s (onlyIf (match th.slot i with
      | some p => p.phase == 2 && !p.turn && p.pkt.handle.isSome && s.turnOk (clusterOf t) p.pkt &&
          (match th.wait with | .far r => r.turnWait | _ => false)
      | none => false) fun s =>
    (s.giveTurn t i).setTh t fun th =>
      { th with wait := match th.wait with | .far r => .far { r with turnWait := false } | w => w })

end Sys2Proof.Machine
end

