-- ==== Sys2Proof/Machine/Operands.lean ====
section
/-! DEFINITION. Fetch and issue of Phouz instructions (R184-R193, R223, R231-R233), near space (R213, R214, R287) and addressing (R221, R222). -/

namespace Sys2Proof.Machine

/-! ### Encodings (R223, R233, R260) -/

def enc (op a b : Nat) : Nat := op * 1024 + a * 32 + b

/-- BL: condition, the five zero bits, and target bit 16. -/
def encBL (op cc z target : Nat) : List Nat := [op * 1024 + cc * 64 + z * 2 + target / 65536 % 2, target % 65536]

/-- R223: opcodes whose instructions have two words. -/
def isLong (w : Nat) : Bool :=
  [0x14, 0x1C, 0x1D, 0x1E, 0x27, 0x28, 0x2C, 0x2D, 0x2F, 0x32, 0x33, 0x35, 0x36, 0x38, 0x3A, 0x3D, 0x3E, 0x3F].contains (w / 1024)

/-- R231, R233, R260: whether the opcode and function code of a first word are assigned. -/
def assigned (w : Nat) : Bool :=
  let b := w % 32
  match w / 1024 with
  | 0x00 => false
  | 0x14 => b < 8
  | 0x18 => b < 5 || (8 ≤ b && b < 12)
  | 0x19 => b < 8
  | 0x1A => b < 4
  | 0x3C => b < 3
  | 0x3F => w / 32 % 32 < 13
  | _ => true

/-- R184, R192: near data accesses, the copies of CHR and CHP among them. -/
def isNear (w : Nat) : Bool := (0x25 ≤ w / 1024 && w / 1024 ≤ 0x32) || w / 1024 == 0x23 || w / 1024 == 0x24

/-! ### Fetch (R184, R185) -/

def State.codeWord (s : State) (t a : Nat) : Nat := (s.code.get 0 (clusterOf t * 131072 + a % 131072)).toNat

/-- Addresses of the words of the instruction at a thread's pc. -/
def State.insnAddrs (s : State) (t : Nat) : List Nat :=
  let pc := (s.th t).pc
  if isLong (s.codeWord t pc) then [pc, (pc + 1) % 131072] else [pc]

/-- The lines a thread's next instruction needs. A long form is known by its first word, once that is present. -/
def State.linesNeeded (s : State) (t : Nat) : List Nat := (s.insnAddrs t).map (· / 8)

/-- Threads of a core that wait for a line. -/
def State.lineWanted (s : State) (k l : Nat) : List Nat :=
  ((List.range 8).map (k * 8 + ·)).filter fun t => (s.th t).st == .running && (s.linesNeeded t).contains l && !(s.core k).lines.contains l

/-- R192: a guard cycle is in force: it ends with the refill that it is for, or with the slot it takes. -/
def State.guardOn (s : State) (k : Nat) : Bool :=
  let c := s.core k
  c.guard && (match c.guarded with | l :: _ => !(s.lineWanted k l).isEmpty || c.prefetch.contains l | [] => false)

/-- R192, R276: the guard cycle is over; the threads it kept from issuing are eligible afresh. -/
def State.guardEnd (s : State) (k : Nat) : State :=
  if s.guardOn k then
    ((List.range 8).filter fun i => (s.th (k * 8 + i)).st == .running && isNear (s.codeWord (k * 8 + i) (s.th (k * 8 + i)).pc)).foldl
      (fun (s : State) i => s.renew (k * 8 + i)) (s.setCore k fun c => { c with guard := false })
  else s

/-- R196, R261: the thread whose instruction holds every stage of the core. -/
def State.holder (s : State) (k : Nat) : Option Nat :=
  match (s.core k).held with
  | some (t, pc) => if (s.th t).st == .running && (s.th t).pc == pc then some t else none
  | none => none

/-- R184: whether a thread is eligible. -/
def State.eligible (s : State) (t : Nat) : Bool :=
  let th := s.th t
  let c := s.core (coreOf t)
  th.st == .running && (1024 ≤ t || s.f F.dspCluster_STATE (clusterOf t) != 0) && th.replay.isNone && th.steps != some 0 && (s.linesNeeded t).all (c.lines.contains ·) &&
    !(s.guardOn (coreOf t) && isNear (s.codeWord t th.pc))

/-- R184, R276: thread select chooses this thread; ties rotate. A held core goes on with the instruction that holds it. -/
def State.selected (s : State) (t : Nat) : Bool :=
  let k := coreOf t
  let turn := fun (u : Nat) => (u % 8 + 8 - (s.core k).rotor) % 8
  s.eligible t &&
    match s.holder k with
    | some u => u == t
    | none => (List.range 8).all fun i =>
      let u := k * 8 + i
      !s.eligible u || s.rank t < s.rank u || (s.rank t == s.rank u && turn t ≤ turn u)

/-- R187, R185: a line in use becomes the most recently used. -/
def lineTouch (ls : List Nat) (l : Nat) : List Nat := l :: ls.filter (· != l)

/-- R185: what the fetch of an instruction does to the line buffers. -/
def State.fetched (s : State) (t : Nat) : State :=
  let k := coreOf t
  let as := s.insnAddrs t
  let pre := k == 128 || s.f F.cluCoreCtl_PREFETCH (k / 8) (k % 8) == 1
  let next := (as.filter fun a => 6 ≤ a % 8).map fun a => (a / 8 + 1) % 16384
  s.setCore k fun c =>
    let ls := as.foldl (fun ls a => lineTouch ls (a / 8)) c.lines
    { c with lines := ls, rotor := (t % 8 + 1) % 8, held := none,
             prefetch := if pre then c.prefetch ++ next.filter fun l => !ls.contains l && !c.prefetch.contains l else c.prefetch }

/-! ### Branch prediction (R188, R189) -/

def State.btbOn (s : State) (k : Nat) : Bool := k == 128 || s.f F.cluCoreCtl_BTB_EN (k / 8) (k % 8) == 1

/-- R188: the address a transfer is predicted to continue at. -/
def State.predicted (s : State) (t pc next : Nat) : Nat :=
  match (s.core (coreOf t)).btb.find? fun e => e.1 == pc with
  | some e => if s.btbOn (coreOf t) && 2 ≤ e.2.2 then e.2.1 else next
  | none => next

/-- R189: a mispredict is counted; up to three younger instructions are squashed, and the thread is eligible afresh (R276). -/
def State.mispredict (s : State) (t : Nat) : State :=
  ((s.countCore F.cluCoreMispredict_MISPREDICT (coreOf t)).squash t 3).renew t

/-- R188, R189: a transfer resolves: the entry is updated or installed. -/
def State.resolve (s : State) (t pc next target : Nat) (taken : Bool) : State :=
  let k := coreOf t
  let went := if taken then target else next
  let s1 := if s.predicted t pc next = went then s else s.mispredict t
  if !s.btbOn k then s1
  else
    s1.setCore k fun c =>
      match c.btb.find? fun e => e.1 == pc with
      | some e =>
        let n := if taken then min 3 (e.2.2 + 1) else e.2.2 - 1
        { c with btb := (pc, if taken then target else e.2.1, n) :: c.btb.filter fun x => x.1 != pc }
      | none => if taken then { c with btb := ((pc, target, 2) :: c.btb).take 64 } else c

/-! ### Issue -/

/-- How an instruction ends. -/
inductive Then where
  | next
  /-- a transfer: taken or not, its target -/
  | jump (taken : Bool) (target : Nat)
  /-- RETT, and instructions that have set the pc and state themselves -/
  | done
  /-- the load is cancelled and comes again (R197) -/
  | again
  /-- the core is held, and nothing issues (R196, R261) -/
  | held
  /-- vector, detail, address, TINFO -/
  | trap (vec detail addr info : Nat)
  | block (w : Wait)
  deriving DecidableEq, Repr

/-- The feature bits of R224. -/
def featWord (house : Bool) (n : Nat) : Nat :=
  match n with
  | 0 => if house then 0xFB else 0xFF
  | 1 => 1
  | 2 => 73 + 8 * 256
  | _ => boolNat house

/-- R224, R232: the group's bit reads 1. -/
def hasGroup (t : Nat) (grp : Option Nat) : Bool :=
  match grp with
  | none => true
  | some g => bits (featWord (isHouseThread t) 0) g 1 == 1

/-- What every issued instruction counts: ISSUE, the packets its thread has taken (R167), the course's stillness and the steps. -/
def State.issued (s : State) (t : Nat) : State :=
  let s1 := ((s.guardEnd (coreOf t)).countCore F.cluCoreIssue_ISSUE (coreOf t)).fetched t
  (s1.stir (s.tidOwner t)).setTh t fun th =>
    { th with slots := th.slots.map (fun e => (e.1, e.2.map fun p => if p.phase = 2 then { p with issued := p.issued + 1 } else p)),
              steps := th.steps.map (· - 1) }

/-- One instruction of a thread: `ws` its words, `legal` that its register codes and zero fields are as its format wants, `grp` its
feature group. It is issued where thread select chooses the thread and the words at its pc are these; words at the pc that are not
assigned take the ILLEGAL trap instead (R223, R231). The thread's younger instructions are squashed by all but plain completion. -/
def State.issue (s : State) (t : Nat) (ws : List Nat) (legal : Bool) (grp : Option Nat) (body : State → State × Then) : State :=
  let pc := (s.th t).pc
  let w := s.codeWord t pc
  if !s.selected t then s
  else if !assigned w then ((s.issued t).squash t 4).trap t 0 0 0 0 pc
  else if (s.insnAddrs t).map (s.codeWord t) != ws then s
  else if !legal || !hasGroup t grp then ((s.issued t).squash t 4).trap t 0 0 0 0 pc
  else
    let s1 := s.issued t
    let (s2, e) := body s1
    let next := (pc + ws.length) % 131072
    let age := fun (s : State) => s.setTh t fun th => th.ageShades
    match e with
    | .next => ((age s2).setTh t fun th => { th with pc := next }).pendingTraps t
    | .jump taken target => ((age (s2.resolve t pc next target taken)).goto t (if taken then target else next)).pendingTraps t
    | .done => age (s2.squash t 4)
    | .again => (s2.squash t 4).setTh t fun th => { th with steps := (s.th t).steps }
    | .held => s.setCore (coreOf t) fun c => { c with held := some (t, pc) }
    | .trap v d a i => (s2.squash t 4).trap t v d a i (if v = 7 then next else pc)
    | .block w => (age (s2.squash t 4)).block t w

/-! ### Near space (R213, R214) -/

/-- R213: the region of a near address: 0 general, 1 spill, 2 window, 3 aperture, 4 reserved, 5 feature. -/
def nearRegion (a : Nat) : Nat :=
  if a < 0x4000 then 0 else if a < 0x6000 then 1 else if a < 0x8000 then 2 else if a < 0xC000 then 3 else if a < 0xFF00 then 4 else 5

/-- R287: CHSTn as the thread sees the channel. -/
def State.chst (s : State) (t n : Nat) : Nat :=
  let k := chanKey (clusterOf t) n
  let exists_ := !((5 ≤ n && n < 16) || (n == 1 && clusterOf t == 16) || (16 ≤ n && bits (s.chanConf k) 0 6 == 0))
  let rd := exists_ && s.mayRead t k
  let wr := exists_ && s.mayWrite t k
  let staged := match (s.th t).staging with | some (k', ws) => if k' = k then ws.length else 0 | none => 0
  let full := wr && n != 1 && !(s.chanRoom k (staged + 1 + (if 16 ≤ n then bits (s.chanConf k) 19 1 else 0)) && s.firstWriter t k)
  min 63 (if rd then (s.readable t k).length else 0) + boolNat full * 64 + boolNat rd * 128 + boolNat wr * 256

/-- R225: the PRIV word. -/
def State.privWord (s : State) (t : Nat) : Nat :=
  if t < 1024 then s.tidOwner t % 16 + boolNat (s.isSup t) * 16 else 32

/-- TSTn: a thread of the core. -/
def State.tst (s : State) (t : Nat) : Nat :=
  let th := s.th t
  let st := match th.st with | .parked => 0 | .running => 1 | .blocked => 2 | .stopped => 3
  let w := match th.st with | .stopped => th.stopBy | .blocked => th.waitCode | _ => 0
  st + w * 4 + s.classOf t * 64

/-- A load from the aperture or the feature region: the value and what the load captures, or none where it takes ACCESS. -/
def State.ioLoad (s : State) (t a : Nat) : Option (Nat × State) :=
  let th := s.th t
  if a < 0x8400 then some (s.chst t (a - 0x8000), s)
  else if a < 0x8420 then
    let m := s.timer t ((a - 0x8400) / 4)
    some (match a % 4 with
      | 0 => m.ch.toNat
      | 1 => m.tag.toNat
      | 2 => 0
      | _ => if m.due = 0 then 0 else m.due - 1 - s.lathNow, s)
  else if a = 0x8420 then
    some (s.lathNow % 65536, s.setTh t fun th => { th with lathCap := [1, 2, 3].map fun i => (i, s.lathNow / 65536 ^ i % 65536) })
  else if a < 0x8424 then
    match th.lathCap.find? fun e => e.1 == a - 0x8420 with
    | some e => some (e.2, s.setTh t fun th => { th with lathCap := th.lathCap.filter fun x => x.1 != e.1 })
    | none => some (s.lathNow / 65536 ^ (a - 0x8420) % 65536, s)
  else if a = 0x8424 then some (s.peekReg 0 .crsPos 0 0 % 2048, s)
  else if 0x8430 ≤ a ∧ a < 0x8438 then some (s.tst (coreOf t * 8 + (a - 0x8430)), s)
  else
    match a with
    | 0xFF00 => some (th.tpc % 65536, s)
    | 0xFF01 => some (th.tpc / 65536 % 2, s)
    | 0xFF02 => some (th.tcause, s)
    | 0xFF03 => some (th.tfl, s)
    | 0xFF04 => some (th.taddr % 65536, s)
    | 0xFF05 => some (th.taddr / 65536 % 65536, s)
    | 0xFF06 => some (th.tinfo, s)
    | 0xFF07 => some (boolNat th.inTrap + boolNat (th.heldOverrun.isSome || th.heldStill) * 2, s)
    | 0xFF08 => some (t % 1024, s)
    | 0xFF09 => some (s.privWord t, s)
    | _ => if 0xFF10 ≤ a ∧ a < 0xFF14 then some (featWord (isHouseThread t) (a - 0xFF10), s) else none

/-- A store to the aperture or the feature region, or the trap it takes: vector and detail. -/
def State.ioStore (s : State) (t a v : Nat) : State ⊕ (Nat × Nat) :=
  if 0x8400 ≤ a ∧ a < 0x8420 then
    let i := (a - 0x8400) / 4
    match a % 4 with
    | 0 => .inl (s.setTimer t i fun m => { m with ch := word v })
    | 1 => .inl (s.setTimer t i fun m => { m with tag := word v })
    | 2 => match s.timerArm t i v with
      | .inl d => .inr (13, d)
      | .inr s1 => .inl s1
    | _ => .inl (s.timerCancel t i)
  else if !(s.th t).inTrap then .inr (2, 0)
  else
    match a with
    | 0xFF00 => .inl (s.setTh t fun th => { th with tpc := th.tpc / 65536 * 65536 + v })
    | 0xFF01 => .inl (s.setTh t fun th => { th with tpc := th.tpc % 65536 + v % 2 * 65536 })
    | 0xFF03 => .inl (s.setTh t fun th => { th with tfl := v % 32 })
    | _ => .inr (2, 0)

/-- R199, R213: the checks of a near access before anything is performed: none where it may go on, else the PAIR_HIGH bit. -/
def State.nearFault (s : State) (t ea : Nat) (pair store : Bool) : Option Nat :=
  let one := fun (a : Nat) =>
    match nearRegion a with
    | 1 => s.privileged t
    | 4 => false
    | 3 => if store then 0x8400 ≤ a && a < 0x8420 else (s.ioLoad t a).isSome
    | 5 => if store then (s.th t).inTrap && (a == 0xFF00 || a == 0xFF01 || a == 0xFF03) else (s.ioLoad t a).isSome
    | _ => true
  if !one ea then some 0
  else if !pair then none
  else if 0xFFFF < ea + 1 ∨ nearRegion ea ≠ nearRegion (ea + 1) ∨ !one (ea + 1) then some 16
  else none

/-- R197: the youngest store-buffer entry whose words a load's words meet. -/
def overlap (sb : List SbEntry) (ea n : Nat) : Option SbEntry :=
  sb.foldl (fun b e => if ea < e.addr + e.data.length && e.addr < ea + n then some e else b) none

/-- Rows a near access of `n` words spans (R200). -/
def split (ea n : Nat) : Bool := ea / 8 != (ea + n - 1) / 8

/-- A near load of `n` words: the words, or how it ends otherwise (R197, R214). Which half of a pair met the error is open. -/
def State.nearLoad (s : State) (t ea n : Nat) (ecc : Ecc) : (List Nat × State) ⊕ (State × Then) :=
  match s.nearFault t ea (n == 2) false with
  | some hi => .inr (s, .trap 2 0 ea hi)
  | none =>
    if nearRegion ea ≤ 2 then
      let k := coreOf t
      match overlap (s.core k).sb ea n with
      | some e =>
        if e.addr = ea ∧ e.data.length = n then .inl (e.data.map (·.toNat), s)
        else .inr ((s.countCore F.cluCoreSbWait_SB_WAIT k).setTh t fun th => { th with replay := some e.id }, .again)
      | none =>
        let s1 := if split ea n then s.countCore F.cluCorePairSplit_PAIR_SPLIT k else s
        match ecc with
        | .ok => .inl ((List.range n).map (fun i => s.sramWord k (ea + i)), s1)
        | .corrected => .inl ((List.range n).map (fun i => s.sramWord k (ea + i)), s1.countSram t true)
        | .double =>
          let (hi, s2) := if n = 2 then s1.freeBool else (false, s1)
          .inr (s2.countSram t false, .trap 3 0 ea (boolNat hi * 16))
    else
      match s.ioLoad t ea with
      | none => .inr (s, .trap 2 0 ea 0)
      | some (v, s1) =>
        if n = 1 then .inl ([v], s1)
        else
          match s1.ioLoad t (ea + 1) with
          | none => .inr (s, .trap 2 0 ea 16)
          | some (v2, s2) => .inl ([v, v2], s2)

/-- A near store: the state after it, or how it ends otherwise (R195, R196, R287). -/
def State.nearStore (s : State) (t ea : Nat) (ws : List Nat) : State ⊕ (State × Then) :=
  match s.nearFault t ea (ws.length == 2) true with
  | some hi => .inr (s, .trap 2 0 ea (8 + hi))
  | none =>
    let k := coreOf t
    if nearRegion ea ≤ 2 then
      if 8 ≤ (s.core k).sb.length then .inr (s, .held)
      else
        let s1 := if split ea ws.length then s.countCore F.cluCorePairSplit_PAIR_SPLIT k else s
        .inl (s1.stampUse.setCore k fun c => { c with sb := c.sb ++ [{ id := s1.useCtr, thread := t, addr := ea, data := ws.map word }] })
    else
      match s.ioStore t ea (ws.headD 0) with
      | .inr (v, d) => .inr (s, .trap v d ea 8)
      | .inl s1 =>
        match ws with
        | [_, w] =>
          match s1.ioStore t (ea + 1) w with
          | .inr (v, d) => .inr (s, .trap v d ea 24)
          | .inl s2 => .inl s2
        | _ => .inl s1

/-! ### Addressing modes (R221, R222) -/

inductive Mode where
  | reg | postInc | preDec
  | disp (d : Nat)
  | index (w : Nat)
  deriving DecidableEq, Repr

/-- R223: the second word of MX names a register and a scale, its other bits zero. -/
def Mode.legal : Mode → Bool
  | .index w => regOk (w % 32) && w / 128 == 0
  | _ => true

/-- The mode's second word. -/
def Mode.words : Mode → List Nat
  | .disp d => [d]
  | .index w => [w]
  | _ => []

/-- R221: effective address and new base; `width` is 2^16 or 2^32, `n` the words accessed, `x` the index register's value. -/
def Mode.address (m : Mode) (base x n width : Nat) : Nat × Option Nat :=
  match m with
  | .reg => (base, none)
  | .postInc => (base, some ((base + n) % width))
  | .preDec => let e := (base + width - n) % width; (e, some e)
  | .disp d => ((base + width + d - (if 32768 ≤ d then 65536 else 0)) % width, none)
  | .index w => ((base + x * 2 ^ (w / 32 % 4)) % width, none)

/-- The index register's value. -/
def State.readIndex (s : State) (t : Nat) (m : Mode) : Nat × State :=
  match m with
  | .index w => s.readReg t (w % 32)
  | _ => (0, s)

end Sys2Proof.Machine
end

