-- ==== Sys2Proof/Machine/Alu.lean ====
section
/-! DEFINITION. Moves, arithmetic, logic, multiply, shifts and decimal instructions (R234-R241), and RDF (R224). -/

namespace Sys2Proof.Machine

/-- Register a := f(fl, reg[a], reg[b]), with its flags (R230). -/
def aluBody (t a b : Nat) (f : Nat → Nat → Nat → Res16) (s : State) : State × Then :=
  let (x, s1) := s.readReg t a
  let (y, s2) := s1.readReg t b
  (s2.setTh t fun th => th.result a (f th.fl x y).val (fun fl => (f fl x y).fl), .next)

/-- Flags of `keep` stay as they are, the others come from `r`. -/
def keepFl (keep r fl : Nat) : Nat := Nat.lor (Nat.land r (31 - keep)) (Nat.land fl keep)

/-- An operation that also reads a carry from fl; the flags of `keep` stay. -/
def carryBody (t a b keep : Nat) (f : Nat → Nat → Nat → Res16) (s : State) : State × Then :=
  let (x, s1) := s.readReg t a
  let (y, s2) := s1.readReg t b
  let (fl, s3) := s2.readReg t 25
  let r := f fl x y
  (s3.setTh t fun th => th.result a r.val (keepFl keep r.fl), .next)

/-- R234: MOV, which writes no flags. -/
def movBody (t a b : Nat) (s : State) : State × Then :=
  let (_, s1) := s.readReg t a
  let (y, s2) := s1.readReg t b
  (s2.putReg t a y, .next)

/-- R238: register a, which read as `x`, is shifted by `n`; by 0 it writes nothing. -/
def shiftPut (t a x n : Nat) (k : ShiftKind) (s : State) : State × Then :=
  if n = 0 then (s, .next)
  else (s.setTh t fun th => th.result a (shift16 k th.fl x n).val (fun fl => (shift16 k fl x n).fl), .next)

def shiftBody (t a n : Nat) (k : ShiftKind) (s : State) : State × Then :=
  let (x, s1) := s.readReg t a
  shiftPut t a x n k s1

/-- A shift by the low five bits of register b. -/
def shiftReg (t a b : Nat) (k : ShiftKind) (s : State) : State × Then :=
  let (x, s1) := s.readReg t a
  let (y, s2) := s1.readReg t b
  shiftPut t a x (y % 32) k s2

/-- The flags alone. -/
def cmpBody (t a b : Nat) (f : Nat → Nat → Nat → Res16) (s : State) : State × Then :=
  let (x, s1) := s.readReg t a
  let (y, s2) := s1.readReg t b
  (s2.setTh t fun th => th.updFl fun fl => (f fl x y).fl, .next)

/-- Register a := f(fl, reg[a], constant). -/
def immBody (t a imm : Nat) (f : Nat → Nat → Nat → Res16) (s : State) : State × Then :=
  let (x, s1) := s.readReg t a
  (s1.setTh t fun th => th.result a (f th.fl x imm).val (fun fl => (f fl x imm).fl), .next)

def immCmpBody (t a imm : Nat) (f : Nat → Nat → Nat → Res16) (s : State) : State × Then :=
  let (x, s1) := s.readReg t a
  (s1.setTh t fun th => th.updFl fun fl => (f fl x imm).fl, .next)

/-- R237: the product goes to pair[a], with a 2-instruction shadow; the zero pair takes the flags alone. -/
def mulBody (sgn : Bool) (t a b : Nat) (s : State) : State × Then :=
  let (x, s1) := s.readReg t a
  let (y, s2) := s1.readReg t b
  let r := mul16 sgn 0 x y
  (s2.setTh t fun th =>
    let th1 := if a = 24 then th else (th.putShadow a (r.val % 65536) 3).putShadow (a + 1) (r.val / 65536) 3
    th1.updFl fun fl => (mul16 sgn fl x y).fl, .next)

/-- One RR instruction. -/
def rr (op : Nat) (t : Tid) (a b : Fin 32) (s : State) (body : State → State × Then) : State :=
  s.issue t [enc op a b] (regOk a && regOk b) none body

/-- One instruction of the IMM group (R235). -/
def ri (fn : Nat) (t : Tid) (a : Fin 32) (imm : Word) (s : State) (body : State → State × Then) : State :=
  s.issue t [enc 0x14 a fn, imm.toNat] (regOk a) none body

/-- One instruction of the UNARY group (R236). -/
def un (fn : Nat) (t : Tid) (a : Fin 32) (s : State) (f : Nat → Nat → Res16) : State :=
  s.issue t [enc 0x18 a fn] (regOk a) none (immBody t a 0 fun fl x _ => f fl x)

def execMov (t : Tid) (a b : Fin 32) (s : State) : Res :=
  run s fun s => rr 0x01 t a b s (movBody t a b)

def execAdd (t : Tid) (a b : Fin 32) (s : State) : Res :=
  run s fun s => rr 0x02 t a b s (aluBody t a b (fun fl x y => add16 fl x y 0))

def execAdc (t : Tid) (a b : Fin 32) (s : State) : Res :=
  run s fun s => rr 0x03 t a b s (carryBody t a b 16 (fun fl x y => add16 fl x y (boolNat (flC fl))))

def execSub (t : Tid) (a b : Fin 32) (s : State) : Res :=
  run s fun s => rr 0x04 t a b s (aluBody t a b (fun fl x y => sub16 fl x y 0))

def execSbc (t : Tid) (a b : Fin 32) (s : State) : Res :=
  run s fun s => rr 0x05 t a b s (carryBody t a b 16 (fun fl x y => sub16 fl x y (boolNat (flC fl))))

def execCmp (t : Tid) (a b : Fin 32) (s : State) : Res :=
  run s fun s => rr 0x06 t a b s (cmpBody t a b fun fl x y => sub16 fl x y 0)

def execAnd (t : Tid) (a b : Fin 32) (s : State) : Res :=
  run s fun s => rr 0x07 t a b s (aluBody t a b (fun fl x y => logic16 fl (Nat.land x y)))

def execOr (t : Tid) (a b : Fin 32) (s : State) : Res :=
  run s fun s => rr 0x08 t a b s (aluBody t a b (fun fl x y => logic16 fl (Nat.lor x y)))

def execXor (t : Tid) (a b : Fin 32) (s : State) : Res :=
  run s fun s => rr 0x09 t a b s (aluBody t a b (fun fl x y => logic16 fl (Nat.xor x y)))

def execShl (t : Tid) (a b : Fin 32) (s : State) : Res :=
  run s fun s => rr 0x0A t a b s (shiftReg t a b .shl)

def execShr (t : Tid) (a b : Fin 32) (s : State) : Res :=
  run s fun s => rr 0x0B t a b s (shiftReg t a b .shr)

def execSar (t : Tid) (a b : Fin 32) (s : State) : Res :=
  run s fun s => rr 0x0C t a b s (shiftReg t a b .sar)

def execMul (t : Tid) (a b : Fin 32) (s : State) : Res :=
  run s fun s => s.issue t [enc 0x0D a b] (pairOk a && regOk b) (some 0) (mulBody false t a b)

def execMuls (t : Tid) (a b : Fin 32) (s : State) : Res :=
  run s fun s => s.issue t [enc 0x0E a b] (pairOk a && regOk b) (some 0) (mulBody true t a b)

def execDadd (t : Tid) (a b : Fin 32) (s : State) : Res :=
  run s fun s => s.issue t [enc 0x0F a b] (regOk a && regOk b) (some 1) (carryBody t a b 6 (dec16 false))

def execDsub (t : Tid) (a b : Fin 32) (s : State) : Res :=
  run s fun s => s.issue t [enc 0x10 a b] (regOk a && regOk b) (some 1) (carryBody t a b 6 (dec16 true))

def execDaj (t : Tid) (a b : Fin 32) (s : State) : Res :=
  run s fun s => s.issue t [enc 0x11 a b] (regOk a && regOk b) (some 1) (carryBody t a b 14 daj16)

def execDshl (t : Tid) (a b : Fin 32) (s : State) : Res :=
  run s fun s => s.issue t [enc 0x12 a b] (regOk a && regOk b) (some 1) (aluBody t a b (dshl16))

def execDshr (t : Tid) (a b : Fin 32) (s : State) : Res :=
  run s fun s => s.issue t [enc 0x13 a b] (regOk a && regOk b) (some 1) (aluBody t a b (dshr16))

def execShlq (t : Tid) (a n : Fin 32) (s : State) : Res :=
  run s fun s => s.issue t [enc 0x15 a n] (regOk a) none (shiftBody t a n .shl)

def execShrq (t : Tid) (a n : Fin 32) (s : State) : Res :=
  run s fun s => s.issue t [enc 0x16 a n] (regOk a) none (shiftBody t a n .shr)

def execSarq (t : Tid) (a n : Fin 32) (s : State) : Res :=
  run s fun s => s.issue t [enc 0x17 a n] (regOk a) none (shiftBody t a n .sar)

def execMovi (t : Tid) (a : Fin 32) (imm : Word) (s : State) : Res :=
  run s fun s => ri 0 t a imm s fun s => (s.putReg t a imm.toNat, .next)

def execAddi (t : Tid) (a : Fin 32) (imm : Word) (s : State) : Res :=
  run s fun s => ri 1 t a imm s (immBody t a imm.toNat (fun fl x y => add16 fl x y 0))

def execSubi (t : Tid) (a : Fin 32) (imm : Word) (s : State) : Res :=
  run s fun s => ri 2 t a imm s (immBody t a imm.toNat (fun fl x y => sub16 fl x y 0))

def execCmpi (t : Tid) (a : Fin 32) (imm : Word) (s : State) : Res :=
  run s fun s => ri 3 t a imm s (immCmpBody t a imm.toNat (fun fl x y => sub16 fl x y 0))

def execAndi (t : Tid) (a : Fin 32) (imm : Word) (s : State) : Res :=
  run s fun s => ri 4 t a imm s (immBody t a imm.toNat (fun fl x y => logic16 fl (Nat.land x y)))

def execOri (t : Tid) (a : Fin 32) (imm : Word) (s : State) : Res :=
  run s fun s => ri 5 t a imm s (immBody t a imm.toNat (fun fl x y => logic16 fl (Nat.lor x y)))

def execXori (t : Tid) (a : Fin 32) (imm : Word) (s : State) : Res :=
  run s fun s => ri 6 t a imm s (immBody t a imm.toNat (fun fl x y => logic16 fl (Nat.xor x y)))

def execTsti (t : Tid) (a : Fin 32) (imm : Word) (s : State) : Res :=
  run s fun s => ri 7 t a imm s (immCmpBody t a imm.toNat (fun fl x y => logic16 fl (Nat.land x y)))

def execNot (t : Tid) (a : Fin 32) (s : State) : Res := run s fun s => un 0 t a s (fun fl x => unary16 fl (65535 - x))

def execNeg (t : Tid) (a : Fin 32) (s : State) : Res := run s fun s => un 1 t a s (fun fl x => sub16 fl 0 x 0)

def execSwapb (t : Tid) (a : Fin 32) (s : State) : Res := run s fun s => un 2 t a s (fun fl x => unary16 fl (x / 256 + x % 256 * 256))

def execZxb (t : Tid) (a : Fin 32) (s : State) : Res := run s fun s => un 3 t a s (fun fl x => unary16 fl (x % 256))

def execSxb (t : Tid) (a : Fin 32) (s : State) : Res := run s fun s => un 4 t a s (fun fl x => unary16 fl (unsigned 16 (signed 8 x)))

/-- R224: RDF copies FEATn. -/
def execRdf (t : Tid) (a : Fin 32) (n : Fin 4) (s : State) : Res :=
  run s fun s => s.issue t [enc 0x18 a (8 + n.val)] (regOk a) none fun s => (s.putReg t a (featWord (isHouseThread t) n), .next)

end Sys2Proof.Machine
end

