-- ==== Sys2Proof/Machine/LoadStore.lean ====
section
/-! DEFINITION. Near and far loads and stores (R242, R243, R218-R222). -/

namespace Sys2Proof.Machine

/-- R222: the new base goes into its register. -/
def State.putBase (s : State) (t b : Nat) (nb : Option Nat) : State :=
  match nb with
  | some v => s.putReg t b v
  | none => s

/-- R242: LD and LDP: the loaded value stays where the destination is also the base. -/
def loadBody (t a b : Nat) (pair : Bool) (m : Mode) (ecc : Ecc) (s : State) : State × Then :=
  let (base, s1) := s.readReg t b
  let (x, s2) := s1.readIndex t m
  let n := if pair then 2 else 1
  let (ea0, nb) := m.address base x n 65536
  let ea := ea0 % 65536
  match s2.nearLoad t ea n ecc with
  | .inr r => r
  | .inl (vs, s3) =>
    ((s3.putBase t b nb).setTh t fun th =>
      if pair then (if a = 24 then th else (th.putShadow a (vs.getD 0 0) 3).putShadow (a + 1) (vs.getD 1 0) 3)
      else th.putShadow a (vs.getD 0 0) 3, .next)

/-- R242: ST and STP: a data register that is also the base stores its value from before the update. -/
def storeBody (t a b : Nat) (pair : Bool) (m : Mode) (s : State) : State × Then :=
  let (base, s1) := s.readReg t b
  let (x, s2) := s1.readIndex t m
  let (v, s3) := if pair then s2.readPair t a else s2.readReg t a
  let (ea0, nb) := m.address base x (if pair then 2 else 1) 65536
  match s3.nearStore t (ea0 % 65536) (if pair then [v % 65536, v / 65536] else [v]) with
  | .inr r => r
  | .inl s4 => (s4.putBase t b nb, .next)

/-- A near load: opcode, data register or pair, base, mode. -/
def near (op : Nat) (t : Tid) (a b : Fin 32) (pair : Bool) (m : Mode) (s : State) (body : State → State × Then) : State :=
  s.issue t (enc op a b :: m.words) ((if pair then pairOk a else regOk a) && regOk b && m.legal) none body

/-- R173, R242, R243: a far access goes out: a load or a store that its destination checks blocks the thread, a store to DRAM or cluster
memory is posted. -/
def State.farIssue (s : State) (t : Nat) (r : FarReq) : State × Then :=
  let own := match s.ownRecord t r.place with
    | some (i, p) => if p.turn then none else some i
    | none => none
  let posted := !r.load && (match r.place with | .dram _ => true | .cluster .. => true | _ => false)
  if posted then
    let s1 := match r.base with
      | some (b, v) => s.putPair t b v
      | none => s
    (s1.setTh t fun th => { th with posted := th.posted ++ [r] }, .next)
  else
    match own with
    | none => (s, .block (.far r))
    | some i =>
      let ready := match (s.th t).slot i with | some p => s.turnOk (clusterOf t) p.pkt | none => false
      if ready then (s.giveTurn t i, .block (.far r))
      else (if t < 1024 then s.count F.dspClusterTurnWaits_TURN_WAITS (clusterOf t) else s, .block (.far { r with turnWait := true }))

/-- R242: LDF, STF, LDFP and STFP: the far checks in EX, then the access. -/
def farBody (t a b : Nat) (load pair : Bool) (m : Mode) (s : State) : State × Then :=
  let (base, s1) := s.readPair t b
  let (x, s2) := s1.readIndex t m
  let (v, s3) := if load then (0, s2) else if pair then s2.readPair t a else s2.readReg t a
  let (ea0, nb) := m.address base x (if pair then 2 else 1) (2 ^ 32)
  let ea := ea0 % 2 ^ 32
  match s3.farCheck (s3.tidOwner t) ea (!load) pair with
  | .inr hi => (s3, .trap 2 0 ea (4 + (if load then 0 else 8) + hi))
  | .inl pl =>
    s3.stampUse.farIssue t
      { load := load, pair := pair, seg := ea / 2 ^ 28, off := ea % 2 ^ 28, place := pl,
        data := if load then [] else if pair then [word v, word (v / 65536)] else [word v],
        dst := a, base := nb.map fun n => (b, n), len := 1 + m.words.length, turnWait := false, admitted := false, answer := none, low := none,
        arrived := s3.now, no := s3.useCtr }

/-- A far load or store. -/
def far (op : Nat) (t : Tid) (a b : Fin 32) (load pair : Bool) (m : Mode) (s : State) : State :=
  s.issue t (enc op a b :: m.words) ((if pair then pairOk a else regOk a) && pairOk b && m.legal) (some 6) (farBody t a b load pair m)

def execLdReg (t : Tid) (a b : Fin 32) (ecc : Ecc) (s : State) : Res :=
  run s fun s => near 0x25 t a b false .reg s (loadBody t a b false .reg ecc)

def execLdPostinc (t : Tid) (a b : Fin 32) (ecc : Ecc) (s : State) : Res :=
  run s fun s => near 0x26 t a b false .postInc s (loadBody t a b false .postInc ecc)

def execLdDisp (t : Tid) (a b : Fin 32) (d : Word) (ecc : Ecc) (s : State) : Res :=
  run s fun s => near 0x27 t a b false (.disp d.toNat) s (loadBody t a b false (.disp d.toNat) ecc)

def execLdIndex (t : Tid) (a b : Fin 32) (w : Word) (ecc : Ecc) (s : State) : Res :=
  run s fun s => near 0x28 t a b false (.index w.toNat) s (loadBody t a b false (.index w.toNat) ecc)

def execLdpPostinc (t : Tid) (a b : Fin 32) (ecc : Ecc) (s : State) : Res :=
  run s fun s => near 0x2E t a b true .postInc s (loadBody t a b true .postInc ecc)

def execLdpDisp (t : Tid) (a b : Fin 32) (d : Word) (ecc : Ecc) (s : State) : Res :=
  run s fun s => near 0x2F t a b true (.disp d.toNat) s (loadBody t a b true (.disp d.toNat) ecc)

def execStReg (t : Tid) (a b : Fin 32) (s : State) : Res :=
  run s fun s => near 0x29 t a b false .reg s (storeBody t a b false .reg)

def execStPostinc (t : Tid) (a b : Fin 32) (s : State) : Res :=
  run s fun s => near 0x2A t a b false .postInc s (storeBody t a b false .postInc)

def execStPredec (t : Tid) (a b : Fin 32) (s : State) : Res :=
  run s fun s => near 0x2B t a b false .preDec s (storeBody t a b false .preDec)

def execStDisp (t : Tid) (a b : Fin 32) (d : Word) (s : State) : Res :=
  run s fun s => near 0x2C t a b false (.disp d.toNat) s (storeBody t a b false (.disp d.toNat))

def execStIndex (t : Tid) (a b : Fin 32) (w : Word) (s : State) : Res :=
  run s fun s => near 0x2D t a b false (.index w.toNat) s (storeBody t a b false (.index w.toNat))

def execStpPredec (t : Tid) (a b : Fin 32) (s : State) : Res :=
  run s fun s => near 0x30 t a b true .preDec s (storeBody t a b true .preDec)

def execStpPostinc (t : Tid) (a b : Fin 32) (s : State) : Res :=
  run s fun s => near 0x31 t a b true .postInc s (storeBody t a b true .postInc)

def execStpDisp (t : Tid) (a b : Fin 32) (d : Word) (s : State) : Res :=
  run s fun s => near 0x32 t a b true (.disp d.toNat) s (storeBody t a b true (.disp d.toNat))

def execLdfDisp (t : Tid) (a b : Fin 32) (d : Word) (s : State) : Res :=
  run s fun s => far 0x33 t a b true false (.disp d.toNat) s

def execLdfPostinc (t : Tid) (a b : Fin 32) (s : State) : Res :=
  run s fun s => far 0x34 t a b true false .postInc s

def execLdfIndex (t : Tid) (a b : Fin 32) (w : Word) (s : State) : Res :=
  run s fun s => far 0x35 t a b true false (.index w.toNat) s

def execStfDisp (t : Tid) (a b : Fin 32) (d : Word) (s : State) : Res :=
  run s fun s => far 0x36 t a b false false (.disp d.toNat) s

def execStfPostinc (t : Tid) (a b : Fin 32) (s : State) : Res :=
  run s fun s => far 0x37 t a b false false .postInc s

def execLdfpDisp (t : Tid) (a b : Fin 32) (d : Word) (s : State) : Res :=
  run s fun s => far 0x38 t a b true true (.disp d.toNat) s

def execLdfpPostinc (t : Tid) (a b : Fin 32) (s : State) : Res :=
  run s fun s => far 0x39 t a b true true .postInc s

def execStfpDisp (t : Tid) (a b : Fin 32) (d : Word) (s : State) : Res :=
  run s fun s => far 0x3A t a b false true (.disp d.toNat) s

def execStfpPostinc (t : Tid) (a b : Fin 32) (s : State) : Res :=
  run s fun s => far 0x3B t a b false true .postInc s

end Sys2Proof.Machine
end

