-- ==== Sys2Proof/Machine/Transfers.lean ====
section
/-! DEFINITION. Transfers (R244-R246), thread control (R247-R250, R271-R275), channel and lock instructions (R251-R253). -/

namespace Sys2Proof.Machine

/-! ### Transfers -/

/-- R244. -/
def execB (t : Tid) (cc : Fin 16) (off : Fin 64) (s : State) : Res :=
  run s fun s => s.issue t [0x1B * 1024 + cc.val * 64 + off.val] true none fun s =>
    let next := (s.th t).pc + 1
    let (fl, s1) := s.readReg t 25
    (s1, .jump (condTrue fl cc) ((next + 131072 + off - (if 32 ≤ off.val then 64 else 0)) % 131072))

def execJ (t : Tid) (cc : Fin 16) (z : Fin 32) (target : Fin 131072) (s : State) : Res :=
  run s fun s => s.issue t (encBL 0x1C cc z target) (z.val == 0) none fun s =>
    let (fl, s1) := s.readReg t 25
    (s1, .jump (condTrue fl cc) target)

/-- A double-bit error in the rows a spill or fill moves stops the thread as a double trap (R214). -/
def rowsFail (ecc : Ecc) (moves : Bool) : Bool := moves && ecc == .double

/-- R210, R245: a call to `target`; a spill makes the thread wait (R184, R276). -/
def callBody (t target : Nat) (len : Nat) (ecc : Ecc) (s : State) : State × Then :=
  let th := s.th t
  if rowsFail ecc th.spillDue && th.spilled != 73 then (((s.countSram t false).doubleTrap t), .done)
  else
    let s0 := if th.spillDue then (if ecc == .corrected then s.countSram t true else s).renew t else s
    match s0.slideDown t (some ((th.pc + len) % 131072)) with
    | none => (s, .trap 4 0 0 0)
    | some s1 => (s1, .jump true target)

def execCall (t : Tid) (cc : Fin 16) (z : Fin 32) (target : Fin 131072) (ecc : Ecc) (s : State) : Res :=
  run s fun s => s.issue t (encBL 0x1D cc z target) (z.val == 0) none fun s =>
    let (fl, s1) := s.readReg t 25
    if condTrue fl cc then callBody t target 2 ecc s1 else (s1, .jump false 0)

/-- One instruction of the CTL group (R246): field a zero where the table says so. -/
def ctl (fn : Nat) (t : Tid) (a : Fin 32) (legal : Bool) (grp : Option Nat) (s : State) (body : State → State × Then) : State :=
  s.issue t [enc 0x19 a fn] legal grp body

def execNop (t : Tid) (a : Fin 32) (s : State) : Res := run s fun s => ctl 0 t a (a.val == 0) none s fun s => (s, .next)

/-- R211, R276: what a fill in sight counts, and the wait for it. -/
def State.filled (s : State) (t : Nat) (ecc : Ecc) : State :=
  if (s.th t).fillDue then (if ecc == .corrected then s.countSram t true else s).renew t else s

/-- R211. -/
def execRet (t : Tid) (a : Fin 32) (ecc : Ecc) (s : State) : Res :=
  run s fun s => ctl 1 t a (a.val == 0) none s fun s =>
    let th := s.th t
    if th.bottom then (s, .trap 5 0 0 0)
    else if rowsFail ecc th.fillDue then ((s.countSram t false).doubleTrap t, .done)
    else
      let s0 := s.filled t ecc
      let (target, s1) := s0.linkTarget t
      (s1.slideUp t, .jump true target)

/-- R227: RETT; a bottom frame takes WINDOW_UNDERFLOW, which stops the thread; it always costs a mispredict (R246). -/
def execRett (t : Tid) (a : Fin 32) (ecc : Ecc) (s : State) : Res :=
  run s fun s => ctl 2 t a (a.val == 0) none s fun s =>
    let th := s.th t
    if !th.inTrap then (s, .trap 0 0 0 0)
    else if th.bottom then (s, .trap 5 0 0 0)
    else if rowsFail ecc th.fillDue then ((s.countSram t false).doubleTrap t, .done)
    else
      let s1 := ((s.filled t ecc).slideUp t).mispredict t
      let s2 := s1.setTh t fun th => { th.putReg 25 th.tfl with inTrap := false, pc := th.tpc % 131072 }
      (s2.takeHeld t, .done)

/-- R246: BRK; TCAUSE [15:8] takes n and TPC the next instruction. -/
def execBrk (t : Tid) (n : Fin 32) (s : State) : Res :=
  run s fun s => ctl 3 t n true (some 7) s fun s => (s, .trap 7 n 0 0)

def execJmpr (t : Tid) (a : Fin 32) (s : State) : Res :=
  run s fun s => ctl 5 t a (pairOk a) none s fun s => let (v, s1) := s.readPair t a; (s1, .jump true v)

def execCallr (t : Tid) (a : Fin 32) (ecc : Ecc) (s : State) : Res :=
  run s fun s => ctl 6 t a (pairOk a) none s fun s => let (v, s1) := s.readPair t a; callBody t v 1 ecc s1

/-! ### Starting and ending threads (R247-R250, R274, R275) -/

/-- A parked thread's window as its start wants it, unless TSET has prepared it (R212). -/
def Thread.prepare (th : Thread) : Thread :=
  if th.prepared then th else { th with frame := 1, low := 0, spilled := 0, prepared := true }

/-- A thread starts at an address. -/
def State.startThread (s : State) (t target : Nat) : State :=
  ((s.stir (s.tidOwner t)).stampUse.setTh t fun th => { th.prepare with st := .running, wait := .none, prepared := false, since := s.useCtr }).goto t target

/-- R249, R274: JOINs of the thread's parent on it complete. -/
def State.joinRelease (s : State) (child : Nat) (parent : Option Nat) : State :=
  match parent with
  | none => s
  | some p =>
    match (s.th p).wait with
    | .join c => if c = child then (s.setTh p fun th => th.updFl (setZ false)).unblock p 1 else s
    | _ => s

/-- What EXIT and a THREAD reset have in common (R250, R275): locks, private chains, staging, timers, tally ownership and waits go, and
a child returns to the pool. -/
def State.endThread (s : State) (t : Nat) : State :=
  let parent := (s.th t).parent
  let s1 := (s.finalRegs t).freeLocksOf [t]
  let s2 := (((s1.freePrivate t).tallyRelease t).tallyOrphan t).setTh t fun th =>
    { th with st := .parked, wait := .none, stopBy := 0, prepared := false, parent := none, childDeadline := none, staging := none,
              timers := th.timers.map (fun e => (e.1, { e.2 with due := 0, late := false })), inTrap := false, heldOverrun := none,
              heldStill := false, mchk := false, replay := none, synced := false, steps := none }
  s2.joinRelease t parent

def execExit (t : Tid) (a : Fin 32) (s : State) : Res :=
  run s fun s => ctl 4 t a (a.val == 0) (some 5) s fun s => (s.endThread t, .done)

/-- R249: JOIN. -/
def execJoin (t : Tid) (a : Fin 32) (s : State) : Res :=
  run s fun s => ctl 7 t a (regOk a) (some 5) s fun s =>
    let (v, s1) := s.readReg t a
    let c := coreOf t * 8 + v
    if 7 < v ∨ (s1.th c).parent ≠ some t.val ∨ (s1.th c).st = .parked then (s1.setTh t fun th => th.updFl (setZ true), .next)
    else (s1, .block (.join c))

/-- R247, R248, R273: the thread a TSET or TREL may act on. -/
def State.startable (s : State) (t n : Nat) : Option Nat :=
  let u := coreOf t * 8 + n
  if 7 < n ∨ u = t ∨ (s.th u).st ≠ .parked ∨ s.classOf u = 2 then none else some u

/-- R247: TSET. -/
def execTset (t : Tid) (a b : Fin 32) (imm : Word) (s : State) : Res :=
  let c := imm.toNat
  run s fun s => s.issue t [enc 0x1E a b, c] (regOk a && regOk b && (c < 24 || c == 25)) (some 5) fun s =>
    let (v, s1) := s.readReg t a
    let (n, s2) := s1.readReg t b
    match s2.startable t n with
    | none => (s2.setTh t fun th => th.updFl (setZ true), .next)
    | some u =>
      let s3 := s2.setTh u fun th => (th.prepare).putReg c v
      (s3.setTh t fun th => th.updFl (setZ false), .next)

/-- R248: the release. -/
def State.release (s : State) (t n target : Nat) : State :=
  match s.startable t n with
  | none => s.setTh t fun th => th.updFl (setZ true)
  | some u => (s.startThread u target).setTh t fun th => th.updFl (setZ false)

/-- R248, R219: TREL waits for the thread's earlier far stores. -/
def execTrel (t : Tid) (a b : Fin 32) (s : State) : Res :=
  run s fun s => s.issue t [enc 0x1F a b] (pairOk a && regOk b) (some 5) fun s =>
    let (v, s1) := s.readPair t a
    let (n, s2) := s1.readReg t b
    if (s2.th t).posted.isEmpty then (s2.release t n v, .next) else (s2, .block (.trel n v))

/-- R219: what waits for a thread's far stores goes on once the last is performed: CHE, retire and TREL (LKR at the atomic unit). -/
def State.storesDone (s : State) (t : Nat) : State :=
  if !(s.th t).posted.isEmpty then s
  else
    match if (s.th t).st == .blocked then (s.th t).wait else .none with
    | .che _ _ true => s.cheUnblock t
    | .trel n target => (s.release t n target).unblock t 1
    | _ => s

/-- R249, R274: FORK. -/
def execFork (t : Tid) (a b : Fin 32) (s : State) : Res :=
  run s fun s => s.issue t [enc 0x20 a b] (pairOk a && regOk b) (some 5) fun s =>
    let (target, s1) := s.readPair t a
    let free := (List.range 8).find? fun i => (s1.th (coreOf t * 8 + i)).st == .parked && s1.classOf (coreOf t * 8 + i) == 2
    match free with
    | none =>
      ((s1.countCluster F.schClusterForkFail_FORK_FAIL (clusterOf t)).setTh t fun th => th.result b 0xFFFF (setZ true), .next)
    | some i =>
      let u := coreOf t * 8 + i
      let (ds, s1) := (List.range 6).foldl (fun (a : List Nat × State) j => let (v, s2) := a.2.readReg t (14 + j); (a.1 ++ [v], s2)) ([], s1)
      let s2 := s1.setTh u fun th =>
        let th1 := { th with frame := 1, low := 0, spilled := 0, prepared := true, parent := some t.val, childClass := s1.runClass t,
                             childPrio := if (s1.th t).parent.isSome then (s1.th t).childPrio else s1.prioOf t,
                             childDeadline := s1.deadlineOf t }
        (List.zip (List.range 6) ds).foldl (fun (th : Thread) (j, v) => th.putReg j v) th1
      ((s2.startThread u target).setTh t fun th => th.result b i (setZ false), .next)

/-- R272: a write of CLASS and PRIO: CLASS only while PARKED, and never another for the supervisor. -/
def State.wrThread (s : State) (t v : Nat) : State :=
  let cl := if t < 1024 then F.schThread_CLASS else F.schHthread_CLASS
  let pr := if t < 1024 then F.schThread_PRIO else F.schHthread_PRIO
  let i := t % 1024
  let s1 := s.setF pr i (bits v 2 3)
  if (s.th t).st == .parked && !(s.isSup t && bits v 0 2 != 0) then s1.setF cl i (bits v 0 2) else s1

/-! ### Channels (R251, R252) -/

/-- R251: CHW. -/
def execChw (t : Tid) (a b : Fin 32) (s : State) : Res :=
  run s fun s => s.issue t [enc 0x21 a b] (regOk a && regOk b) (some 4) fun s =>
    let (v, s1) := s.readReg t a
    let (w, s2) := s1.readReg t b
    match s2.chanPut t w false with
    | .inr d => (s2, .trap 13 d 0 0)
    | .inl k =>
      let ws := match (s2.th t).staging with | some (_, ws) => ws | none => []
      (s2.setTh t fun th => { th with staging := some (k, ws ++ [word v]) }, .next)

/-- R251, R219, R282: CHE. -/
def execChe (t : Tid) (a b : Fin 32) (s : State) : Res :=
  run s fun s => s.issue t [enc 0x22 a b] (regOk a && regOk b) (some 4) fun s =>
    let (v, s1) := s.readReg t a
    let (w, s2) := s1.readReg t b
    match s2.chanPut t w true with
    | .inr d => (s2, .trap 13 d 0 0)
    | .inl k =>
      let ws := match (s2.th t).staging with | some (_, ws) => ws | none => []
      let msg := s2.withSender t k (ws ++ [word v])
      if !(s2.th t).posted.isEmpty then (s2, .block (.che k msg true))
      else if s2.chanRoom k msg.length && s2.firstWriter t k then
        ((s2.send t k msg).setTh t fun th => { th with staging := none }, .next)
      else (s2.countCluster F.schClusterCheBlock_CHE_BLOCK (clusterOf t), .block (.che k msg false))

/-- R252: a message is copied, or the copy's ACCESS trap is taken and the message stays; it also stays where an earlier store's drain stops the
thread (R214). -/
def takeBody (t a dst k : Nat) (idx : Nat) (m : Msg) (s : State) : State × Then :=
  if !copyOk dst m.words.length then (s, .trap 2 0 dst 8)
  else
    let s := s.drainAll (coreOf t)
    if (s.th t).st == .stopped then (s, .done)
    else ((s.takeMsg t k dst idx m).setTh t fun th => th.result a m.words.length (setZ false), .next)

/-- R252: CHR. -/
def execChr (t : Tid) (a b : Fin 32) (s : State) : Res :=
  run s fun s => s.issue t [enc 0x23 a b] (regOk a && regOk b) (some 4) fun s =>
    let (dst, s1) := s.readReg t a
    let (w, s2) := s1.readReg t b
    match s2.chanTake t w with
    | .inr d => (s2, .trap 13 d 0 0)
    | .inl k =>
      match s2.messageFor t k with
      | some (idx, m) => takeBody t a dst k idx m s2
      | none => (s2, .block (.chr k dst a))

/-- R252: CHP. -/
def execChp (t : Tid) (a b : Fin 32) (s : State) : Res :=
  run s fun s => s.issue t [enc 0x24 a b] (regOk a && regOk b) (some 4) fun s =>
    let (dst, s1) := s.readReg t a
    let (w, s2) := s1.readReg t b
    match s2.chanTake t w with
    | .inr d => (s2, .trap 13 d 0 0)
    | .inl k =>
      match s2.messageFor t k with
      | some (idx, m) => takeBody t a dst k idx m s2
      | none => (s2.setTh t fun th => th.result a 0 (setZ true), .next)

/-! ### Word locks (R253, R296-R299) -/

/-- R253: the lock a far address names, or the ACCESS trap. -/
def State.lockAt (s : State) (t ea : Nat) : Option LockId :=
  if ea % 2 = 1 then none
  else
    match s.farCheck (s.tidOwner t) ea true true with
    | .inl (.dram b) => some ⟨none, b⟩
    | .inl (.cluster c w) => some ⟨some c, 2 * w⟩
    | _ => none

/-- R365: an operation on a pair in DRAM is a request of its thread's cluster. -/
def State.lockAsk (s : State) (t : Nat) (l : LockId) : State :=
  if l.cluster.isSome then s else s.unitAsk (threadRequester t) l.addr (s.threadDeadline t s.now) true []

/-- R253, R296: what a lock instruction does before the atomic unit: 0 LKA, 1 LKT, 2 LKR, 3 LKF. -/
def lockBody (t op a : Nat) (s : State) : State × Then :=
  let (ea, s1) := s.readPair t a
  if op = 3 ∧ !s1.privileged t then (s1, .trap 1 0 0 0)
  else
    match s1.lockAt t ea with
    | none => (s1, .trap 2 0 ea 12)
    | some l =>
      let th := s1.th t
      if op ≤ 1 ∧ th.holds l then (s1.setTh t fun th => th.updFl fun fl => lockFlags fl true false, .next)
      else if op ≤ 1 ∧ 8 ≤ th.locks.length then (s1.countAtm F.atmStatLimit_LIMIT t, .trap 6 0 ea 4)
      else (s1.lockAsk t l, .block (.lockOp op l ea))

def lockInsn (op : Nat) (t : Tid) (a : Fin 32) (s : State) : State :=
  s.issue t [enc 0x1A a op] (pairOk a) (some 3) (lockBody t op a)

def execLka (t : Tid) (a : Fin 32) (s : State) : Res := run s fun s => lockInsn 0 t a s
def execLkt (t : Tid) (a : Fin 32) (s : State) : Res := run s fun s => lockInsn 1 t a s
def execLkr (t : Tid) (a : Fin 32) (s : State) : Res := run s fun s => lockInsn 2 t a s
def execLkf (t : Tid) (a : Fin 32) (s : State) : Res := run s fun s => lockInsn 3 t a s

/-! ### Core events (R186, R192, R196, R214) -/

/-- R185, R186: a requested line arrives: installed in place of the least recently used buffer, or refused for its parity: then the thread
that requested it traps, one of those that wait for it (log entry 131). -/
def execLineRefill (k : Fin 129) (line : Fin 16384) (parityErr : Bool) (s : State) : Res :=
  run s (onlyIf (!(s.lineWanted k line).isEmpty || (s.core k).prefetch.contains line.val) fun s =>
    let ts := s.lineWanted k line
    let s1 := (s.guardEnd k).setCore k fun c => { c with prefetch := c.prefetch.filter (· != line.val), guarded := c.guarded.filter (· != line.val) }
    if parityErr then
      let s2 := if k.val < 128 then s1.raise (Ev.CODE_PARITY (k / 8)) else s1
      let (n, s3) := if ts.length ≤ 1 then (0, s2) else s2.freeNat
      match ts[n % max 1 ts.length]? with
      | some t => s3.trap t 9 0 0 0 (s.th t).pc
      | none => s3
    else
      let s2 := (s1.setCore k fun c => { c with lines := (line.val :: c.lines).take 4 }).countCore F.cluCoreRefill_REFILL k
      ts.foldl (fun (s : State) t => s.renew t) s2)

/-- R192: a refill that has waited GUARD cycles gets one guard cycle. -/
def execGuardCycle (k : Fin 129) (s : State) : Res :=
  let g := if k.val < 128 then s.f F.cluCoreCtl_GUARD (k / 8) (k % 8) else 32
  let waiting := (((List.range 8).map (k.val * 8 + ·)).flatMap fun t => if (s.th t).st == .running then s.linesNeeded t else []) ++ (s.core k).prefetch
  let fresh := waiting.filter fun l => !(s.core k).lines.contains l && !(s.core k).guarded.contains l
  run s (onlyIf (g != 0 && !fresh.isEmpty) fun s =>
    s.setCore k fun c => { c with guard := true, guarded := fresh.headD 0 :: c.guarded })

/-- R196, R197, R214: the oldest entry drains; a double-bit error stops its thread, and loads cancelled for it come again. -/
def execStoreDrain (k : Fin 129) (ecc : Ecc) (s : State) : Res :=
  run s fun s =>
    match (s.core k).sb with
    | [] => s
    | e :: _ => s.drainEntry k e ecc

end Sys2Proof.Machine
end

