-- ==== Sys2Proof/Machine/TallyOps.lean ====
section
/-! DEFINITION. The tally group of instructions and the completion of tally commands (R254, R259-R263, R268). -/

namespace Sys2Proof.Machine

/-- R259, R268: the TALLY trap of a command: 1 NOT_OWNER, 2 UNIT_FAILED. -/
def State.tallyFault (s : State) (t : Nat) : Option Nat :=
  let u := s.unit (coreOf t)
  if u.owner ≠ some (t % 8) then some 1 else if u.failed then some 2 else none

/-- R261, R270: whether the queue admits a command. -/
def State.tallyRoom (s : State) (t : Nat) : Bool := (s.unit (coreOf t)).queue.length < 5 && !s.tallyHeld (coreOf t)

/-- A command enters its unit's queue. -/
def State.tallyPush (s : State) (t : Nat) (c : TallyCmd) : State :=
  (s.setUnit (coreOf t) fun u => { u with queue := u.queue ++ [(t, c)] }).setTh t fun th => { th with synced := false }

/-- R261: an instruction of the group: it holds the core while the queue has no room. -/
def tallyInsn (t : Nat) (ws : List Nat) (legal : Bool) (s : State) (body : State → State × Then) : State :=
  s.issue t ws legal (some 2) fun s => if s.tallyRoom t then body s else (s, .held)

/-- R259, R202: the trap of a command that is not the owner's; the cycles its unit has spent on it are open (log entry 126). -/
def State.tallyRefuse (s : State) (t d : Nat) : State × Then :=
  let (c, s1) := s.freeNat
  (if t < 1024 then s1.count F.tlyUnitBusyCycles_BUSY_CYCLES (coreOf t) c else s1, .trap 12 d 0 0)

/-- R259: TLOCK. -/
def execTlock (t : Tid) (a : Fin 32) (s : State) : Res :=
  run s fun s => tallyInsn t [enc 0x3C a 0] (a.val == 0) s fun s =>
    let u := s.unit (coreOf t)
    let me := some (t.val % 8)
    if u.owner.isNone || u.owner == me then
      let s1 := s.setUnit (coreOf t) fun u => { u with owner := me, status := if u.owner.isNone then 0 else u.status }
      (s1.setTh t fun th => { th.updFl (setZ true) with synced := false }, .next)
    else (s.setTh t fun th => th.updFl (setZ false), .next)

/-- R259: TFREE. -/
def execTfree (t : Tid) (a : Fin 32) (s : State) : Res :=
  run s fun s => tallyInsn t [enc 0x3C a 1] (a.val == 0) s fun s =>
    if (s.unit (coreOf t)).owner = some (t.val % 8) then
      ((s.tallyRelease t).setTh t fun th => { th.updFl (setZ true) with synced := false }, .next)
    else (s.setTh t fun th => th.updFl (setZ false), .next)

/-- R262: TSYNC completes at once where the thread has no command left, or the unit has failed (R268). -/
def execTsync (t : Tid) (a : Fin 32) (s : State) : Res :=
  run s fun s => tallyInsn t [enc 0x3C a 2] (a.val == 0) s fun s =>
    if (s.unit (coreOf t)).failed || !s.tallyPending t then (s.tsyncDone t, .done) else (s, .block .tsync)

/-- R260: the fields of MTT and MFT: register, PAIR, KIND, N and W. -/
def tallyLegal (a b w : Nat) (mtt : Bool) : Bool :=
  let pair := b % 2 == 1
  let kind := bits w 7 2
  let clr := bits w 9 1 == 1
  b / 2 == 0 && w / 1024 == 0 && (if pair then pairOk a else regOk a) && kind != 3 && !(kind == 2 && mtt) && !(pair && kind != 0) &&
    !(kind == 0 && (12 ≤ w % 16 || (pair && w % 2 == 1))) && !(clr && (!mtt || kind == 1))

/-- R260: MTT. -/
def execMtt (t : Tid) (a b : Fin 32) (w : Word) (s : State) : Res :=
  run s fun s => tallyInsn t [enc 0x3D a b, w.toNat] (tallyLegal a b w.toNat true) s fun s =>
    let pair := b.val % 2 == 1
    let (v, s1) := if pair then s.readPair t a else s.readReg t a
    match s1.tallyFault t with
    | some d => s1.tallyRefuse t d
    | none =>
      let n := w.toNat
      (s1.tallyPush t (.mtt (bits n 7 2) (bits n 4 3) (n % 16) pair (bits n 9 1 == 1)
        (if pair then [word v, word (v / 65536)] else [word v])), .next)

/-- R260, R263: MFT; after the thread's completed TSYNC, with the unit idle, it executes at once with a shadow of one instruction. -/
def execMft (t : Tid) (a b : Fin 32) (w : Word) (s : State) : Res :=
  run s fun s => tallyInsn t [enc 0x3E a b, w.toNat] (tallyLegal a b w.toNat false) s fun s =>
    match s.tallyFault t with
    | some d => s.tallyRefuse t d
    | none =>
      let n := w.toNat
      let pair := b.val % 2 == 1
      let codes := if a.val = 24 then [] else if pair then [a.val, a.val + 1] else [a.val]
      if (s.th t).synced && (s.unit (coreOf t)).queue.isEmpty then
        let vals := (s.unit (coreOf t)).mftWords (bits n 7 2) (bits n 4 3) (n % 16) pair
        let s1 := (List.zip codes vals).foldl (fun (s : State) (c, v) => s.setTh t fun th => th.putShadow c v 2) s
        (((s1.count F.tlyUnitCommands_COMMANDS (coreOf t)).count F.tlyUnitBusyCycles_BUSY_CYCLES (coreOf t)).setTh t
          fun th => { th with synced := false }, .next)
      else (s.tallyPush t (.mft (bits n 7 2) (bits n 4 3) (n % 16) pair (codes.filterMap (s.th t).key)), .next)

/-- R264: TOP with function `func`. -/
def topInsn (func : Nat) (t : Tid) (b : Fin 32) (w : Word) (s : State) : State :=
  tallyInsn t [enc 0x3F func b, w.toNat] (w.toNat / 4096 == 0) s fun s =>
    match s.tallyFault t with
    | some d => s.tallyRefuse t d
    | none =>
      let n := w.toNat
      (s.tallyPush t (.top func (b / 4) (b % 4) (n % 8) (bits n 3 3) (bits n 6 3) (bits n 9 3)), .next)

def execTopClr (t : Tid) (b : Fin 32) (w : Word) (s : State) : Res := run s fun s => topInsn 0 t b w s
def execTopMova (t : Tid) (b : Fin 32) (w : Word) (s : State) : Res := run s fun s => topInsn 1 t b w s
def execTopAdd (t : Tid) (b : Fin 32) (w : Word) (s : State) : Res := run s fun s => topInsn 2 t b w s
def execTopSub (t : Tid) (b : Fin 32) (w : Word) (s : State) : Res := run s fun s => topInsn 3 t b w s
def execTopMul (t : Tid) (b : Fin 32) (w : Word) (s : State) : Res := run s fun s => topInsn 4 t b w s
def execTopDiv (t : Tid) (b : Fin 32) (w : Word) (s : State) : Res := run s fun s => topInsn 5 t b w s
def execTopRnd (t : Tid) (b : Fin 32) (w : Word) (s : State) : Res := run s fun s => topInsn 6 t b w s
def execTopCmp (t : Tid) (b : Fin 32) (w : Word) (s : State) : Res := run s fun s => topInsn 7 t b w s
def execTopNeg (t : Tid) (b : Fin 32) (w : Word) (s : State) : Res := run s fun s => topInsn 8 t b w s
def execTopAbs (t : Tid) (b : Fin 32) (w : Word) (s : State) : Res := run s fun s => topInsn 9 t b w s
def execTopCvd (t : Tid) (b : Fin 32) (w : Word) (s : State) : Res := run s fun s => topInsn 10 t b w s
def execTopCvb (t : Tid) (b : Fin 32) (w : Word) (s : State) : Res := run s fun s => topInsn 11 t b w s
def execTopHeat (t : Tid) (b : Fin 32) (w : Word) (s : State) : Res := run s fun s => topInsn 12 t b w s

/-- R268: the issuing thread of a command that met a machine check traps at its next boundary, or at its TSYNC; one the debugger has stopped
traps when it goes on. Other threads' TSYNCs wait for nothing any more. -/
def State.tallyCheck (s : State) (u t : Nat) : State :=
  let th := s.th t
  let s1 := match th.st, th.wait with
    | .running, _ => (s.setTh t fun th => { th with mchk := false }).trap t 11 1 0 0 th.pc
    | .blocked, .tsync => (s.setTh t fun th => { th with mchk := false }).trap t 11 1 0 0 th.pc
    | _, _ => s
  s1.tsyncAll u

/-- R261, R268: the oldest command of a unit completes; `mchk` is the microaddress of a word read with a parity error. -/
def execTallyCommandComplete (u : Fin 128) (mchk : Option (Fin 2048)) (s : State) : Res :=
  run s (onlyIf (!(s.unit u).queue.isEmpty) fun s =>
    let t := ((s.unit u).queue.map (·.1)).headD 0
    let s1 := match mchk with
      | some a => s.tallyBreak u a
      | none => s.tallyApply u
    if (s1.th t).mchk then s1.tallyCheck u t else s1.tsyncAll u)

end Sys2Proof.Machine
end

