-- ==== Sys2Proof/Machine/Dispatcher.lean ====
section
/-! DEFINITION. Chain references (R158, R309), narrower resets (R413), dispatch, slots, retirement, deadlines, maps and clusters (R160-R171,
R178-R181). -/

namespace Sys2Proof.Machine

/-! ### References of chains (R309) -/

def State.outPort (s : State) (o : Nat) : OutPort := s.outPorts.get OutPort.reset o

def State.setOut (s : State) (o : Nat) (f : OutPort → OutPort) : State := { s with outPorts := s.outPorts.set OutPort.reset o (f (s.outPort o)) }

/-- The requests an output holds in queues, buffer and FIFO. -/
def OutPort.items (p : OutPort) : List OutReq :=
  p.queues.flatMap (fun e => e.2) ++ (p.sending.toList ++ p.buf).filterMap (fun e => match e.item with | .out r => some r | _ => none) ++ p.fifo.map (·.1)

/-- Every request that names a chain, in the gate or beyond it. -/
def State.outReqs (s : State) : List OutReq := s.banks.flatMap (fun b => b.outs) ++ s.outPorts.flatMap fun e => e.2.items

/-- R309: a chain's reference count. -/
def State.refs (s : State) (h : Nat) : Nat := (s.outReqs.filter fun r => r.cell == h).length

/-- A frame still on its way through the device has the chain. -/
def State.inFlight (s : State) (h : Nat) : Bool :=
  let is := fun (p : Pkt) => p.cell == h || (match p.esp with | some e => e.outerCell == h | none => false)
  s.ports.any (fun e => e.2.parseQ.any is) || s.cipherQ.any is || s.reparseQ.any is || s.classQ.any is || s.dispQ.any is ||
    s.clusterQ.any (fun e => e.2.any is) || s.defers.any (fun e => e.2.any is) ||
    s.threads.any (fun e => e.2.packets.any fun p => is p.2.pkt) || s.heldFrames.any (fun e => is e.pkt) ||
    s.freeAfter.any (fun e => e.2.1 == h)

def State.isPrivate (s : State) (h : Nat) : Bool := s.chains.any fun e => e.2.contains h

/-- R309: the gate bank of a packet's course holds the packet's own chain, from its posting until the bank is released or discarded. -/
def State.gateHolds (s : State) (h : Nat) : Bool :=
  s.freeAfter.any (fun e => e.2.1 == h && e.2.2) ||
    s.threads.any fun e => e.2.packets.any fun p => p.2.phase != 0 && p.2.pkt.cell == h

/-- R148, R309: HELD of a chain follows its references and its gate bank. -/
def State.heldNow (s : State) (h : Nat) : State := s.setHeld h (s.refs h != 0 || s.gateHolds h)

/-- R309, R158: a reference of a chain has ended: HELD follows, and an unreferenced chain that nothing else holds is freed. -/
def State.refEnded (s : State) (h : Nat) : State :=
  if s.refs h ≠ 0 then s
  else
    let s1 := s.heldNow h
    if s1.inFlight h || s1.isPrivate h then s1 else s1.freeChain h

/-- The references of requests that are gone end. -/
def State.dropOuts (s : State) (rs : List OutReq) : State := rs.foldl (fun (s : State) r => s.refEnded r.cell) s

/-- R309: chains whose course is settled and released are freed, unless a reference holds them. -/
def State.freeSettled (s : State) : State :=
  let (now, later) := s.freeAfter.partition fun e => e.1 < s.acceptedPlus && !s.banks.any fun b => b.course == e.1
  now.foldl (fun (s : State) e => if s.refs e.2.1 = 0 && !s.inFlight e.2.1 then s.freeChain e.2.1 else s.heldNow e.2.1) { s with freeAfter := later }

/-! ### Fields in a reset's scope (R17, R18) -/

def ResetKind.rank : ResetKind → Nat
  | .thread => 0
  | .core => 1
  | .cluster => 2
  | .stall => 3
  | .device => 4
  | .power => 5

/-- R18: a field survives the reset kind its entry names and every narrower one. -/
def FieldDesc.survives (d : FieldDesc) (k : ResetKind) : Bool :=
  match d.held with
  | some h => k.rank ≤ h.rank && k != .power
  | none => false

/-- R17: whether thread `t` lies in a scope: kind and number. -/
def State.threadIn (s : State) (k : ResetKind) (id t : Nat) : Bool :=
  match k with
  | .thread => t == id
  | .core => coreOf t == id
  | .cluster => clusterOf t == id
  | .stall => t < 1024 && s.clusterOwner (clusterOf t) == id
  | _ => true

/-- R17: whether an instance of a register lies in a scope. -/
def State.regIn (s : State) (k : ResetKind) (id : Nat) (r : Reg) (i j : Nat) : Bool :=
  match k with
  | .power => true
  | .device => true
  | _ =>
    match r.scope with
    | .dev => false
    | .stall => k == .stall && i == id
    | .stallPair => k == .stall && i == id
    | .stallKey => k == .stall && i == id
    | .cluster => (k == .cluster && i == id) || (k == .stall && s.clusterOwner i == id)
    | .core => (k == .core && i * 8 + j == id) || (k == .cluster && i == id) || (k == .stall && s.clusterOwner i == id)
    | .unit => (k == .core && i == id) || (k == .cluster && i / 8 == id) || (k == .stall && s.clusterOwner (i / 8) == id)
    | .thread => s.threadIn k id i
    | .hthread => s.threadIn k id (1024 + i)
    | .mover => k == .stall && s.f F.arbMoveCtl_OWNER i == id
    | .source => k == .stall && s.evOwner i == id
    | .recorder => k == .stall && s.f F.ldgCfg_OWNER i == id
    | .recorderArr => k == .stall && s.f F.ldgCfg_OWNER i == id
    | .graph => k == .stall && s.f F.pgrGraphCfg_OWNER i == id

/-- A register word with the fields that do not survive returned to their Reset values. -/
def Reg.resetWordOf (r : Reg) (i : Nat) (k : ResetKind) (w : Nat) : Nat :=
  r.fields.foldl (fun v d => if d.survives k then v else putBits v d.lo d.width (bits (r.resetNat i) d.lo d.width)) w

/-- R413, step 4: the fields in scope. A register each accessor has for itself is in scope with its thread. -/
def State.resetFields (s : State) (k : ResetKind) (id : Nat) : State :=
  s.regs.foldl (fun (t : State) e =>
    let acc := e.1 / 0x1000000
    match Reg.find (e.1 % 0x1000000) with
    | none => t
    | some (r, i, j) =>
      let within := if r.perAccessor then (1 ≤ acc && acc ≤ 1032 && s.threadIn k (id) (acc - 1)) || s.regIn k id r i j else s.regIn k id r i j
      if within then { t with regs := t.regs.set (r.resetWord i) e.1 (BitVec.ofNat 32 (r.resetWordOf i k e.2.toNat)) } else t) s

def threadsOfCore (k : Nat) : List Nat := (List.range 8).map (k * 8 + ·)
def threadsOfCluster (c : Nat) : List Nat := (List.range 64).map (c * 64 + ·)
def coresOfCluster (c : Nat) : List Nat := (List.range 8).map (c * 8 + ·)

/-! ### Verdicts (R168-R171) -/

/-- The run code of a frame in its course's lists (R328). -/
def State.setCode (s : State) (p : Pkt) (code : Nat) : State :=
  { s with idents := s.idents.map fun (e : Ident) =>
      if e.port == p.port && e.seq == p.seq.toNat && e.deferred == p.deferred && (!p.deferred || e.course == p.course) then { e with code := code } else e }

/-- R170: a packet's output requests leave the gate and its appends are discarded. -/
def State.discardWork (s : State) (p : Pkt) : State :=
  let mine := fun (r : OutReq) => r.ofPkt == some (p.port, p.seq.toNat) && r.course == p.course
  let gone := s.banks.flatMap fun b => b.outs.filter mine
  let s1 := { s with banks := s.banks.map (fun (b : Bank) => { b with outs := b.outs.filter fun r => !mine r }),
                     appends := s.appends.filter fun a => !(a.ofPkt == some (p.port, p.seq.toNat) && a.course == p.course) }
  s1.dropOuts gone

/-- R171: DROP: the frame's cells are freed once its course is settled. -/
def State.verdictDrop (s : State) (p : Pkt) : State := (s.setCode p 3).freeLater p.course p.cell true

/-- R169, R171: the overrun verdict of a packet or frame. -/
def State.overrunVerdict (s : State) (p : Pkt) : State :=
  let x := p.stall.getD 0
  if s.f F.dspStallCtl_OVERRUN x = 0 then s.verdictDrop p
  else if p.deferred then (s.count F.dspStatDefers_DEFER_DROP x).verdictDrop p
  else if 512 ≤ (s.defers.get [] x).length then (s.count F.dspStatDeferFull_DEFER_FULL x).verdictDrop p
  else
    let s1 := (s.setCode p 4).count F.dspStatDefers_DEFERS x
    { s1 with defers := s1.defers.set [] x (s1.defers.get [] x ++ [{ p with deferred := true, verdict := 4 }]) }

/-- R160, step 1: STOPPED. -/
def State.verdictStopped (s : State) (p : Pkt) : State :=
  (s.count F.dspStatQueueFull_STOPPED (p.stall.getD 0)).verdictDrop { p with verdict := 5 }

/-- R169: a frame not run, with its cause's counter. -/
def State.notRun (s : State) (p : Pkt) (cause : Fld) : State := (s.count cause (p.stall.getD 0)).overrunVerdict p

/-! ### Admission (R160-R162) -/

/-- R47, R49: laths of the course that begins at a boundary still to come: a change of length counted down to that frame boundary applies there. -/
def State.lengthAt (s : State) (start : Nat) : Nat :=
  let t := s.time
  if t.change && t.taken && decide (t.frames ≤ 1) && start % frameUnits == 0 then t.nextLen else t.len

/-- The timeline at which the next course begins. -/
def State.nextStart (s : State) : Nat :=
  if s.time.strobeDue && !s.time.strobeFirst then s.time.timeline.toNat else s.time.courseStart.toNat + courseUnits s.time.len

/-- R161: the timeline value at which admission of a course closes: MIN_RUN laths before the boundary that begins the course after the
next; `none`: long past. -/
def State.closeAt (s : State) (x k : Nat) : Option Nat :=
  let m := s.f F.dspStallCtl_MIN_RUN x * 1024
  let b1 := s.nextStart
  let b2 := b1 + courseUnits (s.lengthAt b1)
  if k + 1 < s.course then none
  else if k + 1 = s.course then some (b1 - m)
  else if k = s.course then some (b2 - m)
  else some (b2 + courseUnits (s.lengthAt b2) - m)

def State.closed (s : State) (x k : Nat) : Bool :=
  match s.closeAt x k with
  | none => true
  | some t => t ≤ s.now

/-- Frames of a stall admitted in a course. -/
def State.admittedIn (s : State) (x k : Nat) : Nat :=
  let (c, n) := s.admitted.get (0, 0) (x * 4 + k % 4)
  if c = k then n else 0

def State.activeBank (s : State) (x : Nat) : Nat := s.f F.dspStallMap_ACTIVE x

/-- R36, R338, R415: whether the dispatcher runs a stall's frames. -/
def State.runs (s : State) (x : Nat) : Bool :=
  let st := s.f F.stlStatus_STATE
  s.f F.scpStallState_STATE x == 2 && s.b F.supCtl_ADMIT && (st == 1 || st == 3 || st == 5)

/-- R333: a silent device holds the frame, or discards what came from a host. -/
def State.holdFrame (s : State) (p : Pkt) : State :=
  if 8 ≤ p.port then (s.count F.stlStatShadowHost_SHADOW_HOST).freeChain p.cell
  else
    match s.idents.find? fun e => e.port == p.port && e.seq == p.seq.toNat with
    | some e => { s with heldFrames := s.heldFrames ++ [heldOf p e.fcs e.len false] }
    | none => { s with heldFrames := s.heldFrames ++ [heldOf p 0 p.len false] }

/-- R179: the cluster of a bucket for a dispatch course: a frame of a course before a move took effect is decided by the map the move found. -/
def State.mapFor (s : State) (x k b : Nat) : Nat :=
  match s.oldMaps.find? fun f => f.stall == x && f.bucket == b && decide (k < f.course) with
  | some f => f.old
  | none => s.mapEntry x (s.activeBank x) b

/-- R160: the decision on the oldest presented frame; a full queue turns an admitted frame away (R162). -/
def State.dispatchOne (s : State) : State :=
  match s.dispQ with
  | [] => s
  | p :: rest =>
    let s := { s with dispQ := rest }
    let x := p.stall.getD 0
    let k := p.course
    if s.holdsFrames then s.holdFrame p
    else if !s.runs x then s.verdictStopped p
    else if s.closed x k then s.notRun p F.dspStatLate_LATE
    else if s.f F.dspStallBudget_FRAMES x ≠ 0 ∧ s.f F.dspStallBudget_FRAMES x ≤ s.admittedIn x k then s.notRun p F.dspStatLate_BUDGET
    else
      let c := s.mapFor x k p.bucket
      if !s.inService c x then s.notRun p F.dspStatNoCluster_NO_CLUSTER
      else
        let s1 := State.count { s with admitted := s.admitted.set (0, 0) (x * 4 + k % 4) (k, s.admittedIn x k + 1) } F.dspStatAdmitted_ADMITTED x
        if 512 ≤ (s1.clusterQ.get [] c).length then s1.notRun p F.dspStatQueueFull_QUEUE_FULL
        else State.stir { s1 with clusterQ := s1.clusterQ.set [] c (s1.clusterQ.get [] c ++ [p]) } x

/-- The frames of a cluster queue that admission's close leaves behind are LATE (R161). -/
def State.closeQueues (s : State) (gone : Pkt → Bool) : State :=
  (List.range 16).foldl (fun (s : State) c =>
    let q := s.clusterQ.get [] c
    let (late, stay) := q.partition gone
    late.foldl (fun (s : State) p => s.notRun p F.dspStatLate_LATE) { s with clusterQ := s.clusterQ.set [] c stay }) s

/-! ### Window slots (R163-R165) -/

/-- R163: the threads of a cluster that may be given a frame, with the slots they have occupied. -/
def State.fillable (s : State) (c : Nat) : List (Nat × Nat) :=
  (threadsOfCluster c).filterMap fun t =>
    let th := s.th t
    let n := th.packets.length
    if s.classOf t == 1 && th.st != .parked && th.st != .stopped && n < 4 then some (t, n) else none

/-- R163: the thread with fewest occupied slots, from the rotor on. -/
def State.fillThread (s : State) (c : Nat) : Option Nat :=
  let rot := s.clusterRotor.get 0 c
  let turn := fun (t : Nat) => (t % 64 + 64 - rot) % 64
  (s.fillable c).foldl (fun b e =>
    match b with
    | none => some e
    | some x => if e.2 < x.2 || (e.2 == x.2 && turn e.1 < turn x.1) then some e else b) none |>.map (·.1)

/-- R164: bytes laid two to a word into a slot. -/
def State.fillWindow (s : State) (t i : Nat) (bs : List Byte) : State :=
  let base := 0x6000 + 1024 * (t % 8) + 256 * i
  (List.range ((bs.length + 1) / 2)).foldl (fun (s : State) j =>
    s.setSram (coreOf t) (base + j) ((bs.getD (2 * j) 0).toNat * 256 + (bs.getD (2 * j + 1) 0).toNat)) s

/-- R161, R163, R164: the head of a cluster's queue goes into a free slot; past the close of its admission it is LATE. -/
def State.slotFill (s : State) (c : Nat) : State :=
  match s.clusterQ.get [] c, s.fillThread c with
  | p :: rest, some t =>
    if s.closed (p.stall.getD 0) p.course then State.notRun { s with clusterQ := s.clusterQ.set [] c rest } p F.dspStatLate_LATE
    else
    let i := ((List.range 4).find? fun i => ((s.th t).slot i).isNone).getD 0
    let s1 := { s with clusterQ := s.clusterQ.set [] c rest, clusterRotor := s.clusterRotor.set 0 c ((t % 64 + 1) % 64) }
    (s1.fillWindow t i (s1.chainBytes p.cell 0 (min 512 p.len))).setSlot t i
      (some { pkt := p, phase := 0, turn := false, held := [], issued := 0, order := 0 })
  | _, _ => s

/-- R165, R309: the packet message is posted; from here on the gate bank holds the packet's chain. -/
def State.packetPost (s : State) (t i : Nat) : State :=
  match (s.th t).slot i with
  | some p =>
    let k := chanKey (clusterOf t) 0
    ((s.setChanQ k (s.chanQ k ++ [⟨p.pkt.desc ++ [word i], 2000, t, s.course⟩])).setSlot t i (some { p with phase := 1 })).setHeld p.pkt.cell true
  | none => s

/-! ### Retirement (R166-R168) -/

/-- R330: a request whose packet has passed. -/
def OutReq.alive (r : OutReq) : OutReq := { r with live := true }

/-- R166, R167, R174: a packet leaves its slot in time with verdict 1 PASS or 2 CONSUME. -/
def State.retirePacket (s : State) (t i v : Nat) (p : SlotPkt) : State :=
  let c := clusterOf t
  let (cyc, s) := s.freeNat
  let s1 := (s.turnCommit p).setCode p.pkt v
  let s2 := ((s1.count F.dspClusterPackets_PACKETS c).count64 F.dspClusterIssuedLo_ISSUED F.dspClusterIssuedHi_ISSUED c p.issued).setF
    F.dspClusterMaxCycles_MAX_CYCLES c (max (s1.f F.dspClusterMaxCycles_MAX_CYCLES c) (cyc % 2 ^ 32))
  let mine := fun (o : Option (Nat × Nat)) (k : Nat) => o == some (p.pkt.port, p.pkt.seq.toNat) && k == p.pkt.course
  let s3 := { s2 with appends := s2.appends.map fun (a : Append) => if mine a.ofPkt a.course then { a with live := true } else a }
  let s4 :=
    if v = 1 then
      { s3 with banks := s3.banks.map fun (b : Bank) => { b with outs := b.outs.map fun (r : OutReq) => if mine r.ofPkt r.course then OutReq.alive r else r } }
    else
      let gone := s3.banks.flatMap fun b => b.outs.filter fun r => mine r.ofPkt r.course
      State.dropOuts { s3 with banks := s3.banks.map (fun (b : Bank) => { b with outs := b.outs.filter fun r => !mine r.ofPkt r.course }) } gone
  (s4.setSlot t i none).freeLater p.pkt.course p.pkt.cell true

/-- R166: one retire message, which its CHE has found to name a running packet. -/
def State.retireMsg (s : State) (m : Msg) : State :=
  let w := (m.words.headD 0).toNat
  match (s.th m.sender).slot (w % 4) with
  | some p => if p.phase = 3 then s.retirePacket m.sender (w % 4) (bits w 2 2) p else s
  | none => s

/-- R166: the oldest retire message of a cluster. -/
def State.retireNext (s : State) (c : Nat) : State :=
  let k := chanKey c 1
  match s.chanQ k with
  | [] => s
  | m :: rest => (s.setChanQ k rest).retireMsg m

def State.retireAll (s : State) (c : Nat) : Nat → State
  | 0 => s
  | n + 1 => (s.retireNext c).retireAll c n

/-! ### THREAD, CORE and CLUSTER resets (R204, R275, R413) -/

/-- R275, R212: a thread's own part of a reset. -/
def State.threadCore (s : State) (t : Nat) : State :=
  ((s.endThread t).setTh t fun th =>
    { th with fl := 0, frame := 1, low := 0, spilled := 0, pc := 0, tpc := 0, tcause := 0, tfl := 0, taddr := 0, tinfo := 0,
              timers := [], lathCap := [], shades := [] }).freeKeys t 0 228

/-- R166: retires whose CHE has performed count before a reset. -/
def State.retiresOf (s : State) (ks : List Nat) : State :=
  ks.foldl (fun (s : State) k => s.retireAll (k / 8) (s.chanQ (chanKey (k / 8) 1)).length) s

def State.threadReset (s : State) (t : Nat) : State := ((s.retiresOf [coreOf t]).threadCore t).resetFields .thread t

/-- R204: a core's store buffer drains; line buffers, BTB and pending refills go. -/
def State.coreEmpty (s : State) (k : Nat) : State := (s.drainAll k).setCore k fun c => { Core.reset with rotor := c.rotor }

/-- The threads, cores and units of a scope. -/
def State.resetCores (s : State) (ks : List Nat) : State :=
  let ts := ks.flatMap threadsOfCore
  let s1 := (s.retiresOf ks).freeLocksOf ts
  let s2 := ks.foldl (fun s k => s.coreEmpty k) s1
  let s3 := ts.foldl (fun s t => s.threadCore t) s2
  ks.foldl (fun s k => if k < 128 then s.tallyReset k else s) s3

def State.coreReset (s : State) (k : Nat) : State := (s.resetCores [k]).resetFields .core k

def State.clusterReset (s : State) (c : Nat) : State := ((s.resetCores (coresOfCluster c)).emptyChannels c).resetFields .cluster c

/-! ### Deadlines (R169, R170) -/

/-- R169, R170: the packet of a slot has reached its deadline, or is discarded: it leaves, and its thread traps where it was running. -/
def State.slotOut (s : State) (t i : Nat) (p : SlotPkt) (verdict : State → Pkt → State) (trap : Bool) : State :=
  let k := chanKey (clusterOf t) 0
  let s1 := s.setChanQ k ((s.chanQ k).filter fun m => !(m.dest == t && (m.words.getD 16 0).toNat % 4 == i))
  let x := p.pkt.stall.getD 0
  let s2 := verdict ((s1.setSlot t i none).count F.dspStatOverrun_OVERRUN x) p.pkt
  let s3 := s2.discardWork p.pkt
  let s4 := (s3.heldNow p.pkt.cell).raise (Ev.OVERRUN x) [word t, word i]
  if trap && p.phase == 2 then s4.overrunTrap t i else s4

/-- The occupied slots whose packets meet a condition. -/
def State.slotsWhere (s : State) (c : Nat → SlotPkt → Bool) : List (Nat × Nat × SlotPkt) :=
  s.threads.flatMap fun e => e.2.packets.filterMap fun p => if c e.1 p.2 then some (e.1, p.1, p.2) else none

/-- R169: retires made before the strobe count, then every packet whose deadline has come is dealt with in one step. -/
def State.deadlines (s : State) : State :=
  let s1 := (List.range 16).foldl (fun (s : State) c => s.retireAll c (s.chanQ (chanKey c 1)).length) s
  let s2 := (s1.slotsWhere fun _ p => p.pkt.course + 2 ≤ s1.course).foldl (fun (s : State) e => s.slotOut e.1 e.2.1 e.2.2 State.overrunVerdict true) s1
  s2.closeQueues fun p => p.course + 2 ≤ s2.course

def State.deadlineDue (s : State) : Bool :=
  !(s.slotsWhere fun _ p => p.pkt.course + 2 ≤ s.course).isEmpty || s.clusterQ.any fun e => e.2.any fun p => p.course + 2 ≤ s.course

/-- R171, R172: the deferred frames whose time has come are presented again, in stamp order. -/
def State.readmit (s : State) : State :=
  (List.range 16).foldl (fun (s : State) x =>
    let (due, stay) := (s.defers.get [] x).partition fun p => p.course + 2 ≤ s.course
    let ps := due.mergeSort fun a b => a.key ≤ b.key
    let again := ps.map fun p => { p with course := s.course, keyStamp := s.time.courseStart, verdict := 0 }
    { s with defers := s.defers.set [] x stay, dispQ := s.dispQ ++ again,
             idents := s.idents ++ again.map fun p =>
               { port := p.port, seq := p.seq.toNat, course := s.course, offset := 0, len := 0, fcs := 0, code := 0, deferred := true,
                 stamp := p.stamp, cell := some p.cell, inner := none } }) s

/-! ### Maps and moves (R178, R179) -/

def State.mapLoad (s : State) (x v : Nat) : Bool × State :=
  let (y, bank, i) := s.mapPtr x
  let refuse := fun (r : Nat) => (false, (s.count F.dspMaploadStat_REFUSED x).setF F.dspMaploadStat_LAST_REASON x r)
  if bank = s.activeBank y then refuse 1
  else if x = 16 ∧ s.f F.scpStallState_STATE y = 0 then refuse 2
  else
    let s1 := (List.range 8).foldl (fun (s : State) j => { s with maps := s.maps.set 0 (mapKey y bank (8 * i + j)) (bits v (4 * j) 4) }) s
    (true, s1.setF F.dspMaploadPtr_INDEX x (i + 1))

/-- R178: a write of MAP.SWITCH. -/
def State.wrMapSwitch (s : State) (x : Nat) : State :=
  let staged := 1 - s.activeBank x
  let bad := (List.range 4096).any fun b => !s.inService (s.mapEntry x staged b) x
  let refuse := fun (r id : Nat) => ((s.setF F.dspStallMap_STATUS x 3).setF F.dspStallMap_REASON x r).setF F.dspStallMap_BUSY_ID x id
  if bad then refuse 1 0
  else
    match s.maintBusy (0x50 + x) with
    | some b => (refuse 2 b).maintRefuse (0x50 + x) b
    | none =>
      let s1 := ((s.maintStart (0x50 + x)).setF F.dspStallMap_STATUS x 1).setF F.dspStallMap_REASON x 0
      { s1 with moves := s1.moves ++ [{ stall := x, start := s.course + 1, live := false, oos := none }] }

/-- R373: while a stall is STARTED, its lowest-numbered cluster stays what it is. -/
def State.lowKept (s : State) (x : Nat) (s' : State) : Bool :=
  16 ≤ x || s.f F.scpStallState_STATE x != 2 || s'.lowCluster x == s.lowCluster x

/-- R181: a write of DSP_OOS with GO. -/
def State.wrOos (s : State) (v : Nat) : State :=
  let c := bits v 0 4
  let r := bits v 4 4
  let x := s.clusterOwner c
  if 16 ≤ x || r == c || !s.inService r x || !s.lowKept x (s.setF F.dspCluster_OWNER c 31) then s.setF F.dspOos_STATUS 0 3
  else
    match s.maintBusy (0x50 + x) with
    | some b => (s.setF F.dspOos_STATUS 0 3).maintRefuse (0x50 + x) b
    | none =>
      let s1 := (s.maintStart (0x50 + x)).setF F.dspOos_STATUS 0 1
      { s1 with moves := s1.moves ++ [{ stall := x, start := s.course + 1, live := false, oos := some (c, r) }] }

/-- R373: messages of channels 2 and 3 go with the supervisor role. -/
def State.roleMessages (s : State) (o n : Nat) : State :=
  [2, 3].foldl (fun (s : State) c =>
    (s.setChanQ (chanKey n c) (s.chanQ (chanKey n c) ++ s.chanQ (chanKey o c))).setChanQ (chanKey o c) []) s

/-- R373: at a boundary the supervisor role of a CREATED or STOPPED stall moves to its lowest-numbered cluster in service: the new
supervisor is reset and SERVICE, and the messages go with the role. -/
def State.roleMove (s : State) (x : Nat) : State :=
  let old := s.roles.get none x
  let served := (List.range 16).find? fun c => s.clusterOwner c == x && s.f F.dspCluster_STATE c != 0
  let new := match served with
    | some c => some c
    | none => s.lowCluster x
  let st := s.f F.scpStallState_STATE x
  let s1 := { s with roles := s.roles.set none x new }
  match old, new with
  | some o, some n =>
    if o = n ∨ ¬(st = 1 ∨ st = 3) then s1
    else
      let s2 := (s1.threadReset (n * 64)).setF F.schThread_CLASS (n * 64) 0
      if s2.clusterOwner o = x ∨ 16 ≤ s2.clusterOwner o then s2.roleMessages o n else s2
  | _, _ => s1

/-- R179, R181: a move is done once its fences have lifted and, for a cluster out of service, its packets are gone. -/
def State.moveDone (s : State) (m : Move) : State :=
  let s1 := { s with moves := s.moves.filter (· != m) }
  let s2 := match m.oos with
    | none => (s1.setF F.dspStallMap_STATUS m.stall 2)
    | some (c, _) =>
      ((s1.setF F.dspOos_STATUS 0 2).setF F.dspCluster_OWNER c 31).setF F.dspCluster_STATE c 0
  ((s2.raise (Ev.BUCKET_MOVE_DONE m.stall)).maintDone (0x50 + m.stall))

def State.moveCheck (s : State) (x : Nat) : State :=
  match s.moves.find? fun m => m.stall == x && m.live && m.oos.isNone with
  | some m => if s.fences.any fun f => f.stall == x then s else s.moveDone m
  | none => s

/-- R179, R181: at the boundary that begins course c a move takes effect. -/
def State.moveBegin (s : State) (m : Move) : State :=
  let x := m.stall
  let a := s.activeBank x
  let moved := fun (new : Nat → Nat) =>
    (List.range 4096).filterMap fun b => if s.mapEntry x a b = new b then none else some (Fence.mk x b (s.mapEntry x a b) (new b) s.course)
  let live := s.moves.map fun n => if n = m then { n with live := true } else n
  match m.oos with
  | none =>
    let fs := moved fun b => s.mapEntry x (1 - a) b
    ({ s with moves := live, fences := s.fences ++ fs, oldMaps := s.oldMaps ++ fs }.setF F.dspStallMap_ACTIVE x (1 - a)).moveCheck x
  | some (c, r) =>
    let fs := moved fun b => if s.mapEntry x a b = c then r else s.mapEntry x a b
    let s1 := fs.foldl (fun (s : State) f => { s with maps := s.maps.set 0 (mapKey x a f.bucket) r }) s
    { s1 with moves := live, fences := s1.fences ++ fs, oldMaps := s1.oldMaps ++ fs, gifts := s1.gifts.set none c none }.setF
      F.dspCluster_STATE c 2

/-- R178, R179, R181: the strobe's part. A cluster that leaves first takes the retire messages already sent; packets still on it are trapped. -/
def State.moveStrobe (s : State) : State :=
  let old := s.moves.filter fun m => m.live
  let s1 := { s with fences := s.fences.filter (fun f => s.course ≤ f.course), oldMaps := s.oldMaps.filter fun f => s.course ≤ f.course }
  let s2 := old.foldl (fun (s : State) m =>
    match m.oos with
    | none => s.moveCheck m.stall
    | some (c, _) =>
      let s1 := s.retireAll c (s.chanQ (chanKey c 1)).length
      ((s1.slotsWhere fun t _ => clusterOf t == c).foldl (fun (s : State) e => s.slotOut e.1 e.2.1 e.2.2 State.overrunVerdict true) s1).moveDone m) s1
  (s2.moves.filter fun m => !m.live && m.start ≤ s2.course).foldl (fun (s : State) m => s.moveBegin m) s2

/-! ### Cluster ownership (R180) -/

/-- R180: a map bank of a stall names a cluster. -/
def State.mapNames (s : State) (x c : Nat) : Bool :=
  (List.range 4096).any fun b => s.mapEntry x 0 b == c || s.mapEntry x 1 b == c

/-- R180, R172: a removal would be accepted: no map names the cluster, and no packet on it is registered. -/
def State.removable (s : State) (c : Nat) : Bool := !s.mapNames (s.clusterOwner c) c && (s.clusterPackets c).all fun e => e.2.2.pkt.handle.isNone

/-- R180, R413: a gift: the cluster is reset and its memories zeroed. -/
def State.gift (s : State) (c x : Nat) : State :=
  let s1 := s.clusterReset c
  let s2 := { s1 with sram := s1.sram.filter (fun e => e.1 / 262144 != c), clMem := s1.clMem.filter (fun e => e.1 / 524288 != c),
                      code := s1.code.filter (fun e => e.1 / 131072 != c),
                      gifts := s1.gifts.set none c (some { owner := x, zeroed := false }) }
  (s2.setF F.dspCluster_OWNER c x).setF F.dspCluster_STATE c 0

/-- R180, R373: a write of DSP_CLUSTERc.OWNER; `false` where it is refused. A supervisor's cluster passed straight to another stall is
reset at once, so its waiting messages go to the next cluster first. -/
def State.wrClusterOwner (s : State) (c v : Nat) : Bool × State :=
  let old := s.clusterOwner c
  let new := v % 32
  let away := (s.setF F.dspCluster_OWNER c 31).setF F.dspCluster_STATE c 0
  if old = new ∨ (16 ≤ old ∧ 16 ≤ new) then (true, s.setF F.dspCluster_OWNER c new)
  else if old < 16 ∧ !s.removable c then (false, s)
  else if !s.lowKept old away || !s.lowKept new (s.setF F.dspCluster_OWNER c new) then (false, s)
  else
    let s1 := if old < 16 then { away with gifts := away.gifts.set none c none } else s
    if 16 ≤ new then (true, s1.setF F.dspCluster_OWNER c new)
    else
      let s2 := match s.roles.get none old, s1.lowCluster old with
        | some o, some n => if o = c then s1.roleMessages o n else s1
        | _, _ => s1
      (true, s2.gift c new)

/-- R180, R373: at a boundary the zeroed clusters become IN_SERVICE, and supervisor roles move. -/
def State.giftStrobe (s : State) : State :=
  let s1 := (List.range 16).foldl (fun (s : State) c =>
    match s.gifts.get none c with
    | some g => if g.zeroed then { s with gifts := s.gifts.set none c none }.setF F.dspCluster_STATE c 1 else s
    | none => s) s
  (List.range 16).foldl (fun (s : State) x => s.roleMove x) s1

/-! ### Commands -/

def execDispatchDecide (s : State) : Res := run s fun s => s.dispatchOne

/-- R161: due once admission of the previous course has closed for the stall. -/
def execAdmissionClose (x : StallId) (s : State) : Res :=
  run s (onlyIf (s.course != 0 && s.closed x (s.course - 1)) fun s =>
    s.closeQueues fun p => p.stall == some x.val && s.closed x p.course)

def execSlotFill (c : Fin 16) (s : State) : Res := run s fun s => s.slotFill c

/-- R165: the thread's queue on channel 0 holds at most four messages. -/
def execPacketPost (t : Fin 1024) (i : Fin 4) (s : State) : Res :=
  run s (onlyIf (match (s.th t).slot i with
      | some p => p.phase == 0 && ((s.chanQ (chanKey (clusterOf t) 0)).filter fun m => m.dest == t.val).length < 4
      | none => false) fun s => s.packetPost t i)

def execRetire (c : Fin 16) (s : State) : Res := run s fun s => s.retireNext c

def execDeferReadmit (s : State) : Res := run s State.readmit

/-- R179: a fence lifts once the old cluster holds no registered packet of the bucket. -/
def execMoveFenceLift (x : StallId) (b : Fin 4096) (s : State) : Res :=
  run s (onlyIf (s.fences.any fun f => f.stall == x.val && f.bucket == b.val && !s.bucketOn x b f.old) fun s =>
    ({ s with fences := s.fences.filter fun f => !(f.stall == x.val && f.bucket == b.val) }).moveCheck x)

def execClusterZeroed (c : Fin 16) (s : State) : Res :=
  run s (onlyIf (s.gifts.get none c).isSome fun s =>
    { s with gifts := s.gifts.set none c ((s.gifts.get none c).map fun g => { g with zeroed := true }) })

end Sys2Proof.Machine
end

