-- ==== Sys2Proof/Machine/Egress.lean ====
section
/-! DEFINITION. The switch core: output requests, the gate's release, geometry, scheduling, the crossbar, transmission, ports going
down, recirculation and the loading registers (R74, R84, R304-R322, R64-R66). -/

namespace Sys2Proof.Machine

/-! ### Geometry tables and statistics (R322) -/

/-- The bits a table word has. -/
def geomMask (table i : Nat) : Nat :=
  if table = 0 then
    if i % 8 = 0 then 2 ^ 27 - 1 else if i % 8 = 7 then 0 else if i % 2 = 1 then 2 ^ 26 - 1 else 2 ^ 18 - 1
  else if table = 1 then 0xFF007F
  else 2 ^ 18 - 1

def State.setGeom (s : State) (table port i v : Nat) : State :=
  { s with geom := s.geom.set (geomReset table i) (geomKey table port i) (Nat.land v (geomMask table i)) }

def State.qcount (s : State) (port q k : Nat) : State :=
  { s with qstat := s.qstat.set 0 (qstatKey port q k) (satAdd 32 (s.qstat.get 0 (qstatKey port q k)) 1) }

/-! ### Active lists (R317-R319) -/

def OutPort.queue (p : OutPort) (q : Nat) : List OutReq := p.queues.get [] q

/-- The scheduling unit of a queue (R317). -/
def State.unitOf (s : State) (n q : Nat) : Nat := if s.isWide n then bits (s.geomWord 1 n q) 4 3 else q % 8

/-- R318: a frame's charge. -/
def chargeOf (len : Nat) : Nat := max len 60 + 4

/-- R318: the round robin's next choice. `charge u`: the charge of u's next eligible frame. -/
def Drr.pick (charge : Nat → Option Nat) (quantum : Nat → Nat) : Nat → Drr → Option (Nat × Drr)
  | 0, _ => none
  | fuel + 1, d =>
    match d.active with
    | [] => none
    | u :: rest =>
      match charge u with
      | none => Drr.pick charge quantum fuel { d with active := rest, visit := false }
      | some c =>
        let credit := d.deficit.get 0 u + (if d.visit then 0 else 64 * max 1 (quantum u))
        if c ≤ credit then some (u, { d with deficit := d.deficit.set 0 u (credit - c), visit := true })
        else Drr.pick charge quantum fuel { active := rest ++ [u], deficit := d.deficit.set 0 u credit, visit := false }

/-- R318: a frame of 9,216 bytes needs at most 145 visits of each member of the list. -/
def Drr.fuel (d : Drr) : Nat := (d.active.length + 1) * 150

/-- R318, R319: the active list follows what has frames and what is eligible: what is not eligible leaves it, and what has no frame loses
its deficit. -/
def Drr.sync (hasFrame eligible : Nat → Bool) (units : List Nat) (d : Drr) : Drr :=
  let stay := d.active.filter eligible
  { active := stay ++ units.filter (fun u => eligible u && !stay.contains u),
    deficit := d.deficit.filter (fun e => hasFrame e.1),
    visit := d.visit && d.active.head? == stay.head? && !stay.isEmpty }

/-- R318: a visited head whose next frame its deficit does not cover goes to the tail. -/
def Drr.settle (charge : Nat → Option Nat) (d : Drr) : Drr :=
  match d.active with
  | [] => d
  | u :: rest =>
    if d.visit && (match charge u with | some c => decide (d.deficit.get 0 u < c) | none => false) then
      { d with active := rest ++ [u], visit := false }
    else d

/-- R319: a priority of a port is held; 8 in the holds is PAUSE. -/
def State.prioHeld (s : State) (n p : Nat) : Bool := (s.port n).holds.any fun h => h.1 == p || h.1 == 8

def State.unitPrio (s : State) (n u : Nat) : Nat := bits (s.f F.swcPortPrioMap_MAP n) (3 * u) 3

def State.unitQuantum (s : State) (n u : Nat) : Nat :=
  if u < 4 then bits (s.f F.swcPortQuanta0_QUANTUM n) (8 * u) 8 else bits (s.f F.swcPortQuanta1_QUANTUM n) (8 * (u - 4)) 8

def State.unitStrict (s : State) (n u : Nat) : Bool := bits (s.f F.swcPortCfg_STRICT n) u 1 == 1

/-- The queues of a unit that hold frames. -/
def State.unitQueues (s : State) (n u : Nat) : List Nat :=
  ((s.outPort n).queues.filter fun e => s.unitOf n e.1 == u && !e.2.isEmpty).map (·.1)

/-- R319: the unit has an eligible frame. -/
def State.unitElig (s : State) (n u : Nat) : Bool := !(s.unitQueues n u).isEmpty && !s.prioHeld n (s.unitPrio n u)

def State.headCharge (s : State) (n q : Nat) : Option Nat := ((s.outPort n).queue q).head?.map fun r => chargeOf r.len

/-- R317: the next frame of a unit, with the unit's own round robin after it: its queue. -/
def State.unitNext (s : State) (n u : Nat) : Option (Nat × Drr) :=
  let d := (s.outPort n).subs.get Drr.reset u
  if s.isWide n then d.pick (s.headCharge n) (fun q => bits (s.geomWord 1 n q) 16 8) d.fuel
  else if ((s.outPort n).queue u).isEmpty then none
  else some (u, d)

def State.unitCharge (s : State) (n u : Nat) : Option Nat :=
  match s.unitNext n u with
  | some (q, _) => s.headCharge n q
  | none => none

/-- R318, R319: the active lists of a port follow its queues, its holds and its settings. -/
def State.drrSync (s : State) (n : Nat) : State :=
  let sub := fun (t : Tab Drr) (u : Nat) =>
    let qs := s.unitQueues n u
    t.set Drr.reset u (((t.get Drr.reset u).sync (fun q => qs.contains q) (fun q => qs.contains q && s.unitElig n u) qs).settle (s.headCharge n))
  let s1 := if s.isWide n then s.setOut n fun p => { p with subs := (List.range 8).foldl sub p.subs } else s
  s1.setOut n fun p =>
    { p with units := (p.units.sync (fun u => !(s.unitQueues n u).isEmpty) (fun u => s.unitElig n u && !s.unitStrict n u)
                        (List.range 8)).settle (s1.unitCharge n) }

/-! ### Frames sent (R80, R307) -/

/-- R307, R319: the first frame of the buffer whose priority is not held, if all its cells are present. -/
def State.nextReady (s : State) (n : Nat) : Option BufEnt :=
  match (s.outPort n).buf.find? fun e => 10 ≤ n || !s.prioHeld n e.prio with
  | some e => if e.want.isEmpty then some e else none
  | none => none

/-- R80, R307: a port that sends nothing begins its next frame; a frame begun is finished whatever is held meanwhile. -/
def State.txBegin (s : State) (n : Nat) : State :=
  if (s.outPort n).sending.isSome then s
  else
    match s.nextReady n with
    | some e => s.setOut n fun p => { p with buf := p.buf.erase e, sending := some e }
    | none => s

/-! ### Loading (R322) -/

/-- INDEX goes on by one, wrapping at the table's size. -/
def State.swcAdvance (s : State) (x : Nat) : State :=
  let (t, _, i) := s.swcPtr x
  s.setF F.swcLoadPtr_INDEX x ((i + 1) % geomSize t)

/-- R322: whether the register's owner may write the word. -/
def State.swcMayWrite (s : State) (x t port i v : Nat) : Bool :=
  x == 16 ||
    match t with
    | 0 => s.classOwner port (i / 8) == x && (i % 8 != 0 || bits v 22 5 == x)
    | 1 => i / 256 == x
    | _ => false

/-- A write of SWC_LOADx.DATA; `false` where it is refused. -/
def State.swcLoad (s : State) (x v : Nat) : Bool × State :=
  let (t, port, i) := s.swcPtr x
  let refuse := fun (r : Nat) => (false, (s.count F.swcLoadStat_REFUSED x).setF F.swcLoadStat_LAST_REASON x r)
  if 9 < port then refuse 2
  else if !s.swcMayWrite x t port i v then refuse 1
  else (true, ((s.setGeom t port i v).drrSync port).swcAdvance x)

def State.qstatClear (s : State) (x k : Nat) : State :=
  if s.qstatSeen x then
    { s with qstat := s.qstat.set 0 (qstatKey (s.f F.swcQstatSel_PORT x) (s.f F.swcQstatSel_QUEUE x) k) 0 }
  else s

/-! ### Output requests (R308-R310) -/

/-- The request registers of an accessor (R308). -/
structure OutRegs where
  handle : Nat
  len : Nat
  output : Nat
  colour : Nat
  l3 : Nat
  queue : Nat
  flags : Nat
  sa : Nat
  espOff : Nat
  ptEnd : Nat
  origin : Nat
  corr : Nat
  tag : Nat
  udp : Nat
  deriving DecidableEq, Repr

def State.outRegs (s : State) (a x : Nat) : OutRegs :=
  { handle := s.fA a F.swcOutReq0_HANDLE x, len := s.fA a F.swcOutReq1_LENGTH x, output := s.fA a F.swcOutReq1_OUTPUT x,
    colour := s.fA a F.swcOutReq1_COLOUR x, l3 := s.fA a F.swcOutReq1_L3 x, queue := s.fA a F.swcOutReq2_QUEUE x,
    flags := s.fA a F.swcOutReq2_FLAGS x, sa := s.fA a F.swcOutReq3_SA x, espOff := s.fA a F.swcOutReq3_ESP_OFF x,
    ptEnd := s.fA a F.swcOutReq4_PT_END x, origin := s.fA a F.swcOutReq4_ORIGIN_OFF x, corr := s.fA a F.swcOutReq4_CORR_OFF x,
    tag := s.fA a F.swcOutReq5_TAG x, udp := s.fA a F.swcOutReq5_UDP_OFF x }

/-- FLAGS: 0 ESP, 1 TWO_STEP, 2 ORIGIN, 3 CORR, 4 UDP. -/
def OutRegs.flag (r : OutRegs) (i : Nat) : Bool := bits r.flags i 1 == 1

/-- R304: whether an output takes requests of a register's owner. -/
def outOpen (x o : Nat) : Bool := o < 10 || (o < 12 && x == 16) || (12 ≤ o && x != 16)

/-- R308, code 2: whether the queue or class is the requester's. -/
def State.queueOwned (s : State) (x : Nat) (r : OutRegs) : Bool :=
  x == 16 || 10 ≤ r.output ||
    if s.isWide r.output then r.queue / 256 == x
    else s.classOwner r.output (r.queue % 8) == x || s.classOwner r.output (r.queue % 8) == 17

/-- R309: a request for a recirculation output names the chain. -/
def State.recircHeld (s : State) (h : Nat) : Bool := s.outReqs.any fun q => q.cell == h && 12 ≤ q.output

/-- R308: codes 1 to 5, the first that applies. `running`: the thread runs a packet. -/
def State.outCheck (s : State) (x : Nat) (r : OutRegs) (running : Bool) : Option Nat :=
  let h := r.handle
  let refs := s.refs h
  let e := r.len
  let ptp := r.flag 1 || r.flag 2 || r.flag 3 || r.flag 4
  if 2 ^ 18 ≤ h || e == 0 || 9212 < e || !outOpen x r.output || (r.output < 10 && !s.isWide r.output && 7 < r.queue) then some 1
  else if !(s.cell h).alloc || (if x == 16 then (s.cell h).owner == 17 else (s.cell h).owner != x) || !s.queueOwned x r then some 2
  else if 15 ≤ refs || s.recircHeld h || (12 ≤ r.output && refs != 0) then some 3
  else if 256 * (s.chain h).length < e || (r.output < 12 && s.f F.prtCfg_MAX_LEN r.output < e + 4) then some 4
  else if r.output == 10 || r.output == 11 then none
  else if (12 ≤ r.output && ptp) || (r.flag 2 && e < r.origin + 10) || (r.flag 3 && (e < r.corr + 8 || !running)) ||
      (r.flag 4 && e < r.udp + 8) then some 5
  else none

/-- R175: whether a course may have a bank. -/
def State.bankAllowed (s : State) (c : Nat) : Bool :=
  s.f F.stlStatus_STATE != 0 &&
    match s.gateFrom with
    | some k => k ≤ c
    | none => false

/-- R175: the course's bank, taking a free one where it has none yet. -/
def State.needBank (s : State) (c : Nat) : Option State :=
  if !s.bankAllowed c then none
  else if s.banks.any fun b => b.course == c then some s
  else if 4 ≤ s.banks.length then none
  else
    let slot := ((List.range 4).find? fun i => !s.banks.any fun b => b.slot == i).getD 0
    some { s with banks := s.banks ++ [{ course := c, slot := slot, outs := [] }] }

def State.bankOuts (s : State) (c : Nat) : List OutReq := ((s.banks.find? fun b => b.course == c).map (·.outs)).getD []

/-- The next-header value of the ESP trailer: the inner IP version in tunnel mode; the manual states none in transport mode. -/
def State.espNext (s : State) (r : OutRegs) (bs : List Byte) : Nat × State :=
  if s.saFlag r.sa 2 then (if (bs.getD (r.espOff + 16) 0).toNat / 16 = 6 then 41 else 4, s)
  else
    let (n, s1) := s.freeNat
    (n % 256, s1)

/-- The order key, port, sequence, packet and course of a request (R175, R176). -/
def State.outOrder (s : State) (cur : Option SlotPkt) : Nat × Nat × Nat × Option (Nat × Nat) × Nat :=
  match cur with
  | some p => (p.pkt.keyStamp.toNat, p.pkt.port, p.pkt.seq.toNat, some (p.pkt.port, p.pkt.seq.toNat), p.pkt.course)
  | none => (s.now, 12, 0, none, s.course)

/-- R176: the request enters the gate, after every request there. -/
def State.outPlace (s : State) (x : Nat) (r : OutRegs) (cur : Option SlotPkt) (cell len : Nat) (plain : List Byte) : State :=
  let (stamp, port, seq, pkt, course) := s.outOrder cur
  let idx := (s.bankOuts course).foldl (fun m q => max m (q.idx + 1)) 0
  let own := match cur with
    | some p => p.pkt.cell == r.handle && (s.chain r.handle).all fun c => !(s.cell c).written
    | none => false
  let colour := if r.colour = 3 then (match cur with | some p => min p.pkt.colour 2 | none => 0) else r.colour
  let q : OutReq :=
    { stamp := stamp, port := port, seq := seq, idx := idx, ofPkt := pkt, stall := x, output := r.output, queue := r.queue,
      colour := colour, colourReq := r.colour, l3 := r.l3, flags := if r.output = 10 ∨ r.output = 11 then r.flags % 2 else r.flags, sa := r.sa,
      espOff := r.espOff, ptEnd := r.ptEnd, origin := r.origin, corr := r.corr, tag := r.tag, udp := r.udp, len := len, cell := cell,
      own := own, plain := plain, reqLen := r.len, deferred := (match cur with | some p => p.pkt.deferred | none => false),
      recNo := 0, rxStamp := (match cur with | some p => p.pkt.stamp.toNat | none => 0), course := course, ce := false, live := cur.isNone }
  (State.setHeld { s with banks := s.banks.map fun (b : Bank) => if b.course = course then { b with outs := b.outs ++ [q] } else b } cell true)

/-- R132, R310: encryption into a new chain, charged to the stall; `none`: refused (R133), or no cell is free. -/
def State.outEncrypt (s : State) (x course dl : Nat) (r : OutRegs) : Option (Nat × Nat × List Byte) × State :=
  let bs := s.chainBytes r.handle 0 r.len
  if r.len < r.espOff || r.len < r.ptEnd || r.ptEnd ≤ r.espOff then (none, s)
  else
    let s := if s.saOwned x r.sa then s.saAsk r.sa dl true else s
    match s.espOutCheck x r.sa with
    | .ok key =>
      let (nh, s0) := s.espNext r bs
      let ct := s0.espBytes { index := r.sa, header := r.espOff, fin := r.ptEnd, l3 := r.l3, nh := nh } key (s0.saNat r.sa 8 4 + 1) bs
      match s0.takeCells none x (cellsFor ct.length) with
      | none => (none, s)
      | some (hs, s1) =>
        let s2 := (((s1.fillCells hs ct).espAssign x r.sa course).2).saAsk r.sa dl false
        (some (hs.headD 0, ct.length, bs), s2.relevel x)
    | why => (none, s.espRefuse x why)

/-- R308: a write of 1 to SWC_OUTx.CMD.GO. -/
def State.outRequest (s : State) (a : Accessor) (x : Nat) : State :=
  let acc := a.num
  let r := s.outRegs acc x
  let cur := match accThread a with
    | some t => ((s.th t).current).map (·.2)
    | none => none
  let code := fun (s : State) (c : Nat) => s.setFA acc F.swcOutResult_CODE x c
  match s.outCheck x r cur.isSome with
  | some c => code s c
  | none =>
    let course := (s.outOrder cur).2.2.2.2
    let full := code ((s.count F.dspGateFull_FULL).raise Ev.GATE_FULL) 7
    match s.needBank course with
    | none => full
    | some s1 =>
      if 32768 ≤ (s1.bankOuts course).length then full
      else
        let refused := fun (s : State) =>
          if (r.output == 10 || r.output == 11) && (r.flag 2 || r.flag 3) then s.count F.tmbTxtsStat_REFUSED else s
        let named := fun (s : State) => match accThread a with
          | some t => s.unPrivate t r.handle
          | none => s
        let done := fun (s : State) (h : Nat) => code (s.setFA acc F.swcOutResult_HANDLE x h) 0
        if r.flag 0 then
          match s1.outEncrypt x course (match cur with | some p => p.pkt.deadline | none => s.defaultDeadline 18 s.now) r with
          | (none, s2) => code { s2 with banks := s.banks } 6
          | (some (h, len, plain), s2) =>
            let s3 := named ((refused s2).outPlace x r cur h len plain)
            done (s3.refEnded r.handle) h
        else done (named ((refused s1).outPlace x r cur r.handle r.len [])) r.handle

/-! ### Records done, references ended -/

/-- R332: the record of a request is done: transmitted, handed on, refused or discarded. -/
def State.recordDone (s : State) (r : OutReq) : State :=
  { s with released := s.released.map fun (e : Released) =>
      if e.course = r.course then { e with done := e.done.modify [] r.output fun l => l.set r.recNo true } else e }

/-- R309: the reference of a request beyond the gate ends. -/
def State.outDone (s : State) (r : OutReq) : State := (s.recordDone r).refEnded r.cell

/-! ### Admission at release (R312-R316) -/

/-- R314: cells an entry counts for. -/
def OutReq.cells (r : OutReq) : Nat := cellsFor r.len

def depthOf (q : List OutReq) : Nat := q.foldl (fun a r => a + r.cells) 0

/-- R314: the LFSR's next value. -/
def lfsrNext (v : Nat) : Nat := (v * 2 + (bits v 15 1 + bits v 13 1 + bits v 12 1 + bits v 10 1) % 2) % 65536

/-- The entry joins its queue. -/
def State.joinQueue (s : State) (n q : Nat) (r : OutReq) : State :=
  ((s.setOut n fun p => { p with queues := p.queues.set [] q (p.queue q ++ [{ r with queue := q }]) }).qcount n q 0).drrSync n

def State.qdrop (s : State) (n q k : Nat) (r : OutReq) : State := (s.qcount n q k).outDone r

/-- R314. -/
def State.narrow (s : State) (n : Nat) (r : OutReq) : State :=
  let q := r.queue % 8
  let p := s.outPort n
  let w0 := s.geomWord 0 n (8 * q)
  let depth := depthOf (p.queue q)
  let avg0 := p.avg.get 0 q
  let avg := ((avg0 : Int) + ((depth : Int) - avg0) / (2 ^ bits w0 18 4 : Nat)).toNat
  let s1 := s.setOut n fun p => { p with avg := p.avg.set 0 q avg }
  let cap := bits w0 0 18
  let wm := s.geomWord 0 n (8 * q + 1 + 2 * r.colour)
  let mx := bits (s.geomWord 0 n (8 * q + 2 + 2 * r.colour)) 0 18
  let mn := bits wm 0 18
  if cap ≠ 0 ∧ cap < depth + r.cells then s1.qdrop n q 2 r
  else if mx = 0 then s1.joinQueue n q r
  else if mx ≤ avg then s1.qdrop n q 1 r
  else if avg < mn then s1.joinQueue n q r
  else
    let prob := bits wm 18 8 * (avg - mn) / (mx - mn)
    let s2 := s1.setOut n fun p => { p with lfsr := lfsrNext p.lfsr }
    if p.lfsr % 256 < prob then s2.qdrop n q 1 r else s2.joinQueue n q r

/-- R316: the ECN field of the header at REQ1.L3: none where it is not IPv4 or IPv6. -/
def ecnOf (bs : List Byte) (l3 : Nat) : Option Nat :=
  if l3 = 255 ∨ bs.length < l3 + 2 then none
  else
    match (bs.getD l3 0).toNat / 16 with
    | 4 => some ((bs.getD (l3 + 1) 0).toNat % 4)
    | 6 => some ((bs.getD (l3 + 1) 0).toNat / 16 % 4)
    | _ => none

/-- R316. -/
def State.wide (s : State) (n : Nat) (r : OutReq) : State :=
  let q := r.queue
  let prof := bits (s.geomWord 1 n q) 0 4
  let depth := depthOf ((s.outPort n).queue q)
  let cap := bits (s.geomWord 2 n (2 * prof + 1)) 0 18
  let mark := bits (s.geomWord 2 n (2 * prof)) 0 18
  if cap ≠ 0 ∧ cap < depth + r.cells then s.qdrop n q 2 r
  else if mark ≠ 0 ∧ mark ≤ depth then
    match ecnOf (s.chainBytes r.cell 0 r.len) r.l3 with
    | some 1 => (s.qcount n q 3).joinQueue n q { r with ce := true }
    | some 2 => (s.qcount n q 3).joinQueue n q { r with ce := true }
    | some 3 => (s.qcount n q 3).joinQueue n q r
    | _ => (s.qcount n q 4).joinQueue n q r
  else s.joinQueue n q r

/-- R305: a cell is asked for at its slice. -/
def State.askCell (s : State) (o h : Nat) : State :=
  let k := h / 16384 * 16 + o
  { s with xbar := s.xbar.set [] k (s.xbar.get [] k ++ [h]) }

/-- R312, R319, R321: one released entry at its output. At a port that is both down and silent it counts in TX_FLUSHED (R312's order). -/
def State.releaseEntry (s : State) (r : OutReq) : State :=
  let n := r.output
  if 12 ≤ n then
    if 512 ≤ (s.outPort n).fifo.length then (s.count F.swcRecircDropped_DROPPED (n - 12)).outDone r
    else (s.setOut n fun p => { p with fifo := p.fifo ++ [(r, false)] }).askCell n r.cell
  else if !s.linkUp n then (s.count F.prtTxFlushed_COUNT n).outDone r
  else if s.b F.prtStatus_SILENT n then (s.count F.prtTxSilent_COUNT n).outDone r
  else if 10 ≤ n then
    if 64 ≤ (s.outPort n).fifo.length then s.qdrop n 0 2 r
    else (s.setOut n fun p => { p with fifo := p.fifo ++ [(r, true)] }).qcount n 0 0
  else if s.isWide n then s.wide n r
  else s.narrow n r

/-- R176: the order in which entries leave the gate. -/
def OutReq.before (a b : OutReq) : Bool :=
  a.stamp < b.stamp || (a.stamp == b.stamp && (a.port < b.port || (a.port == b.port && (a.seq < b.seq || (a.seq == b.seq && a.idx ≤ b.idx)))))

/-- R330: the entries of a bank that release, in order, grouped by output, each with its record's index. -/
def releasing (outs : List OutReq) : List OutReq :=
  let sorted := (outs.filter (·.live)).mergeSort OutReq.before
  (List.range 16).flatMap fun o =>
    let g := sorted.filter fun r => r.output == o
    (List.zip (List.range g.length) g).map fun (i, r) => { r with recNo := i }

/-- R332: the records of a released course, none done. -/
def releasedOf (course : Nat) (rs : List OutReq) : Released :=
  { course := course, done := (List.range 16).foldl (fun t o => t.set [] o ((rs.filter fun r => r.output == o).map fun _ => false)) [] }

/-- An entry leaves its bank. -/
def State.leaveBank (s : State) (r : OutReq) : State :=
  { s with banks := s.banks.map fun (b : Bank) => if b.course = r.course then { b with outs := b.outs.filter fun q => q.idx != r.idx } else b }

/-- R176, R309: a bank is released, whole; the entries still to come go on holding their chains. -/
def State.releaseBank (s : State) (b : Bank) : State :=
  let rs := releasing b.outs
  let s1 := { s with released := s.released ++ [releasedOf b.course rs] }
  let s2 := rs.foldl (fun (s : State) r => (s.leaveBank r).releaseEntry r) s1
  (State.dropOuts { s2 with banks := s2.banks.filter fun c => c.course != b.course } (s2.bankOuts b.course)).freeSettled

/-- R176: the oldest accepted bank. -/
def State.nextBank (s : State) : Option Bank :=
  (s.banks.filter fun b => b.course < s.acceptedPlus).foldl (fun o b =>
    match o with
    | none => some b
    | some c => if b.course < c.course then some b else o) none

/-! ### Scheduling (R317) -/

/-- What the scheduler chooses (R317): the SCP queue, or a unit's queue, with the round robins after the choice. -/
inductive Choice where
  | scp (i : EgItem)
  | frame (r : OutReq) (q u : Nat) (units : Drr) (sub : Drr)
  | house (r : OutReq)
  deriving DecidableEq, Repr

/-- R317: strict units, then the round robin. -/
def State.chooseUnit (s : State) (n : Nat) : Option Choice :=
  let pack := fun (u : Nat) (d : Drr) =>
    match s.unitNext n u with
    | some (q, sub) => ((s.outPort n).queue q).head?.map fun r => Choice.frame r q u d sub
    | none => none
  let d := (s.outPort n).units
  match [7, 6, 5, 4, 3, 2, 1, 0].find? fun u => s.unitStrict n u && s.unitElig n u with
  | some u => pack u d
  | none =>
    match d.pick (s.unitCharge n) (s.unitQuantum n) d.fuel with
    | some (u, d1) => pack u d1
    | none => none

def State.egChoose (s : State) (n : Nat) : Option Choice :=
  let p := s.outPort n
  if 10 ≤ n then p.fifo.head?.map fun e => .house e.1
  else
    match p.scpQ with
    | i :: _ => if (n == 8 || n == 9) && !s.prioHeld n (s.f F.swcPortCfg_SCP_PRIO n) then some (.scp i) else s.chooseUnit n
    | [] => s.chooseUnit n

def placesUsed (p : OutPort) : Nat := (p.sending.toList ++ p.buf).foldl (fun a e => a + e.places) 0

/-- R307: the chosen frame takes its places, and its cells are asked for. -/
def State.bufPut (s : State) (n : Nat) (i : EgItem) (prio places : Nat) (want : List Nat) : State :=
  want.foldl (fun (s : State) h => s.askCell n h)
    (s.setOut n fun p => { p with buf := p.buf ++ [{ item := i, prio := prio, places := places, want := want }] })

/-- R307, R158: the chain of a chosen frame is walked to ask for its cells. A link entry beyond repair discards the frame. -/
def State.bufFrame (s : State) (n : Nat) (r : OutReq) (prio k : Nat) (ecc : Ecc) : State :=
  let cs := (s.chain r.cell).take r.cells
  match cs[k]? with
  | none => s.bufPut n (.out r) prio r.cells cs
  | some h =>
    let s1 := s.linkChecked h ecc
    if ecc == .double then s1.outDone r else s1.bufPut n (.out r) prio r.cells cs

/-- R307: EGRESS_SELECT; `k` is the cell of the chain whose link entry the walk finds as `ecc` says. -/
def State.egressSelect (s : State) (n k : Nat) (ecc : Ecc) : State :=
  let room := fun (c : Nat) => placesUsed (s.outPort n) + c ≤ 40
  match s.egChoose n with
  | none => s
  | some (.scp i) =>
    let c := match i with | .scp f => cellsFor f.bytes | .out r => r.cells
    if room c then ((s.setOut n fun p => { p with scpQ := p.scpQ.drop 1 }).bufPut n i (s.f F.swcPortCfg_SCP_PRIO n) c []).txBegin n else s
  | some (.house r) =>
    if room r.cells then (s.setOut n fun p => { p with fifo := p.fifo.drop 1 }).bufFrame n r 0 k ecc else s
  | some (.frame r q u d sub) =>
    if room r.cells then
      let s1 := s.setOut n fun p =>
        { p with queues := p.queues.set [] q ((p.queue q).drop 1), units := d, subs := p.subs.set Drr.reset u sub }
      (s1.drrSync n).bufFrame n r (s.unitPrio n u) k ecc
    else s

/-! ### The crossbar (R305, R306) -/

/-- The first of 16 at or after a pointer that meets a condition. -/
def firstFrom (p : Nat) (c : Nat → Bool) : Option Nat := ((List.range 16).map fun i => (p + i) % 16).find? c

/-- R305: one iteration of a plane. -/
def planeStep (req : Nat → Nat → Bool) (first : Bool) (pl : Plane) : Plane :=
  let freeS := fun (i : Nat) => !pl.matched.any fun e => e.1 == i
  let freeO := fun (o : Nat) => !pl.matched.any fun e => e.2 == o
  let grants := (List.range 16).filterMap fun o =>
    if freeO o then (firstFrom (pl.grant.get 0 o) fun i => freeS i && req i o).map fun i => (i, o) else none
  let accepts := (List.range 16).filterMap fun i =>
    (firstFrom (pl.accept.get 0 i) fun o => grants.contains (i, o)).map fun o => (i, o)
  let ptrs := fun (pl : Plane) (e : Nat × Nat) =>
    { pl with grant := pl.grant.set 0 e.2 ((e.1 + 1) % 16), accept := pl.accept.set 0 e.1 ((e.2 + 1) % 16) }
  let pl1 := if first then accepts.foldl ptrs pl else pl
  { pl1 with matched := pl1.matched ++ accepts }

/-- R305: three iterations. -/
def planeMatch (req : Nat → Nat → Bool) (pl : Plane) : Plane :=
  planeStep req false (planeStep req false (planeStep req true { pl with matched := [] }))

def State.plane (s : State) (i : Nat) : Plane := s.planes.get Plane.reset i

/-- A cell reaches its place: the first waiting frame of the output takes it. -/
def takeWant (h : Nat) : List BufEnt → List BufEnt
  | [] => []
  | e :: rest => if e.want.contains h then { e with want := e.want.erase h } :: rest else e :: takeWant h rest

def takeFirst (h : Nat) : List (OutReq × Bool) → List (OutReq × Bool)
  | [] => []
  | e :: rest => if !e.2 && e.1.cell == h then (e.1, true) :: rest else e :: takeFirst h rest

/-- One matched pair moves its cell. -/
def State.moveCell (s : State) (i o : Nat) : State :=
  let k := i * 16 + o
  match s.xbar.get [] k with
  | [] => s
  | h :: rest =>
    let s1 := { s with xbar := s.xbar.set [] k rest }.setOut o fun p =>
      if 12 ≤ o then { p with fifo := takeFirst h p.fifo } else { p with buf := takeWant h p.buf }
    (s1.count F.swcPortCells_COUNT o).txBegin o

/-- R305, R306: a cell time: the pairs matched before move, and each plane matches anew. -/
def State.cellTime (s : State) : State :=
  let s1 := ((s.plane 0).matched ++ (s.plane 1).matched).foldl (fun (s : State) e => s.moveCell e.1 e.2) s
  let waiting := fun (i o : Nat) => (s1.xbar.get [] (i * 16 + o)).length
  let p0 := planeMatch (fun i o => 0 < waiting i o) (s1.plane 0)
  let p1 := planeMatch (fun i o => (if p0.matched.contains (i, o) then 1 else 0) < waiting i o) (s1.plane 1)
  let s2 := { s1 with planes := (s1.planes.set Plane.reset 0 p0).set Plane.reset 1 p1 }
  let lone := (List.range 16).filter fun o =>
    ((List.range 16).any fun i => 0 < waiting i o) && !p0.matched.any (fun e => e.2 == o) && !p1.matched.any (fun e => e.2 == o)
  lone.foldl (fun (s : State) o => s.count F.swcPortUnmatched_COUNT o) s2

/-! ### Transmission (R64, R65, R311) -/

/-- The one's complement checksum at `c` of the 16-bit words from `from_` on, updated for the change from `old` to `new`; `z` is
the form a zero result takes. -/
def sumUpdate (from_ c z : Nat) (old new : List Byte) : List Byte :=
  let n := (old.length - from_ + 1) / 2
  let t := (List.range n).foldl (fun a j => a + (65535 - be16 old (from_ + 2 * j)) + be16 new (from_ + 2 * j)) (65535 - be16 old c)
  let r := 65535 - t % 65535
  patchBytes new c (beBytes 2 (if r = 65535 then z else r))

/-- R316: CE is set, with the IPv4 header checksum corrected. -/
def setCe (bs : List Byte) (l3 : Nat) : List Byte :=
  let b := (bs.getD (l3 + 1) 0).toNat
  if (bs.getD l3 0).toNat / 16 = 4 then sumUpdate l3 (l3 + 10) 0 (bs.take (l3 + 12)) (patchBytes (bs.take (l3 + 12)) (l3 + 1) [BitVec.ofNat 8 (b / 4 * 4 + 3)]) ++ bs.drop (l3 + 12)
  else patchBytes bs (l3 + 1) [BitVec.ofNat 8 (b / 64 * 64 + 48 + b % 16)]

/-- R63, R65: device time 80 ps after an egress stamp, as 48-bit seconds and 32-bit nanoseconds. -/
def State.originTime (s : State) (stamp : Nat) : List Byte :=
  let (sec, ns, frac) := deviceTime s.time.label stamp
  let ns1 := ns + (frac + 5243) / 65536
  beBytes 6 (sec + ns1 / 1000000000) ++ beBytes 4 (ns1 % 1000000000)

/-- R65: the one-step actions on a frame's bytes. The residence is signed: a timeline loaded anew between the stamps can make it negative. -/
def State.oneStep (s : State) (r : OutReq) (stamp : Nat) (bs : List Byte) : List Byte :=
  let b1 := if bits r.flags 2 1 = 1 then patchBytes bs r.origin (s.originTime stamp) else bs
  let b2 :=
    if bits r.flags 3 1 = 1 then
      patchBytes b1 r.corr (beBytes 8 (unsigned 64 ((beNat ((b1.drop r.corr).take 8) : Int) + ((stamp : Int) - r.rxStamp) * 4096)))
    else b1
  let v6 := r.l3 != 255 && (bs.getD r.l3 0).toNat / 16 == 6
  if bits r.flags 4 1 = 1 ∧ (v6 || be16 bs (r.udp + 6) ≠ 0) then sumUpdate r.udp (r.udp + 6) 65535 bs b2 else b2

/-- R311: the bytes a request sends, padded to 60, with the FCS. -/
def State.wireBytes (s : State) (r : OutReq) (stamp : Nat) : List Byte :=
  let b0 := s.chainBytes r.cell 0 r.len
  let b1 := s.oneStep r stamp b0
  let b2 := if r.ce then setCe b1 r.l3 else b1
  withFcs (b2 ++ List.replicate (60 - b2.length) 0)

/-- R64: the tag and stamp enter the port's stamp FIFO. -/
def State.stampPush (s : State) (n tag stamp : Nat) : State :=
  let q := s.txts.get [] n
  if 64 ≤ q.length then (s.count F.tmbTxtsStat_OVERFLOW n).raise (Ev.TXTS_OVERFLOW n)
  else { s with txts := s.txts.set [] n (q ++ [{ tag := word tag, stamp := BitVec.ofNat 64 stamp }]) }

/-- R42: the egress stamp at the reference plane. -/
def State.txStamp (s : State) (n : Nat) (at_ : Word64) : Nat :=
  (((at_.toNat * 4 : Nat) - signed 16 (s.f F.tmbPortAdj_TX_ADJ n)) / 4).toNat

def State.txCount (s : State) (n len : Nat) : State :=
  (s.count64 F.prtTxFramesLo_COUNT F.prtTxFramesHi_COUNT n 1).count64 F.prtTxBytesLo_COUNT F.prtTxBytesHi_COUNT n (max len 60 + 4)

/-- R309: FRAME_TRANSMIT_DONE. -/
def State.transmit (s : State) (n : Nat) (at_ : Word64) : State :=
  match (s.outPort n).sending with
  | none => s
  | some e =>
    let s1 := (s.setOut n fun p => { p with sending := none }).txBegin n
    match e.item with
    | .scp f => (s1.txCount n f.bytes).emit (.scp n f.session f.cls f.op f.seq f.sealed)
    | .out r =>
      let stamp := s.txStamp n at_
      let s2 := (s1.txCount n r.len).emit (.frame n (s.wireBytes r stamp))
      let s3 := if bits r.flags 1 1 = 1 ∧ n < 10 then s2.stampPush n r.tag stamp else s2
      (s3.outDone r).flowAll

/-! ### Ports going down (R74, R320) -/

/-- R320: one frame is flushed, counted in the queue it was in. -/
def State.flushReq (s : State) (n : Nat) (r : OutReq) : State :=
  ((s.count F.prtTxFlushed_COUNT n).qcount n (if n < 10 then r.queue else 0) 5).outDone r

/-- The cells an output had asked for are asked for no more. -/
def State.dropAsked (s : State) (o : Nat) : State := { s with xbar := s.xbar.filter fun e => e.1 % 16 != o }

/-- R320, R84: an output's queues are emptied; `each` deals with a frame of a request, `other` with an SCP frame. -/
def State.emptyOut (s : State) (n : Nat) (each : State → OutReq → State) (other : State → State) : State :=
  let p := s.outPort n
  let scp := p.scpQ.length + ((p.sending.toList ++ p.buf).filter fun e => match e.item with | .scp _ => true | _ => false).length
  let s1 := (s.setOut n fun p => { OutPort.reset with avg := p.avg, lfsr := p.lfsr }).dropAsked n
  let s2 := p.items.foldl each s1
  (List.range scp).foldl (fun (s : State) _ => other s) s2

/-- R74, R320: a port goes down. TRAINED goes with LINK, whatever took the port down (DESIGN CHOICE, log entry 118). -/
def State.portDown (s : State) (n : Nat) (rxPartial : Bool) : State :=
  let s1 := ((s.setF F.prtStatus_LINK n 0).setF F.prtStatus_FLUSHING n 1).setF F.prtStatus_TRAINED n 0
  let s2 := (s1.count F.prtStatus_LINK_DOWNS n).raise (Ev.LINK_DOWN n)
  let s3 := if rxPartial then s2.count F.prtRxTrunc_COUNT n else s2
  let s4 := s3.emptyOut n (fun s r => s.flushReq n r) (fun s => s.count F.prtTxFlushed_COUNT n)
  (s4.setHolds n []).setPort n fun p => { p with xoff := false, uncorr := 0 }

/-- R84: a port becomes silent: what is queued on it is discarded. -/
def State.silence (s : State) (n : Nat) : State :=
  (s.setF F.prtStatus_SILENT n 1).emptyOut n (fun s r => (s.count F.prtTxSilent_COUNT n).outDone r) id

/-- R71, R74, R77: a write of PRT_CFG: MODE only while ENABLE is 0, MAX_LEN within 64 to 9,216; ENABLE = 0 takes the port down. -/
def State.wrPrtCfg (s : State) (n v : Nat) (rxPartial : Bool) : State :=
  let on := s.b F.prtCfg_ENABLE n
  let v1 := putBits v 16 14 (min 9216 (max 64 (bits v 16 14)))
  let s1 := s.wr .prtCfg n 0 (if on then putBits v1 0 2 (s.f F.prtCfg_MODE n) else v1)
  if on && bits v 4 1 == 0 && s.linkUp n then s1.portDown n rxPartial else s1

/-- R74: FRAME_RECEIVED: the uncorrectable codewords of the frame may take the port down, and then the frame is cut off. -/
def State.frameCome (s : State) (n : Nat) (at_ : Word64) (bs : List Byte) (err : Bool) (corr uncorr : Nat) : State :=
  let s1 := s.countFec n corr uncorr
  if s1.fecDown n then (s1.passCells n (cellsFor bs.length)).portDown n true else s1.frameReceived n at_ bs err

/-! ### Recirculation (R321) -/

/-- R321, R452: the frame re-enters as a new frame of its stall, with the colour of the stall's level at the hand-over. -/
def State.recirc (s : State) (i : Nat) : State :=
  let o := 12 + i
  match (s.outPort o).fifo with
  | (r, true) :: rest =>
    let s1 := s.setOut o fun p => { p with fifo := rest }
    let seq := s1.f F.swcRecircSeq_SEQ i
    let stamp := BitVec.ofNat 64 s1.now
    let s2 := (s1.setF F.swcRecircSeq_SEQ i (seq + 1)).recordDone r
    let p0 := { newPkt stamp s2.course seq o (if i < 2 then r.len else r.len + 4) r.cell with colour := s.f F.pkmPoolStatus_LEVEL r.stall - 1 }
    let info : EspInfo := { outerCell := r.cell, outerLen := r.len + 4, cursor := r.espOff, l3 := r.l3, l4 := 255, spi := 0, udp := false }
    let spi := be32 (s2.chainBytes r.cell 0 r.len) r.espOff
    let s3 := s2.setHeld r.cell false
    let log := fun (s : State) =>
      { s with idents := s.idents ++ [{ port := o, seq := seq, course := s.course, offset := (stamp - s.time.courseStart).toNat,
                                        len := r.len + 4, fcs := 0, code := 0, deferred := false, stamp := stamp,
                                        cell := some r.cell, inner := none }] }
    if i < 2 then
      (log { s3 with reparseQ := s3.reparseQ ++ [{ p0 with stall := some r.stall, w14 := r.l3 }] })
    else if s3.spiStall spi = some r.stall then
      (log { s3 with cipherQ := s3.cipherQ ++ [{ p0 with stall := some r.stall, esp := some info }] })
    else ((s3.count F.swcRecircForeign_FOREIGN i).refEnded r.cell)
  | _ => s

/-! ### Commands -/

/-- R176: due once a course whose bank is not yet released is accepted. -/
def execGateRelease (s : State) : Res :=
  run s fun s =>
    match s.nextBank with
    | some b => s.releaseBank b
    | none => s

def execCellTime (s : State) : Res := run s State.cellTime

def execEgressSelect (n : Fin 12) (k : Fin 36) (ecc : Ecc) (s : State) : Res := run s fun s => s.egressSelect n k ecc

/-- R309: the frame being sent is out; `at_` is the instant of its delimiter's first bit at the balls. -/
def execFrameTransmitDone (n : Fin 12) (at_ : Word64) (s : State) : Res := run s (onlyIf (s.linkUp n) fun s => s.transmit n at_)

/-- R97, R321: due while the queue it hands on to has room. -/
def execRecircReentry (i : Fin 4) (s : State) : Res :=
  run s (onlyIf (if i.val < 2 then s.reparseQ.length < 256 else s.cipherQ.length < 512) fun s => s.recirc i)

/-- R77: `at_` is the start-of-frame instant at the balls; a line error, and the FEC codewords corrected and uncorrectable in the frame, are
what the receiver found. -/
def execFrameReceived (n : Fin 12) (at_ : Word64) (bytes : List Byte) (err : Bool) (corr uncorr : Byte) (s : State) : Res :=
  run s (onlyIf (s.linkUp n && s.rxDue n at_) fun s => s.frameCome n at_ bytes err corr.toNat uncorr.toNat)

/-- R74: the PCS has lost alignment for 2 µs, or uncorrectable codewords outside frames, counted here, reach UNCORR_THR in the course. -/
def execLinkDown (n : Fin 12) (rxPartial align : Bool) (uncorr : Word) (s : State) : Res :=
  run s (onlyIf (s.linkUp n) fun s =>
    let s1 := s.countFec n 0 uncorr.toNat
    if align || s1.fecDown n then s1.portDown n rxPartial else s1)

end Sys2Proof.Machine
end

