-- ==== Sys2Proof/Machine/Pause.lean ====
section
/-! DEFINITION. PAUSE and PFC as they act on transmission (R79-R82). -/

namespace Sys2Proof.Machine

/-- R80, R319: the holds change; what they hold leaves the active lists, and what they let go may be sent. -/
def State.holdsNow (s : State) (n : Nat) (hs : List (Nat × Nat)) : State := ((s.setHolds n hs).drrSync n).txBegin n

/-- R79, R80, R84: the MAC acts on the oldest received MAC Control frame. -/
def State.pauseReceived (s : State) (n : Nat) : State :=
  match (s.port n).mac with
  | [] => s
  | m :: rest =>
    let s1 := s.setPort n fun p => { p with mac := rest }
    let hs := if n < 10 ∧ s.f F.prtStatus_SILENT n = 0 then holdsOf (s.f F.prtCfg_FC_MODE n) m else []
    let xoff := hs.any fun h => h.2 != 0
    let s2 := if xoff then s1.setPort n fun p => { p with quiet := 0 } else s1
    if (s.port n).wdIgnore then s2
    else s2.holdsNow n (hs.foldl (fun acc h => holdSet s.now acc h.1 h.2) (s.port n).holds)

/-- R80: a hold has run out within the present lath. -/
def State.holdExpired (s : State) (n prio : Nat) : Bool :=
  (s.port n).holds.any fun h => h.1 == prio && h.2 < (s.now + 1024) * 100

/-- R82: the pause watchdog's condition: held without a break for WD_COURSES whole courses. -/
def State.stormDue (s : State) (n : Nat) : Bool :=
  let p := s.port n
  let wd := s.f F.prtFc_WD_COURSES n
  match p.heldFor with
  | some c => wd != 0 && !p.wdIgnore && decide (wd ≤ c)
  | none => false

/-- R82: the watchdog trips. The holds that run are dropped with it (DESIGN CHOICE, log entry 119). -/
def State.pauseStorm (s : State) (n : Nat) : State :=
  let s1 := (s.holdsNow n []).setPort n fun p => { p with wdIgnore := true, quiet := 0 }
  (s1.count F.prtPauseWd_COUNT n).raise (Ev.PAUSE_STORM n)

/-! ### Commands -/

def execPauseReceived (n : Fin 12) (s : State) : Res := run s fun s => s.pauseReceived n

/-- R80: `prio` 8 is PAUSE's hold of all traffic. -/
def execPauseHoldExpiry (n : Fin 12) (prio : Fin 9) (s : State) : Res :=
  run s (onlyIf (s.holdExpired n prio) fun s => s.holdsNow n (holdSet s.now (s.port n).holds prio 0))

/-- R81: every PAUSE_QUANTA × 2.56 ns while the condition holds. -/
def execXoffRepeat (n : Fin 12) (s : State) : Res :=
  let q := s.f F.prtFc_PAUSE_QUANTA n
  run s (onlyIf ((s.port n).xoff && s.xoffCond n && (s.port n).xoffAt * 100 + q * 4096 < (s.now + 1024) * 100) fun s =>
    (s.setPort n fun p => { p with xoffAt := s.now }).sendXoff n q)

def execPauseStorm (n : Fin 12) (s : State) : Res := run s (onlyIf (s.stormDue n) fun s => s.pauseStorm n)

end Sys2Proof.Machine
end

