-- ==== Sys2Proof/Machine/Settle.lean ====
section
/-! DEFINITION. Settlement: building and encoding a course's settlement, acceptance, the journal, the delivery ledger, the Elvant
link, the shadow, takeover and joining (R323-R350). -/

namespace Sys2Proof.Machine

def State.setStl (s : State) (f : Stl → Stl) : State := { s with stl := f s.stl }

/-- STL_STATUS.STATE (R338): 0 OFF, 1 SOLO, 2 JOINING, 3 LEAD, 4 SHADOW, 5 ALONE, 6 HELD. -/
def State.stlState (s : State) : Nat := s.f F.stlStatus_STATE

/-- R338: packet programs run in the state. -/
def stlRuns (st : Nat) : Bool := st == 1 || st == 3 || st == 5

/-- A device of a pair: any state but OFF and SOLO. -/
def stlTwin (st : Nat) : Bool := 2 ≤ st

/-! ### The settlement format (R326-R330) -/

/-- The bytes of words, the earlier byte in [15:8] (R164). -/
def wordBytes (ws : List Word) : List Byte := ws.flatMap fun w => [BitVec.ofNat 8 (w.toNat / 256), BitVec.ofNat 8 w.toNat]

/-- Bytes as words, the last padded with zero. -/
def bytesWords (bs : List Byte) : List Word :=
  (List.range ((bs.length + 1) / 2)).map fun j => word ((bs.getD (2 * j) 0).toNat * 256 + (bs.getD (2 * j + 1) 0).toNat)

/-- R326: a section. -/
def section_ (type port count : Nat) (body : List Word) : List Word :=
  if count = 0 then [] else [word (type + port * 16), word count] ++ words32 body.length ++ body

/-- R328: run words over run codes. -/
def runWords : List Nat → List (Nat × Nat)
  | [] => []
  | c :: rest =>
    match runWords rest with
    | (d, n) :: more => if c = d ∧ n < 8191 then (d, n + 1) :: more else (c, 1) :: (d, n) :: more
    | [] => [(c, 1)]

def runsBody (es : List Ident) : List Word := (runWords (es.map (·.code))).map fun r => word (r.1 + r.2 * 8)

/-- R327: the entries of a port's IDENTITY section, in ingress-sequence order. -/
def identsOf (es : List Ident) (port : Nat) : List Ident :=
  (es.filter fun e => e.port == port && !e.deferred).mergeSort fun a b => a.seq ≤ b.seq

/-- R326: the DEFERRED entries. -/
def deferredOf (es : List Ident) : List Ident := es.filter (·.deferred)

def identWords (e : Ident) : List Word := words32 (e.offset % 2 ^ 18 + e.len * 2 ^ 18) ++ words32 e.fcs

def settlePorts : List Nat := [0, 1, 2, 3, 4, 5, 6, 7, 8, 9, 12, 13, 14, 15]

/-- R329. -/
def deltaWords (d : Delta) : List Word :=
  let mask := d.words.foldl (fun a e => a + 2 ^ (e.1 % 16)) 0
  [word d.index, word (d.index / 65536 % 32 + d.chunk * 32 + boolNat d.sa * 256), word mask] ++ d.words.map (·.2)

/-- R347: "Ledger entry". -/
def ledgerWords (e : LedgerEnt) : List Word :=
  let ws := bytesWords e.data
  words64 e.seq ++ [word e.data.length, word e.tag] ++ words32 (e.handle + boolNat e.handleValid * 2 ^ 20) ++ ws ++
    List.replicate ((8 - ws.length % 8) % 8) 0

/-- REQ1-REQ5 of a request. -/
def reqWords (r : OutReq) : List Word :=
  words32 (r.reqLen + r.output * 2 ^ 16 + r.colourReq * 2 ^ 20 + r.l3 * 2 ^ 24) ++ words32 (r.queue + r.flags * 2 ^ 16) ++
    words32 (r.sa + r.espOff * 2 ^ 24) ++ words32 (r.ptEnd + r.origin * 2 ^ 16 + r.corr * 2 ^ 24) ++ words32 (r.tag + r.udp * 2 ^ 16)

/-- R330: "Output record". -/
def recWords (r : OutRec) : List Word :=
  [word (boolNat r.inline + r.port * 2), word r.index] ++ reqWords r.req ++ [word r.bytes.length] ++ bytesWords r.bytes

/-- The sections but the last, which carries the CRC of every word before it (R326). -/
def Settlement.front (b : Settlement) : List Word :=
  section_ 1 0 1 (words64 b.course ++ [word b.state]) ++
    settlePorts.flatMap (fun p => let es := identsOf b.idents p; section_ 2 p es.length (es.flatMap identWords)) ++
    settlePorts.flatMap (fun p => let ws := runsBody (identsOf b.idents p); if p = 15 then [] else section_ 3 p ws.length ws) ++
    (let ws := runsBody (deferredOf b.idents); section_ 3 15 ws.length ws) ++
    (let es := deferredOf b.idents; section_ 4 15 es.length (es.flatMap fun e => [word e.port, 0] ++ words32 e.seq)) ++
    section_ 5 0 b.deltas.length (b.deltas.flatMap deltaWords) ++
    (List.range 16).flatMap (fun x => let es := b.ledger.filter fun e => e.stall == x; section_ 6 x es.length (es.flatMap ledgerWords)) ++
    section_ 7 0 b.outs.length (b.outs.flatMap recWords) ++
    section_ 8 0 b.saSeq.length (b.saSeq.flatMap fun e => words32 e.1 ++ words64 e.2) ++
    (List.range 16).flatMap (fun x => (b.retire.filter fun e => e.1 == x).flatMap fun e => section_ 9 x 1 (words64 e.2))

def Settlement.words (b : Settlement) : List Word :=
  let ws := b.front ++ [word 15, 1] ++ words32 2
  ws ++ words32 (crc32c (wordBytes ws))

/-! ### Reading a settlement -/

def wAt (ws : List Word) (i : Nat) : Nat := (ws.getD i 0).toNat
def w32At (ws : List Word) (i : Nat) : Nat := wAt ws i + wAt ws (i + 1) * 65536
def w64At (ws : List Word) (i : Nat) : Nat := w32At ws i + w32At ws (i + 2) * 2 ^ 32

/-- The sections of a settlement: TYPE, port, count and body. -/
def sections : Nat → List Word → List (Nat × Nat × Nat × List Word)
  | 0, _ => []
  | n + 1, ws =>
    if ws.length < 4 then []
    else
      let len := w32At ws 2
      (wAt ws 0 % 16, wAt ws 0 / 16 % 16, wAt ws 1, (ws.drop 4).take len) :: sections n (ws.drop (4 + len))

/-- Groups of `n` words. -/
def groups (n : Nat) : Nat → List Word → List (List Word)
  | 0, _ => []
  | k + 1, ws => if ws.isEmpty then [] else ws.take n :: groups n k (ws.drop n)

def runCodes (body : List Word) : List Nat := body.flatMap fun w => List.replicate (w.toNat / 8) (w.toNat % 8)

/-- The entries of a port with their run codes. -/
def readIdents (course port : Nat) (body : List Word) (codes : List Nat) : List Ident :=
  let gs := groups 4 body.length body
  (List.zip (List.range gs.length) gs).map fun (i, g) =>
    { port := port, seq := i, course := course, offset := w32At g 0 % 2 ^ 18, len := w32At g 0 / 2 ^ 18, fcs := w32At g 2,
      code := codes.getD i 0, deferred := false, stamp := 0, cell := none, inner := none }

def readDeferred (course : Nat) (body : List Word) (codes : List Nat) : List Ident :=
  let gs := groups 4 body.length body
  (List.zip (List.range gs.length) gs).map fun (i, g) =>
    { port := wAt g 0 % 16, seq := w32At g 2, course := course, offset := 0, len := 0, fcs := 0, code := codes.getD i 0,
      deferred := true, stamp := 0, cell := none, inner := none }

def maskWords (chunk mask : Nat) (ws : List Word) : Tab Word :=
  let js := (List.range 16).filter fun j => bits mask j 1 == 1
  List.zip (js.map fun j => 16 * chunk + j) ws

def popCount (m : Nat) : Nat := ((List.range 16).filter fun j => bits m j 1 == 1).length

def readDeltas (course : Nat) : Nat → List Word → List Delta
  | 0, _ => []
  | n + 1, ws =>
    if ws.length < 3 then []
    else
      let chunk := wAt ws 1 / 32 % 8
      let k := popCount (wAt ws 2)
      { course := course, sa := wAt ws 1 / 256 % 2 == 1, index := wAt ws 0 + wAt ws 1 % 32 * 65536, chunk := chunk,
        words := maskWords chunk (wAt ws 2) ((ws.drop 3).take k), direct := false } :: readDeltas course n (ws.drop (3 + k))

def readLedger (course stall : Nat) : Nat → List Word → List LedgerEnt
  | 0, _ => []
  | n + 1, ws =>
    if ws.length < 8 then []
    else
      let len := wAt ws 4 % 4096
      let k := (len + 15) / 16 * 8
      { stall := stall, course := course, seq := w64At ws 0, tag := wAt ws 5, handle := w32At ws 6 % 2 ^ 20,
        handleValid := wAt ws 7 / 16 % 2 == 1, data := (wordBytes ((ws.drop 8).take k)).take len } :: readLedger course stall n (ws.drop (8 + k))

/-- A request as its record gives it. -/
def readReq (course : Nat) (ws : List Word) : OutReq :=
  let q1 := w32At ws 0
  let q2 := w32At ws 2
  let q3 := w32At ws 4
  let q4 := w32At ws 6
  let q5 := w32At ws 8
  { stamp := 0, port := 0, seq := 0, idx := 0, ofPkt := none, stall := 16, output := q1 / 2 ^ 16 % 16, queue := q2 % 4096,
    colour := min (q1 / 2 ^ 20 % 4) 2, l3 := q1 / 2 ^ 24, flags := q2 / 2 ^ 16 % 32, sa := q3 % 2 ^ 21, espOff := q3 / 2 ^ 24,
    ptEnd := q4 % 2 ^ 14, origin := q4 / 2 ^ 16 % 256, corr := q4 / 2 ^ 24, tag := q5 % 65536, udp := q5 / 2 ^ 16 % 256,
    colourReq := q1 / 2 ^ 20 % 4, len := q1 % 2 ^ 14, cell := 0, own := false, plain := [], reqLen := q1 % 2 ^ 14, deferred := false,
    recNo := 0, rxStamp := 0, course := course, ce := false, live := true }

def readRecs (course : Nat) : Nat → List Word → List OutRec
  | 0, _ => []
  | n + 1, ws =>
    if ws.length < 13 then []
    else
      let len := wAt ws 12
      { inline := wAt ws 0 % 2 == 1, port := wAt ws 0 / 2 % 16, index := wAt ws 1, req := readReq course (ws.drop 2),
        bytes := (wordBytes (ws.drop 13)).take len } :: readRecs course n (ws.drop (13 + (len + 1) / 2))

/-- R336: the settlement its words spell, if its CRC is right. -/
def readSettlement (ws : List Word) : Option Settlement :=
  let n := ws.length
  let front := ws.take (n - 2)
  if n < 15 || w32At ws (n - 2) != crc32c (wordBytes front) then none
  else
    let ss := sections n ws
    let body := fun (t p : Nat) => ((ss.find? fun e => e.1 == t && e.2.1 == p).map fun e => e.2.2.2).getD []
    let all := fun (t : Nat) => ss.filter fun e => e.1 == t
    let course := w64At (body 1 0) 0
    some { course := course, state := wAt (body 1 0) 4,
           idents := (settlePorts.flatMap fun p => readIdents course p (body 2 p) (if p = 15 then [] else runCodes (body 3 p))) ++
             readDeferred course (body 4 15) (runCodes (body 3 15)),
           deltas := readDeltas course n (body 5 0),
           ledger := (all 6).flatMap fun e => readLedger course e.2.1 n e.2.2.2,
           outs := readRecs course n (body 7 0),
           saSeq := (groups 6 n (body 8 0)).map fun g => (w32At g 0, w64At g 2),
           retire := (all 9).map fun e => (e.2.1, w64At e.2.2.2 0) }

/-! ### Elvant frames sent (R331, R332) -/

/-- The lanes that are up, T0 first. -/
def State.upLanes (s : State) : List Nat := [0, 1].filter fun l => s.linkUp (10 + l)

/-- Payload words of a frame; the manual gives no words for the other bodies, whose size is open. -/
def State.bodyWords (s : State) : ElvantBody → Nat × State
  | .words ws => (ws.length, s)
  | _ => let (n, s1) := s.freeNat; (n % 4577, s1)

/-- R332: the transmit backlog of a lane in bytes; it drains at the 100 Gbit/s of a lane, 800 bytes a lath (DEDUCED, log entry 133). -/
def State.laneLoad (s : State) (lane : Nat) : Nat :=
  let e := s.stl.backlog.get (0, 0) lane
  e.1 - 800 * ((s.now - e.2) / 1024)

def State.laneAdd (s : State) (lane n : Nat) : State :=
  s.setStl fun u => { u with backlog := u.backlog.set (0, 0) lane (s.laneLoad lane + n, s.now) }

/-- One Elvant frame leaves on a lane. -/
def State.sendOn (s : State) (lane kind course seg : Nat) (last rel : Bool) (body : ElvantBody) : State :=
  let (n, s1) := s.bodyWords body
  let f : Elvant :=
    { lane := Fin.ofNat 2 lane, version := 1, pair := BitVec.ofNat 32 (s.f F.stlPair_PAIR_ID), state := Fin.ofNat 8 s.stlState,
      strap := s.b F.stlStatus_STRAP, course := BitVec.ofNat 64 course, segment := word seg, last := last, released := rel, body := body }
  ((s1.txCount (10 + lane) (46 + 2 * n)).laneAdd lane (max (46 + 2 * n) 60 + 4)).emit (.elvant kind f)

/-- A frame on the first lane that is up. -/
def State.sendElvant (s : State) (kind course : Nat) (body : ElvantBody) (rel : Bool := false) : State :=
  match s.upLanes with
  | l :: _ => s.sendOn l kind course 0 false rel body
  | [] => s

/-- A frame on every lane that is up. -/
def State.sendAll (s : State) (kind course : Nat) (body : ElvantBody) : State :=
  s.upLanes.foldl (fun (s : State) l => s.sendOn l kind course 0 false false body) s

/-- R332: of the lanes that are up, the one with the smaller backlog, T0 taking ties. -/
def State.freeLane (s : State) : Option Nat :=
  match s.upLanes with
  | [a, b] => if s.laneLoad b < s.laneLoad a then some b else some a
  | ls => ls.head?

/-- R332: the SETTLE segments of a course from one segment on, each on the lane with the smaller backlog. -/
def State.sendSettle (s : State) (b : Settlement) (from_ : Nat) : State :=
  let ws := b.words
  let gs := groups 4576 ws.length ws
  (List.range gs.length).foldl (fun (s : State) i =>
    match (if from_ ≤ i then s.freeLane else none) with
    | some l => s.sendOn l 2 b.course i (i + 1 == gs.length) false (.words (gs.getD i []))
    | none => s) s

/-! ### The journal (R343) -/

/-- A chunk that a delta names has been written back since. -/
def State.chunkClean (s : State) (d : Delta) : Bool :=
  d.sa || !((s.stn ++ s.stnWait).any fun e => e.1 == d.index && e.2.dirty.contains d.chunk)

/-- R343, R345: space of released records whose chunks are written back, and of earlier generations, is free. -/
def State.journalPrune (s : State) : State :=
  { s with journal := s.journal.filter fun r =>
      r.gen == s.f F.stlJournalFree_GEN && !(r.complete && r.released && r.body.deltas.all fun d => s.chunkClean d) }

/-- R343, R350: the course is accepted by the journal. -/
def State.byJournal (s : State) (course : Nat) : Bool := s.stlState != 3 || decide (course < s.stl.ackFrom)

def inJournal (js : List JRec) (course gen : Nat) : Bool := js.any fun r => r.body.course == course && r.gen == gen

/-- Words laid from a byte offset of a ring on, cut at lines: the byte address of each part and its words. -/
def ringParts (base size : Nat) : Nat → Nat → List Word → List (Nat × List Word)
  | 0, _, _ => []
  | n + 1, off, ws =>
    let k := (64 - off % 64) / 2
    if ws.isEmpty then [] else (base + off % size, ws.take k) :: ringParts base size n (off + 2 * k) (ws.drop k)

/-- The parts of the journal's ring that words from an offset on take. -/
def State.journalParts (s : State) (off : Nat) (ws : List Word) : List (Nat × List Word) :=
  ringParts (s.f F.stlJournalBase_BASE * 4096) (max 1 (s.f F.stlJournalSize_MIB) * 2 ^ 20) (ws.length + 1) off ws

/-- R343: a record's words: length, RELEASED, generation, and the settlement. -/
def JRec.ring (r : JRec) : List Word := words32 r.words ++ [word (boolNat r.released), word r.gen] ++ r.body.words

/-- The offset at which the next record begins: after the latest (DESIGN CHOICE, log entry 134). -/
def State.journalEnd (s : State) : Nat :=
  match s.journal.getLast? with
  | some r => (r.at_ + r.bytes) % (max 1 (s.f F.stlJournalSize_MIB) * 2 ^ 20)
  | none => 0

/-- R365: the journal's requests carry the strobe of course k + 3. -/
def State.strobeDeadline (s : State) (k : Nat) : Nat :=
  BitVec.toNat (BitVec.ofInt 32 (((s.time.courseStart.toNat : Int) + ((k + 3 : Nat) - (s.course : Int)) * courseUnits s.time.len) / 128))

/-- R343: the settlement unit's requests still wait in the arbiter. -/
def State.journalWaits (s : State) : Bool := s.ctl.units.any fun u => u.requester == 19 && !u.read

def State.journalAsk (s : State) (k : Nat) (ps : List (Nat × List Word)) : State :=
  ps.foldl (fun (s : State) p => s.unitAsk 19 p.1 (s.strobeDeadline k) false p.2) s

def State.setRec (s : State) (r : JRec) (f : JRec → JRec) : State :=
  { s with journal := s.journal.map fun (q : JRec) => if q.gen = r.gen ∧ q.body.course = r.body.course then f q else q }

/-- R343: the oldest unfinished record is written: all but its END section, and that only once every earlier write is acknowledged. -/
def State.journalWrite (s : State) : State :=
  match s.journal.find? fun r => !r.complete with
  | some r =>
    if s.journalWaits || 2 ≤ r.stage then s
    else
      let ws := r.ring
      let n := ws.length - 6
      if r.stage = 0 then (s.journalAsk r.body.course (s.journalParts r.at_ (ws.take n))).setRec r fun q => { q with stage := 1 }
      else (s.journalAsk r.body.course (s.journalParts (r.at_ + 2 * n) (ws.drop n))).setRec r fun q => { q with stage := 2 }
  | none => s

/-- R343: a write of the journal gets an error response: its record is never complete. -/
def State.journalRefused (s : State) : State :=
  match s.journal.find? fun r => !r.complete with
  | some r => s.setRec r fun q => { q with stage := 3 }
  | none => s

/-- R344: the settlement of a record as the ring holds it, where its CRC is right. -/
def State.journalRead (s : State) (r : JRec) : Option Settlement :=
  let ps := s.journalParts (r.at_ + 8) (List.replicate r.words 0)
  readSettlement (ps.flatMap fun p => (List.range p.2.length).map fun i => s.dramWord (p.1 + 2 * i))

/-- R343: records are begun in course order while the ring has space. -/
def State.journalNext (s : State) : State :=
  (s.stl.settled.foldl (fun (s : State) b =>
    let gen := s.f F.stlJournalFree_GEN
    let r : JRec := { body := b, gen := gen, words := b.words.length, at_ := s.journalEnd, stage := 0, released := false, complete := false }
    if !s.byJournal b.course || inJournal s.journal b.course gen then s
    else if (s.stl.settled.any fun c => c.course < b.course && !inJournal s.journal c.course gen) ||
        s.f F.stlJournalSize_MIB * 2 ^ 20 < s.journalUsed + r.bytes then s
    else { s with journal := s.journal ++ [r] }) s.journalPrune).journalWrite

/-! ### Building (R326-R330, R347) -/

/-- R330: the record of one entry that releases. -/
def State.outRec (s : State) (idents : List Ident) (inlineAll : Bool) (r : OutReq) : OutRec :=
  let bytes := if bits r.flags 0 1 = 1 then r.plain else s.chainBytes r.cell 0 r.len
  match r.ofPkt with
  | some (port, seq) =>
    let es := if r.deferred then deferredOf idents else identsOf idents port
    let i := es.findIdx fun e => e.port == port && e.seq == seq
    if r.own && !inlineAll && (s.chain r.cell).all (fun c => !(s.cell c).written) && i < es.length then { inline := false, port := if r.deferred then 15 else port, index := i, req := r, bytes := [] }
    else { inline := true, port := 0, index := 0, req := r, bytes := bytes }
  | none => { inline := true, port := 0, index := 0, req := r, bytes := bytes }

def Append.before (a b : Append) : Bool :=
  a.stamp < b.stamp || (a.stamp == b.stamp && (a.port < b.port || (a.port == b.port && a.seq ≤ b.seq)))

/-- R347: a stall's appends of a course receive their sequences. -/
def State.sequence (s : State) (k x : Nat) : List LedgerEnt × State :=
  let as := (s.appends.filter fun a => a.stall == x && a.course == k && a.live).mergeSort Append.before
  let next := s.f64 F.stlLedgerNextLo_NEXT F.stlLedgerNextHi_NEXT x
  let es := (List.zip (List.range as.length) as).map fun (i, a) =>
    { stall := x, course := k, seq := next + i, tag := a.tag, handle := a.handle, handleValid := a.handleValid, data := a.data : LedgerEnt }
  (es, { s with ledger := s.ledger.set [] x (s.ledger.get [] x ++ es) }.set64 F.stlLedgerNextLo_NEXT F.stlLedgerNextHi_NEXT x (next + as.length))

def State.sequenceAll (s : State) (k : Nat) : List LedgerEnt × State :=
  let (es, s1) := (List.range 16).foldl (fun (acc : List LedgerEnt × State) x =>
    let (es, t) := acc.2.sequence k x
    (acc.1 ++ es, t)) ([], s)
  (es, { s1 with appends := s1.appends.filter fun a => a.course != k })

/-- R326: course k's settlement. -/
def State.settlementOf (s : State) (k : Nat) : Settlement × State :=
  let idents := s.idents.filter fun e => e.course == k
  let (ledger, s1) := s.sequenceAll k
  let outs := releasing (s.bankOuts k)
  let used := s.stl.saUsed.filter fun e => e.1 == k
  let ret := s.stl.retires.filter fun e => e.1 == k
  ({ course := k, state := s.stlState, idents := idents, deltas := s.deltas.filter fun d => d.course == k, ledger := ledger,
     outs := outs.map fun r => s.outRec idents (!(s.stlState == 3)) r, saSeq := used.map (·.2), retire := ret.map (·.2) }, s1)

/-- R326: course k's settlement is built, and sent or journalled. -/
def State.buildOne (s : State) (k : Nat) : State :=
  let (b, s1) := s.settlementOf k
  let bytes := 2 * b.words.length
  let s2 := s1.setF F.stlStatVolumeMax_VOLUME_MAX 0 (max (s1.f F.stlStatVolumeMax_VOLUME_MAX) bytes)
  let s3 := s2.setStl fun u =>
    { u with settled := u.settled ++ [b], nextBuild := k + 1, saUsed := u.saUsed.filter (fun e => k < e.1), retires := u.retires.filter fun e => k < e.1 }
  let sends := s3.stlState == 3 || (match s3.stl.join with | some j => !j.joiner | none => false)
  let s4 := (if sends then s3.sendSettle b 0 else s3).journalNext
  if s4.byJournal k && !inJournal s4.journal k (s4.f F.stlJournalFree_GEN) then s4.raise Ev.JOURNAL_FULL else s4

def State.buildMany : Nat → State → State
  | 0, s => s
  | n + 1, s => if stlRuns s.stlState && s.gateFrom.isSome && s.stl.nextBuild + 2 ≤ s.course then State.buildMany n (s.buildOne s.stl.nextBuild) else s

/-- R326: at the strobe of k + 2, once the deadlines of that strobe have been dealt with. -/
def State.buildDue (s : State) : State := if s.deadlineDue then s else State.buildMany 8 s

/-! ### Acceptance (R323) -/

/-- R323: course k is accepted. -/
def State.accept (s : State) (k : Nat) : State :=
  let s1 := { s with acceptedPlus := k + 1, unretired := s.unretired.filter (fun e => k < e.1), idents := s.idents.filter (fun e => k < e.course), deltas := s.deltas.filter fun d => k < d.course }
  (s1.setStl fun u => { u with settled := u.settled.filter fun b => b.course != k }).freeSettled

/-- R343: the oldest unfinished record is completely written, and its course is accepted; the next is begun. -/
def State.journalDone (s : State) : State :=
  match s.journal.find? fun r => !r.complete with
  | none => s
  | some r => ((s.setRec r fun q => { q with complete := true }).accept r.body.course).journalWrite

/-- R343: the END section of the oldest unfinished record has been written and acknowledged. -/
def State.journalDue (s : State) : Bool :=
  match s.journal.find? fun r => !r.complete with
  | some r => r.stage == 2 && !s.journalWaits
  | none => false

/-- R332, R343: RELEASED of a course's journal record is set once all its records are done; outside a pair its MARK is needed by no
one. -/
def State.releaseCheck (s : State) : State :=
  let full := fun (r : Released) => r.done.all fun e => e.2.all id
  let done := s.released.filter full
  let newly := s.journal.filter fun q => !q.released && done.any fun r => r.course == q.body.course
  let s1 := newly.foldl (fun (s : State) q =>
    (s.setRec q fun q => { q with released := true }).journalAsk q.body.course (s.journalParts (q.at_ + 4) [1])) s
  if stlTwin s.stlState then s1 else { s1 with released := s1.released.filter fun r => !full r }

/-- R332: MARK frames of every course whose release is not yet reported complete. -/
def State.markSend (s : State) : State :=
  let s1 := s.releaseCheck
  if s1.stlState = 3 ∨ s1.stlState = 5 then
    let lead := fun (l : List Bool) => (l.takeWhile id).length
    let full := fun (r : Released) => r.done.all fun e => e.2.all id
    let s2 := s1.released.foldl (fun (s : State) r =>
      s.sendElvant 6 r.course (.words ((List.range 16).map fun o => word (lead (r.done.get [] o)))) (full r)) s1
    { s2 with released := s2.released.filter fun r => !full r }
  else s1

/-! ### Appends and retirements (R346, R348) -/

/-- R346: the append's status. -/
def State.appendCheck (s : State) (x h off len : Nat) : Nat :=
  if 2 ^ 18 ≤ h || len == 0 || 2048 < len then 1
  else if (s.cell h).owner != x then 2
  else if 256 * (s.chain h).length < off + len then 3
  else if s.ledgerFree x < ledgerBytes len then 4
  else 0

/-- R365: an append is copied into its ring, from a byte offset on, by requester 20 (log entry 135). -/
def State.ledgerAsk (s : State) (x off n : Nat) : State :=
  let size := max 1 (s.f F.stlLedgerSize_SIZE x * 65536)
  s.unitRequest 20 (s.f F.stlLedgerBase_BASE x * 4096 + off % size / 64 * 64) ((n + 63) / 64) (s.defaultDeadline 20 s.now) false

/-- R346: a write of 1 to STL_APPENDx.CMD.GO. -/
def State.ledgerAppend (s : State) (a : Accessor) (x : Nat) : State :=
  let acc := a.num
  let h := s.fA acc F.stlAppendHandle_HANDLE x
  let len := s.fA acc F.stlAppendLen_LENGTH x
  let off := s.fA acc F.stlAppendLen_OFFSET x
  let y := if x = 16 then s.fA acc F.stlAppendTag_STALL x else x
  let cur := match accThread a with
    | some t => ((s.th t).current).map (·.2)
    | none => none
  let code := s.appendCheck y h off len
  if code = 4 then ((s.count F.stlLedgerFull_FULL y).raise (Ev.LEDGER_FULL y)).setFA acc F.stlAppendResult_CODE x 4
  else if code ≠ 0 then s.setFA acc F.stlAppendResult_CODE x code
  else
    let (stamp, port, seq, pkt, course) := s.outOrder cur
    let e : Append :=
      { stall := y, course := course, stamp := stamp, port := port, seq := seq, ofPkt := pkt, live := cur.isNone,
        tag := s.fA acc F.stlAppendTag_TAG x, handle := (cur.map fun p => p.pkt.station % 2 ^ 20).getD 0,
        handleValid := (cur.map fun p => bits p.pkt.station 21 1 == 1).getD false, data := s.chainBytes h off len }
    ({ s with appends := s.appends ++ [e] }.ledgerAsk y (s.ledgerUsed y) (ledgerBytes len)).setFA acc F.stlAppendResult_CODE x 0

/-- R348: every entry up to sequence `q` is retired. -/
def State.retireLedger (s : State) (x q : Nat) : State :=
  let old := s.f64 F.stlLedgerRetiredLo_RETIRED F.stlLedgerRetiredHi_RETIRED x
  if q ≤ old then s
  else
    let gone := (s.ledger.get [] x).filter fun e => e.seq ≤ q
    let s1 := { s with ledger := s.ledger.set [] x ((s.ledger.get [] x).filter fun e => q < e.seq),
                       unretired := s.unretired ++ gone.map fun e => (s.course, e) }
    let s2 := s1.set64 F.stlLedgerRetiredLo_RETIRED F.stlLedgerRetiredHi_RETIRED x q
    s2.setStl fun u => { u with retires := u.retires.filter (fun e => !(e.1 == s.course && e.2.1 == x)) ++ [(s.course, x, q)] }

/-- R346: a write of STL_LEDGERs.BASE or SIZE. -/
def State.wrLedgerBase (s : State) (x v : Nat) : State := if s.f F.stlLedgerSize_SIZE x = 0 then s.wr .stlLedgerBase x 0 (v % 2 ^ 28) else s
def State.wrLedgerSize (s : State) (x v : Nat) : State := if s.ledgerUsed x = 0 then s.wr .stlLedgerSize x 0 (v % 2 ^ 16) else s

/-! ### The shadow (R333-R336) -/

/-- R334: whether a held frame matches an entry of port `p`; `start` is the start of the entry's course. -/
def State.heldMatches (s : State) (e : Ident) (start : Nat) (h : Held) : Bool :=
  let off := signed 16 (s.f F.stlCal_OFFSET e.port)
  let diff : Int := (h.pkt.stamp.toNat : Int) - off - (start + e.offset : Nat)
  h.entry.isNone && !h.bad && h.pkt.port == e.port && h.len == e.len && h.fcs == e.fcs && decide (-1024 ≤ diff) && decide (diff ≤ 1024) &&
    decide (h.pkt.stampCourse ≤ e.course + 1) && decide (e.course ≤ h.pkt.stampCourse + 1)

/-- The start of a recent course, by its number. -/
def State.startOfCourse (s : State) (k : Nat) : Nat :=
  if k = s.course then s.time.courseStart.toNat
  else if k + 1 = s.course then s.time.prevStart.toNat
  else (s.time.backStart.getD (s.course - 2 - k) 0).toNat

/-- R334: the earliest of held frames. -/
def earliestHeld : List Held → Option Held
  | [] => none
  | h :: rest =>
    match earliestHeld rest with
    | some g => if g.pkt.stamp < h.pkt.stamp then some g else some h
    | none => some h

/-- Whether an output record references an entry (port 15: the DEFERRED list). -/
def Settlement.references (b : Settlement) (port i : Nat) : Bool := b.outs.any fun r => !r.inline && r.port == port && r.index == i

/-- R334: one entry is matched, or a fill asked for. -/
def State.matchEntry (s : State) (b : Settlement) (port i : Nat) (e : Ident) : State :=
  let start := s.startOfCourse b.course
  let c := s.heldMatches e start
  let wanted := e.code == 1 || e.code == 2 || e.code == 4
  let take := fun (h : Held) => { h with entry := some (b.course, port, i), code := e.code, referenced := b.references port i : Held }
  match (if port < 8 then earliestHeld (s.heldFrames.filter c) else none) with
  | some h =>
    let diff : Int := (h.pkt.stamp.toNat : Int) - signed 16 (s.f F.stlCal_OFFSET port) - (start + e.offset : Nat)
    let s1 := { s with heldFrames := s.heldFrames.map fun g => if g = h then take g else g }.count F.stlStatMatched_MATCHED
    s1.setStl fun u => { u with calSum := u.calSum.set 0 port (u.calSum.get 0 port + diff), calCount := u.calCount.set 0 port (u.calCount.get 0 port + 1) }
  | none =>
    if wanted then
      let s1 := s.sendElvant 4 b.course (.fillReq port i)
      s1.setStl fun u => { u with inbox := u.inbox.map fun (x : Inbox) => if x.course = b.course then { x with fills := x.fills ++ [(port, i)] } else x }
    else s

/-- R335: a DEFERRED entry is matched to a frame already held as deferred. -/
def State.matchDeferred (s : State) (b : Settlement) (i : Nat) (e : Ident) : State :=
  (List.range 16).foldl (fun (s : State) x =>
    let q := s.defers.get [] x
    match q.find? fun p => p.port == e.port && p.seq.toNat == e.seq with
    | some p =>
      let h := { heldOf p 0 p.len false with entry := some (b.course, 15, i), code := e.code, referenced := b.references 15 i }
      { s with defers := s.defers.set [] x (q.erase p), heldFrames := s.heldFrames ++ [h] }
    | none => s) s

def State.matchAll (s : State) (b : Settlement) : State :=
  let s1 := settlePorts.foldl (fun (s : State) p =>
    let es := identsOf b.idents p
    (List.zip (List.range es.length) es).foldl (fun (s : State) (i, e) => s.matchEntry b p i e) s) s
  let ds := deferredOf b.idents
  (List.zip (List.range ds.length) ds).foldl (fun (s : State) (i, e) => s.matchDeferred b i e) s1

/-- R111: a bind or unbind of a delta that did not end in OK: the event, with the handle and the code. -/
def State.bindResult (h code : Nat) (s : State) : State := if code = 0 then s else s.raise Ev.BIND_DIVERGE (words32 h ++ [word code])

/-- R111: a delta's unbind. A handle in no stall's range gives RANGE. -/
def State.deltaUnbind (s : State) (h : Nat) : State :=
  match s.rangeOwner h with
  | some x => let (code, s1) := s.unbindRec x h; s1.bindResult h code
  | none => s.bindResult h 1

/-- R111: a delta's bind. -/
def State.deltaBind (s : State) (h : Nat) : State :=
  match s.rangeOwner h with
  | some x => let (code, _, s1) := s.bindRec x h; s1.bindResult h code
  | none => s.bindResult h 1

/-- R111, R145, R140: a station delta on a shadow. A merged delta of a record that was unbound, given another key and bound again carries
BOUND 1 and the new key; the old key is unbound before the words are written, for its slot is found by it. -/
def State.applyStation (s : State) (d : Delta) : State :=
  let h := d.index
  let s := s.stnTouch h
  let plain := fun (s : State) (ws : Tab Word) => ws.foldl (fun (s : State) e => s.stnWrite h e.1 e.2 (d.course + 1)) s
  if d.chunk = 0 then
    let keyed := d.words.filter fun e => e.1 == 1 || 8 ≤ e.1
    match d.words.find? fun e => e.1 == 0 with
    | some (_, v) =>
      let bound := v.toNat % 2 == 1
      let rekeyed := keyed.any fun e => s.stnWord h e.1 != e.2.toNat
      let s1 := if s.stnFlag h 0 && (!bound || rekeyed) then s.deltaUnbind h else s
      let s2 := plain s1 keyed
      if bound && !s2.stnFlag h 0 then s2.deltaBind h else s2
    | none => plain s keyed
  else
    let s1 := plain s d.words
    match d.words.find? fun e => e.1 == 32 with
    | some e => s1.pathStore h e.2
    | none => s1

/-- R329: an SA delta: every word that stall threads may write. -/
def State.applySa (s : State) (d : Delta) : State :=
  d.words.foldl (fun (s : State) e =>
    if e.1 = 0 then
      let s1 := s.setSaWord d.index 0 e.2.toNat
      if !s.saFlag d.index 0 && e.2.toNat % 2 == 1 then s1.saClear d.index else s1
    else if e.1 = 2 ∨ e.1 = 3 ∨ (12 ≤ e.1 ∧ e.1 ≤ 55) then s.setSaWord d.index e.1 e.2.toNat
    else s) s

def State.applyDelta (s : State) (d : Delta) : State := if d.sa then s.applySa d else s.applyStation d

/-- R134, R329: OUT_SEQ from SA_SEQ; it never goes back, so no number is sent twice under one key. -/
def State.applySeqs (s : State) (es : List (Nat × Nat)) : State := es.foldl (fun (s : State) e => s.setSaNat e.1 8 4 (max e.2 (s.saNat e.1 8 4))) s

/-- R347, R348: ledger entries and retirements of a settlement. -/
def State.applyLedger (s : State) (b : Settlement) : State :=
  let s1 := b.ledger.foldl (fun (s : State) e =>
    { s with ledger := s.ledger.set [] e.stall (s.ledger.get [] e.stall ++ [e]) }.set64 F.stlLedgerNextLo_NEXT F.stlLedgerNextHi_NEXT e.stall (e.seq + 1)) s
  b.retire.foldl (fun (s : State) e => s.retireLedger e.1 e.2) s1

/-- R336: what a shadow applies. -/
def State.applySettlement (s : State) (b : Settlement) : State :=
  ((b.deltas.foldl (fun (s : State) d => s.applyDelta d) s).applySeqs b.saSeq).applyLedger b

/-- Settlements whole and next in course order are applied. -/
def State.applyReady : Nat → State → State
  | 0, s => s
  | n + 1, s =>
    let todo := s.stl.inbox.filter fun x => !x.applied
    match todo.foldl (fun (o : Option Inbox) x => match o with | none => some x | some y => if x.course < y.course then some x else o) none with
    | some x =>
      match x.body with
      | some b =>
        let s1 := s.setStl fun u => { u with inbox := u.inbox.map fun (y : Inbox) => if y.course = x.course then { y with applied := true } else y }
        let s2 := if s.stlState = 4 then s1.matchAll b else s1
        let s3 := s2.applySettlement b
        let s4 := if s.stlState = 4 then s3
          else s3.setStl fun u => { u with inbox := u.inbox.filter (fun y => y.course != x.course), kept := u.kept ++ [{ body := b, marks := [] }] }
        State.applyReady n s4
      | none => s
    | none => s

/-- R336: the words with which a shadow asks for segments again: word 0 is 1, word 1 the first segment needed. -/
def State.nack (s : State) (course seg : Nat) : State := s.sendElvant 3 course (.words [1, word seg])

/-- R336: a SETTLE segment. -/
def State.settleIn (s : State) (course seg : Nat) (last : Bool) (ws : List Word) : State :=
  let x := (s.stl.inbox.find? fun x => x.course == course).getD { course := course, segs := 0, words := [], body := none, applied := false, fills := [] }
  if x.body.isSome || seg < x.segs then s
  else if x.segs < seg then s.nack course x.segs
  else
    let all := x.words ++ ws
    let put := fun (y : Inbox) (s : State) => s.setStl fun u => { u with inbox := u.inbox.filter (fun z => z.course != course) ++ [y] }
    if !last then put { x with segs := seg + 1, words := all } s
    else
      match readSettlement all with
      | some b => State.applyReady 8 (put { x with segs := seg + 1, words := all, body := some b } s)
      | none => (put { x with segs := 0, words := [] } s).nack course 0

/-- R333: on acceptance a matched frame that no record references is let go; one coded DEFER joins its stall's defer list. -/
def State.shadowLet (s : State) (k : Nat) : State :=
  let mine := fun (h : Held) => match h.entry with | some e => e.1 == k | none => false
  let (now, stay) := s.heldFrames.partition fun h => mine h && (h.code == 4 || !h.referenced)
  now.foldl (fun (s : State) h =>
    let x := h.pkt.stall.getD 0
    if h.code = 4 then { s with defers := s.defers.set [] x (s.defers.get [] x ++ [{ h.pkt with deferred := true, verdict := 4, course := k }]) }
    else s.freeChain h.pkt.cell) { s with heldFrames := stay }

/-- R336: the shadow may acknowledge the course. -/
def Inbox.ready (x : Inbox) : Bool := x.applied && x.fills.isEmpty

/-- R336, R323: ACK for the oldest course of the inbox. -/
def State.ackSend (s : State) : State :=
  match s.stl.inbox.find? fun x => x.course == s.acceptedPlus && x.ready with
  | some x =>
    let s1 := (s.sendElvant 3 x.course (.words [0, 0])).accept x.course
    let s2 := s1.setStl fun u =>
      { u with inbox := u.inbox.filter (fun y => y.course != x.course),
               kept := u.kept ++ (match x.body with | some b => [{ body := b, marks := [] }] | none => []) }
    s2.shadowLet x.course
  | none => s

/-- R333: held frames no entry has matched, at the strobe of k + 3. -/
def State.shadowStale (s : State) : List Held := s.heldFrames.filter fun h => h.entry.isNone && h.pkt.stampCourse + 3 ≤ s.course

/-- The chain a held frame keeps. -/
def Held.free (h : Held) (s : State) : State := s.freeChain h.pkt.cell

def State.shadowDiscard (s : State) : State :=
  s.shadowStale.foldl (fun (s : State) h => (h.free { s with heldFrames := s.heldFrames.erase h }).count F.stlStatShadowOnly_SHADOW_ONLY) s

/-! ### Fills (R335, R146) -/

/-- The lead's answer to a FILL_REQ. -/
def State.fillAnswer (s : State) (course port i : Nat) : State :=
  match s.stl.settled.find? fun b => b.course == course with
  | none => s
  | some b =>
    match (identsOf b.idents port)[i]? with
    | none => s
    | some e =>
      let frame := match e.cell with | some c => s.chainBytes c 0 e.len | none => []
      let inner := e.inner.map fun c => s.chainBytes c.1 0 c.2
      s.sendElvant 5 course (.fillData port i e.stamp (BitVec.ofNat 32 e.seq) frame inner)

/-- R95, R146: what this device's own outer walk finds of a filled ESP frame, and its stall (R124). -/
def State.fillOuter (s : State) (course port cell : Nat) (frame : List Byte) : Option (EspInfo × Option Nat) :=
  match s.outerWalk port course 0 (frame.take (min 256 (frame.length - 4))) with
  | some (.cipher cursor, w) =>
    let spi := be32 frame cursor
    some ({ outerCell := cell, outerLen := frame.length, cursor := cursor, l3 := w.marks.l3, l4 := w.marks.l4, spi := spi,
            udp := s.saFlag (spi % 2 ^ 21) 4 }, s.spiStall spi)
  | _ => none

/-- R137: what the filled frame's outer headers teach. -/
def State.fillEndpoint (s : State) (q : Pkt) (frame : List Byte) : Option Endpoint :=
  match q.esp with
  | some e => endpointOf (frame.take (min 256 (frame.length - 4))) e.l3 e.l4 e.udp
  | none => s.endpoint q

/-- R146: the filled frame as this device's own parse and classification leave it, with nothing else changed. -/
def State.fillParse (s : State) (p : Pkt) (inner : Bool) : Option Pkt :=
  let s0 := { s with classQ := [], learnQ := [], dispQ := [], reparseQ := [] }
  let s1 := if inner then { s0 with reparseQ := [p] }.innerWalk 0 else (s0.setPort p.port fun q => { q with parseQ := [p] }).parseWalk p.port 0
  let s2 := s1.classify
  match s2.learnQ, s2.dispQ with
  | q :: _, _ => some q
  | [], q :: _ => some q
  | [], [] => none

/-- The fill is stored, held as the entry's frame, and learnt from; one for which there is no cell waits (R335). -/
def State.fillPut (s : State) (b : Settlement) (port i : Nat) (stamp : Word64) (seq : Nat) (frame : List Byte) (inner : Option (List Byte)) : State :=
  let bytes := inner.getD frame
  match s.takeCells none 16 (cellsFor bytes.length) with
  | none => s.setStl fun u => { u with fillWait := u.fillWait ++ [⟨b.course, port, i, stamp, seq, frame, inner⟩] }
  | some (hs, s1) =>
    let s2 := s1.fillCells hs bytes
    let p0 := newPkt stamp b.course seq port bytes.length (hs.headD 0)
    let p1 := match (if inner.isSome then s2.fillOuter b.course port (hs.headD 0) frame else none) with
      | some (info, x) => { p0 with esp := some info, stall := x }
      | none => p0
    let q := (if inner.isSome && p1.stall.isNone then none else s2.fillParse p1 inner.isSome).getD p1
    let s3 := match q.stall with | some x => (s2.ownChain q.cell x).relevel x | none => s2
    let learns := port < 10 && bits q.station 21 1 == 1 && (match q.stall with | some x => bits (s3.f F.stnLearnCtl_PORTS x) port 1 == 1 | none => false)
    let s4 := if learns then s3.learn (q.stall.getD 0) (q.station % 2 ^ 20) q (s3.fillEndpoint q frame) else s3
    let code := ((identsOf b.idents port)[i]?.map (·.code)).getD 0
    let h := { heldOf q 0 bytes.length false with entry := some (b.course, port, i), code := code, referenced := b.references port i }
    let s5 := { s4 with heldFrames := s4.heldFrames ++ [h] }.count F.stlStatFills_FILLS
    s5.setStl fun u => { u with inbox := u.inbox.map fun (x : Inbox) => if x.course = b.course then { x with fills := x.fills.erase (port, i) } else x }

def State.fillIn (s : State) (course port i : Nat) (stamp : Word64) (seq : Nat) (frame : List Byte) (inner : Option (List Byte)) : State :=
  match s.stl.inbox.find? fun x => x.course == course && x.fills.contains (port, i) with
  | some x => match x.body with | some b => s.fillPut b port i stamp seq frame inner | none => s
  | none => s

/-- R335: fills that waited for cells are tried again. -/
def State.fillRetry (s : State) : State :=
  s.stl.fillWait.foldl (fun (s : State) w => s.fillIn w.course w.port w.index w.stamp w.seq w.frame w.inner)
    (s.setStl fun u => { u with fillWait := [] })

/-! ### Release of records (R341, R344) -/

/-- The bytes a record sends again: an INLINE record's own, or the held frame's. -/
def State.recBytes (s : State) (course : Nat) (r : OutRec) : Option (List Byte) :=
  if r.inline then some r.bytes
  else (s.heldFrames.find? fun h => h.entry == some (course, r.port, r.index)).map fun h => s.chainBytes h.pkt.cell 0 r.req.reqLen

/-- R134, R341: a record's bytes as they are sent again: ESP output is encrypted anew, under the next number of its SA, after the checks of
R132; none where they refuse it. -/
def State.recCipher (s : State) (r : OutRec) (bs : List Byte) : Option (List Byte) × State :=
  if bits r.req.flags 0 1 = 0 then (some bs, s)
  else
    let i := r.req.sa
    match (List.range 16).find? fun x => s.saOwned x i with
    | none => (none, s)
    | some x =>
      match s.espOutCheck x i with
      | .ok key =>
        let regs : OutRegs :=
          { handle := 0, len := r.req.reqLen, output := r.req.output, colour := r.req.colour, l3 := r.req.l3, queue := r.req.queue,
            flags := r.req.flags, sa := i, espOff := r.req.espOff, ptEnd := r.req.ptEnd, origin := r.req.origin, corr := r.req.corr,
            tag := r.req.tag, udp := r.req.udp }
        let (nh, s1) := s.espNext regs bs
        let e : EspReq := { index := i, header := r.req.espOff, fin := r.req.ptEnd, l3 := r.req.l3, nh := nh }
        let dl := s1.defaultDeadline 18 s1.now
        (some (s1.espBytes e key (s1.saNat i 8 4 + 1) bs), ((s1.saAsk i dl true).espAssign x i s1.course).2.saAsk i dl false)
      | why => (none, s.espRefuse x why)

/-- R341, R344: a record becomes a gate entry again, its frame in a chain of slices 12-15 with OWNER 16. -/
def State.recEntry (s : State) (course idx : Nat) (r : OutRec) : Option OutReq × State :=
  match (match s.recBytes course r with | some bs => s.recCipher r bs | none => (none, s)) with
  | (none, s0) => (none, s0)
  | (some out, s0) =>
    match s0.takeCells none 16 (cellsFor out.length) with
    | none => (none, s)
    | some (hs, s1) =>
      let s3 := s1.fillCells hs out
      (some { r.req with stamp := idx, len := out.length, cell := hs.headD 0, live := true, course := course }, (s3.setHeld (hs.headD 0) true).count F.stlStatRetx_RETX)

/-- The records of an accepted course from each output's count on go back to a gate bank. -/
def State.reRelease (s : State) (b : Settlement) (marks : Tab Nat) : State :=
  let groups := (List.range 16).flatMap fun o => (b.outs.filter fun r => r.req.output == o).drop (marks.get 0 o)
  let (rs, s1) := (List.zip (List.range groups.length) groups).foldl (fun (acc : List OutReq × State) (i, r) =>
    match acc.2.recEntry b.course i r with
    | (some q, t) => (acc.1 ++ [q], t)
    | (none, t) => (acc.1, t)) ([], s)
  if rs.isEmpty then s1
  else
    let slot := ((List.range 4).find? fun i => !s1.banks.any fun b => b.slot == i).getD 0
    { s1 with banks := s1.banks ++ [{ course := b.course, slot := slot, outs := rs }] }

/-! ### States (R338-R342) -/

/-- R83, R338: SILENT on N0-N7. -/
def State.setSilent (s : State) (on : Bool) : State :=
  (List.range 8).foldl (fun (s : State) n =>
    if on && !s.b F.prtStatus_SILENT n then s.silence n else if on then s else s.setF F.prtStatus_SILENT n 0) s

/-- R341: frames of N ports that are on their way through the pipeline, stamped in course D or earlier, are discarded too. -/
def State.pipeDiscard (s : State) (d : Nat) : State :=
  let late := fun (p : Pkt) => decide (p.stampCourse ≤ d) && decide (p.port < 8)
  let gone := (s.cipherQ ++ s.reparseQ ++ s.classQ ++ s.learnQ ++ s.dispQ ++ s.ports.flatMap fun e => e.2.parseQ).filter late
  let s1 := { s with cipherQ := s.cipherQ.filter (!late ·), reparseQ := s.reparseQ.filter (!late ·), classQ := s.classQ.filter (!late ·),
                     learnQ := s.learnQ.filter (!late ·), dispQ := s.dispQ.filter (!late ·) }
  let s2 := (List.range 8).foldl (fun (s : State) n => s.setPort n fun q => { q with parseQ := q.parseQ.filter (!late ·) }) s1
  gone.foldl (fun (s : State) p => (s.freeChain p.cell).count F.stlStatUnsettled_UNSETTLED) s2

/-- R341: at the strobe of D + 1. -/
def State.takeoverEnter (s : State) (d : Nat) : State :=
  let gone := s.heldFrames.filter fun h =>
    h.pkt.stampCourse ≤ d && (match h.entry with | some e => s.acceptedPlus ≤ e.1 | none => true)
  let s1 := (gone.foldl (fun (s : State) h => (h.free { s with heldFrames := s.heldFrames.erase h }).count F.stlStatUnsettled_UNSETTLED) s).pipeDiscard d
  let s2 := (s1.stl.kept.filter fun k => k.body.course < s1.acceptedPlus).foldl (fun (s : State) k => s.reRelease k.body k.marks) s1
  s2

/-- What a device no longer holds once it is silent no more. -/
def State.holdEnd (s : State) : State :=
  let (matched, rest) := s.heldFrames.partition fun h => h.entry.isSome
  let s1 := matched.foldl (fun (s : State) h => s.freeChain h.pkt.cell) { s with heldFrames := rest }
  s1.setStl fun u => { u with kept := [], inbox := [] }

/-- R350: a running join ends without JOIN_DONE. -/
def State.joinEnd (s : State) : State :=
  match s.stl.join with
  | some j =>
    let s1 := (s.setStl fun u => { u with join := none }).setF F.stlStatus_JOIN 0 4
    if j.joiner then s1 else s1.maintEnd 0x62
  | none => s

/-- R338, R345: a state begins; a join that still runs ends (R350). -/
def State.enterState (s : State) (st : Nat) : State :=
  let old := s.stlState
  let s1 := (s.joinEnd.setF F.stlStatus_STATE 0 st).setStl fun u => { u with toState := none, since := s.now }
  let s2 := if st = 1 ∨ st = 5 then s1.setF F.stlJournalFree_GEN 0 (s1.f F.stlJournalFree_GEN + 1) else s1
  let s3 := s2.setSilent (st == 2 || st == 4 || st == 6)
  if stlRuns st && !stlRuns old then
    let s4 := match s3.stl.takeover with
      | some d => (s3.takeoverEnter d).setStl fun u => { u with takeover := none }
      | none => s3
    { s4.holdEnd with gateFrom := some s.course }.setStl fun u => { u with nextBuild := s.course, settled := [] }
  else if stlRuns st then s3.journalNext
  else if st = 4 then { s3 with acceptedPlus := max s3.acceptedPlus s.course, gateFrom := none }
  else { s3 with gateFrom := none }

def State.stlNext (s : State) (st : Nat) : State := s.setStl fun u => { u with toState := some st }

/-- R337: a course unaccepted by the strobe of k + 3. -/
def State.ackLate (s : State) : Bool := s.stlState == 3 && s.stl.settled.any fun b => b.course + 3 ≤ s.course && s.stl.ackFrom ≤ b.course

def State.ackTimeout (s : State) : State :=
  let s1 := ((s.count F.stlStatAckTimeout_ACK_TIMEOUT).raise Ev.ACK_TIMEOUT).sendAll 7 s.course (.words [])
  s1.enterState 5

/-- R339: no valid Elvant frame for two courses. -/
def State.linkQuiet (s : State) : Bool :=
  stlTwin s.stlState && !s.stl.quiet && decide (max s.stl.since s.stl.lastValid + 2 * courseUnits s.time.len ≤ s.now)

/-- R339, R341: what silence does. -/
def State.linkSilence (s : State) : State :=
  let s1 := s.setStl fun u => { u with quiet := true }
  match s1.stlState with
  | 3 => (s1.raise Ev.PEER_LOST).joinEnd.stlNext 5
  | 5 => (s1.raise Ev.PEER_LOST).joinEnd
  | 4 =>
    if s1.stl.aliveAt = 0 || s1.stl.aliveAt - 1 + courseUnits s.time.len ≤ s.now then
      (((s1.raise Ev.PEER_LOST).raise Ev.TAKEOVER).setStl fun u => { u with takeover := some s.course, inbox := [] }).stlNext 5
    else (s1.raise Ev.PARTITIONED).stlNext 6
  | _ => s1.joinEnd

/-! ### Joining (R350) -/

/-- R350: the CRC-32C digests of the stalls' registers, in the order the rule names them (DEDUCED, log entry 57). -/
def State.digests (s : State) : List Word32 :=
  (List.range 16).map fun x =>
    BitVec.ofNat 32 (crc32c ([s.rd .stnRange x, s.rd .espPrefix x, s.rd .clsSeed x].flatMap (beBytes 4)))

/-- The JOIN_REQ a JOINING or HELD device sends at each strobe. -/
def State.joinReqSend (s : State) : State :=
  s.sendAll 8 s.course (.joinReq (s.b F.stlStatus_STRAP) (s.f F.tlyTver_VERSION) s.digests)

/-- R350: why an ALONE device refuses: 0 it does not. -/
def State.joinReason (s : State) (course : Nat) (ds : List Word32) : Nat :=
  if course ≠ s.course then 1
  else if (List.range 16).any fun x => s.f F.scpStallState_STATE x == 2 && ds.getD x 0 != s.digests.getD x 0 then 2
  else if (s.maintBusy 0x62).isSome then 3
  else 0

/-- R350: a JOIN_REQ on an ALONE device. -/
def State.joinStart (s : State) (course : Nat) (ds : List Word32) : State :=
  if s.f F.stlCfg_JOIN_EN = 0 ∨ s.stl.join.isSome then s
  else
    let r := s.joinReason course ds
    if r ≠ 0 then
      let b := if r = 3 then (s.maintBusy 0x62).getD 0 else 0
      let s1 := ((s.setF F.stlStatus_JOIN 0 3).setF F.stlStatus_JOIN_REASON 0 r).setF F.stlStatus_BUSY_ID 0 b
      if r = 3 then s1.maintRefuse 0x62 b else s1
    else
      ((((s.maintStart 0x62).setF F.stlStatus_JOIN 0 1).setF F.stlStatus_JOIN_REASON 0 0).setF F.stlStatus_BUSY_ID 0 0).setStl fun u => { u with join := some { joiner := false, at_ := none } }

/-- R350: a JOIN_REQ on a JOINING device: roles. -/
def State.joinRoles (s : State) (strap : Bool) : State :=
  if strap != s.b F.stlStatus_STRAP then (if s.b F.stlStatus_STRAP then s else s.stlNext 5)
  else s.setStl fun u => { u with conflict := true }

/-- R350: the copy: bound records' replicated words, valid SA records, unretired ledger entries. -/
def State.joinItems (s : State) : List JoinItem :=
  let stns := (List.range 16).flatMap fun x =>
    let blocks := blocksOf (s.f F.stnRange_BASE x) (s.f F.stnRange_BLOCKS x)
    (blocks.flatMap fun b => (List.range 1024).map (b * 1024 + ·)).filterMap fun h =>
      if s.stnFlag h 0 then some (JoinItem.station h ((List.range 128).map fun w => (w, word (s.stnWord h w)))) else none
  let sas := (List.range 16).flatMap fun x =>
    let blocks := blocksOf (s.f F.stnRange_BASE x) (s.f F.stnRange_BLOCKS x)
    (blocks.flatMap fun b => (List.range 2048).map (b * 2048 + ·)).filterMap fun i =>
      if s.saFlag i 0 then some (JoinItem.sa i ((List.range 56).map fun w => (w, word (s.saWord i w)))) else none
  let leds := s.ledger.flatMap fun e => e.2.map fun l => JoinItem.ledger l.stall l.seq l.tag l.handle l.handleValid l.data
  stns ++ sas ++ leds

/-- R350: the copy is complete in this course: JOIN_DONE names the next, from which this device is LEAD. -/
def State.joinFinish (s : State) : State :=
  let s1 := s.joinItems.foldl (fun (s : State) i => s.sendElvant 9 s.course (.joinCopy i)) s
  let s2 := s1.sendElvant 10 s.course (.joinDone (BitVec.ofNat 64 (s.course + 1)))
  let s3 := (s2.setF F.stlStatus_JOIN 0 2).setStl fun u => { u with join := none, ackFrom := s.course + 1 }
  ((s3.raise Ev.JOIN_DONE).maintDone 0x62).stlNext 3

/-- R350: the joiner applies a copied record. -/
def State.joinApply (s : State) : JoinItem → State
  | .station h ws =>
    let chunks := List.range 8
    chunks.foldl (fun (s : State) c =>
      let part := ws.filter fun e => e.1 / 16 == c
      if part.isEmpty then s else s.applyStation { course := s.acceptedPlus - 1, sa := false, index := h, chunk := c, words := part, direct := false }) s
  | .sa i ws =>
    let s1 := s.applySa { course := 0, sa := true, index := i, chunk := 0, words := ws, direct := false }
    s1.setSaNat i 8 4 (ws.foldl (fun a e => if 8 ≤ e.1 ∧ e.1 < 12 then a + e.2.toNat * 2 ^ (16 * (e.1 - 8)) else a) 0)
  | .ledger x q tag h v data =>
    let e : LedgerEnt := { stall := x, course := 0, seq := q, tag := tag, handle := h, handleValid := v, data := data }
    if 16 ≤ x then s
    else
      let es := ((s.ledger.get [] x).filter fun l => l.seq != q) ++ [e]
      { s with ledger := s.ledger.set [] x (es.mergeSort fun a b => a.seq ≤ b.seq) }.set64 F.stlLedgerNextLo_NEXT F.stlLedgerNextHi_NEXT x
        (max (s.f64 F.stlLedgerNextLo_NEXT F.stlLedgerNextHi_NEXT x) (q + 1))

/-! ### Receiving Elvant frames (R331) -/

/-- R331: HEARTBEAT and JOIN_REQ carry the sender's current course; every other type the course it concerns. -/
def State.elvantCourseOk (s : State) (current : Bool) (f : Elvant) : Bool :=
  let c := f.course.toNat
  if current then c ≤ s.course + 1 && s.course ≤ c + 1 else c ≤ s.course + 1

/-- R331: an Elvant frame is ignored and counted, or taken by `f`. -/
def State.elvant (s : State) (current : Bool) (f : Elvant) (act : State → State) : State :=
  if f.pair.toNat ≠ s.f F.stlPair_PAIR_ID ∨ f.version ≠ 1 then s.count F.stlStatForeign_FOREIGN
  else if !s.elvantCourseOk current f then (s.count F.stlStatForeign_FOREIGN).raise Ev.COURSE_MISMATCH
  else act (s.setStl fun u => { u with lastValid := s.now, laneAt := u.laneAt.insert f.lane (s.now + 1), quiet := false })

def elvantWords (f : Elvant) : List Word := match f.body with | .words ws => ws | _ => []

/-- The TYPE of an Elvant frame, in its word e0. -/
def elvantType (bs : List Byte) : Nat := be16 bs 14 % 256

/-- R331: the header of a received Elvant frame is that of `f` with a TYPE, and its payload words are those of `f` where the manual gives
the payload's words. -/
def elvantSpells (f : Elvant) (type : Nat) (bs : List Byte) : Bool :=
  let e := fun i => be16 bs (14 + 2 * i)
  let body := match f.body with
    | .words ws => bytesWords (((bs.take (bs.length - 4)).drop 46).take (2 * e 10)) == ws
    | _ => true
  e 0 == 0xE000 + f.version.val * 256 + type && e 1 + 65536 * e 2 == f.pair.toNat && bits (e 3) 1 3 == f.state.val &&
    (bits (e 3) 4 1 == 1) == f.strap && e 4 + 65536 * e 5 + 2 ^ 32 * e 6 + 2 ^ 48 * e 7 == f.course.toNat && e 8 == f.segment.toNat &&
    (bits (e 9) 0 1 == 1) == f.last && (bits (e 9) 1 1 == 1) == f.released && body

/-- R70: the frames a lane has received and the settlement unit has not yet taken; one of an unassigned TYPE asks for nothing. -/
def State.laneFrames (s : State) (lane : Nat) : List (List Byte) :=
  (s.port (10 + lane)).ctlQ.dropWhile fun bs => elvantType bs == 0 || decide (10 < elvantType bs)

/-- R70, R331: the oldest frame that a lane has received is `f`, of a TYPE; `act` takes it. -/
def State.elvantTake (type : Nat) (current : Bool) (f : Elvant) (act : State → State) (s : State) : State :=
  match s.laneFrames f.lane with
  | bs :: rest =>
    if elvantSpells f type bs then (s.setPort (10 + f.lane) fun p => { p with ctlQ := rest }).elvant current f act else s
  | [] => s

/-! ### The strobe and the lath -/

/-- R350, R332: what a device of a pair sends at a strobe. -/
def State.strobeSend (s : State) : State :=
  let s1 := if stlTwin s.stlState then s.sendAll 1 s.course (.words (words64 (s.acceptedPlus - 1))) else s
  let s2 := if s1.stlState = 2 ∨ s1.stlState = 6 then s1.joinReqSend else s1
  if s2.stl.conflict && s2.stlState == 2 then (s2.raise Ev.ROLE_CONFLICT).setStl fun u => { u with conflict := false } else s2

/-- R175, R22: the new course takes a bank. -/
def State.bankStrobe (s : State) : State := if stlRuns s.stlState then (s.needBank s.course).getD s else s

/-- R415: the settlement unit leaves OFF: after a return from STANDBY it sets RECOVERED. -/
def State.leftOff (s : State) : State :=
  let s1 := if s.sup.ret.isSome then s.setF F.supBoot_RECOVERED 0 1 else s
  { s1 with sup := { s1.sup with ret := none } }

/-- The settlement unit at a course-start strobe (R326, R332, R338, R350). -/
def State.stlStrobe (s : State) : State :=
  let s1 := match s.stl.toState with
    | some st => if s.stlState = 0 then (s.enterState st).leftOff else s.enterState st
    | none => s
  let s2 := s1.bankStrobe
  let s3 := if stlRuns s2.stlState then s2.buildDue.journalNext else { s2 with deltas := [], idents := s2.idents.filter fun e => s2.course ≤ e.course + 4 }
  s3.strobeSend

/-- R332, R335: at a lath boundary: MARK frames, waiting fills and TWIN_ALIVE_OUT. -/
def State.stlLath (s : State) : State :=
  let s1 := s.markSend.fillRetry
  if stlTwin s1.stlState then (s1.setStl fun u => { u with aliveOut := !u.aliveOut }).emit (.alive (!s1.stl.aliveOut))
  else s1.setStl fun u => { u with aliveOut := false }

/-! ### Recovery (R344) -/

/-- R344: a complete record's deltas, sequence numbers and ledger positions are applied. -/
def State.replay (s : State) (r : JRec) : State :=
  let s1 := r.body.deltas.foldl (fun (s : State) d =>
    d.words.foldl (fun (s : State) e => if d.sa then s.setSaWord d.index e.1 e.2.toNat else s.setDramWord (s.recordAddr d.index + 2 * e.1) e.2) s) s
  let new := fun (e : LedgerEnt) =>
    s1.f64 F.stlLedgerRetiredLo_RETIRED F.stlLedgerRetiredHi_RETIRED e.stall < e.seq && !((s1.ledger.get [] e.stall).any fun l => l.seq == e.seq)
  (s1.applySeqs r.body.saSeq).applyLedger { r.body with ledger := r.body.ledger.filter new }

/-- R344: entries that received a sequence at the build of a course that was never accepted are discarded, and NEXT follows. -/
def State.ledgerRewind (s : State) : State :=
  (List.range 16).foldl (fun (s : State) x =>
    let keep := (s.ledger.get [] x).filter fun e => e.course < s.acceptedPlus
    let gone := (s.ledger.get [] x).filter fun e => s.acceptedPlus ≤ e.course
    let next := gone.foldl (fun a e => min a e.seq) (s.f64 F.stlLedgerNextLo_NEXT F.stlLedgerNextHi_NEXT x)
    ({ s with ledger := s.ledger.set [] x keep }).set64 F.stlLedgerNextLo_NEXT F.stlLedgerNextHi_NEXT x next) s

/-- R344: retirements of courses that were never accepted have not happened. -/
def State.retireRewind (s : State) : State :=
  s.unretired.reverse.foldl (fun (s : State) e =>
    let x := e.2.stall
    if e.1 < s.acceptedPlus then s
    else ({ s with ledger := s.ledger.set [] x (e.2 :: s.ledger.get [] x) }).set64 F.stlLedgerRetiredLo_RETIRED F.stlLedgerRetiredHi_RETIRED x (e.2.seq - 1))
    { s with unretired := [] }

/-- R344, R134: every record's sequence numbers are restored before any output is encrypted anew. -/
def State.recovery (s : State) (gen : Nat) : State :=
  let mine := s.journal.filter fun r => r.gen == gen
  let good := (mine.takeWhile fun r => r.complete && (s.journalRead r).isSome).map fun (r : JRec) =>
    { r with body := (s.journalRead r).getD r.body, released := s.dramWord (((s.journalParts (r.at_ + 4) [0]).head?.map (·.1)).getD 0) != 0 }
  let s := good.foldl (fun (s : State) r =>
    (s.journalParts r.at_ r.ring).foldl (fun (s : State) p => s.unitAsk 19 p.1 (s.defaultDeadline 19 s.now) true []) s) s
  let s1 := { s.retireRewind.ledgerRewind with journal := good, appends := [] }
  let s2 := (good.filter fun r => !r.released).foldl (fun (s : State) r => s.reRelease r.body []) (good.foldl (fun (s : State) r => s.replay r) s1)
  (s2.setStl fun u => { u with recover := none }).setF F.supBoot_RECOVERED 0 1

/-! ### Commands -/

def execHeartbeat (f : Elvant) (s : State) : Res := run s (State.elvantTake 1 true f id)

def execSettle (f : Elvant) (s : State) : Res :=
  run s (State.elvantTake 2 false f fun s =>
    if s.stlState = 4 ∨ (s.stlState = 2 ∨ s.stlState = 6) ∧ s.stl.join.isSome then s.settleIn f.course.toNat f.segment.toNat f.last (elvantWords f) else s)

/-- R323, R336: payload word 0 set asks for segments again. -/
def execAck (f : Elvant) (s : State) : Res :=
  run s (State.elvantTake 3 false f fun s =>
    if s.stlState ≠ 3 then s
    else
      match s.stl.settled with
      | b :: _ =>
        if b.course ≠ f.course.toNat ∨ b.course < s.stl.ackFrom then
          match s.stl.settled.find? fun c => c.course == f.course.toNat with
          | some c => if wAt (elvantWords f) 0 = 1 then s.sendSettle c (wAt (elvantWords f) 1) else s
          | none => s
        else if wAt (elvantWords f) 0 = 1 then s.sendSettle b (wAt (elvantWords f) 1)
        else s.accept b.course
      | [] => s)

def execFillReq (f : Elvant) (s : State) : Res :=
  run s (State.elvantTake 4 false f fun s =>
    match f.body with
    | .fillReq port i => if stlRuns s.stlState then s.fillAnswer f.course.toNat port i else s
    | _ => s)

def execFillData (f : Elvant) (s : State) : Res :=
  run s (State.elvantTake 5 false f fun s =>
    match f.body with
    | .fillData port i stamp seq frame inner => if s.stlState = 4 then s.fillIn f.course.toNat port i stamp seq.toNat frame inner else s
    | _ => s)

/-- R333, R341: MARK counts; RELEASED lets go of the frames held for the course. -/
def execMark (f : Elvant) (s : State) : Res :=
  run s (State.elvantTake 6 false f fun s =>
    let k := f.course.toNat
    if f.released then
      let mine := fun (h : Held) => match h.entry with | some e => e.1 == k && k < s.acceptedPlus && h.code != 4 | none => false
      let (go, stay) := s.heldFrames.partition mine
      let s1 := go.foldl (fun (s : State) h => s.freeChain h.pkt.cell) { s with heldFrames := stay }
      s1.setStl fun u => { u with kept := u.kept.filter fun e => e.body.course != k }
    else
      let counts := (List.range 16).foldl (fun (t : Tab Nat) o => t.set 0 o (wAt (elvantWords f) o)) []
      s.setStl fun u => { u with kept := u.kept.map fun (e : Kept) => if e.body.course = k then { e with marks := counts } else e })

def execAbandon (f : Elvant) (s : State) : Res :=
  run s (State.elvantTake 7 false f fun s => if s.stlState = 4 then s.stlNext 6 else s)

def execJoinReq (f : Elvant) (s : State) : Res :=
  run s (State.elvantTake 8 true f fun s =>
    match f.body with
    | .joinReq strap _ ds => if s.stlState = 5 then s.joinStart f.course.toNat ds else if s.stlState = 2 then s.joinRoles strap else s
    | _ => s)

def execJoinCopy (f : Elvant) (s : State) : Res :=
  run s (State.elvantTake 9 false f fun s =>
    match f.body with
    | .joinCopy i =>
      if s.stlState = 2 ∨ s.stlState = 6 then
        ((s.joinApply i).setStl fun u => { u with join := some { joiner := true, at_ := none } }).setF F.stlStatus_JOIN 0 1
      else s
    | _ => s)

def execJoinDone (f : Elvant) (s : State) : Res :=
  run s (State.elvantTake 10 false f fun s =>
    match f.body with
    | .joinDone _ =>
      if s.stlState = 2 ∨ s.stlState = 6 then
        (((s.setStl fun u => { u with join := none }).setF F.stlStatus_JOIN 0 2).raise Ev.JOIN_DONE).stlNext 4
      else s
    | _ => s)

/-- R336: due on a shadow once every condition holds for the next course. -/
def execAckSend (s : State) : Res :=
  run s (onlyIf (s.stlState == 4 && s.stl.inbox.any fun x => x.course == s.acceptedPlus && x.ready) State.ackSend)

def execAckTimeout (s : State) : Res := run s (onlyIf s.ackLate State.ackTimeout)

def execLinkSilence (s : State) : Res := run s (onlyIf s.linkQuiet State.linkSilence)

def execTwinAliveLost (s : State) : Res :=
  run s (onlyIf (s.stl.aliveNote && !s.aliveIn) fun s => (s.setStl fun u => { u with aliveNote := false }).raise Ev.TWIN_ALIVE_LOST)

def execTwinAliveInToggle (s : State) : Res := run s fun s => s.setStl fun u => { u with aliveAt := s.now + 1, aliveNote := true }

def execShadowOnlyDiscard (s : State) : Res := run s (onlyIf (!s.shadowStale.isEmpty) State.shadowDiscard)

/-- R343: due once the arbiter has admitted every write of a record's END section. -/
def execJournalRecordComplete (s : State) : Res := run s (onlyIf s.journalDue State.journalDone)

/-- R344: due after a DEVICE reset that calls for it, once boot's register writes are done (R415). -/
def execJournalRecovery (s : State) : Res :=
  run s fun s =>
    match s.stl.recover with
    | some g => if s.sup.ready then s.recovery g else s
    | none => s

/-- R350: a LEAD strap that has had no peer for JOIN_WAIT courses acts alone. -/
def State.joinWaitOver (s : State) : Bool :=
  s.stlState == 2 && !s.b F.stlStatus_STRAP && !s.aliveIn &&
    decide (max s.stl.since s.stl.lastValid + max 1 (s.f F.stlCfg_JOIN_WAIT) * courseUnits s.time.len ≤ s.now)

def execJoinWaitExpiry (s : State) : Res := run s (onlyIf s.joinWaitOver fun s => s.stlNext 5)

def execJoinCopyComplete (s : State) : Res :=
  run s (onlyIf (match s.stl.join with | some j => !j.joiner && s.stlState == 5 | none => false) State.joinFinish)

/-- R340: a write of 1 to STL_CTL.FORCE_LEAD. -/
def State.wrForceLead (s : State) : State := if s.stlState = 2 ∨ s.stlState = 6 then s.stlNext 5 else s

end Sys2Proof.Machine
end

