-- ==== Sys2Proof/Machine/Dram.lean ====
section
/-! DEFINITION. The DRAM controllers, the deadline arbiter and the bulk movers (R351-R370). -/

namespace Sys2Proof.Machine

def State.setCtl (s : State) (f : Dram → Dram) : State := { s with ctl := f s.ctl }

/-! ### Configuration and the address map (R351, R352, R356) -/

/-- R351: GiB of a channel of a supported configuration: width x8, density 16 Gb, two ranks. -/
def channelGib (x8 d16 r2 : Bool) : Option Nat :=
  match x8, d16, r2 with
  | true, false, false => some 8
  | true, false, true => some 16
  | true, true, false => some 16
  | false, false, false => some 16
  | _, _, _ => none

/-- The channel's configuration as a word of DRC_CFG states it. -/
def cfgGib (w : Nat) : Option Nat :=
  let bg := bits w 5 2
  let ba := bits w 7 2
  if (bg = 2 ∨ bg = 3) ∧ (ba = 1 ∨ ba = 2) ∧ bits w 9 2 ≠ 3 then channelGib (bits w 2 1 == 1) (bits w 3 1 == 1) (bits w 4 1 == 1) else none

/-- R356: selectors CH0, CH1, SC, RK, BG0-BG2, BA0, BA1. -/
def State.mapMask (s : State) (m : Nat) : Nat := s.f F.arbMapLo_MASK_LO m * 64 + s.f F.arbMapHi_MASK_HI m * 2 ^ 32
def State.mapOn (s : State) (m : Nat) : Bool := s.b F.arbMapHi_ENABLE m

/-- The address bits a mask names. -/
def maskBits (m : Nat) : List Nat := ((List.range 34).map (· + 6)).filter fun b => bits m b 1 == 1

/-- R356: the selectors that a geometry needs. -/
def mapNeeds (w : Nat) (m : Nat) : Bool :=
  m < 3 || (m == 3 && bits w 4 1 == 1) || m == 4 || m == 5 || (m == 6 && bits w 5 2 == 3) || m == 7 || (m == 8 && bits w 7 2 == 2)

def State.anchors (s : State) : List Nat := ((List.range 9).filter s.mapOn).filterMap fun m => (maskBits (s.mapMask m)).head?

/-- R356: the map is valid for a geometry. -/
def State.mapValid (s : State) (w : Nat) : Bool :=
  ((List.range 9).all fun m => s.mapOn m == mapNeeds w m) &&
    (((List.range 9).filter s.mapOn).all fun m => (maskBits (s.mapMask m)).length ≤ 24 && !(maskBits (s.mapMask m)).isEmpty) &&
    s.anchors.Nodup

def parity (m a : Nat) : Nat := ((maskBits m).filter fun b => bits a b 1 == 1).length % 2

def State.sel (s : State) (m a : Nat) : Nat := if s.mapOn m then parity (s.mapMask m) a else 0

/-- Bits of an address, the first the least significant. -/
def gather (a : Nat) : List Nat → Nat
  | [] => 0
  | b :: rest => bits a b 1 + 2 * gather a rest

/-- R356, R357: where an address lies; none beyond the installed capacity. -/
def State.dplace (s : State) (a : Nat) : Option DPlace :=
  let ch := s.sel 0 a + 2 * s.sel 1 a
  let w := s.rd .drcCfg ch
  let free := ((List.range 34).map (· + 6)).filter fun b => !s.anchors.contains b
  let cols := if bits w 11 1 = 1 then 7 else 6
  let rows := 16 + bits w 9 2
  if gather a (free.drop (cols + rows)) ≠ 0 then none
  else some { ch := ch, sub := s.sel 2 a, rank := s.sel 3 a, bg := s.sel 4 a + 2 * s.sel 5 a + 4 * s.sel 6 a, ba := s.sel 7 a + 2 * s.sel 8 a,
              row := gather a ((free.drop cols).take rows), col := gather a (free.take cols) }

def DPlace.bankIx (p : DPlace) : Nat := p.rank * 32 + p.ba * 8 + p.bg
def DPlace.bankKey (p : DPlace) : Nat := (p.ch * 2 + p.sub) * 64 + p.bankIx

def State.dstate (s : State) (ch : Nat) : Nat := s.f F.drcStatus_STATE ch

/-- ARB_CAP.GIB: the installed capacity of the enabled channels. -/
def State.setCap (s : State) : State :=
  s.setF F.arbCap_GIB 0 ((List.range 4).foldl (fun a c => a + (if s.b F.drcCfg_ENABLE c then (cfgGib (s.rd .drcCfg c)).getD 0 else 0)) 0)

/-- R352: a write of DRC_CFG. -/
def State.wrDrcCfg (s : State) (ch v : Nat) : State :=
  let fail := fun (r : Nat) => (s.setF F.drcStatus_STATE ch 5).setF F.drcStatus_FAIL_REASON ch r
  if s.b F.drcCfg_ENABLE ch then
    if bits v 16 1 = 1 then s else ((s.setF F.drcCfg_ENABLE ch 0).setF F.drcStatus_STATE ch 0).setCap
  else if bits v 16 1 = 0 then s.wr .drcCfg ch 0 (v % 4096)
  else if cfgGib v = none then fail 1
  else if !s.mapValid v then fail 4
  else (((s.wr .drcCfg ch 0 (v % 4096 + 65536)).setF F.drcStatus_STATE ch 1).setF F.drcStatus_FAIL_REASON ch 0).setCap

def State.anyEnabled (s : State) : Bool := [0, 1, 2, 3].any fun c => s.b F.drcCfg_ENABLE c

/-! ### Errors (R362) -/

/-- R362: an entry of a channel's log ring. -/
def State.dlog (s : State) (ch kind requester symbols : Nat) (p : Option DPlace) : State :=
  let q := p.getD { ch := 0, sub := 0, rank := 0, bg := 0, ba := 0, row := 0, col := 0 }
  let lo := q.row % 2 ^ 18 + q.col % 128 * 2 ^ 18 + (q.bg * 4 + q.ba) * 2 ^ 25 + q.sub * 2 ^ 30 + q.rank * 2 ^ 31
  let hi := kind + requester * 8 + symbols * 512 + s.course % 65536 * 65536
  let old := s.ctl.log.get [] ch
  let s1 := if 16 ≤ old.length then s.count F.drcLogSel_OVERWRITTEN ch else s
  s1.setCtl fun c => { c with log := c.log.set [] ch ((lo, hi) :: old.take 15) }

def State.addrError (s : State) (requester : Nat) : State := (s.count F.arbCap_ADDR_ERR).dlog 0 5 requester 0 none

/-- R362: what a check's finding does; the second part says that the access gets an error response. -/
def State.dcheck (s : State) (p : DPlace) (requester : Nat) : DramCheck → State × Bool
  | .ok => (s, false)
  | .corrected n => if n.val = 0 then (s, false) else (((s.count F.drcEcc_CE p.ch).dlog p.ch 1 requester n.val (some p)).raise (Ev.DRAM_CE p.ch), false)
  | .uncorrectable => (((s.count F.drcEcc_UE p.ch).dlog p.ch 2 requester 127 (some p)).raise (Ev.DRAM_UE p.ch), true)
  | .retried => ((s.count F.drcErr_CMD_RETRY p.ch).dlog p.ch 4 requester 0 (some p), false)
  | .failed =>
    let s1 := ((s.count F.drcErr_CMD_FAIL p.ch).dlog p.ch 3 requester 0 (some p)).raise (Ev.DRAM_CMD p.ch)
    (s1.setCtl fun c => { c with owed := p.ch :: c.owed.filter (· != p.ch) }, true)

/-! ### The arbiter (R361, R365-R367) -/

def State.isThrottled (s : State) (ch r : Nat) : Bool := decide (s.course < s.ctl.throttled.get 0 (ch * 64 + r))

/-- R361, R366: how far off a deadline is, demoted for a throttled requester. -/
def State.urgency (s : State) (ch r dl : Nat) : Int :=
  signed 32 (dl + 2 ^ 32 - s.now8) + (if s.isThrottled ch r then (8 * s.f F.drcHot_DEMOTE_LATHS ch : Nat) else 0)

/-- A request that waits in the arbiter, and the thread and access it belongs to; none: a hardware unit's. -/
structure Waiting where
  who : Option (Nat × FarReq)
  req : UnitReq
  deriving DecidableEq, Repr

/-- R201: a far pair at an odd address leaves as two word requests, low half first. -/
def FarReq.split (r : FarReq) : Bool := r.pair && r.off % 2 == 1

/-- R201: the request that comes next is the high half's. -/
def FarReq.second (r : FarReq) : Bool := r.split && r.low.isSome

/-- The request of a thread's access at a DRAM address. -/
def State.waitingOf (s : State) (t : Nat) (r : FarReq) (a : Nat) : Waiting :=
  { who := some (t, r), req := { requester := threadRequester t, addr := if r.second then a + 2 else a, read := r.load,
                                 deadline := s.threadDeadline t r.arrived, arrived := r.arrived, no := r.no, data := [] } }

/-- The DRAM accesses of a thread that wait to be admitted: the oldest posted store, and a load no posted store of its segment
precedes (R219). -/
def State.threadWaiting (s : State) (t : Nat) (th : Thread) : List Waiting :=
  let store := (th.posted.find? fun r => match r.place with | .dram _ => r.answer.isNone | _ => false).bind fun r =>
    match r.place with | .dram a => some (s.waitingOf t r a) | _ => none
  let load := match th.wait with
    | .far r =>
      match r.place with
      | .dram a =>
        if r.load && !r.turnWait && !r.admitted && r.answer.isNone && th.posted.all (fun q => q.seg != r.seg) then some (s.waitingOf t r a) else none
      | _ => none
    | _ => none
  store.toList ++ load.toList

/-- R366: a requester's requests to one line keep their order: of requests in order, the first of each requester and line. -/
def lineHeads : List Waiting → List Waiting
  | [] => []
  | u :: rest => u :: (lineHeads rest).filter fun v => !(v.req.requester == u.req.requester && v.req.addr / 64 == u.req.addr / 64)

/-- Every request that waits in the arbiter and that R366 lets go next, the threads' and the hardware units', in the order they came. -/
def State.allWaiting (s : State) : List Waiting :=
  let units : List Waiting := s.ctl.units.map fun u => { who := none, req := u }
  lineHeads (((s.threads.flatMap fun e => s.threadWaiting e.1 e.2) ++ units).mergeSort fun a b => a.req.no ≤ b.req.no)

def State.bankOf (s : State) (p : DPlace) : BankSt := s.ctl.banks.get BankSt.reset p.bankKey

def State.setBank (s : State) (p : DPlace) (f : BankSt → BankSt) : State :=
  s.setCtl fun c => { c with banks := c.banks.set BankSt.reset p.bankKey (f (c.banks.get BankSt.reset p.bankKey)) }

/-- R361: activates of a throttled requester admitted in the present lath. -/
def State.actsNow (s : State) (ch r : Nat) : Nat :=
  let (l, n) := s.ctl.acts.get (0, 0) (ch * 64 + r)
  if l = s.now / 1024 then n else 0

/-- R355: the subchannel is out of service, being retrained. -/
def State.subOut (s : State) (ch sub : Nat) : Bool := s.dstate ch == 4 && (s.ctl.outSub.get (0, 0) ch).1 == sub

/-- R355, R361, R366: room in the bank queue, a subchannel in service, and no throttle that holds the request back. -/
def State.admissible (s : State) (p : DPlace) (r : Nat) : Bool :=
  let lim := s.f F.drcHot_ACT_LIMIT p.ch
  (s.ctl.queue.filter fun q => q.place.bankKey == p.bankKey).length < 8 && !s.subOut p.ch p.sub &&
    !(s.isThrottled p.ch r && lim != 0 && (s.bankOf p).opened != some p.row && lim ≤ s.actsNow p.ch r)

/-- R366: the request a channel's arbiter takes next; of one requester's with one deadline, the first. -/
def State.arbPick (s : State) (ch : Nat) : Option (Waiting × DPlace) :=
  let rot := s.ctl.arbRotor.get 0 ch
  let cands := s.allWaiting.filterMap fun w =>
    match s.dplace w.req.addr with
    | some p => if p.ch = ch ∧ s.admissible p w.req.requester then some (w, p) else none
    | none => none
  let key := fun (w : Waiting) => s.urgency ch w.req.requester w.req.deadline
  let turn := fun (w : Waiting) => (w.req.requester + 64 - rot) % 64
  cands.foldl (fun o e =>
    match o with
    | none => some e
    | some b => if key e.1 < key b.1 || (key e.1 == key b.1 && turn e.1 < turn b.1) then some e else o) none

/-- R367: counters of an admission. The manual's cycle counts are outside the model: whether it waited and how long is open. -/
def State.grant (s : State) (r : Nat) (late : Bool) : State :=
  let (w, s1) := s.freeBool
  let (n, s2) := s1.freeNat
  let s3 := s2.count F.arbReqGrants_GRANTS r
  let s4 := if w then (s3.count F.arbReqWaits_WAITS r).setF F.arbReqLongest_LONGEST r (max (s3.f F.arbReqLongest_LONGEST r) (n % 2 ^ 32)) else s3
  if late then s4.count F.arbReqMissed_MISSED r else s4

/-- R218: a posted store gets an error response. -/
def State.storeFailed (s : State) (t : Nat) (r : FarReq) : State :=
  s.setTh t fun th => { th with posted := th.posted.map fun (q : FarReq) => if q = r then { q with answer := some none } else q }

/-- The words a far store's next request carries (R201). -/
def FarReq.words (r : FarReq) : List Word := if r.second then r.data.drop 1 else if r.split then r.data.take 1 else r.data

/-- R201: the low half of a posted store is done. -/
def State.lowStored (s : State) (t : Nat) (r : FarReq) : State :=
  s.setTh t fun th => { th with posted := th.posted.map fun (q : FarReq) => if q = r then { q with low := r.data.head? } else q }

/-- R354: an admitted write is performed and acknowledged. -/
def State.storeDone (s : State) (t : Nat) (r : FarReq) (a : Nat) : State :=
  let ws := r.words
  let s1 := (List.zip (List.range ws.length) ws).foldl (fun (s : State) (i, w) => s.setDramWord (a + 2 * i) w) s
  if r.split && !r.second then s1.lowStored t r
  else (s1.setTh t fun th => { th with posted := th.posted.erase r }).storesDone t

/-- R218: a load gets data or an error response, which FAR_LOAD_RESULT delivers. -/
def State.loadAnswer (s : State) (t : Nat) (v : Option (List Word)) : State :=
  s.setTh t fun th => { th with wait := match th.wait with | .far r => .far { r with answer := some v } | w => w }

/-! ### Bulk movers' units (R368-R370) -/

def State.mover (s : State) (m : Nat) : Mover := s.ctl.movers.get Mover.reset m

def State.setMover (s : State) (m : Nat) (f : Mover → Mover) : State :=
  s.setCtl fun c => { c with movers := c.movers.set Mover.reset m (f (c.movers.get Mover.reset m)) }

/-- The place of a mover's far word, where its segment is of a kind movers may use (R368). -/
def State.movePlace (s : State) (x addr : Nat) (store : Bool) : Option Place :=
  if 16 < x then none
  else
    match s.farPlace x addr store false with
    | some (.dram a) => some (.dram a)
    | some (.cluster c o) => some (.cluster c o)
    | some (.packet c o) => some (.packet c o)
    | _ => none

def State.placeRead (s : State) : Place → Nat
  | .dram b => (s.dramWord b).toNat
  | .cluster c o => s.clWord c o
  | .packet c o => (s.cellByte c (2 * o)).toNat * 256 + (s.cellByte c (2 * o + 1)).toNat
  | _ => 0

def State.placeWrite (s : State) (p : Place) (v : Nat) : State :=
  match p with
  | .dram b => s.setDramWord b (word v)
  | .cluster c o => s.setClWord c o v
  | .packet c o =>
    let s1 := (s.setCellByte c (2 * o) (BitVec.ofNat 8 (v / 256))).setCellByte c (2 * o + 1) (BitVec.ofNat 8 v)
    s1.setCell c { s1.cell c with written := true }
  | _ => s

/-- R369: the words of a mover's present unit, from a base address of it. -/
def State.moveSpan (s : State) (m base : Nat) (store : Bool) : List (Option Place) :=
  let done := s.f F.arbMoveProgress_BYTES m
  (List.range (min 256 (s.f F.arbMoveLen_LEN m - done) / 2)).map fun i => s.movePlace (s.f F.arbMoveCtl_OWNER m) (base + done / 2 + i) store

def State.moveSrcs (s : State) (m : Nat) : List (Option Place) := s.moveSpan m (s.f F.arbMoveSrc_SRC m) false
def State.moveDsts (s : State) (m : Nat) : List (Option Place) := s.moveSpan m (s.f F.arbMoveDst_DST m) true

/-- R149, R368: the cell belongs to the mover's owner. -/
def State.moveOwns (s : State) (x : Nat) : Place → Bool
  | .packet c _ => (s.cell c).alloc && (s.cell c).owner == x
  | _ => true

/-- R368: every place of the unit is one the mover's owner may use. -/
def State.moveAllowed (s : State) (m : Nat) : Bool :=
  (s.moveSrcs m ++ s.moveDsts m).all fun p => match p with | some pl => s.moveOwns (s.f F.arbMoveCtl_OWNER m) pl | none => false

/-- The lines of DRAM among the unit's words: which word each begins at, and its byte address. -/
def dramLines (ps : List (Option Place)) : List (Nat × Nat) :=
  (List.zip (List.range ps.length) ps).filterMap fun (i, p) => match p with | some (.dram a) => if i % 32 = 0 then some (i, a) else none | _ => none

/-- R368: the deadline of a mover's requests: DL laths after GO, or the default. -/
def State.moveDeadline (s : State) (m : Nat) : Nat :=
  let dl := s.f F.arbMoveCtl_DL m
  if dl = 0 then s.defaultDeadline (24 + m) s.now else ((s.mover m).go + dl * 1024) / 128 % 2 ^ 32

/-- R369: the unit's words have been read: its writes to DRAM go to the arbiter. -/
def State.moveWrites (s : State) (m : Nat) : State :=
  let vals := (s.moveSrcs m).map fun p => match p with | some pl => s.placeRead pl | none => 0
  let lines := dramLines (s.moveDsts m)
  let s1 := s.setMover m fun v => { v with writing := true, left := lines.length, buf := vals }
  lines.foldl (fun (s : State) l => s.unitAsk (24 + m) l.2 (s.moveDeadline m) false (((vals.drop l.1).take 32).map word)) s1

/-- R369: a mover's next unit goes to the arbiter: its reads, and then its writes. -/
def State.moveArm (s : State) (m : Nat) : State :=
  if !s.moveAllowed m then s.setMover m fun v => { v with writing := true, left := 0, err := false, buf := [] }
  else
    let lines := dramLines (s.moveSrcs m)
    let s1 := s.setMover m fun v => { v with writing := false, left := lines.length, err := false, buf := [] }
    if lines.isEmpty then s1.moveWrites m
    else lines.foldl (fun (s : State) l => s.unitAsk (24 + m) l.2 (s.moveDeadline m) true []) s1

/-- R369: a request of a mover's unit is answered. -/
def State.moveReply (s : State) (m : Nat) (bad : Bool) : State :=
  let v := s.mover m
  let s1 := s.setMover m fun v => { v with left := v.left - 1, err := v.err || bad }
  if 1 < v.left || v.writing then s1
  else if v.err || bad then s1.setMover m fun v => { v with writing := true }
  else s1.moveWrites m

/-! ### Admission (R366) -/

/-- R354, R363: a unit's request is answered: a write once it is admitted, a read once its line is there; `bad`: by an error response. -/
def State.unitAnswer (s : State) (r : Nat) (read bad : Bool) : State :=
  if 24 ≤ r ∧ r < 56 then s.moveReply (r - 24) bad
  else if r = 19 ∧ !read then (if bad then s.journalRefused else s.journalWrite)
  else s

/-- A unit's request leaves the arbiter; a write stores its words and is acknowledged. -/
def State.unitDone (s : State) (u : UnitReq) : State :=
  let s1 := s.setCtl fun c => { c with units := c.units.erase u }
  if u.read then s1
  else
    State.unitAnswer ((List.zip (List.range u.data.length) u.data).foldl (fun (s : State) e => s.setDramWord (u.addr + 2 * e.1) e.2) s1)
      u.requester false false

/-- A unit's request gets an error response. -/
def State.unitFailed (s : State) (u : UnitReq) : State :=
  (s.setCtl fun c => { c with units := c.units.erase u }).unitAnswer u.requester u.read true

/-- R366: one request is admitted; a write's read-modify-write has the check's finding. -/
def State.admitReq (s : State) (w : Waiting) (p : DPlace) (chk : DramCheck) : State :=
  let r := w.req.requester
  let dl := w.req.deadline
  let s1 := s.grant r (decide (signed 32 (dl + 2 ^ 32 - s.now8) < 0))
  let act := (s.bankOf p).opened != some p.row
  let s2 := s1.setCtl fun c =>
    { c with arbRotor := c.arbRotor.set 0 p.ch ((r + 1) % 64),
             acts := if act then c.acts.set (0, 0) (p.ch * 64 + r) (s.now / 1024, s.actsNow p.ch r + 1) else c.acts,
             queue := c.queue ++ [{ id := s.useCtr, place := p, read := w.req.read, thread := w.who.map (·.1), requester := r, deadline := dl, passed := 0 }] }
  let s3 := { s2 with useCtr := s2.useCtr + 1 }
  match w.who with
  | none =>
    if w.req.read || w.req.data.length = 0 || w.req.data.length = 32 then s3.unitDone w.req
    else
      let (s4, bad) := s3.dcheck p r chk
      if bad then s4.unitFailed w.req else s4.unitDone w.req
  | some (t, q) =>
    if q.load then s3.setTh t fun th => { th with wait := match th.wait with | .far q => .far { q with admitted := true } | x => x }
    else
      let (s4, bad) := s3.dcheck p r chk
      if bad then s4.storeFailed t q else s4.storeDone t q w.req.addr

/-- R357: a waiting request beyond the installed capacity. -/
def State.badWaiting (s : State) : Option Waiting := s.allWaiting.find? fun w => (s.dplace w.req.addr).isNone

/-! ### Commands of the controller (R358-R361) -/

/-- R358: an RFM command: the count falls by RAAIMT. -/
def State.rfm (s : State) (p : DPlace) : State :=
  (s.setBank p fun b => { b with raa := b.raa - s.f F.drcTim_PARAM0 p.ch 5, rfm := false, opened := none }).count F.drcRfm_COUNT p.ch

/-- R359: a same-bank refresh: the bank of that number in every bank group is closed. -/
def State.refresh (s : State) (ch sub rank ba : Nat) : State :=
  (List.range 8).foldl (fun (s : State) g =>
    s.setBank { ch := ch, sub := sub, rank := rank, bg := g, ba := ba, row := 0, col := 0 } fun b => { b with opened := none }) s

/-- R360: the requester with the most activates. -/
def HotRow.worst (h : HotRow) : Nat := (h.by_.foldl (fun b e => if b.2 < e.2 then e else b) (0, 0)).1

/-- R360: the tracker counts an activate. -/
def trackRow (hs : List HotRow) (row r : Nat) : List HotRow :=
  if hs.any fun h => h.row == row then
    hs.map fun (h : HotRow) => if h.row = row then { h with count := h.count + 1, by_ := h.by_.insert r (h.by_.get 0 r + 1) } else h
  else if hs.length < 8 then hs ++ [{ row := row, count := 1, by_ := [(r, 1)] }]
  else
    let low := hs.foldl (fun a h => min a h.count) (2 ^ 32)
    let i := hs.findIdx fun h => h.count == low
    hs.set i { row := row, count := low + 1, by_ := [(r, 1)] }

/-- R360, R361: a hot row: its RFM is owed, the house is told, and the requester is throttled. -/
def State.hotRow (s : State) (p : DPlace) (worst : Nat) : State :=
  let s1 := (s.setBank p fun b => { b with rfm := true, hot := b.hot.map fun (h : HotRow) => if h.row = p.row then { h with count := 0, by_ := [] } else h })
  let s2 := (s1.count F.drcHot2_HOT_ROWS p.ch).raise (Ev.HOT_ROW p.ch)
    ([word (p.ch + p.sub * 4 + p.rank * 8 + (p.bg * 4 + p.ba) * 16)] ++ words32 p.row ++ [word worst])
  let n := s2.f F.drcHot2_COURSES p.ch
  if n = 0 ∨ worst = 17 ∨ worst = 19 then s2
  else s2.setCtl fun c => { c with throttled := c.throttled.set 0 (p.ch * 64 + worst) (s.course + n) }

/-- R360: an activate. -/
def State.activate (s : State) (q : DReq) : State :=
  let p := q.place
  let b := s.bankOf p
  let mmt := s.f F.drcTim_PARAM1 p.ch 5
  if b.rfm || (mmt != 0 && mmt < b.raa + 1) then s.rfm p
  else
    let old := if b.since + 512000000 ≤ s.now then [] else b.hot
    let thr := s.f F.drcHot_ROW_THR p.ch
    let hs := if thr = 0 then [] else trackRow old p.row q.requester
    let s1 := s.setBank p fun b =>
      { b with opened := some p.row, raa := b.raa + 1, hot := hs, since := if b.since + 512000000 ≤ s.now then s.now else b.since }
    match hs.find? fun h => h.row == p.row && thr ≤ h.count with
    | some h => if thr = 0 then s1 else s1.hotRow p h.worst
    | none => s1

def State.subQueue (s : State) (ch sub : Nat) : List DReq := s.ctl.queue.filter fun q => q.place.ch == ch && q.place.sub == sub

/-- The oldest request of each bank of a subchannel. -/
def heads (qs : List DReq) : List DReq := qs.filter fun q => !qs.any fun r => r.place.bankKey == q.place.bankKey && r.id < q.id

/-- R358: of several requests, the earliest deadline, then the first bank at or after the rotor. -/
def State.earliest (s : State) (rot : Nat) (qs : List DReq) : Option DReq :=
  let key := fun (q : DReq) => signed 32 (q.deadline + 2 ^ 32 - s.now8)
  let turn := fun (q : DReq) => (q.place.bankIx + 64 - rot) % 64
  qs.foldl (fun o q =>
    match o with
    | none => some q
    | some b => if key q < key b || (key q == key b && turn q < turn b) then some q else o) none

/-- R358, 2: a column command: older requests of the bank are passed. -/
def State.column (s : State) (q : DReq) (chk : DramCheck) : State :=
  let s1 := s.setCtl fun c =>
    { c with queue := (c.queue.erase q).map fun (r : DReq) =>
               if r.place.bankKey = q.place.bankKey ∧ r.id < q.id then { r with passed := r.passed + 1 } else r,
             issued := if q.read then c.issued ++ [q] else c.issued }
  match chk with
  | .retried => (s1.dcheck q.place q.requester .retried).1
  | .failed =>
    let s2 := (s1.dcheck q.place q.requester .failed).1
    if q.read then
      let s3 := s2.setCtl fun c => { c with issued := c.issued.erase q }
      match q.thread with | some t => s3.loadAnswer t none | none => s3.unitAnswer q.requester true true
    else s2
  | _ => s1

/-- R358, 3: the bank whose head is activated. -/
def State.actPick (s : State) (ch sub : Nat) (qs : List DReq) : Option DReq :=
  let rot := s.ctl.actRotor.get 0 (ch * 2 + sub)
  let hs := (heads qs).filter fun q => (s.bankOf q.place).opened.isNone
  let near := hs.filter fun q => decide (signed 32 (q.deadline + 2 ^ 32 - s.now8) * 8 ≤ (s.f F.drcRef_URGENT_NS ch : Int))
  match s.earliest rot near with
  | some q => some q
  | none =>
    let turn := fun (q : DReq) => (q.place.bankIx + 64 - rot) % 64
    hs.foldl (fun o q => match o with | none => some q | some b => if turn q < turn b then some q else o) none

/-- A bank that no request waits for. -/
def bankIdle (qs : List DReq) (sub rank ba : Nat) : Bool := !qs.any fun q => q.place.sub == sub && q.place.rank == rank && q.place.ba == ba

/-- R359: a postponed refresh is issued. -/
def State.refreshNext (s : State) (ch : Nat) (e : Nat × Nat × Nat) : State :=
  (s.refresh ch e.1 e.2.1 e.2.2).setCtl fun c => { c with postponed := c.postponed.set [] ch ((c.postponed.get [] ch).erase e) }

/-- R360: an idle bank whose count has reached RAAIMT. -/
def State.rfmIdle (s : State) (ch sub : Nat) (qs : List DReq) : Option DPlace :=
  let imt := s.f F.drcTim_PARAM0 ch 5
  if imt = 0 then none
  else
    ((List.range 64).map fun i => ({ ch := ch, sub := sub, rank := i / 32, ba := i / 8 % 4, bg := i % 8, row := 0, col := 0 } : DPlace)).find? fun p =>
      imt ≤ (s.bankOf p).raa && !qs.any fun q => q.place.bankKey == p.bankKey

/-- R358: the next command of a subchannel. -/
def State.commandIssue (s : State) (ch sub : Nat) (chk : DramCheck) : State :=
  let qs := s.subQueue ch sub
  let rot := s.ctl.actRotor.get 0 (ch * 2 + sub)
  let pp := (s.ctl.postponed.get [] ch).filter fun e => e.1 == sub
  let mx := min 8 (s.f F.drcRef_MAX ch)
  let hits := qs.filter fun q =>
    (s.bankOf q.place).opened == some q.place.row && !qs.any fun r => r.place.bankKey == q.place.bankKey && r.id < q.id && 4 ≤ r.passed
  match (if mx ≤ (s.ctl.postponed.get [] ch).length then pp.head? else none) with
  | some e => s.refreshNext ch e
  | none =>
    match s.earliest rot hits with
    | some q => s.column q chk
    | none =>
      match s.actPick ch sub qs with
      | some q => (s.activate q).setCtl fun c => { c with actRotor := c.actRotor.set 0 (ch * 2 + sub) ((q.place.bankIx + 1) % 64) }
      | none =>
        match (heads qs).find? fun q => (s.bankOf q.place).opened.isSome with
        | some q => s.setBank q.place fun b => { b with opened := none }
        | none =>
          match pp.find? fun e => bankIdle qs e.1 e.2.1 e.2.2 with
          | some e => s.refreshNext ch e
          | none =>
            match s.rfmIdle ch sub qs with
            | some p => s.rfm p
            | none => s

/-- R359: a same-bank refresh falls due. -/
def State.refreshDue (s : State) (ch sub rank ba : Nat) : State :=
  let qs := s.subQueue ch sub
  let urgent := qs.any fun q =>
    q.place.rank == rank && q.place.ba == ba && decide (signed 32 (q.deadline + 2 ^ 32 - s.now8) * 8 ≤ (s.f F.drcRef_URGENT_NS ch : Int))
  let n := (s.ctl.postponed.get [] ch).length
  if urgent ∧ n < min 8 (s.f F.drcRef_MAX ch) then
    s.setCtl fun c => { c with postponed := c.postponed.set [] ch (c.postponed.get [] ch ++ [(sub, rank, ba)]) }
  else s.refresh ch sub rank ba

/-- R201, R362: the words of a thread's admitted read arrive, or its error response; the low half of a split pair waits for the high one. -/
def State.readArrives (s : State) (t : Nat) (bad : Bool) : State :=
  match (s.th t).wait with
  | .far r =>
    match r.place with
    | .dram a =>
      if !r.admitted then s
      else if bad then s.loadAnswer t none
      else if r.split then
        match r.low with
        | none => s.setTh t fun th => { th with wait := .far { r with admitted := false, low := some (s.dramWord a) } }
        | some lo => s.loadAnswer t (some [lo, s.dramWord (a + 2)])
      else s.loadAnswer t (some ((List.range (if r.pair then 2 else 1)).map fun i => s.dramWord (a + 2 * i)))
    | _ => s
  | _ => s

/-- R362: the oldest issued read of a channel returns. -/
def State.readDone (s : State) (ch : Nat) (chk : DramCheck) : State :=
  match s.ctl.issued.find? fun q => q.place.ch == ch with
  | none => s
  | some q =>
    let s1 := s.setCtl fun c => { c with issued := c.issued.erase q }
    let (s2, bad) := s1.dcheck q.place q.requester chk
    match q.thread with
    | some t => s2.readArrives t bad
    | none => s2.unitAnswer q.requester true bad

/-! ### Training, retraining, scrub (R353, R355, R364) -/

/-- R355: retraining of a channel starts, subchannel 0 first, or is refused; an automatic start is tried again at the next course boundary. -/
def State.retrain (s : State) (ch : Nat) (auto : Bool) : State :=
  match s.maintBusy (0x10 + ch) with
  | some b =>
    let s1 := ((s.maintRefuse (0x10 + ch) b).setF F.drcTrain_STATUS ch 3).setF F.drcTrain_BUSY_ID ch b
    if auto then s1.setCtl fun c => { c with retryAt := c.retryAt.set 0 ch (s.course + 1) } else s1
  | none =>
    let s1 := ((s.maintStart (0x10 + ch)).setF F.drcTrain_STATUS ch 1).setF F.drcStatus_STATE ch 4
    s1.setCtl fun c => { c with owed := c.owed.filter (· != ch), outSub := c.outSub.set (0, 0) ch (0, s.now) }

/-- R355: a write of DRC_TRAIN. -/
def State.wrDrcTrain (s : State) (ch v : Nat) : State :=
  let s1 := (s.setF F.drcTrain_PERIOD_MS ch v).setF F.drcTrain_TEMP_DELTA ch (v / 4096)
  if bits v 16 1 = 1 ∧ s.dstate ch = 2 then s1.retrain ch false else s1

/-- R364: a write of DRC_SCRUB. -/
def State.wrDrcScrub (s : State) (ch v : Nat) : State :=
  let h := v % 256
  let on := s.f F.drcScrub_STATUS ch == 1
  if h = 0 then
    let s1 := (s.setF F.drcScrub_PERIOD_H ch 0).setF F.drcScrub_STATUS ch 0
    if on then s1.maintDone (0x20 + ch) else s1
  else if on then s.setF F.drcScrub_PERIOD_H ch h
  else
    match s.maintBusy (0x20 + ch) with
    | some b => ((s.maintRefuse (0x20 + ch) b).setF F.drcScrub_STATUS ch 2).setF F.drcScrub_BUSY_ID ch b
    | none => ((s.maintStart (0x20 + ch)).setF F.drcScrub_STATUS ch 1).setF F.drcScrub_PERIOD_H ch h

/-- Lines of a channel. -/
def State.channelLines (s : State) (ch : Nat) : Nat := (cfgGib (s.rd .drcCfg ch)).getD 0 * 2 ^ 24

/-- The bits of a number laid out at bit places, the first the least significant. -/
def scatter (v : Nat) : List Nat → Nat
  | [] => 0
  | b :: rest => v % 2 * 2 ^ b + scatter (v / 2) rest

/-- A selector's anchor takes the bit that gives the selector a value. -/
def State.anchorSet (s : State) (m v a : Nat) : Nat :=
  match (maskBits (s.mapMask m)).head? with
  | some b => if parity (s.mapMask m) a = v then a else a + 2 ^ b
  | none => a

/-- R364: the address of a channel's n-th line in ascending order of address: the other bits of [39:6] count the lines, and the anchors of CH0 and
CH1 follow, the higher first (R356). -/
def State.lineAddr (s : State) (ch n : Nat) : Nat :=
  let on := [0, 1].filter s.mapOn
  let anchor := fun (m : Nat) => (maskBits (s.mapMask m)).headD 0
  let free := ((List.range 34).map (· + 6)).filter fun b => !(on.map anchor).contains b
  (on.mergeSort fun a b => anchor b ≤ anchor a).foldl (fun a m => s.anchorSet m (ch / 2 ^ m % 2) a) (scatter n free)

/-- R364: the scrub reads the next line of its pass, a request of requester 22. -/
def State.scrubRead (s : State) (ch : Nat) : State :=
  let n := s.f F.drcScrubPos_LINE ch
  let s1 := s.unitAsk 22 (s.lineAddr ch n) (s.defaultDeadline 22 s.now) true []
  if s.channelLines ch ≤ n + 1 then (s1.setF F.drcScrubPos_LINE ch 0).count F.drcScrub_PASSES ch else s1.setF F.drcScrubPos_LINE ch (n + 1)

/-- A scrub's read of the channel still waits in the arbiter. -/
def State.scrubWaits (s : State) (ch : Nat) : Bool :=
  s.ctl.units.any fun u => u.requester == 22 && (s.dplace u.addr).any fun p => p.ch == ch

/-- R364: in each lath the scrub goes on in proportion: a pass takes PERIOD_H hours, each 56,250,000,000 laths. -/
def State.scrubStep (s : State) (ch : Nat) : State :=
  let per := s.f F.drcScrub_PERIOD_H ch * 56250000000
  let acc := s.ctl.scrubAcc.get 0 ch + s.channelLines ch
  let due := per ≤ acc && !s.scrubWaits ch
  let s1 := s.setCtl fun c => { c with scrubAcc := c.scrubAcc.set 0 ch (if due then acc - per else acc) }
  if due then s1.scrubRead ch else s1

/-- R355: the retraining of a channel goes on to subchannel 1, at the latest after 1.5 µs, which is less than 24 laths. -/
def State.retrainStep (s : State) (ch : Nat) : State :=
  let e := s.ctl.outSub.get (0, 0) ch
  if s.dstate ch ≠ 4 ∨ e.1 ≠ 0 then s
  else
    let (b, s1) := s.freeBool
    if b ∨ e.2 + 23 * 1024 ≤ s.now then s1.setCtl fun c => { c with outSub := c.outSub.set (0, 0) ch (1, s.now) } else s1

/-- The controllers at a lath boundary: scrub and retraining. -/
def State.dramLath (s : State) : State :=
  [0, 1, 2, 3].foldl (fun (s : State) ch =>
    if s.f F.drcScrub_STATUS ch = 1 ∧ s.dstate ch = 2 then s.scrubStep ch else s.retrainStep ch) s

/-- R355: the three automatic causes; `temp` is how far the temperature has moved since the channel last trained, in 2 °C. -/
def State.retrainAutoDue (s : State) (ch temp : Nat) : Bool :=
  let per := s.f F.drcTrain_PERIOD_MS ch
  let dt := s.f F.drcTrain_TEMP_DELTA ch
  s.dstate ch == 2 && decide (s.ctl.retryAt.get 0 ch ≤ s.course) && (s.ctl.owed.contains ch || (per != 0 && decide (s.ctl.lastTrain.get 0 ch + per * 16000000 ≤ s.now)) || (dt != 0 && decide (dt ≤ temp)))

/-! ### Bulk movers (R368-R370) -/

/-- The space a place lies in, and its word there. -/
def Place.flat : Place → Nat × Nat
  | .dram b => (0, b / 2)
  | .cluster c o => (1 + c, o)
  | .packet c o => (17, c * 128 + o)
  | _ => (18, 0)

/-- R368: the checks of a GO, codes 4 to 6. -/
def State.moveCheckGo (s : State) (m : Nat) : Nat :=
  let x := s.f F.arbMoveCtl_OWNER m
  let src := s.f F.arbMoveSrc_SRC m
  let dst := s.f F.arbMoveDst_DST m
  let n := s.f F.arbMoveLen_LEN m / 2
  if src % 32 ≠ 0 ∨ dst % 32 ≠ 0 ∨ s.f F.arbMoveLen_LEN m % 64 ≠ 0 then 4
  else if src % 2 ^ 28 + n > 2 ^ 28 ∨ dst % 2 ^ 28 + n > 2 ^ 28 then 5
  else
    match s.movePlace x src false, s.movePlace x (src + n - 1) false, s.movePlace x dst true, s.movePlace x (dst + n - 1) true with
    | some p, some _, some q, some _ =>
      let a := p.flat
      let b := q.flat
      if a.1 = b.1 ∧ a.2 < b.2 + n ∧ b.2 < a.2 + n then 6 else 0
    | _, _, _, _ => 5

/-- A move has ended: MOVE_DONE carries the status and PROGRESS. -/
def State.moveEnd (s : State) (m code : Nat) : State :=
  (s.setF F.arbMoveStatus_STATUS m code).raise (Ev.MOVE_DONE m) (word code :: words32 (s.f F.arbMoveProgress_BYTES m))

/-- R368: the mover runs, and its first unit goes to the arbiter. -/
def State.moveRun (s : State) (m : Nat) : State :=
  ((s.setF F.arbMoveStatus_STATUS m 1).setMover m fun v => { v with go := s.now }).moveArm m

/-- R368: GO. -/
def State.moveGo (s : State) (m : Nat) : State :=
  let st := s.f F.arbMoveStatus_STATUS m
  if st = 1 then s
  else if st = 2 ∧ !(s.mover m).fresh then s.moveRun m
  else
    let s1 := (s.setF F.arbMoveProgress_BYTES m 0).setMover m fun _ => Mover.reset
    if s.f F.arbMoveLen_LEN m = 0 then s1.setF F.arbMoveStatus_STATUS m 3
    else
      let c := s.moveCheckGo m
      if c = 0 then s1.moveRun m else s1.moveEnd m c

def State.moveStop (s : State) (m : Nat) : State :=
  if s.f F.arbMoveStatus_STATUS m = 1 then s.setMover m fun v => { v with stop := true } else s

/-- R369: a write to SRC, DST or LEN while PAUSED. -/
def State.moveTouched (s : State) (m : Nat) : State :=
  if s.f F.arbMoveStatus_STATUS m = 2 then (s.setF F.arbMoveProgress_BYTES m 0).setMover m fun v => { v with fresh := true } else s

/-- A write of ARB_MOVEm.CTL: OWNER only by the house. -/
def State.wrMoveCtl (s : State) (m v : Nat) (house : Bool) : State :=
  let s1 := s.setF F.arbMoveCtl_DL m v
  let s2 := if house then s1.setF F.arbMoveCtl_OWNER m (v / 65536) else s1
  let s3 := if bits v 22 1 = 1 then s2.moveStop m else s2
  if bits v 21 1 = 1 then s3.moveGo m else s3

/-- R369: the unit under way is complete: every request answered. -/
def State.moveReady (s : State) (m : Nat) : Bool := s.f F.arbMoveStatus_STATUS m == 1 && (s.mover m).writing && (s.mover m).left == 0

/-- R369: what lies outside DRAM of a unit's destination takes the words read. -/
def State.movePut (s : State) (m : Nat) : State :=
  (List.zip (s.moveDsts m) (s.mover m).buf).foldl (fun (s : State) e =>
    match e.1 with
    | some (.dram _) => s
    | some pl => s.placeWrite pl e.2
    | none => s) s

/-- R369: a 256-byte unit is complete, and the next competes in the arbiter. -/
def State.moveUnit (s : State) (m : Nat) : State :=
  let done := s.f F.arbMoveProgress_BYTES m + min 256 (s.f F.arbMoveLen_LEN m - s.f F.arbMoveProgress_BYTES m)
  if !s.moveAllowed m then s.moveEnd m 7
  else if (s.mover m).err then s.moveEnd m 8
  else
    let s2 := (s.movePut m).setF F.arbMoveProgress_BYTES m done
    if (s.mover m).kill then ((s2.setF F.arbMoveStatus_STATUS m 0).setF F.arbMoveProgress_BYTES m 0).setMover m fun _ => Mover.reset
    else if s.f F.arbMoveLen_LEN m ≤ done then s2.moveEnd m 3
    else if (s.mover m).stop then (s2.setF F.arbMoveStatus_STATUS m 2).setMover m fun _ => Mover.reset
    else s2.moveArm m

/-- R370: a STALL reset of the owner. -/
def State.moveStallReset (s : State) (x : Nat) : State :=
  (List.range 32).foldl (fun (s : State) m =>
    if s.f F.arbMoveCtl_OWNER m = x then
      if s.f F.arbMoveStatus_STATUS m = 1 then s.setMover m fun v => { v with kill := true }
      else (s.setF F.arbMoveStatus_STATUS m 0).setF F.arbMoveProgress_BYTES m 0
    else s) s

/-! ### Commands -/

/-- R353, R354: `fail` 0: READY; 1 or 2: subchannel 0 or 1 has failed. Also ends the centring after self-refresh. -/
def execTrainingComplete (ch : Fin 4) (fail : Fin 3) (s : State) : Res :=
  run s (onlyIf (s.dstate ch == 1 || (s.dstate ch == 3 && s.f F.supPwr_STATE != 2)) fun s =>
    if fail.val = 0 then (s.setF F.drcStatus_STATE ch 2).setCtl fun c => { c with lastTrain := c.lastTrain.set 0 ch s.now }
    else ((s.setF F.drcStatus_STATE ch 5).setF F.drcStatus_FAIL_REASON ch (1 + fail.val)).raise (Ev.DRAM_FAIL ch))

def execDramRetrainAuto (ch : Fin 4) (temp : Fin 128) (s : State) : Res :=
  run s (onlyIf (s.retrainAutoDue ch temp) fun s => s.retrain ch true)

def execTrainDone (ch : Fin 4) (s : State) : Res :=
  run s (onlyIf (s.f F.drcTrain_STATUS ch == 1 && (s.ctl.outSub.get (0, 0) ch).1 == 1) fun s =>
    let s1 := ((s.setF F.drcTrain_STATUS ch 2).setF F.drcStatus_STATE ch 2).setCtl fun c => { c with lastTrain := c.lastTrain.set 0 ch s.now }
    (s1.raise (Ev.TRAIN_DONE ch)).maintDone (0x10 + ch))

/-- R366, R357: `chk` is what the read-modify-write of an admitted write finds. -/
def execDramRequestAdmit (ch : Fin 4) (chk : DramCheck) (s : State) : Res :=
  run s fun s =>
    match (if ch.val = 0 then s.badWaiting else none) with
    | some w =>
      let s1 := s.addrError w.req.requester
      match w.who with
      | none => s1.unitFailed w.req
      | some (t, q) => if q.load then s1.loadAnswer t none else s1.storeFailed t q
    | none =>
      if s.dstate ch = 2 ∨ s.dstate ch = 4 then
        match s.arbPick ch with
        | some (w, p) => s.admitReq w p chk
        | none => s
      else s

/-- R355, R358: due on a subchannel in service. -/
def execDramCommandIssue (ch : Fin 4) (sub : Fin 2) (chk : DramCheck) (s : State) : Res :=
  run s (onlyIf (s.dstate ch == 2 || (s.dstate ch == 4 && !s.subOut ch sub)) fun s => s.commandIssue ch sub chk)

def execRefreshDue (ch : Fin 4) (sub rank : Fin 2) (ba : Fin 4) (s : State) : Res :=
  run s (onlyIf (s.dstate ch == 2 || s.dstate ch == 4) fun s => s.refreshDue ch sub rank ba)

/-- R359: `beyond`: a rank's reading is beyond the devices' range. -/
def execMr4Poll (ch : Fin 4) (code : Fin 8) (beyond : Bool) (s : State) : Res :=
  run s (onlyIf (s.dstate ch == 2) fun s =>
    let s1 := s.setF F.drcStatus_REF_RATE ch code
    if beyond then s1.raise (Ev.DRAM_HOT ch) else s1)

/-- R361: due once the courses of the throttle are over. -/
def execThrottleExpiry (r : Fin 64) (ch : Fin 4) (s : State) : Res :=
  run s (onlyIf (s.ctl.throttled.get 0 (ch * 64 + r) != 0 && !s.isThrottled ch r) fun s =>
    s.setCtl fun c => { c with throttled := c.throttled.set 0 (ch * 64 + r) 0 })

def execDramReadDone (ch : Fin 4) (chk : DramCheck) (s : State) : Res := run s fun s => s.readDone ch chk

/-- R369: due once every request of the unit has been answered. -/
def execMoveUnitDone (m : Fin 32) (s : State) : Res := run s (onlyIf (s.moveReady m) fun s => s.moveUnit m)

end Sys2Proof.Machine
end

