-- ==== Sys2Proof/Machine/ScpCore.lean ====
section
/-! DEFINITION. Stalls and SCP sessions (R371-R393): creation and keys, sessions, and the frames that the SCP engine sends. -/

namespace Sys2Proof.Machine

/-! ### Sessions (R377-R380) -/

def State.sess (s : State) (x : Nat) : Session := s.sessions.get Session.reset x

def State.setSess (s : State) (x : Nat) (f : Session → Session) : State :=
  { s with sessions := s.sessions.set Session.reset x (f (s.sess x)) }

/-- SCP_STALLx.STATE.STATE: 0 ABSENT, 1 CREATED, 2 STARTED, 3 STOPPED, 4 REMOVING. -/
def State.stallState (s : State) (x : Nat) : Nat := s.f F.scpStallState_STATE x

/-- R398: NOTICE records of an owner whose session has ended are dropped and counted, but for STILL. -/
def State.dropNotices (s : State) (x : Nat) : State :=
  let gone := s.evRecs.filter fun e => e.owner == x && e.notice && evStallPart e.src != some 15
  State.count { s with evRecs := s.evRecs.filter fun e => !(e.owner == x && e.notice && evStallPart e.src != some 15) }
    F.scpStatNoticeDrop_NOTICE_DROP x gone.length

/-- R15: captured halves go with the session that captured them. -/
def State.dropCaptures (s : State) (x : Nat) : State := { s with captures := s.captures.filter fun e => e.1 / 2 ^ 24 != 1032 + x }

/-- R378: a target's session ends. -/
def State.sessionEnd (s : State) (x : Nat) : State :=
  if !s.sessionOpen x then s
  else
    let s1 := (s.wr .scpStallSession x 0 0).setSess x fun e => { e with waiting := [], stored := [], credit := 0 }
    (s1.dropCaptures x).dropNotices x

/-- R380: the port that device frames take: the session's, or the other H port while that one is down. -/
def State.sessionPort (s : State) (x : Nat) : Option Nat :=
  let p := 8 + s.f F.scpStallSession_PORT x
  if s.linkUp p then some p else if s.linkUp (17 - p) then some (17 - p) else none

/-- R379: a session's REKEY. -/
def State.rekey (s : State) (x : Nat) : State :=
  if 0xFFFF0000 < s.f F.scpStallLast_SEQ x ∨ 0xFFFF0000 < s.f F.scpStallDseq_DSEQ x then s.setF F.scpStallSession_REKEY x 1 else s

/-- R378: the nonce of a frame of a session: KIND, TARGET, six zero bytes and the sequence, most significant byte first. -/
def scpNonce (kind x seq : Nat) : List Byte := bytes ([kind, x, 0, 0, 0, 0, 0, 0] ++ bytesOf 4 seq)

/-- R377: the nonce of a HELLO (1) and of its response (2): one byte and NH bytes 0-10. -/
def helloIv (kind : Nat) (nh : BitVec 128) : List Byte := bytes (kind :: (bytesOf 16 nh.toNat).take 11)

def keyBytes (k : BitVec 256) : List Byte := bytes (bytesOf 32 k.toNat)

/-- R375: a frame's header. `flags` are RESP and DEV. -/
def State.scpHead (s : State) (x op seq flags status len : Nat) : List Word :=
  [word (0x5100 + op), word (x + flags * 32 + s.f F.scpStallSession_REKEY x * 128 + status * 256)] ++ words32 seq ++ [word len, 0, 0, 0]

/-- A frame of a session with its header, body and what is sent of them; its length is that of the Ethernet frame without FCS. -/
def scpOut (x kind op seq : Nat) (words : List Word) (sealed : List Byte) : ScpOut :=
  { session := x, cls := kind, op := op, seq := seq, words := words, sealed := sealed, bytes := max 60 (14 + sealed.length) }

/-- R378: a frame under the session key. -/
def State.scpFrame (s : State) (x kind op seq flags status : Nat) (body : List Word) : ScpOut :=
  let head := s.scpHead x op seq flags status (2 * body.length)
  let key := keyBytes (s.sess x).key
  let text := gcmText key (scpNonce kind x seq) (wordBytes body)
  scpOut x kind op seq (head ++ body) (wordBytes head ++ text ++ gcmSeal key (scpNonce kind x seq) (wordBytes head) text)

/-- R377: the response to a HELLO, authenticated under the long-term key and not encrypted. -/
def State.helloFrame (s : State) (x : Nat) (key : List Word32) (nh : BitVec 128) (body : List Word) : ScpOut :=
  let words := s.scpHead x 1 0 1 0 (2 * body.length) ++ body
  scpOut x 2 1 0 words (wordBytes words ++ gcmSeal (w32Bytes key) (helloIv 2 nh) (wordBytes words) [])

/-- R377: the session key: HMAC-SHA-384 keyed with the long-term key over "Brozel SCP", TARGET, NH and ND, cut to 32 bytes. -/
def sessionKey (key : List Word32) (x : Nat) (nh : BitVec 128) (nd : List Word) : BitVec 256 :=
  let text := [0x42, 0x72, 0x6F, 0x7A, 0x65, 0x6C, 0x20, 0x53, 0x43, 0x50, x] ++ bytesOf 16 nh.toNat ++ nats (wordBytes nd)
  BitVec.ofNat 256 (numOf ((hmac384 (nats (w32Bytes key)) text).take 32))

/-- R449, R317: a frame enters the SCP queue of an H port that is up; otherwise it is counted as flushed. Frames beyond the queue's 256 are
those that the engine holds, in release order. -/
def State.scpPlace (s : State) (p : Nat) (f : ScpOut) : State :=
  if s.linkUp p then s.setOut p fun o => { o with scpQ := o.scpQ ++ [.scp f] } else s.count F.prtTxFlushed_COUNT p

/-- R380, R379: the response to a command, kept for a retry. -/
def State.respond (s : State) (x : Nat) (c : ScpCmd) (status : Nat) (body : List Word) : State :=
  let s := s.rekey x
  let f := s.scpFrame x 2 c.op c.seq 1 status body
  (s.setSess x fun e => { e with stored := (f :: e.stored).take 16 }).scpPlace c.port f

/-- Whether a device frame can be built for a target now (R387, R449): an open session, an H port up, room in its queue, and sequences
left (R379). -/
def State.deviceReady (s : State) (x : Nat) : Bool :=
  s.sessionOpen x && decide (s.f F.scpStallDseq_DSEQ x < 0xFFFFFFFF) &&
    match s.sessionPort x with
    | some p => decide ((s.outPort p).scpQ.length < 256)
    | none => false

/-- R379, R380: a device-originated frame. -/
def State.deviceFrame (s : State) (x op : Nat) (body : List Word) : State :=
  match s.sessionPort x with
  | some p =>
    let s1 := (s.setF F.scpStallDseq_DSEQ x (s.f F.scpStallDseq_DSEQ x + 1)).rekey x
    s1.scpPlace p (s1.scpFrame x 3 op (s1.f F.scpStallDseq_DSEQ x) 2 0 body)
  | none => s

/-! ### Stalls (R371-R374, R393) -/

/-- RESULT, REASON and BUSY_ID of SCP_STALLx.STATE: RESULT 1 DONE, 2 REFUSED, 3 BUSY. -/
def State.stallResult (s : State) (x result reason id : Nat) : State :=
  ((s.setF F.scpStallState_RESULT x result).setF F.scpStallState_REASON x reason).setF F.scpStallState_BUSY_ID x id

/-- R372: CREATE. -/
def State.create (s : State) (x : Nat) : State :=
  if s.stallState x ≠ 0 then s.stallResult x 2 5 0
  else if !s.b F.scpStallState_KEY_SET x then s.stallResult x 2 1 0
  else if (s.lowCluster x).isNone then s.stallResult x 2 2 0
  else if s.f F.stlLedgerSize_SIZE x = 0 then s.stallResult x 2 3 0
  else (s.setF F.scpStallState_STATE x 1).stallResult x 1 0 0

/-- R393: a write of KEY7 completes the key. -/
def State.keyDone (s : State) (x : Nat) : State := ((s.setF F.scpStallState_KEY_SET x 1).sessionEnd x).dropKeys x

/-- The long-term key of a target (R377, R430): the stall's, or the house key of the life-cycle state; none where there is none.
MAKER's maker key is a fuse row the manual gives no value of. -/
def State.longKey (s : State) (x : Nat) : Option (List Word32) :=
  if x < 16 then
    if s.b F.scpStallState_KEY_SET x then some ((List.range 8).map fun i => BitVec.ofNat 32 (s.rd .scpKey x i)) else none
  else
    match s.fuses.lcState with
    | 0 => some ((List.range 8).map Config.makerKey)
    | 1 => s.fuses.ownerKey
    | 2 => s.fuses.ownerKey
    | 3 => s.fuses.returnKey
    | _ => none

end Sys2Proof.Machine
end

