-- ==== Sys2Proof/Machine/EventRows.lean ====
section
/-! DEFINITION. Commands of the event controller and the ledger recorders (R396-R407). -/

namespace Sys2Proof.Machine

/-! ### Records (R397, R399) -/

/-- R399: the 16 words of an event record. -/
def EvRec.wordsOf (e : EvRec) (lost : Bool) : List Word :=
  let data := (e.data ++ List.replicate 10 0).take 10
  [word (e.src + boolNat lost * 2 ^ 11 + boolNat e.copy * 2 ^ 12), word e.count] ++ words64 e.stamp.toNat ++ data

/-- R397: a COURSE record is deliverable from the next strobe on. -/
def State.deliverable (s : State) (e : EvRec) : Bool :=
  match e.held with
  | some c => c != s.time.course
  | none => true

/-- The oldest record of an owner that can go to a target now. -/
def State.nextRec (s : State) (x : Nat) (notice : Bool) (p : EvRec → Bool) : Option EvRec :=
  s.evRecs.find? fun e => e.owner == x && e.notice == notice && s.deliverable e && p e

/-- R397, R398: a record leaves the pending store; its words. -/
def State.takeRec (s : State) (e : EvRec) : List Word × State :=
  let lost := s.evLost.contains (e.owner, e.notice)
  (e.wordsOf lost, State.count { s with evRecs := s.evRecs.erase e, evLost := s.evLost.filter (· != (e.owner, e.notice)) }
    F.evcOwnerDelivered_DELIVERED e.owner)

/-- R396, R399: channel 2 of the owner's supervisor cluster holds 64 messages. -/
def State.publishRec (s : State) (x : Nat) : State :=
  match s.nextRec x false (fun _ => true), s.supCluster x with
  | some e, some c =>
    if (s.chanQ (chanKey c 2)).length < 64 then
      let (ws, s1) := s.takeRec e
      s1.publish 2000 (chanKey c 2) ws
    else s
  | _, _ => s

/-- R401: a write of EVC_RAISEx. -/
def State.wrRaise (s : State) (x v : Nat) : State :=
  let src := if x = 16 then Ev.HOUSE_SOFT (bits v 0 5) else Ev.SOFT x (bits v 0 5)
  s.raise src [word (v / 65536)]

/-! ### Recorders (R402-R406) -/

def State.recorder (s : State) (r : Nat) : Recorder := s.ldg.get Recorder.reset r

def State.setRecorder (s : State) (r : Nat) (f : Recorder → Recorder) : State := { s with ldg := s.ldg.set Recorder.reset r (f (s.recorder r)) }

/-- R405: CLEAR. -/
def State.histClear (s : State) (r : Nat) : State :=
  s.setRecorder r fun e => { e with histGen := genNext e.histGen, count := 0, min := 0xFFFFFFFF, max := 0, bins := [], last := none }

/-- R409: a DEVICE reset abandons a capture in progress: its record keeps an odd GEN; what of a slot had been written is open. -/
def State.captureAbandon (s : State) (r : Nat) : State :=
  let (busy, s) := s.capturing r
  let s1 := s.setRecorder r fun e => { e with since := none }
  if !busy then s1
  else if s.f F.ldgCfg_MODE r = 1 then s1.setRecorder r fun e => { e with histGen := e.histGen - 1 }
  else
    let head := (s.f F.ldgStat_HEAD r + 1023) % 1024
    let (ws, s2) := (List.range 39).foldl (fun (a : List Word × State) _ => let (w, s) := a.2.freeWord; (a.1 ++ [w], s)) ([], s1)
    (s2.setRecorder r fun e => { e with slots := e.slots.set ⟨0, []⟩ head ⟨(e.slots.get ⟨0, []⟩ head).gen - 1, ws⟩ }).setF F.ldgStat_HEAD r head

/-- R406: ARM. -/
def State.arm (s : State) (r : Nat) : State :=
  match s.maintBusy (0x80 + r) with
  | some b => ((s.maintRefuse (0x80 + r) b).setF F.ldgCtl_ARM_STATUS r 3).setF F.ldgCtl_BUSY_ID r b
  | none => ((s.maintStart (0x80 + r)).setF F.ldgCtl_ARM_STATUS r 1).setRecorder r fun e => { e with rearming := true }

/-- R406: the slots are zeroed but for GEN, which goes on by 2. -/
def State.rearm (s : State) (r : Nat) : State :=
  let s1 := s.setRecorder r fun e =>
    { e with rearming := false, slots := ((List.range 1024).map fun i => (i, RecSlot.mk (genNext (e.slots.get ⟨0, []⟩ i).gen) [])).filter fun q => q.2 != ⟨0, []⟩ }
  let s2 := ((s1.setF F.ldgStat_HEAD r 0).setF F.ldgStat_FILLED r 0).setF F.ldgStat_STOPPED r 0
  (s2.setF F.ldgCtl_ARM_STATUS r 2).maintDone (0x80 + r)

/-- R403, R405, R406: a write of LDG_CFGr.CTL. -/
def State.wrLdgCtl (s : State) (r v : Nat) : State :=
  let s1 := if bits v 2 1 = 1 then s.histClear r else s
  let s2 := if bits v 1 1 = 1 then s1.arm r else s1
  if bits v 0 1 = 1 ∧ s2.f F.ldgCfg_TRIG r ≠ 0 then State.capture 100 3 r s2 else s2

/-- R403: a periodic recorder is due in the courses that PERIOD divides. -/
def State.periodicDue (s : State) (r : Nat) : Bool :=
  let p := s.f F.ldgTrig_PERIOD r
  s.f F.ldgCfg_TRIG r == 2 && p != 0 && s.course % p == 0 && (s.recorder r).tick != s.course + 1

def execEventRecordPublish (x : Target) (s : State) : Res := run s fun s => s.publishRec x

def execPeriodicTrigger (r : Fin 32) (s : State) : Res :=
  run s (onlyIf (s.periodicDue r) fun s => State.capture 100 2 r (s.setRecorder r fun e => { e with tick := s.course + 1 }))

/-- R406: due while the re-arming runs. -/
def execRearmComplete (r : Fin 32) (s : State) : Res := run s (onlyIf (s.recorder r).rearming fun s => s.rearm r)

end Sys2Proof.Machine
end

