-- ==== Sys2Proof/Machine/Resets.lean ====
section
/-! DEFINITION. Resets, power states and life cycle (R410-R420, R424-R430). -/

namespace Sys2Proof.Machine

/-! ### STALL reset (R413) -/

/-- R413, step 1: a discarded frame takes DROP. -/
def State.stallDrop (s : State) (x : Nat) : State :=
  let s1 := (s.slotsWhere fun _ p => p.pkt.stall == some x).foldl (fun (s : State) e => s.slotOut e.1 e.2.1 e.2.2 State.verdictDrop false) s
  let s2 := (List.range 16).foldl (fun (s : State) c =>
    let (mine, stay) := (s.clusterQ.get [] c).partition fun p => p.stall == some x
    mine.foldl (fun (s : State) p => (s.count F.dspStatOverrun_OVERRUN x).verdictDrop p) { s with clusterQ := s.clusterQ.set [] c stay }) s1
  let q := s2.defers.get [] x
  q.foldl (fun (s : State) p => (s.count F.dspStatDefers_DEFER_DROP x).verdictDrop p) { s2 with defers := s2.defers.set [] x [] }

/-- R413, R160: frames of the stall still on their way to the dispatcher take the verdict STOPPED; those whose learning is due learn first. -/
def State.transitDrop (s : State) (x : Nat) : State :=
  let mine := fun (p : Pkt) => p.stall == some x
  let ps := (s.cipherQ ++ s.reparseQ ++ s.classQ ++ s.dispQ).filter mine
  let s1 := (s.learnQ.filter mine).foldl (fun (s : State) p => s.learnNow p) s
  let s2 := { s1 with cipherQ := s1.cipherQ.filter (!mine ·), reparseQ := s1.reparseQ.filter (!mine ·), classQ := s1.classQ.filter (!mine ·),
                      learnQ := s1.learnQ.filter (!mine ·), dispQ := s1.dispQ.filter (!mine ·),
                      heldFrames := s1.heldFrames.filter fun h => !mine h.pkt || (s1.cell h.pkt.cell).held }
  ps.foldl (fun (s : State) p => s.verdictStopped p) s2

/-- R159: a STALL reset frees at once every chain of the stall whose head is not HELD. -/
def State.freeStall (s : State) (x : Nat) : State :=
  let keep := ((s.cells.filter fun e => e.2.alloc && e.2.held).map (·.1)).flatMap s.chain
  let gone := (s.cells.filter fun e => e.2.alloc && e.2.owner == x && !keep.contains e.1).map (·.1)
  ({ s with freeAfter := s.freeAfter.filter fun e => !gone.contains e.2.1,
            idents := s.idents.map fun (e : Ident) => { e with cell := e.cell.filter fun h => !gone.contains h } }.freeCells gone).relevel x

/-- R413, step 5: the stall's pending records are dropped and count in LOST. -/
def State.dropRecords (s : State) (x : Nat) : State :=
  State.count { s with evRecs := s.evRecs.filter fun e => e.owner != x } F.evcOwnerLost_LOST x (s.evRecs.filter fun e => e.owner == x).length

/-- R143: a running sweep of the stall ends with no result. -/
def State.sweepEnd (s : State) (x : Nat) : State :=
  if (s.sweeps.get none x).isSome then { s with sweeps := s.sweeps.set none x none }.maintEnd (0x30 + x) else s

def clustersOf (s : State) (x : Nat) : List Nat := (List.range 16).filter fun c => s.clusterOwner c == x

/-- R413: a STALL reset. -/
def State.stallReset (s : State) (x : Nat) : State :=
  let cs := clustersOf s x
  let ks := cs.flatMap coresOfCluster
  let s1 := (((s.retiresOf ks).stallDrop x).transitDrop x).resetCores ks
  let s2 := cs.foldl (fun (s : State) c => s.emptyChannels c) s1
  let s3 := { s2 with chanCfg := s2.chanCfg.filter fun e => !cs.contains (e.1 / 1024) }
  let s4 := ((((s3.freeStall x).graphStallReset x).clsStallReset x).moveStallReset x).sweepEnd x
  ((s4.dropKeys x).resetFields .stall x).dropRecords x

/-! ### DEVICE reset (R414, R418) -/

/-- R414, step 2: the station cache is written back, but for chunks of courses not accepted (R325). -/
def State.cacheBack (s : State) : State :=
  let s1 := s.stn.foldl (fun (s : State) e => s.stnClean e.1) s
  { s1.stnWait.foldl (fun (s : State) e => s.chunksBack e.1 e.2 (s.acceptedChunks e.2)) s1 with stn := [], stnWait := [] }

/-- R354: the channels that hold contents enter self-refresh. -/
def State.selfRefresh (s : State) : State :=
  (List.range 4).foldl (fun (s : State) ch => if s.dstate ch = 2 ∨ s.dstate ch = 4 then s.setF F.drcStatus_STATE ch 3 else s) s

/-- R293, R294: EPOCH advances. -/
def State.epochNext (s : State) : State :=
  let e := s.f F.atmCfg_EPOCH + 1
  let s1 := s.setF F.atmCfg_EPOCH 0 (e % 4096)
  if e = 4096 then (s1.setF F.atmCfg_WRAPPED 0 1).raise Ev.LOCK_EPOCH_WRAP else s1

/-- What outlives the memories of the device: cells out of service, and the order of stamps (R159, R68). -/
def State.cellsKept (s : State) : Tab CellLink :=
  (s.cells.filter fun e => e.2.oos).map fun e => (e.1, { CellLink.reset with oos := true })

def State.portsKept (s : State) : Tab Port :=
  s.ports.foldl (fun (t : Tab Port) e => t.set Port.reset e.1 { Port.reset with lastAt := e.2.lastAt, upAt := e.2.upAt }) []

def State.sessionsKept (s : State) : Tab Session :=
  s.sessions.foldl (fun (t : Tab Session) e =>
    t.set Session.reset e.1 { Session.reset with gen := e.2.gen, nonces := e.2.nonces, high := e.2.high }) []

/-- R414: a DEVICE reset, with its cause's code and the level of the ROLE strap, which it samples (R25). House and SCP causes write the station
cache back. EPOCH advances from what it was (R294). -/
def State.deviceReset (s : State) (cause : Nat) (strap : Nat) : State :=
  -- R343: a record whose END writes were all admitted is complete
  let s := if s.journalDue then s.journalDone else s
  let was := s.stlState = 1 ∨ s.stlState = 5
  let gen := s.f F.stlJournalFree_GEN
  let s1 := if cause = 2 ∨ cause = 3 then s.cacheBack else s
  let s1 := (List.range 32).foldl (fun (s : State) r => s.captureAbandon r) s1
  let s2 := (s1.selfRefresh).resetFields .device 0
  let s3 : State :=
    { State.reset with
      time := s.time, pending := s.pending, regs := s2.regs, freeCtr := s1.freeCtr, useCtr := s.useCtr, fuses := s.fuses, ldg := s1.ldg,
      emits := s.emits, dram := s1.dram, ports := s.portsKept, cells := s.cellsKept, needReconcile := true, rangeZero := s.rangeZero,
      acceptedPlus := s.acceptedPlus, ledger := s.ledger, unretired := s.unretired, journal := s.journal, sessions := s.sessionsKept, qstat := s.qstat,
      ctl := { Dram.reset with log := s.ctl.log, lastTrain := s.ctl.lastTrain },
      stl := { Stl.reset with recover := if was then some gen else none },
      sup := { Sup.reset with kicked := s.course, held := cause == 5, fromPower := false, gate := was, nonce := s.sup.nonce,
                              roots := s.sup.roots, wipe := s.sup.wipe, pin := strap } }
  let s4 := ((s3.setF F.stlStatus_WAS_ALONE 0 (boolNat was)).setF F.supStatus_CAUSE 0 cause).count F.supStatus_DEV_RESETS
  let s5 := (s4.setF F.atmCfg_EPOCH 0 (s.f F.atmCfg_EPOCH)).setF F.atmCfg_WRAPPED 0 (s.f F.atmCfg_WRAPPED)
  ((s5.setF F.stlStatus_STRAP 0 strap).epochNext).emit (.alive false)

/-- R410: a POWER reset: only the fuses, and the model's own record and queue, stay. -/
def State.powerReset (s : State) (strap : Nat) : State :=
  { State.reset with
    pending := s.pending, freeCtr := s.freeCtr, fuses := s.fuses, emits := s.emits,
    sup := { Sup.reset with nonce := s.sup.nonce + 1, wipe := s.sup.wipe, pin := strap } }.setF F.stlStatus_STRAP 0 strap

/-- R25: the level of the ROLE strap, as the latest POWER or PIN reset gave it; it stays (log entry 101). -/
def State.strap (s : State) : Nat := s.sup.pin

/-! ### SUP_RST and SCP RESET (R386, R411) -/

/-- R413: the reset of a kind (1 STALL, 2 CLUSTER, 3 CORE, 4 THREAD) on an ID in the thread-id layout. -/
def State.resetKind (s : State) (kind id : Nat) : State :=
  match kind with
  | 1 => s.stallReset (id % 16)
  | 2 => s.clusterReset (id / 64 % 16)
  | 3 => s.coreReset (id / 8 % 128)
  | 4 => s.threadReset (id % 1024)
  | _ => s

/-- Whether the scope of a reset lies in a stall. -/
def State.ownsScope (s : State) (x kind id : Nat) : Bool := if kind = 1 then id % 16 == x else s.clusterOwner (id / 64 % 16) == x

/-- R411: a write of SUP_RSTx.CMD. -/
def State.wrSupRst (s : State) (a : Accessor) (x v : Nat) : State :=
  let kind := bits v 0 3
  let id := bits v 3 10
  let refuse := fun (r : Nat) => (s.setF F.supRstStatus_STATE x 3).setF F.supRstStatus_REASON x r
  if kind = 0 ∨ 4 < kind then s
  else if x < 16 ∧ !s.isSupervisor a x then refuse 1
  else if x < 16 ∧ kind = 1 then refuse 2
  else if x < 16 ∧ !s.ownsScope x kind id then refuse 1
  else ((s.resetKind kind id).setF F.supRstStatus_STATE x 2).setF F.supRstStatus_REASON x 0

/-! ### Supervision (R415-R417) -/

/-- R1, R417: the grade's maximum junction temperature. -/
def State.tjMax (s : State) : Int := if s.fuses.grade = 0 then 105 else 95

/-- R416: COURSES whole courses have passed since the course of the latest KICK. -/
def State.wdogDue (s : State) : Bool := s.f F.supWdog_COURSES != 0 && s.sup.kicked + s.f F.supWdog_COURSES + 1 ≤ s.course

def State.setSup (s : State) (f : Sup → Sup) : State := { s with sup := f s.sup }

/-- R416: a write of SUP_WDOG; a period begins with the course of the write. -/
def State.wrWdog (s : State) (v : Nat) : State :=
  let old := s.f F.supWdog_COURSES
  let s1 := s.setF F.supWdog_COURSES 0 v
  if bits v 16 1 = 1 ∨ v % 65536 ≠ old then s1.setSup fun u => { u with kicked := s.course } else s1

/-- R415: a write of SUP_CTL: ADMIT waits for RECOVERED where it must; DEVRST resets. -/
def State.wrSupCtl (s : State) (v : Nat) : State :=
  let s1 := s.setF F.supCtl_HVBASE 0 (bits v 2 10)
  let s2 := if bits v 0 1 = 1 ∧ s1.sup.gate ∧ !s1.b F.supBoot_RECOVERED then s1 else s1.setF F.supCtl_ADMIT 0 v
  if bits v 1 1 = 1 then s2.deviceReset 2 s2.strap else s2

/-- R417: the sensor's value of a lath. -/
def State.thermal (s : State) (tj : Nat) : State :=
  let t := signed 8 tj
  let warn := signed 8 (s.f F.supTemp_WARN)
  let s1 := s.setF F.supTemp_TJ 0 tj
  let s2 := if decide (warn ≤ t) && !s1.sup.warned then s1.raise Ev.THERMAL_WARN else s1
  let s3 := if decide (s.tjMax ≤ t) && !s2.sup.crit then s2.raise Ev.THERMAL_CRIT else s2
  s3.setSup fun u => { u with warned := decide (warn ≤ t), crit := decide (s.tjMax ≤ t), held := u.held && decide (s.tjMax + 15 - 10 < t) }

/-- R417: the trip point is reached. -/
def State.tripDue (s : State) : Bool := !s.sup.held && decide (s.tjMax + 15 ≤ signed 8 (s.f F.supTemp_TJ))

/-! ### Leaving OFF (R415, R345, R338) -/

/-- R415: what the settlement unit needs to leave OFF. -/
def State.leaveDue (s : State) : Bool :=
  s.stlState == 0 && s.time.live && s.stl.toState.isNone && s.sup.ready && s.f F.supPwr_STATE == 0 && !s.b F.supBoot_DEGRADED &&
    s.stl.recover.isNone && (List.range 4).all fun ch => s.dstate ch != 5

/-- R338, R345: the state that follows OFF. -/
def State.leaveState (s : State) : Nat :=
  match s.sup.ret with
  | some true => 5
  | some false => if s.f F.stlCfg_ARRANGE = 0 then 1 else 2
  | none => if s.f F.stlCfg_ARRANGE = 0 then 1 else if s.b F.stlStatus_WAS_ALONE then 5 else 2

/-- R338, R415: the state that follows OFF begins at the course-start strobe. -/
def State.leaveOff (s : State) : State := s.stlNext s.leaveState

/-! ### STANDBY (R419, R420) -/

/-- SUP_PWR's RESULT (1 DONE, 2 REFUSED, 3 BUSY), REASON and BUSY_ID. -/
def State.pwrResult (s : State) (result reason id : Nat) : State :=
  ((s.setF F.supPwr_RESULT 0 result).setF F.supPwr_REASON 0 reason).setF F.supPwr_BUSY_ID 0 id

/-- R420: a write of REQ = STANDBY; it is accepted at the strobe of the next course. -/
def State.standbyRequest (s : State) : State :=
  if s.f F.supPwr_STATE ≠ 0 then s
  else if !(s.stlState == 0 || s.stlState == 1 || s.stlState == 5) then s.pwrResult 2 1 0
  else
    match s.maintBusy 0x63 with
    | some b => (s.maintRefuse 0x63 b).pwrResult 3 0 b
    | none =>
      (((s.maintStart 0x63).setF F.supPwr_STATE 0 1).pwrResult 0 0 0).setSup fun u =>
        { u with standby := some { course := s.course + 1, alone := s.stlState == 5 } }

/-- R19: fields that do not keep their value through STANDBY; the H ports stay (R418, R419). -/
def Reg.standbyWord (r : Reg) (i w : Nat) : Nat :=
  if (r = .prtCfg ∨ r = .prtStatus) ∧ 8 ≤ i ∧ i < 10 then w
  else r.fields.foldl (fun v d => if d.standby then v else putBits v d.lo d.width (bits (r.resetNat i) d.lo d.width)) w

def State.standbyFields (s : State) : State :=
  s.regs.foldl (fun (t : State) e =>
    match Reg.find (e.1 % 0x1000000) with
    | none => t
    | some (r, i, _) => { t with regs := t.regs.set (r.resetWord i) e.1 (BitVec.ofNat 32 (r.standbyWord i e.2.toNat)) }) s

/-- R19: what STANDBY leaves of the registers. STL_STATUS.STRAP has no Reset value: it shows the strap again (DESIGN CHOICE, log entry 132). -/
def State.standbyRegs (s : State) : State := (s.standbyFields).setF F.stlStatus_STRAP 0 s.strap

/-- R420, step 3: every course up to c + 1 is accepted and released, and no packet is left. -/
def State.settledTo (s : State) (c : Nat) : Bool :=
  (s.stlState == 0 || c + 2 ≤ s.acceptedPlus) && s.banks.all (fun b => c + 1 < b.course) &&
    s.released.all (fun r => c + 1 < r.course || r.done.all fun e => e.2.all id) && (s.slotsWhere fun _ _ => true).isEmpty

def State.standbySettled (s : State) : Bool :=
  match s.sup.standby with
  | some b => decide (b.course + 2 ≤ s.course) && s.settledTo b.course
  | none => false

/-- What STANDBY keeps of the house core, which runs on (R419). -/
def houseOf {α : Type} (t : Tab α) (low : Nat) : Tab α := t.filter fun e => low ≤ e.1

/-- R420, steps 4 and 5. -/
def State.standbyEnter (s : State) (alone : Bool) : State :=
  let ts := List.range 1024
  let s1 := (List.range 128).foldl (fun (s : State) k => s.drainAll k) s
  let s2 := s1.cacheBack.freeLocksOf ts
  let s3 := s2.selfRefresh.standbyRegs
  let s4 : State :=
    { State.reset with
      time := s.time, pending := s.pending, regs := s3.regs, captures := s.captures, resp := s.resp, freeCtr := s3.freeCtr,
      useCtr := s3.useCtr, fuses := s.fuses, ldg := s3.ldg, emits := s.emits, dram := s3.dram,
      ports := s.ports.filter fun e => e.1 == 8 || e.1 == 9,
      cells := s.cellsKept, needReconcile := true, rangeZero := s.rangeZero, acceptedPlus := s.acceptedPlus, ledger := s.ledger, unretired := s.unretired,
      journal := s.journal, sessions := s3.sessions, qstat := s.qstat, threads := houseOf s3.threads 1024, cores := houseOf s3.cores 128,
      lockQ := s3.lockQ.filter fun e => 1024 ≤ e.1, sram := houseOf s3.sram (128 * 32768), code := houseOf s3.code (16 * 131072), chains := houseOf s3.chains 1024,
      outPorts := (s.outPorts.filter fun e => e.1 == 8 || e.1 == 9).map (fun e => (e.1, { OutPort.reset with scpQ := e.2.scpQ })),
      ctl := { Dram.reset with log := s.ctl.log, lastTrain := s.ctl.lastTrain, ddr := s.ctl.ddr },
      sup := { s.sup with standby := none, gated := [], ret := some alone } }
  (((s4.setF F.supPwr_STATE 0 2).pwrResult 1 0 0).raise Ev.POWER_STATE).maintDone 0x63

/-- R420: courses are not settled by the strobe of course c + 8. -/
def State.abandonDue (s : State) : Bool :=
  match s.sup.standby with
  | some b => decide (b.course + 8 ≤ s.course) && !s.settledTo b.course
  | none => false

def State.standbyAbandon (s : State) : State :=
  ((((s.maintEnd 0x63).setF F.supPwr_STATE 0 0).pwrResult 2 2 0).setF F.supCtl_ADMIT 0 1).setSup fun u => { u with standby := none }

/-- R420: a write of REQ = RUN. -/
def State.runRequest (s : State) : State :=
  if s.f F.supPwr_STATE = 2 then ((s.standbyRegs).setF F.supPwr_STATE 0 3).setSup fun u => { u with gate := true } else s

def State.setGated (s : State) (cs : List Nat) : State := (s.setSup fun u => { u with gated := cs }).setF F.supPwr_GATED 0 cs.length

/-- A write of SUP_PWR; without IDLE_EN no cluster is gated (R419). -/
def State.wrPwr (s : State) (v : Nat) : State :=
  let s1 := s.setF F.supPwr_IDLE_EN 0 (bits v 4 1)
  let s1 := if bits v 4 1 = 0 ∧ !s1.sup.gated.isEmpty then s1.setGated [] else s1
  match bits v 0 2 with
  | 1 => s1.runRequest
  | 2 => s1.standbyRequest
  | _ => s1

/-- R420, step 1, and the end of LEAVING: what the strobe does. -/
def State.powerStrobe (s : State) : State :=
  let s1 := match s.sup.standby with
    | some b => if s.course = b.course then s.setF F.supCtl_ADMIT 0 0 else s
    | none => s
  if s1.f F.supPwr_STATE = 3 then s1.setF F.supPwr_STATE 0 0 else s1

/-- R419: a cluster with no RUNNING thread, no posted or queued frame and no timer due in the course. -/
def State.clusterIdle (s : State) (c : Nat) : Bool :=
  let lathEnd := (s.time.courseStart.toNat + courseUnits s.time.len) / 1024
  (s.threads.filter fun e => e.1 < 1024 && clusterOf e.1 == c).all (fun e =>
      e.2.st != .running && e.2.packets.all (fun p => p.2.phase == 2) && e.2.timers.all fun m => m.2.due == 0 || lathEnd < m.2.due) &&
    (s.clusterQ.get [] c).isEmpty

/-- R419: gating at the strobe. -/
def State.gateStrobe (s : State) : State :=
  if s.b F.supPwr_IDLE_EN then s.setGated ((List.range 16).filter fun c => s.clusterIdle c) else if s.sup.gated.isEmpty then s else s.setGated []

/-! ### Life cycle (R426-R430) -/

/-- R428: the nonce changes after every request. -/
def State.nonceNext (s : State) : State := s.setSup fun u => { u with nonce := u.nonce + 1 }

def State.lcRefuse (s : State) (reason : Nat) : State :=
  ((s.setF F.supLcReq_RESULT 0 2).setF F.supLcReq_REASON 0 reason).nonceNext

/-- R427: the transition: LIFECYCLE, the fuses, and a DEVICE reset with cause HOUSE. -/
def State.lcGo (s : State) (next : Nat) (f : Fuses → Fuses) : State :=
  let s1 := (s.setF F.supLcReq_RESULT 0 1).raise Ev.LIFECYCLE
  let s2 := { s1 with fuses := f { s1.fuses with lcState := next, transitions := (s1.fuses.transitions + 1) % 8 } }
  (s2.nonceNext).deviceReset 2 s2.strap

/-- R428: the token's words. -/
def State.token (s : State) : List Word32 := (List.range 38).map fun i => BitVec.ofNat 32 (s.rd .supLcToken i)

/-- R428: the token names the device and the nonce, and its signature verifies against the maker root. -/
def State.tokenOk (s : State) : Bool :=
  let w := fun (i : Nat) => (s.token.getD i 0).toNat
  w 0 * 2 ^ 32 + w 1 == s.fuses.serial.toNat && (List.range 4).all (fun i => w (2 + i) == (Config.lifeNonce s.sup.nonce i).toNat) &&
    ecdsaOk Config.makerRoot.1 Config.makerRoot.2 (numOf (sha384 ((nats (w32Bytes s.token)).take 56)))
      (numOf (((nats (w32Bytes s.token)).drop 56).take 48)) (numOf ((nats (w32Bytes s.token)).drop 104))

/-- R429: the keys go on entry into RETURN. -/
def State.clearKeys (s : State) : State :=
  let s1 := (List.range 16).foldl (fun (s : State) x =>
    ((List.range 8).foldl (fun (s : State) i => s.wr .scpKey x i 0) s).sessionEnd x |>.setF F.scpStallState_KEY_SET x 0) s
  ({ s1 with keyCache := [] }).setSup fun u => { u with wipe := true, roots := [], hkeys := [] }

/-- R426, R427: a write of SUP_LC_REQ with GO. A request of the house comes through its session. -/
def State.wrLcReq (s : State) (a : Accessor) (v : Nat) : State :=
  let next := bits v 0 3
  let own := match a with | .session x => x.val == 16 | _ => false
  if bits v 3 1 = 0 then s
  else if !own then s.lcRefuse 2
  else
    match s.fuses.lcState, next with
    | 0, 1 =>
      if s.sup.hkeys.length = 8 ∧ s.sup.roots.length = 12 then
        let key := (List.range 8).map fun i => BitVec.ofNat 32 (s.rd .supHkey i)
        let root := (List.range 12).map fun i => BitVec.ofNat 32 (s.rd .supRoot i)
        s.lcGo 1 fun f => { f with ownerKey := some key, root := some root }
      else s.lcRefuse 1
    | 1, 2 => s.lcGo 2 id
    | 2, 3 =>
      if 8 ≤ s.f F.supLc_BAD_TOKENS then s.lcRefuse 3
      else if !s.tokenOk then (s.setF F.supLc_BAD_TOKENS 0 (s.f F.supLc_BAD_TOKENS + 1)).lcRefuse 3
      else s.clearKeys.lcGo 3 fun f => { f with makerBlown := true, ownerKey := none, root := none, returnKey := some ((s.token.drop 6).take 8) }
    | 4, _ => s.lcRefuse 2
    | _, 4 => s.lcGo 4 id
    | _, _ => s.lcRefuse 2

/-- R421: a write of SUP_ROLLBACK. -/
def State.wrRollback (s : State) (v : Nat) : State := { s with fuses := { s.fuses with rollback := max s.fuses.rollback (bits v 0 6) } }

/-- Writes of the staged owner key and image root (R426). -/
def State.wrHkey (s : State) (i v : Nat) : State := (s.wr .supHkey i 0 v).setSup fun u => { u with hkeys := if u.hkeys.contains i then u.hkeys else i :: u.hkeys }
def State.wrRoot (s : State) (i v : Nat) : State := (s.wr .supRoot i 0 v).setSup fun u => { u with roots := if u.roots.contains i then u.roots else i :: u.roots }

/-! ### Commands -/

def execPowerReset (strap : Fin 2) (s : State) : Res := runT s fun s => s.powerReset strap

/-- R410: cause PIN. -/
def execDeviceReset (strap : Fin 2) (s : State) : Res := run s fun s => s.deviceReset 1 strap

def execWatchdog (s : State) : Res := run s (onlyIf s.wdogDue fun s => s.deviceReset 4 s.strap)

def execThermalTrip (s : State) : Res := run s (onlyIf s.tripDue fun s => s.deviceReset 5 s.strap)

def execSettlementLeaveOff (s : State) : Res := run s (onlyIf s.leaveDue State.leaveOff)

def execStandbySettled (s : State) : Res :=
  run s (onlyIf s.standbySettled fun s => s.standbyEnter (match s.sup.standby with | some b => b.alone | none => false))

def execStandbyAbandon (s : State) : Res := run s (onlyIf s.abandonDue State.standbyAbandon)

/-- R419: due once a gated cluster has something to do. -/
def execClusterWake (c : Fin 16) (s : State) : Res :=
  run s (onlyIf (s.sup.gated.contains c.val && !s.clusterIdle c) fun s => s.setGated (s.sup.gated.filter (· != c.val)))

end Sys2Proof.Machine
end

