-- ==== Sys2Proof/Machine/RegAccess.lean ====
section
/-! DEFINITION. Reads and writes of control registers by an accessor (R10-R15, R64, R67, R98, R431-R435), and the commands that are one
register access. -/

namespace Sys2Proof.Machine

/-! ### Reads -/

/-- R435: an access to an unassigned offset is noted. -/
def State.noteUnmapped (s : State) (off : Nat) : State := (s.setF F.crsUnmapped_OFFSET 0 off).count F.crsUnmapped_COUNT

/-- R15, R67: the registers that a read of a low register captures. -/
def Reg.captured : Reg → List Reg
  | .tmbNow0 => [.tmbNow1, .tmbNow2, .tmbNow3]
  | .tmbEpoch0 => [.tmbEpoch1, .tmbEpoch2, .tmbEpoch3]
  | .tmbStampLo => [.tmbStampHi]
  | .tmbTxtsTsLo => [.tmbTxtsTsHi]
  | .crsNowLo => [.crsNowHi]
  | .crsFrameLo => [.crsFrameHi]
  | .prtRxFramesLo => [.prtRxFramesHi]
  | .prtRxBytesLo => [.prtRxBytesHi]
  | .prtTxFramesLo => [.prtTxFramesHi]
  | .prtTxBytesLo => [.prtTxBytesHi]
  | .prtFecCorrLo => [.prtFecCorrHi]
  | .dspClusterIssuedLo => [.dspClusterIssuedHi]
  | .stlAcceptedLo => [.stlAcceptedHi]
  | .stlLedgerNextLo => [.stlLedgerNextHi]
  | .stlLedgerRetiredLo => [.stlLedgerRetiredHi]
  | .crsSerialLo => [.crsSerialHi]
  | .drcLogLo => [.drcLogHi]
  | .atmQueryLo => [.atmQueryHi]
  | _ => []

/-- Where an accessor's captured half of the register at an offset lies. -/
def captureKey (a off : Nat) : Nat := a * 2 ^ 24 + off

/-- R15: the captured half, if the accessor holds one. -/
def State.capturedHalf (s : State) (a off : Nat) : Option Nat :=
  match s.captures.get 0 (captureKey a off) with
  | 0 => none
  | v + 1 => some v

def State.setCapture (s : State) (a off v : Nat) : State := { s with captures := s.captures.set 0 (captureKey a off) v }

/-- R15: what a read captures. -/
def State.captureHalves (s : State) (a : Nat) (r : Reg) (i j : Nat) : State :=
  r.captured.foldl (fun (t : State) h => t.setCapture a (h.off i j) (s.peekReg a h i j + 1)) s

/-- R13: a read clears the RC fields. -/
def State.clearRc (s : State) (a : Nat) (r : Reg) (i j : Nat) : State :=
  r.fields.foldl (fun (t : State) d => if d.access = .rc then t.wrA a r i j (putBits (t.rdA a r i j) d.lo d.width 0) else t) s

/-- R64: a read of TAG pops the oldest entry, whose stamp the accessor then reads in TS_LO and TS_HI. -/
def State.popStamp (s : State) (a n : Nat) : State :=
  match s.txts.get [] n with
  | [] => s
  | e :: rest =>
    ({ s with txts := s.txts.set [] n rest }.setFA a F.tmbTxtsTsLo_STAMP n e.stamp.toNat).setFA a F.tmbTxtsTsHi_STAMP n
      (e.stamp.toNat / 2 ^ 32)

/-- What reading a register does beside returning it (R13, R15, R64, R98, R322). -/
def State.readEffect (s : State) (a : Nat) (r : Reg) (i j : Nat) : State :=
  match r with
  | .tmbTxtsTag => s.popStamp a i
  | .pgrLoadData => s.loadAdvance i
  | .clsLoadData => s.clsAdvance i
  | .dspMaploadData => s.setF F.dspMaploadPtr_INDEX i (s.f F.dspMaploadPtr_INDEX i + 1)
  | .swcLoadData => s.swcAdvance i
  | .swcQstatEnq => s.qstatClear i 0
  | .swcQstatEarly => s.qstatClear i 1
  | .swcQstatCap => s.qstatClear i 2
  | .swcQstatMark => s.qstatClear i 3
  | .swcQstatUnmark => s.qstatClear i 4
  | .swcQstatFlush => s.qstatClear i 5
  | .cluCoreEmpty | .cluCoreRefillWait | .cluCoreSbFull | .tlyUnitQfull =>
    { s.clearRc a r i j with freeCtr := s.freeCtr + 1 }
  | _ => (s.captureHalves a r i j).clearRc a r i j

/-- R435, R15: a read of the register at a byte offset: its value, or none where the accessor may not reach it. -/
def State.regRead (s : State) (a : Accessor) (off : Nat) : Option Nat × State :=
  let off := off / 4 * 4
  match capWord off with
  | some w => (some w, s)
  | none =>
    match Reg.find off with
    | none => (some 0, s.noteUnmapped off)
    | some (r, i, j) =>
      if !s.mayReach (s.accOwner a) r i then (none, s)
      else
        match s.capturedHalf a.num off with
        | some v => (some v, (s.setCapture a.num off 0).clearRc a.num r i j)
        | none => (some (s.peekReg a.num r i j), s.readEffect a.num r i j)

/-! ### Rights (R10, R11) -/

/-- Whose supervisor may write an instance's SV fields: 0-15 a stall; otherwise only the house may. -/
def State.svOwner (s : State) (r : Reg) (i : Nat) : Nat :=
  match r.scope with
  | .dev => 16
  | .graph => s.f F.pgrGraphCfg_OWNER i
  | .stall => i
  | .stallPair => i
  | .stallKey => i
  | .cluster => s.clusterOwner i
  | .core => s.clusterOwner i
  | .thread => s.clusterOwner (i / 64)
  | .hthread => 16
  | .mover => s.f F.arbMoveCtl_OWNER i
  | .source => s.evOwner i
  | .recorder => s.f F.ldgCfg_OWNER i
  | .recorderArr => s.f F.ldgCfg_OWNER i
  | .unit => s.clusterOwner (i / 8)

/-- R11: whether an accessor may write a field. -/
def State.mayWriteField (s : State) (a : Accessor) (r : Reg) (i : Nat) (d : FieldDesc) : Bool :=
  match d.restr with
  | .none => true
  | .house => a.isHouse
  | .sv => a.isHouse || (decide (s.svOwner r i < 16) && s.isSupervisor a (s.svOwner r i))
  | .mk => s.fuses.lcState == 0 || s.fuses.lcState == 3

/-- R11: whether a write of `v` would change a field, or act on it, from its present value `cur`. -/
def FieldDesc.touched (d : FieldDesc) (cur v : Nat) : Bool :=
  let c := bits cur d.lo d.width
  let n := bits v d.lo d.width
  match d.access with
  | .rw => n != c
  | .wo => n != 0
  | .w1c => Nat.land n c != 0
  | .w1s => Nat.land n (2 ^ d.width - 1 - c) != 0
  | _ => false

/-- R11: the writer may write no field of the register, so that a write that is no breach does nothing. -/
def State.powerless (s : State) (a : Accessor) (r : Reg) (i : Nat) : Bool :=
  r.fields.all fun d => d.access = .ro || d.access = .rc || d.access = .hw || !s.mayWriteField a r i d

/-- R11: the write breaches a restriction. -/
def State.breach (s : State) (a : Accessor) (r : Reg) (i j v : Nat) : Bool :=
  r.fields.any fun d => !s.mayWriteField a r i d && d.touched (s.peekReg a.num r i j) v

/-! ### Writes -/

/-- How a register write ends: taken (or ignored), refused by the access rights, or refused by the register itself (R98). -/
inductive WrEnd where
  | ok | denied | refused
  deriving DecidableEq, Repr

/-- Fields that only the house's register of an array has; elsewhere they are reserved. -/
def fieldHere (r : Reg) (i : Nat) (d : FieldDesc) : Bool :=
  i == 16 ||
    match r with
    | .clsLoadPtr => d.lo != 12
    | .dspMaploadPtr => d.lo != 12
    | .schChanPtr => d.lo != 14
    | .atmQuerySel => d.lo != 10
    | .stlAppendTag => d.lo != 16
    | _ => true

/-- R10: one field written. -/
def FieldDesc.write (d : FieldDesc) (w v : Nat) : Nat :=
  let c := bits w d.lo d.width
  let n := bits v d.lo d.width
  match d.access with
  | .rw => putBits w d.lo d.width n
  | .w1c => putBits w d.lo d.width (c - Nat.land c n)
  | .w1s => putBits w d.lo d.width (Nat.lor c n)
  | _ => w

/-- R10: every field written by its behaviour code. -/
def Reg.written (r : Reg) (i w v : Nat) : Nat := r.fields.foldl (fun w d => if fieldHere r i d then d.write w v else w) w

def State.store (s : State) (a : Accessor) (r : Reg) (i j v : Nat) : State := s.wrA a.num r i j (r.written i (s.rdA a.num r i j) v)

/-- R395: sources whose OWNER no write changes. -/
def ownerFixed (n : Nat) : Bool := (0x160 ≤ n && n < 0x180) || (0x1C0 ≤ n && n < 0x1E0) || evForced n

/-- R395: a write of EVC_SRCn. -/
def State.wrSource (s : State) (a : Accessor) (n v : Nat) : State :=
  let keep := s.f F.evcSrc_OWNER n
  let s1 := s.store a .evcSrc n 0 v
  if a.isHouse && !ownerFixed n then s1 else s1.setF F.evcSrc_OWNER n keep

/-- R405: MODE, DELTA and NREGS of a recorder are written only while TRIG is 0. -/
def State.wrLdgCfg (s : State) (a : Accessor) (r v : Nat) : State :=
  if s.f F.ldgCfg_TRIG r = 0 then s.store a .ldgCfg r 0 v
  else
    let v1 := putBits (putBits (putBits v 0 1 (s.f F.ldgCfg_MODE r)) 4 1 (s.f F.ldgCfg_DELTA r)) 6 5 (s.f F.ldgCfg_NREGS r)
    s.store a .ldgCfg r 0 v1

/-- R153: a pool register's new value may move the level, and with it flow control. -/
def State.wrPool (s : State) (a : Accessor) (r : Reg) (x v : Nat) : State := (s.store a r x 0 v).relevel x

/-- A write of SWC_PORTn.CFG: GEOMETRY only while the port is not enabled (R322). -/
def State.wrSwcPort (s : State) (a : Accessor) (n v : Nat) : State :=
  let g := s.f F.swcPortCfg_GEOMETRY n
  (s.store a .swcPortCfg n 0 (if n < 12 && s.b F.prtCfg_ENABLE n then putBits v 0 1 g else v)).drrSync n

/-- R374: REMOVE: the STALL reset is done at acceptance; the rest takes time (STALL_REMOVED). -/
def State.remove (s : State) (x : Nat) : State :=
  if s.stallState x = 2 then s.stallResult x 2 4 0
  else
    match s.maintBusy (0x70 + x) with
    | some b => (s.maintRefuse (0x70 + x) b).stallResult x 3 0 b
    | none => (((s.maintStart (0x70 + x)).setF F.scpStallState_STATE x 4).stallResult x 0 0 0).stallReset x

/-- R374, steps 2 to 6. -/
def State.removed (s : State) (x : Nat) : State :=
  let s1 := (s.usedHandles.filter fun h => s.inRange x h && s.stnFlag h 0).foldl (fun (s : State) h => (s.unbindRec x h).2) s
  let s2 := (List.range 16).foldl (fun (s : State) g => s.setF F.scpSegHi_KIND x 0 g) (s1.setF F.espPrefix_VALID x 0)
  let s3 := State.setF { s2 with ledger := s2.ledger.set [] x [], unretired := s2.unretired.filter (fun e => e.2.stall != x), appends := s2.appends.filter fun e => e.stall != x } F.stlLedgerSize_SIZE x 0
  let s4 := (clustersOf s3 x).foldl (fun (s : State) c => (s.setF F.dspCluster_OWNER c 31).setF F.dspCluster_STATE c 0) s3
  let s5 := ((s4.setF F.clsQuota_ENTRIES x 0).setF F.pkmPoolLimit_LIMIT x 0).relevel x
  let s6 := State.setF (State.setF { s5 with rangeZero := s5.rangeZero.erase x } F.stnRange_BASE x 0) F.stnRange_BLOCKS x 0
  let s7 := ((List.range 8).foldl (fun (s : State) i => s.wr .scpKey x i 0) s6).setF F.scpStallState_KEY_SET x 0
  (((((s7.sessionEnd x).setF F.scpStallState_STATE x 0).stallResult x 1 0 0).raise Ev.STALL_REMOVED).maintDone (0x70 + x))

/-- A write of SCP_STALLx.CTL (R372, R374). -/
def State.wrStallCtl (s : State) (x v : Nat) : State :=
  if 16 ≤ x then s
  else
    match bits v 0 2 with
    | 1 => s.create x
    | 2 => s.remove x
    | _ => s

/-- Registers whose writes act on the time base (R40, R49, R54-R61). -/
def Reg.ofTime : Reg → Bool
  | .tmbCtl => true
  | .crsLenChg => true
  | .tmbStepSec => true
  | .tmbPhaseAdj => true
  | .tmbEpoch0 => true
  | .tmbEpoch1 => true
  | .tmbEpoch2 => true
  | .tmbEpoch3 => true
  | _ => false

def State.writeTime (s : State) (r : Reg) (v : Nat) : State :=
  match r with
  | .tmbCtl => s.wrTmbCtl v
  | .crsLenChg => s.wrLenChg v
  | .tmbStepSec => s.wrStepSec v
  | .tmbPhaseAdj => s.wrPhaseAdj v
  | .tmbEpoch0 => s.wrEpoch 0 v
  | .tmbEpoch1 => s.wrEpoch 1 v
  | .tmbEpoch2 => s.wrEpoch 2 v
  | .tmbEpoch3 => s.wrEpoch 3 v
  | _ => s

def wrEnd (p : Bool × State) : WrEnd × State := (if p.1 then .ok else .refused, p.2)

/-- R71, R74: a write of PRT_CFG. Whether a frame was being received when the port goes down is open to the command. -/
def State.wrPort (s : State) (n v : Nat) : State :=
  let (b, s1) := s.freeBool
  s1.wrPrtCfg n v b

/-- What a permitted write of a register does, beside the time base. -/
def State.writeEffect (s : State) (a : Accessor) (r : Reg) (i j v : Nat) : WrEnd × State :=
  match r with
  | .prtCfg => (.ok, s.wrPort i v)
  | .pgrGraphCfg => (.ok, s.wrGraphCfg i v)
  | .pgrLoadData => wrEnd (s.graphLoad i v)
  | .clsCfg => (.ok, s.wrClsCfg v)
  | .clsSeed => (.ok, if s.f F.clsBound_COUNT i = 0 then s.store a r i j v else s)
  | .clsBindCmd => (.ok, s.wrBind a i v)
  | .clsLoadData => wrEnd (s.clsLoad i v)
  | .stnCmdCmd => (.ok, s.wrStnCmd i v)
  | .stnRange => (.ok, s.wrStnRange i v)
  | .espPrefix => (.ok, s.wrEspPrefix i v)
  | .stnLearnSweep => (.ok, s.wrSweep i v)
  | .pkmPoolLimit => (.ok, s.wrPool a r i v)
  | .pkmPoolGreen => (.ok, s.wrPool a r i v)
  | .pkmPoolYellow => (.ok, s.wrPool a r i v)
  | .pkmPoolRed => (.ok, s.wrPool a r i v)
  | .pkmPoolCtl => (.ok, s.wrPool a r i v)
  | .pkmCellCmd => (.ok, s.wrCellCmd a i v)
  | .dspStallMap => (.ok, if bits v 0 1 = 1 then s.wrMapSwitch i else s)
  | .dspMaploadData => wrEnd (s.mapLoad i v)
  | .dspCluster => wrEnd (s.wrClusterOwner i v)
  | .dspOos =>
    let s1 := s.store a r i j v
    (.ok, if bits v 8 1 = 1 then s1.wrOos v else s1)
  | .tlyPloadD2 => (.ok, (s.store a r i j v).patchWord v)
  | .tlyPatch =>
    let s1 := s.store a r i j v
    (.ok, if bits v 16 1 = 1 then s1.patchApply else s1)
  | .schThread => (.ok, s.wrThread i v)
  | .schHthread => (.ok, s.wrThread (1024 + i) v)
  | .schChanCfg => (.ok, s.wrChanCfg i v)
  | .swcPortCfg => (.ok, s.wrSwcPort a i v)
  | .swcPortPrioMap => (.ok, (s.store a r i j v).drrSync i)
  | .swcOutCmd => (.ok, if bits v 0 1 = 1 then s.outRequest a i else s)
  | .swcLoadData => wrEnd (s.swcLoad i v)
  | .stlCfg => (.ok, s.store a r i j (if s.time.st = .off then v else putBits v 0 1 (s.f F.stlCfg_ARRANGE)))
  | .stlCtl => (.ok, if bits v 0 1 = 1 then s.wrForceLead else s)
  | .stlLedgerBase => (.ok, s.wrLedgerBase i v)
  | .stlLedgerSize => (.ok, s.wrLedgerSize i v)
  | .stlAppendCmd => (.ok, if bits v 0 1 = 1 then s.ledgerAppend a i else s)
  | .drcCfg => (.ok, s.wrDrcCfg i v)
  | .drcTim => (.ok, if s.b F.drcCfg_ENABLE i then s else s.store a r i j v)
  | .arbMapLo => (.ok, if s.anyEnabled then s else s.store a r i j v)
  | .arbMapHi => (.ok, if s.anyEnabled then s else s.store a r i j v)
  | .drcTrain => (.ok, s.wrDrcTrain i v)
  | .drcScrub => (.ok, s.wrDrcScrub i v)
  | .arbMoveSrc => (.ok, (s.store a r i j v).moveTouched i)
  | .arbMoveDst => (.ok, (s.store a r i j v).moveTouched i)
  | .arbMoveLen => (.ok, (s.store a r i j v).moveTouched i)
  | .arbMoveCtl => (.ok, s.wrMoveCtl i v a.isHouse)
  | .scpStallCtl => (.ok, s.wrStallCtl i v)
  | .scpKey =>
    let s1 := s.wr .scpKey i j v
    (.ok, if j = 7 then s1.keyDone i else s1)
  | .evcSrc => (.ok, s.wrSource a i v)
  | .evcRaise => (.ok, s.wrRaise i v)
  | .ldgCfg => (.ok, s.wrLdgCfg a i v)
  | .ldgHbase => (.ok, if s.f F.ldgCfg_TRIG i = 0 then s.store a r i j v else s)
  | .ldgHwidth => (.ok, if s.f F.ldgCfg_TRIG i = 0 then s.store a r i j v else s)
  | .ldgSel => (.ok, if s.f F.ldgCfg_TRIG i = 0 then s.store a r i j v else s)
  | .ldgCtl => (.ok, s.wrLdgCtl i v)
  | .supCtl => (.ok, s.wrSupCtl v)
  | .supWdog => (.ok, s.wrWdog v)
  | .supRstCmd => (.ok, s.wrSupRst a i v)
  | .supPwr => (.ok, s.wrPwr v)
  | .supLcReq => (.ok, s.wrLcReq a v)
  | .supRollback => (.ok, s.wrRollback v)
  | .supLcToken => (.ok, s.wr .supLcToken i 0 v)
  | .supHkey => (.ok, s.wrHkey i v)
  | .supRoot => (.ok, s.wrRoot i v)
  | _ => (.ok, s.store a r i j v)

/-- R11, R435: a write of the register at a byte offset. Only the registers of the time base change the time base. -/
def State.regWrite (s : State) (a : Accessor) (off v : Nat) : WrEnd × State :=
  let off := off / 4 * 4
  match capWord off with
  | some _ => (.ok, s)
  | none =>
    match Reg.find off with
    | none => (.ok, s.noteUnmapped off)
    | some (r, i, j) =>
      if !s.mayReach (s.accOwner a) r i || s.breach a r i j v then (.denied, s)
      else if s.powerless a r i then (.ok, s)
      else if r.ofTime then (.ok, s.writeTime r v)
      else
        let (e, s1) := s.writeEffect a r i j v
        (e, { s1 with time := s.time })

/-! ### Commands -/

/-- What the accessor is answered. -/
def State.answer (s : State) (a : Accessor) (value : Nat) (refused : Bool) : State :=
  { s with resp := s.resp.set Resp.reset a.num { value := BitVec.ofNat 32 value, refused := refused } }

/-- A write of the register at an offset by an accessor, and its answer. -/
def State.writeAt (s : State) (a : Accessor) (off v : Nat) : State :=
  let (e, s1) := s.regWrite a off v
  s1.answer a 0 (e != .ok)

/-- A write of instance (i, j) of a register. -/
def State.writeReg (s : State) (a : Accessor) (r : Reg) (i : Nat) (v : Nat) (j : Nat := 0) : State := s.writeAt a (r.off i j) v

/-- A read of the register at an offset by an accessor, and its answer. -/
def State.readAt (s : State) (a : Accessor) (off : Nat) : State :=
  let (v, s1) := s.regRead a off
  s1.answer a (v.getD 0) v.isNone

/-- A written word with a field forced to a value, as the row says. -/
def withField (v : Word32) (lo width x : Nat) : Nat := putBits v.toNat lo width x

/-! #### Time base -/

/-- R54: START is written 1. -/
def execTimeBaseStart (a : Accessor) (v : Word32) (s : State) : Res := runT s fun s => s.writeReg a .tmbCtl 0 (withField v 0 1 1)

/-- R57: REJOIN is written 1. -/
def execRejoin (a : Accessor) (v : Word32) (s : State) : Res := runT s fun s => s.writeReg a .tmbCtl 0 (withField v 1 1 1)

/-- R58: DOMAIN_ROLE is written 1. -/
def execPromoteMaster (a : Accessor) (v : Word32) (s : State) : Res := runT s fun s => s.writeReg a .tmbCtl 0 (withField v 2 1 1)

/-- R49: a write of CRS_LEN_CHG with FRAMES not 0. -/
def execLenChangeRequest (a : Accessor) (v : Word32) (s : State) : Res :=
  runT s (onlyIf (bits v.toNat 3 8 != 0) fun s => s.writeReg a .crsLenChg 0 v.toNat)

/-- R49: a write of CRS_LEN_CHG with FRAMES 0. -/
def execLenChangeCancel (a : Accessor) (v : Word32) (s : State) : Res := runT s fun s => s.writeReg a .crsLenChg 0 (withField v 3 8 0)

def execPhaseAdjWrite (a : Accessor) (v : Word32) (s : State) : Res := runT s fun s => s.writeReg a .tmbPhaseAdj 0 v.toNat

/-- R60: GO is written 1. -/
def execTimeBaseStep (a : Accessor) (v : Word32) (s : State) : Res := runT s fun s => s.writeReg a .tmbStepSec 0 (withField v 16 1 1)

def execTxtsPop (a : Accessor) (n : Fin 10) (s : State) : Res := run s fun s => s.readAt a (Reg.tmbTxtsTag.off n 0)

/-! #### Ports, parse graphs, classification -/

def execPortEnable (a : Accessor) (n : Fin 12) (v : Word32) (s : State) : Res := run s fun s => s.writeReg a .prtCfg n (withField v 4 1 1)

def execPortDisable (a : Accessor) (n : Fin 12) (v : Word32) (s : State) : Res := run s fun s => s.writeReg a .prtCfg n (withField v 4 1 0)

def execGraphLoadWrite (a : Accessor) (x : Target) (v : Word32) (s : State) : Res := run s fun s => s.writeReg a .pgrLoadData x v.toNat

def execGraphLoadRead (a : Accessor) (x : Target) (s : State) : Res := run s fun s => s.readAt a (Reg.pgrLoadData.off x 0)

/-- R100: entries 0-9 are PGR_PORT_CFGn, 10-25 PGR_STALL_ENTRYs. -/
def execGraphEntryWrite (a : Accessor) (e : Fin 26) (v : Word32) (s : State) : Res :=
  run s fun s => if e.val < 10 then s.writeReg a .pgrPortCfg e v.toNat else s.writeReg a .pgrStallEntry (e - 10) v.toNat

def execBind (a : Accessor) (x : Target) (v : Word32) (s : State) : Res := run s fun s => s.writeReg a .clsBindCmd x (withField v 20 2 1)

def execUnbind (a : Accessor) (x : Target) (v : Word32) (s : State) : Res := run s fun s => s.writeReg a .clsBindCmd x (withField v 20 2 2)

/-- R450: ENABLE is written 1. -/
def execTableReconcile (a : Accessor) (v : Word32) (s : State) : Res := run s fun s => s.writeReg a .clsCfg 0 (withField v 16 1 1)

def execClassLoadWrite (a : Accessor) (x : Target) (v : Word32) (s : State) : Res := run s fun s => s.writeReg a .clsLoadData x v.toNat

def execClassBankWrite (a : Accessor) (x : StallId) (v : Word32) (s : State) : Res := run s fun s => s.writeReg a .clsBank x v.toNat

/-! #### Stations, cells -/

def execStationRangeWrite (a : Accessor) (x : StallId) (v : Word32) (s : State) : Res := run s fun s => s.writeReg a .stnRange x v.toNat

def execSearch (a : Accessor) (x : Target) (v : Word32) (s : State) : Res := run s fun s => s.writeReg a .stnCmdCmd x (withField v 0 2 1)

def execNext (a : Accessor) (x : Target) (v : Word32) (s : State) : Res := run s fun s => s.writeReg a .stnCmdCmd x (withField v 0 2 2)

def execFlushByPort (a : Accessor) (x : Target) (v : Word32) (s : State) : Res := run s fun s => s.writeReg a .stnCmdCmd x (withField v 0 2 3)

/-- R143: START is written 1. -/
def execAgeSweepStart (a : Accessor) (x : StallId) (v : Word32) (s : State) : Res :=
  run s fun s => s.writeReg a .stnLearnSweep x (withField v 17 1 1)

def execAlloc (a : Accessor) (x : Target) (v : Word32) (s : State) : Res := run s fun s => s.writeReg a .pkmCellCmd x (withField v 0 3 1)

/-- R148, R155: the cells whose link entries an operation on HANDLE reads: FREE those it is to free, LINK HANDLE's own. -/
def State.cellsRead (s : State) (h v : Nat) : List Nat :=
  if bits v 0 3 = 2 then (if bits v 8 6 = 0 then s.chain h else (s.chain h).take (bits v 8 6)) else [h]

/-- R148, R158: a FREE or LINK, and what the check of the `k`-th link entry that it reads finds. A single-bit error is corrected and counted;
a double-bit error takes the cell out of service, neither free nor allocated, and the operation fails as NOCELL. -/
def State.cellCmd (s : State) (a : Accessor) (x v k : Nat) (ecc : Ecc) : State :=
  let h := s.rdA a.num .pkmCellHandle x 0
  if !s.mayReach (s.accOwner a) .pkmCellCmd x || s.breach a .pkmCellCmd x 0 v || 2 ^ 18 ≤ h then s.writeReg a .pkmCellCmd x v
  else
    match (s.cellsRead h v)[k]?, ecc with
    | some c, .corrected => (s.writeReg a .pkmCellCmd x v).linkChecked c .corrected
    | some c, .double => ((s.linkChecked c .double).cellFail a.num x (if x = 16 then bits v 16 4 else x) h 4).answer a 0 false
    | _, _ => s.writeReg a .pkmCellCmd x v

def execFree (a : Accessor) (x : Target) (v : Word32) (k : Fin 64) (ecc : Ecc) (s : State) : Res :=
  run s fun s => s.cellCmd a x (withField v 0 3 2) k ecc

def execRelease (a : Accessor) (x : Target) (v : Word32) (s : State) : Res := run s fun s => s.writeReg a .pkmCellCmd x (withField v 0 3 3)

def execLink (a : Accessor) (x : Target) (v : Word32) (ecc : Ecc) (s : State) : Res := run s fun s => s.cellCmd a x (withField v 0 3 4) 0 ecc

/-! #### Dispatch, tally, scheduling -/

def execMapLoadWrite (a : Accessor) (x : Target) (v : Word32) (s : State) : Res := run s fun s => s.writeReg a .dspMaploadData x v.toNat

/-- R178: SWITCH is written 1. -/
def execBucketMove (a : Accessor) (x : StallId) (v : Word32) (s : State) : Res := run s fun s => s.writeReg a .dspStallMap x (withField v 0 1 1)

def execClusterOwnerWrite (a : Accessor) (c : Fin 16) (v : Word32) (s : State) : Res := run s fun s => s.writeReg a .dspCluster c v.toNat

/-- R181: GO is written 1. -/
def execClusterOutOfService (a : Accessor) (v : Word32) (s : State) : Res := run s fun s => s.writeReg a .dspOos 0 (withField v 8 1 1)

def execPatchWordWrite (a : Accessor) (v : Word32) (s : State) : Res := run s fun s => s.writeReg a .tlyPloadD2 0 v.toNat

/-- R270: APPLY is written 1. -/
def execPatchApply (a : Accessor) (v : Word32) (s : State) : Res := run s fun s => s.writeReg a .tlyPatch 0 (withField v 16 1 1)

/-- R272: SCH_THREADt, or SCH_HTHREADi from thread 1,024 on. -/
def execThreadClassWrite (a : Accessor) (t : Tid) (v : Word32) (s : State) : Res :=
  run s fun s => if t.val < 1024 then s.writeReg a .schThread t v.toNat else s.writeReg a .schHthread (t.val - 1024) v.toNat

def execChannelCfgWrite (a : Accessor) (x : Target) (v : Word32) (s : State) : Res := run s fun s => s.writeReg a .schChanCfg x v.toNat

/-! #### Switch and settlement -/

/-- R308: GO is written 1. -/
def execOutputRequest (a : Accessor) (x : Target) (v : Word32) (s : State) : Res := run s fun s => s.writeReg a .swcOutCmd x (withField v 0 1 1)

def execSwitchLoadWrite (a : Accessor) (x : Target) (v : Word32) (s : State) : Res := run s fun s => s.writeReg a .swcLoadData x v.toNat

/-- R340: FORCE_LEAD is written 1. -/
def execForceLead (a : Accessor) (v : Word32) (s : State) : Res := run s fun s => s.writeReg a .stlCtl 0 (withField v 0 1 1)

/-- R346: GO is written 1. -/
def execLedgerAppend (a : Accessor) (x : Target) (v : Word32) (s : State) : Res := run s fun s => s.writeReg a .stlAppendCmd x (withField v 0 1 1)

/-! #### DRAM and movers -/

/-- R352: ENABLE is written 1. -/
def execDramEnable (a : Accessor) (ch : Fin 4) (v : Word32) (s : State) : Res := run s fun s => s.writeReg a .drcCfg ch (withField v 16 1 1)

/-- R355: START is written 1. -/
def execDramRetrainStart (a : Accessor) (ch : Fin 4) (v : Word32) (s : State) : Res := run s fun s => s.writeReg a .drcTrain ch (withField v 16 1 1)

def execScrubPeriodWrite (a : Accessor) (ch : Fin 4) (v : Word32) (s : State) : Res := run s fun s => s.writeReg a .drcScrub ch v.toNat

/-- R368: GO is written 1. -/
def execMoverGo (a : Accessor) (m : Fin 32) (v : Word32) (s : State) : Res := run s fun s => s.writeReg a .arbMoveCtl m (withField v 21 1 1)

/-- R369: STOP is written 1. -/
def execMoverStop (a : Accessor) (m : Fin 32) (v : Word32) (s : State) : Res := run s fun s => s.writeReg a .arbMoveCtl m (withField v 22 1 1)

/-! #### Stalls, events, recorders -/

/-- R372: OP is written CREATE. -/
def execCreate (a : Accessor) (x : StallId) (v : Word32) (s : State) : Res := run s fun s => s.writeReg a .scpStallCtl x (withField v 0 2 1)

/-- R374: OP is written REMOVE. -/
def execRemove (a : Accessor) (x : StallId) (v : Word32) (s : State) : Res := run s fun s => s.writeReg a .scpStallCtl x (withField v 0 2 2)

/-- R374: due while the stall is REMOVING. -/
def execStallRemoved (x : StallId) (s : State) : Res := run s (onlyIf (s.stallState x == 4) fun s => s.removed x)

/-- R393: a write of KEY7. -/
def execKeyWrite (a : Accessor) (x : StallId) (v : Word32) (s : State) : Res := run s fun s => s.writeReg a .scpKey x v.toNat 7

def execEventRaise (a : Accessor) (x : Target) (v : Word32) (s : State) : Res := run s fun s => s.writeReg a .evcRaise x v.toNat

def execSnap (a : Accessor) (r : Fin 32) (v : Word32) (s : State) : Res := run s fun s => s.writeReg a .ldgCtl r (withField v 0 1 1)

def execArm (a : Accessor) (r : Fin 32) (v : Word32) (s : State) : Res := run s fun s => s.writeReg a .ldgCtl r (withField v 1 1 1)

def execClear (a : Accessor) (r : Fin 32) (v : Word32) (s : State) : Res := run s fun s => s.writeReg a .ldgCtl r (withField v 2 1 1)

/-! #### Supervision -/

/-- R414: DEVRST is written 1. -/
def execDevrst (a : Accessor) (v : Word32) (s : State) : Res := run s fun s => s.writeReg a .supCtl 0 (withField v 1 1 1)

/-- R416: KICK is written 1. -/
def execKick (a : Accessor) (v : Word32) (s : State) : Res := run s fun s => s.writeReg a .supWdog 0 (withField v 16 1 1)

/-- R411, R413: SUP_RSTx.CMD with KIND 1, and likewise 2, 3 and 4. -/
def execStallReset (a : Accessor) (x : Target) (v : Word32) (s : State) : Res := run s fun s => s.writeReg a .supRstCmd x (withField v 0 3 1)

def execClusterReset (a : Accessor) (x : Target) (v : Word32) (s : State) : Res := run s fun s => s.writeReg a .supRstCmd x (withField v 0 3 2)

def execCoreReset (a : Accessor) (x : Target) (v : Word32) (s : State) : Res := run s fun s => s.writeReg a .supRstCmd x (withField v 0 3 3)

def execThreadReset (a : Accessor) (x : Target) (v : Word32) (s : State) : Res := run s fun s => s.writeReg a .supRstCmd x (withField v 0 3 4)

/-- R415: ADMIT is written 1. -/
def execAdmit (a : Accessor) (v : Word32) (s : State) : Res := run s fun s => s.writeReg a .supCtl 0 (withField v 0 1 1)

/-- R420: REQ is written STANDBY. -/
def execStandbyEntry (a : Accessor) (v : Word32) (s : State) : Res := run s fun s => s.writeReg a .supPwr 0 (withField v 0 2 2)

/-- R420: REQ is written RUN. -/
def execStandbyExit (a : Accessor) (v : Word32) (s : State) : Res := run s fun s => s.writeReg a .supPwr 0 (withField v 0 2 1)

/-- R427: GO is written 1. -/
def execLifecycle (a : Accessor) (v : Word32) (s : State) : Res := run s fun s => s.writeReg a .supLcReq 0 (withField v 3 1 1)

def execRollbackRaise (a : Accessor) (v : Word32) (s : State) : Res := run s fun s => s.writeReg a .supRollback 0 v.toNat

/-! #### Any register -/

/-- R435: an access to an offset where no register lies. -/
def execUnmappedAccess (a : Accessor) (off : Fin 16777216) (write : Bool) (s : State) : Res :=
  run s (onlyIf ((capWord (off / 4 * 4)).isNone && (Reg.find (off / 4 * 4)).isNone) fun s =>
    if write then s.writeAt a off 0 else s.readAt a off)

/-- R13: a read of a register with RC fields, as any read. -/
def execRcRead (a : Accessor) (off : Fin 16777216) (s : State) : Res := run s fun s => s.readAt a off

/-- R15: a read of a pair's low register, as any read. -/
def execPairLowRead (a : Accessor) (off : Fin 16777216) (s : State) : Res := run s fun s => s.readAt a off

def execRegisterWrite (a : Accessor) (off : Fin 16777216) (v : Word32) (s : State) : Res := runT s fun s => s.writeAt a off v.toNat

end Sys2Proof.Machine
end

