-- ==== Sys2Proof/Machine/FarMem.lean ====
section
/-! DEFINITION. Far accesses at their destinations (R116, R126, R149, R174, R218, R219, R243, R434): for a thread's far loads and stores
and for an SCP session's far words. -/

namespace Sys2Proof.Machine

/-! ### Destinations -/

/-- R149: whether an owner reaches a cell; the house reaches every cell. -/
def State.cellReach (s : State) (x h : Nat) : Bool := x == 16 || ((s.cell h).alloc && (s.cell h).owner == x)

/-- R116, R215: whether an owner reaches a station record. -/
def State.stnReach (s : State) (x h : Nat) : Bool := h < 2 ^ 20 && (x == 16 || s.inRange x h)

/-- R126, R215: whether an owner reaches an SA record. -/
def State.saReach (s : State) (x i : Nat) : Bool := i < 2 ^ 21 && (x == 16 || s.saOwned x i)

/-- R174: the slot whose held words a thread's accesses to a record go through. -/
def State.heldSlot (s : State) (t : Option Nat) (h : Nat) : Option (Nat × SlotPkt) := t.bind fun t => s.ownRecord t (.station h 0)

/-- R174: a word of a record as its own packet sees it. -/
def State.recordSeen (s : State) (t : Option Nat) (h w : Nat) : Word :=
  match s.heldSlot t h with
  | some (_, p) => (p.held.find? fun e => e.1 == w).map (·.2) |>.getD (word (s.stnWord h w))
  | none => word (s.stnWord h w)

/-- R117: the deadline of an access through the station cache: its thread's, or the default of the SCP engine (R365). -/
def State.farDeadline (s : State) (t : Option Nat) : Nat :=
  match t with
  | some t => s.threadDeadline t s.now
  | none => s.defaultDeadline 20 s.now

/-- R117: an access at a place need not wait for a way of the station cache. -/
def State.placeReady (s : State) (pl : Place) : Bool := match pl with | .station h _ => s.stnReady h | _ => true

/-- R117: an access to a station record that must wait is counted. -/
def State.placeWait (s : State) (t : Option Nat) (pl : Place) : State :=
  match pl with
  | .station h _ => s.stnAccess h (s.farDeadline t)
  | _ => s

/-- The place of the next word. -/
def Place.next : Place → Place
  | .dram b => .dram (b + 2)
  | .cluster c o => .cluster c (o + 1)
  | .packet c o => if o = 127 then .packet (c + 1) 0 else .packet c (o + 1)
  | .station h w => if w = 127 then .station (h + 1) 0 else .station h (w + 1)
  | .sa i w => if w = 127 then .sa (i + 1) 0 else .sa i (w + 1)
  | .control o => .control (o + 2)

/-- R201: the place of a far access's next request. -/
def FarReq.target (r : FarReq) : Place := if r.second then r.place.next else r.place

/-- A read of `n` words at a place, none where the destination's checks refuse it. -/
def State.placeLoad (s : State) (a : Accessor) (t : Option Nat) (pl : Place) (n : Nat) : Option (List Word) × State :=
  let x := s.accOwner a
  match pl with
  | .dram b => (some ((List.range n).map fun i => s.dramWord (b + 2 * i)), s)
  | .cluster c o => (some ((List.range n).map fun i => word (s.clWord c (o + i))), s)
  | .packet c o => if s.cellReach x c then (some ((List.range n).map fun i => word (s.placeRead (.packet c (o + i)))), s) else (none, s)
  | .control off =>
    let (v, s1) := s.regRead a off
    (v.map fun v => words32 v, s1)
  | .station h w =>
    if s.stnReach x h then
      let s1 := s.stnAccess h (s.farDeadline t)
      (some ((List.range n).map fun i => s1.recordSeen t h (w + i)), s1)
    else (none, s)
  | .sa i w => if s.saReach x i then (some ((List.range n).map fun k => word (s.saWord i (w + k))), s) else (none, s)

/-- R116, R140, R225: whether an accessor may store word `w` of a station record. -/
def State.stnWritable (s : State) (a : Accessor) (h w : Nat) : Bool :=
  if w = 1 ∨ (8 ≤ w ∧ w ≤ 31) then !s.stnFlag h 0
  else if 32 ≤ w ∧ w ≤ 47 then a.isHouse || s.isSupervisor a (s.accOwner a)
  else decide (48 ≤ w)

/-- R333: a stall thread stores to no TABLES segment while the device is silent. -/
def State.tablesShut (s : State) (a : Accessor) : Bool :=
  match a with
  | .worker _ => s.holdsFrames
  | _ => false

/-- R174, R324: a store of a station word: held for the packet's own record, else a direct write. Reserved bits of a word that may be stored
are stored and read back with it (DESIGN CHOICE, log entry 125). -/
def State.recordStore (s : State) (t : Option Nat) (h w : Nat) (v : Word) : State :=
  match s.heldSlot t h, t with
  | some (i, _), some t =>
    s.setTh t fun th => { th with slots := th.slots.modify none i fun o => o.map fun p => { p with held := p.held.insert w v } }
  | _, _ =>
    let s1 := (s.stnAccess h (s.farDeadline t)).stnDirect h w v
    if w = 32 then s1.pathStore h v else s1

/-- Words with their indices. -/
def indexed (ws : List Word) : List (Nat × Word) := List.zip (List.range ws.length) ws

/-- A write of words at a place that is no control register. -/
def State.memStore (s : State) (a : Accessor) (t : Option Nat) (pl : Place) (ws : List Word) : WrEnd × State :=
  let x := s.accOwner a
  match pl with
  | .dram b => (.ok, (indexed ws).foldl (fun (s : State) e => s.setDramWord (b + 2 * e.1) e.2) s)
  | .cluster c o => (.ok, (indexed ws).foldl (fun (s : State) e => s.setClWord c (o + e.1) e.2.toNat) s)
  | .packet c o =>
    if s.cellReach x c then (.ok, (indexed ws).foldl (fun (s : State) e => s.placeWrite (.packet c (o + e.1)) e.2.toNat) s)
    else (.denied, s)
  | .station h w =>
    if s.stnReach x h && !s.tablesShut a && (indexed ws).all (fun e => s.stnWritable a h (w + e.1)) then
      (.ok, (indexed ws).foldl (fun (s : State) e => s.recordStore t h (w + e.1) e.2) s)
    else (.denied, s)
  | .sa i w =>
    if s.saReach x i && !s.tablesShut a && (indexed ws).all (fun e => s.saWritable i (w + e.1)) then
      (.ok, (indexed ws).foldl (fun (s : State) e => s.saStore i (w + e.1) e.2) s)
    else (.denied, s)
  | .control _ => (.denied, s)

/-- A write of words at a place. -/
def State.placeStore (s : State) (a : Accessor) (t : Option Nat) (pl : Place) (ws : List Word) : WrEnd × State :=
  match pl with
  | .control off => s.regWrite a off ((ws.getD 0 0).toNat + 65536 * (ws.getD 1 0).toNat)
  | _ =>
    let (e, s1) := s.memStore a t pl ws
    (e, { s1 with time := s.time })

/-! ### A thread's far accesses -/

/-- The far access a thread is blocked in, once it waits for no turn and no earlier store to its segment (R173, R219). -/
def State.farPending (s : State) (t : Nat) : Option FarReq :=
  match (s.th t).wait with
  | .far r => if !r.turnWait && (s.th t).posted.all (fun q => q.seg != r.seg) then some r else none
  | _ => none

/-- R228: a trap of a thread blocked in a far access, PAIR_HIGH set for the high half of a split pair (R201); one the debugger has stopped
stays stopped. -/
def State.farTrap (s : State) (t vec : Nat) (r : FarReq) : State :=
  let s1 := s.trap t vec 0 (r.seg * 2 ^ 28 + r.off) (4 + (if r.load then 0 else 8) + (if r.second then 16 else 0)) (s.th t).pc
  if (s.th t).st == .stopped then s1.setTh t fun th => { th with st := .stopped, stopBy := (s.th t).stopBy } else s1

/-- R222: the base update of a far access that completes. -/
def State.farBase (s : State) (t : Nat) (r : FarReq) : State :=
  match r.base with
  | some (b, v) => s.putPair t b v
  | none => s

/-- R195: a far load's data arrives: its destination is written after the base. -/
def State.farLoaded (s : State) (t : Nat) (r : FarReq) (ws : List Word) : State :=
  let lo := (ws.getD 0 0).toNat
  let s1 := s.farBase t r
  let s2 := if r.pair then s1.putPair t r.dst (lo + 65536 * (ws.getD 1 0).toNat) else s1.putReg t r.dst lo
  s2.unblock t r.len

/-- R195, R218: a far load's result. -/
def State.farResult (s : State) (t : Tid) (r : FarReq) : State :=
  match r.place with
  | .dram _ =>
    match r.answer with
    | some (some ws) => s.farLoaded t r ws
    | some none => s.farTrap t 3 r
    | none => s
  | _ =>
    if !s.placeReady r.target then s.placeWait (some t.val) r.target
    else
      match s.placeLoad t.acc (some t.val) r.target (if r.pair && !r.split then 2 else 1) with
      | (some ws, s1) =>
        if r.split && !r.second then s1.setTh t fun th => { th with wait := .far { r with low := ws.head? } }
        else s1.farLoaded t r (r.low.toList ++ ws)
      | (none, s1) => s1.farTrap t 2 r

/-- R195: due once the data or the error response is there. -/
def State.farLoadDue (s : State) (t : Nat) : Option FarReq :=
  (s.farPending t).filter fun r => r.load && (match r.place with | .dram _ => r.answer.isSome | _ => true)

/-- R243: the destination has accepted or refused a store; a thread that the write itself has reset sees nothing further (R411). -/
def State.farStored (s : State) (t : Nat) (r : FarReq) (e : WrEnd) : State :=
  if (s.th t).wait != .far r then s
  else if e == .denied then s.farTrap t 2 r
  else if r.split && !r.second then s.setTh t fun th => { th with wait := .far { r with low := r.data.head? } }
  else (s.farBase t r).unblock t r.len

def State.farStoreDue (s : State) (t : Nat) : Option FarReq := (s.farPending t).filter fun r => !r.load

def State.farAccept (s : State) (t : Tid) (r : FarReq) : State :=
  if !s.placeReady r.target then s.placeWait (some t.val) r.target
  else
    let (e, s1) := s.placeStore t.acc (some t.val) r.target r.words
    { s1.farStored t r e with time := s1.time }

/-- R218: the oldest posted store that got an error response. -/
def State.failedStore (s : State) (t : Nat) : Option FarReq := (s.th t).posted.find? fun r => r.answer == some none

/-- R218: the store is lost and the event raised. -/
def State.storeLost (s : State) (t : Nat) (r : FarReq) : State :=
  let s1 := s.setTh t fun th => { th with posted := th.posted.erase r }
  let data := word r.seg :: words32 r.off
  let s2 := if 1024 ≤ t then s1.raise Ev.HOUSE_FAR_STORE_ERROR data
    else if s1.tidOwner t < 16 then s1.raise (Ev.FAR_STORE_ERROR (s1.tidOwner t)) data else s1
  s2.storesDone t

/-- R219: the oldest posted store to a cluster memory. -/
def State.clusterStore (s : State) (t : Nat) : Option (FarReq × Nat × Nat) :=
  (s.th t).posted.findSome? fun r => match r.target with | .cluster c o => some (r, c, o) | _ => none

/-- R219: it is performed. -/
def State.storePerformed (s : State) (t : Nat) (r : FarReq) (c o : Nat) : State :=
  let s1 := (indexed r.words).foldl (fun (s : State) e => s.setClWord c (o + e.1) e.2.toNat) s
  if r.split && !r.second then s1.lowStored t r
  else (s1.setTh t fun th => { th with posted := th.posted.erase r }).storesDone t

/-! ### Commands -/

def execFarLoadResult (t : Tid) (s : State) : Res :=
  run s fun s =>
    match s.farLoadDue t with
    | some r => s.farResult t r
    | none => s

def execFarStoreAccept (t : Tid) (s : State) : Res :=
  runT s fun s =>
    match s.farStoreDue t with
    | some r => s.farAccept t r
    | none => s

def execFarStoreError (t : Tid) (s : State) : Res :=
  run s fun s =>
    match s.failedStore t with
    | some r => s.storeLost t r
    | none => s

def execFarStorePerformed (t : Tid) (s : State) : Res :=
  run s fun s =>
    match s.clusterStore t with
    | some (r, c, o) => s.storePerformed t r c o
    | none => s

end Sys2Proof.Machine
end

