-- ==== Sys2Proof/Machine/Scp.lean ====
section
/-! DEFINITION. The SCP engine's commands (R376-R392): frames received, the commands of a session in sequence order, and the frames the
device originates. -/

namespace Sys2Proof.Machine

/-! ### Reception (R376, R377, R379) -/

/-- R377: a frame that fails authentication. -/
def State.authFail (s : State) (x : Nat) : State := (s.count F.scpStatAuth_AUTH x).raise Ev.SCP_AUTH

/-- R377: a HELLO's 16-byte nonce, from its 8 body words. -/
def helloNonce (ws : List Word) : BitVec 128 := BitVec.ofNat 128 ((ws.take 8).foldl (fun a w => a * 65536 + w.toNat) 0)

/-- R376: frames in the engine that came on a port. -/
def State.portQueue (s : State) (p : Nat) : Nat :=
  s.sessions.foldl (fun a e => a + (e.2.waiting.filter fun c => c.port == p).length + (e.2.hellos.filter fun h => h.1 == p).length) 0

/-- R375, R377, R378: a received frame as the engine reads it: its header, whether its tag verifies under the key in force, and its body
decrypted. -/
def State.scpParse (s : State) (bs : List Byte) : ScpFrame :=
  let h := fun i => be16 bs (14 + 2 * i)
  let len := h 4 % 16384
  let x := h 1 % 32
  let head := (bs.drop 14).take 16
  let body := (bs.drop 30).take len
  let tag := (bs.drop (30 + len)).take 16
  let seq := h 2 + 65536 * h 3
  let f : ScpFrame :=
    { cls := h 0 / 4096, version := h 0 / 256 % 16, op := h 0 % 256, target := x, seq := seq, length := len,
      fits := decide (50 + len ≤ bs.length), auth := false, body := bytesWords body }
  if f.op = 1 then
    match s.longKey x with
    | some k => { f with auth := gcmSeal (w32Bytes k) (helloIv 1 (helloNonce f.body)) (head ++ body) [] == tag }
    | none => f
  else
    let key := keyBytes (s.sess x).key
    { f with auth := gcmSeal key (scpNonce 1 x seq) head body == tag, body := bytesWords (gcmText key (scpNonce 1 x seq) body) }

/-- R377: a HELLO is taken for its acceptance, or discarded. -/
def State.helloIn (s : State) (p x : Nat) (f : ScpFrame) : State :=
  if f.seq != 0 then s.count F.scpStatAuth_AUTH x
  else if !f.auth || f.body.length < 8 || (s.longKey x).isNone then s.authFail x
  else if (s.sess x).nonces.contains (helloNonce f.body) then s.count F.scpStatAuth_AUTH x
  else s.setSess x fun e => { e with hellos := e.hellos ++ [(p, helloNonce f.body)] }

/-- R379: the stored response to a sequence goes out again. -/
def State.resend (s : State) (x p seq : Nat) : State :=
  match (s.sess x).stored.find? fun f => f.seq == seq with
  | some f => s.scpPlace p f
  | none => s

def State.lastSeq (s : State) (x : Nat) : Nat := s.f F.scpStallLast_SEQ x

/-! ### Commands in sequence order (R379, R381) -/

/-- The command of the next sequence. -/
def State.nextCmd (s : State) (x : Nat) : Option ScpCmd := (s.sess x).waiting.find? fun c => c.seq == s.lastSeq x + 1

/-- R381: the course's commands are used up. -/
def State.rateOver (s : State) (x : Nat) : Bool :=
  let m := s.f F.scpStallLimit_CMD_MAX x
  m != 0 && (s.sess x).cmds.1 == s.course && m ≤ (s.sess x).cmds.2

/-- A command leaves the queue with its sequence executed. -/
def State.consume (s : State) (x : Nat) (c : ScpCmd) : State :=
  let n := if (s.sess x).cmds.1 == s.course then (s.sess x).cmds.2 else 0
  let s1 := s.setSess x fun e => { e with waiting := e.waiting.erase c, cmds := (s.course, n + 1) }
  (s1.setF F.scpStallLast_SEQ x c.seq).count F.scpStatCmds_CMDS x

/-- R381: a command beyond CMD_MAX is discarded; its sequence stays free. -/
def State.rateDrop (s : State) (x : Nat) (c : ScpCmd) : State :=
  (s.setSess x fun e => { e with waiting := e.waiting.erase c }).count F.scpStatRate_RATE x

/-- Opcodes that a host may send in a session. -/
def hostOpcode (op : Nat) : Bool := (2 ≤ op && op ≤ 8) || op == 10 || (12 ≤ op && op ≤ 14)

/-- R378: a response goes out only while its session still stands. -/
def State.reply (s : State) (x gen : Nat) (c : ScpCmd) (status : Nat) (body : List Word) : State :=
  if s.sessionOpen x && (s.sess x).gen == gen then s.respond x c status body else s

def cmdWord (c : ScpCmd) (i : Nat) : Nat := (c.body.getD i 0).toNat
def cmdLong (c : ScpCmd) (i : Nat) : Nat := cmdWord c i + 65536 * cmdWord c (i + 1)

/-- R420: what the engine answers in STANDBY beside HELLO: CAPS, READ and WRITE of control registers, and the house's RESET; an ACK is
counted. -/
def standbyCmd (x : Nat) (c : ScpCmd) : Bool :=
  c.op == 2 || ((c.op == 6 || c.op == 7) && cmdWord c 0 == 0) || c.op == 10 || (c.op == 12 && x == 16)

/-- The status of a command answered without being carried out: 1 OPCODE, 2 FORMAT, 4 STATE in STANDBY. -/
def State.early (s : State) (x : Nat) (c : ScpCmd) : Option Nat :=
  if !hostOpcode c.op then some 1
  else if c.op = 14 ∧ (c.body.length < 2 ∨ 6 < cmdWord c 0) then some 2
  else if s.f F.supPwr_STATE = 2 ∧ !standbyCmd x c then some 4
  else none

/-- What needs no carrying out is answered: sequences already executed, and commands that `early` answers. -/
def State.pump (s : State) (x : Nat) : Nat → State
  | 0 => s
  | n + 1 =>
    match (s.sess x).waiting.find? fun c => c.seq ≤ s.lastSeq x with
    | some c => ((s.setSess x fun e => { e with waiting := e.waiting.erase c }).resend x c.port c.seq).pump x n
    | none =>
      match s.nextCmd x with
      | none => s
      | some c =>
        match s.early x c with
        | none => s
        | some st => if s.rateOver x then (s.rateDrop x c).pump x n else ((s.consume x c).respond x c st []).pump x n

def State.settleCmds (s : State) (x : Nat) : State := { s.pump x 40 with time := s.time }

/-- R379: a command of an open session. -/
def State.commandIn (s : State) (p x : Nat) (f : ScpFrame) : State :=
  let s := s.setF F.scpStallSession_PORT x (p - 8)
  let seq := f.seq
  let last := s.lastSeq x
  if seq = 0 ∨ seq = 0xFFFFFFFF then s.count F.scpStatSeq_SEQ x
  else if last < seq ∧ seq ≤ last + 16 then
    (s.setSess x fun e => { e with waiting := e.waiting ++ [{ port := p, seq := seq, op := f.op, len := f.length, body := f.body }] }).settleCmds x
  else if seq ≤ last ∧ last < seq + 16 then s.resend x p seq
  else s.count F.scpStatSeq_SEQ x

/-- R376: a frame on H port `p`. -/
def State.scpIn (s : State) (p : Nat) (f : ScpFrame) : State :=
  let x := f.target
  if !s.b F.scpCfg_ENABLE || f.cls != 5 || f.version != 1 || 17 ≤ x || (x < 16 && s.stallState x == 0) || !f.fits || 256 ≤ s.portQueue p then
    s.count F.scpDrop_COUNT
  else if f.op = 1 then s.helloIn p x f
  else if !s.sessionOpen x || !f.auth then s.authFail x
  else s.commandIn p x f

/-- R379, R381: the session's next command, where it is one of those `p` names, is carried out by `f`, which answers its status and
body, or nothing. Only register writes within `f` may act on the time base. -/
def State.withCmd (s : State) (x : Nat) (p : ScpCmd → Bool) (f : ScpCmd → State → State × Option (Nat × List Word)) : State :=
  match s.nextCmd x with
  | none => s
  | some c =>
    if !s.sessionOpen x || !p c || (s.early x c).isSome then s
    else if s.rateOver x then { (s.rateDrop x c).settleCmds x with time := s.time }
    else
      let gen := (s.sess x).gen
      let (s1, r) := f c { s.consume x c with time := s.time }
      let s2 := match r with
        | some (st, body) => s1.reply x gen c st body
        | none => s1
      { s2.settleCmds x with time := s1.time }

def isOp (n : Nat) (c : ScpCmd) : Bool := c.op == n

/-- DEBUG with a function. -/
def isDebug (n : Nat) (c : ScpCmd) : Bool := c.op == 14 && cmdWord c 0 == n

/-! ### HELLO (R377, R388) -/

/-- R377: the session opens: its key, counts and the response. -/
def State.hello (s : State) (x : Nat) : State :=
  match (s.sess x).hellos with
  | [] => s
  | (p, nh) :: rest =>
    let s0 := s.setSess x fun e => { e with hellos := rest }
    match s0.longKey x with
    | none => s0.authFail x
    | some k =>
      if (s0.sess x).nonces.contains nh then s0.count F.scpStatAuth_AUTH x
      else
        let nd := words64 s.now ++ words64 s.fuses.serial.toNat
        let ret := s.f64 F.stlLedgerRetiredLo_RETIRED F.stlLedgerRetiredHi_RETIRED x
        let s1 := ((s0.wr .scpStallSession x 0 (1 + (p - 8) * 2)).setF F.scpStallLast_SEQ x 0).setF F.scpStallDseq_DSEQ x 0
        let s2 := s1.setSess x fun e =>
          { e with gen := e.gen + 1, key := sessionKey k x nh nd, nonces := (nh :: e.nonces).take 16, waiting := [], stored := [],
                   cum := if x < 16 then ret else 0, credit := 0, sent := if x < 16 then ret else 0, since := s.course }
        let led := if x < 16 then words64 ret ++ words64 (s.f64 F.stlLedgerNextLo_NEXT F.stlLedgerNextHi_NEXT x) else List.replicate 8 0
        let body := nd ++ [word s.stlState, word (if x < 16 then s.stallState x else 0)] ++ led ++
          [word s.fuses.lcState]
        (s2.dropCaptures x).scpPlace p (s2.helloFrame x k nh body)

/-! ### CAPS, LOAD, READ, WRITE (R382, R383, R432) -/

/-- R432: the offsets of the capability headers, in list order. -/
def capHeaders : List Nat := 0 :: (List.range capTable.length).map fun i => 0x40 + 16 * i

def State.caps (s : State) (c : ScpCmd) : Nat × List Word :=
  let off := cmdLong c 0
  if c.body.length < 2 ∨ !capHeaders.contains off then (2, [])
  else (0, ((capHeaders.dropWhile (· != off)).take 64).flatMap fun o => words32 o ++ words32 ((s.peek 1049 o).getD 0))

/-- R187: a code-store word is written and its line leaves every line buffer of the cluster. -/
def State.codeStore (s : State) (c a : Nat) (w : Word) : State :=
  let s1 := { s with code := s.code.set 0 (c * 131072 + a) w }
  (coresOfCluster c).foldl (fun (s : State) k => s.setCore k fun b => { b with lines := b.lines.filter (· != a / 8) }) s1

/-- Items written one by one until one fails: how many, and what stopped them. -/
def writeItems {α : Type} (f : Nat → α → State → WrEnd × State) : Nat → List α → State → Nat × WrEnd × State
  | n, [], s => (n, .ok, s)
  | n, v :: vs, s =>
    match f n v s with
    | (.ok, s1) => writeItems f (n + 1) vs s1
    | (e, s1) => (n, e, s1)

/-- R365: a word of DRAM is a request of requester 20. -/
def State.placeAsk (s : State) (pl : Place) (read : Bool) : State :=
  match pl with
  | .dram a => s.unitAsk 20 a (s.defaultDeadline 20 s.now) read []
  | _ => s

/-- R216: a far word of a target. -/
def State.farWordWrite (s : State) (x : Target) (addr : Nat) (w : Word) : WrEnd × State :=
  match s.farCheck x addr true false with
  | .inl pl => (s.placeAsk pl false).placeStore (.session x) none pl [w]
  | .inr _ => (.denied, s)

def State.farWordRead (s : State) (x : Target) (addr : Nat) : Option (List Word) × State :=
  match s.farCheck x addr false false with
  | .inl pl => (s.placeAsk pl true).placeLoad (.session x) none pl 1
  | .inr _ => (none, s)

/-- The status of writes that ended: 0 OK, 3 ACCESS, 8 REFUSED, with the count reached. -/
def endStatus (r : Nat × WrEnd × State) (whole : List Word) : State × Option (Nat × List Word) :=
  match r with
  | (_, .ok, s) => (s, some (0, whole))
  | (n, .denied, s) => (s, some (3, words32 n))
  | (n, .refused, s) => (s, some (8, words32 n))

def pairWords : List Word → List Nat
  | a :: b :: t => (a.toNat + 65536 * b.toNat) :: pairWords t
  | _ => []

/-- R383: data through a loading register, two words to each write; the count is in words. -/
def State.loadThrough (s : State) (x : Target) (ptr data : Reg) (addr : Nat) (ws : List Word) : State × Option (Nat × List Word) :=
  if ws.length % 2 = 1 then (s, some (2, []))
  else
    let s1 := s.store (.session x) ptr x 0 addr
    let (n, e, s2) := writeItems (fun _ v (s : State) => s.regWrite (.session x) (data.off x 0) v) 0 (pairWords ws) s1
    endStatus (2 * n, e, s2) (words32 ws.length)

def State.load (x : Target) (c : ScpCmd) (s : State) : State × Option (Nat × List Word) :=
  let kind := cmdWord c 0
  let addr := cmdLong c 1
  let ws := c.body.drop 3
  let cl := addr / 2 ^ 28
  if c.body.length < 3 ∨ 5 < kind then (s, some (2, []))
  else
    match kind with
    | 0 =>
      if x.val < 16 ∧ s.clusterOwner cl ≠ x then (s, some (5, []))
      else
        endStatus (writeItems (fun i w (s : State) =>
          if addr % 131072 + i < 131072 then (.ok, s.codeStore cl (addr % 131072 + i) w) else (.denied, s)) 0 ws s) (words32 ws.length)
    | 1 =>
      if x.val < 16 ∧ s.clusterOwner cl ≠ x then (s, some (5, []))
      else
        endStatus (writeItems (fun i w (s : State) =>
          if addr % 2 ^ 28 + i < 524288 then (.ok, s.setClWord cl (addr % 2 ^ 28 + i) w.toNat) else (.denied, s)) 0 ws s) (words32 ws.length)
    | 2 => endStatus (writeItems (fun i w (s : State) => s.farWordWrite x ((addr + i) % 2 ^ 32) w) 0 ws s) (words32 ws.length)
    | 3 => s.loadThrough x .pgrLoadPtr .pgrLoadData addr ws
    | 4 => s.loadThrough x .clsLoadPtr .clsLoadData addr ws
    | _ => s.loadThrough x .dspMaploadPtr .dspMaploadData addr ws

/-- R382: SPACE, ADDR and COUNT are in range. -/
def spanOk (space addr n : Nat) : Bool :=
  (space == 0 && addr % 4 == 0 && n ≤ 256 && addr + 4 * n ≤ 2 ^ 24) || (space == 1 && n ≤ 2048)

/-- R382: items read in order: the values, and whether all were read. -/
def readItems (f : Nat → State → Option (List Word) × State) : Nat → Nat → State → List Word × Bool × State
  | _, 0, s => ([], true, s)
  | i, n + 1, s =>
    match f i s with
    | (some ws, s1) =>
      let (rest, ok, s2) := readItems f (i + 1) n s1
      (ws ++ rest, ok, s2)
    | (none, s1) => (words32 i, false, s1)

/-- A register's two words. -/
def State.regItem (s : State) (x : Target) (off : Nat) : Option (List Word) × State :=
  let (v, s1) := s.regRead (.session x) off
  (v.map fun v => words32 v, s1)

def State.scpRead (x : Target) (c : ScpCmd) (s : State) : State × Option (Nat × List Word) :=
  let space := cmdWord c 0
  let addr := cmdLong c 1
  let n := cmdWord c 3
  if c.body.length < 4 ∨ !spanOk space addr n then (s, some (2, []))
  else
    let (ws, ok, s1) := readItems (fun i (s : State) => if space = 0 then s.regItem x (addr + 4 * i) else s.farWordRead x ((addr + i) % 2 ^ 32)) 0 n s
    -- a failure's body is the failing item's index, the last two words gathered
    if ok then (s1, some (0, ws)) else (s1, some (3, ws.drop (ws.length - 2)))

def State.scpWrite (x : Target) (c : ScpCmd) (s : State) : State × Option (Nat × List Word) :=
  let space := cmdWord c 0
  let addr := cmdLong c 1
  let n := cmdWord c 3
  let ws := c.body.drop 4
  if c.body.length < 4 ∨ !spanOk space addr n ∨ ws.length < (if space = 0 then 2 * n else n) then (s, some (2, []))
  else if space = 0 then
    endStatus (writeItems (fun i v (s : State) => s.regWrite (.session x) (addr + 4 * i) v) 0 (pairWords (ws.take (2 * n))) s) []
  else endStatus (writeItems (fun i w (s : State) => s.farWordWrite x ((addr + i) % 2 ^ 32) w) 0 (ws.take n) s) []

/-! ### START and STOP (R384, R385) -/

/-- The entries of a START: thread, class, priority, address. -/
def startEntries (c : ScpCmd) (n : Nat) : List (Nat × Nat × Nat × Nat) :=
  (List.range n).map fun i =>
    let w := cmdWord c (1 + 3 * i)
    (bits w 0 10, bits w 10 2, bits w 12 3, cmdLong c (2 + 3 * i))

/-- R384: the first entry that fails, with its status. -/
def State.startFault (s : State) (x : Nat) (es : List (Nat × Nat × Nat × Nat)) : Option (Nat × Nat) :=
  let bad := fun (e : Nat × Nat × Nat × Nat) =>
    if !s.inService (e.1 / 64) x then some 5
    else if (s.th e.1).st != .parked then some 4
    else if s.supervisor x == some e.1 && !(e.2.1 == 0 || e.2.1 == 3) then some 4
    else none
  match (List.zip (List.range es.length) es).findSome? fun (i, e) => (bad e).map fun st => (st, i) with
  | some r => some r
  | none =>
    match s.supervisor x with
    | some t => if (s.th t).st == .parked && !(es.any fun e => e.1 == t) then some (4, es.length) else none
    | none => none

def State.scpStart (x : Nat) (c : ScpCmd) (s : State) : State × Option (Nat × List Word) :=
  let n := cmdWord c 0
  if 16 ≤ x ∨ (s.starts.get none x).isSome ∨ !(s.stallState x == 1 || s.stallState x == 3) then (s, some (4, []))
  else if c.body.length < 1 ∨ 64 < n ∨ c.body.length < 1 + 3 * n then (s, some (2, []))
  else
    match s.startFault x (startEntries c n) with
    | some (st, i) => (s, some (st, [word i]))
    | none =>
      let r : StartReq := { course := s.course + 1, session := x, gen := (s.sess x).gen, port := c.port, seq := c.seq, entries := startEntries c n }
      ({ s with starts := s.starts.set none x (some r) }, none)

/-- R384: one thread of a START. -/
def State.startOne (s : State) (e : Nat × Nat × Nat × Nat) : State :=
  let (t, cl, prio, addr) := e
  if (s.th t).st != .parked then s
  else
    let s1 := s.setF F.schThread_CLASS t cl
    if cl = 2 then s1 else (s1.setF F.schThread_PRIO t prio).startThread t addr

/-- R384: the boundary: the stall is STARTED, its threads are released, and the response follows. -/
def State.startEffect (s : State) (x : Nat) (r : StartReq) : State :=
  let s0 := { s with starts := s.starts.set none x none }
  if !(s.stallState x == 1 || s.stallState x == 3) then s0
  else
    let s1 := r.entries.foldl State.startOne (s0.setF F.scpStallState_STATE x 2)
    s1.reply x r.gen { port := r.port, seq := r.seq, op := 4, len := 0, body := [] } 0 []

def State.scpStop (x : Nat) (_ : ScpCmd) (s : State) : State × Option (Nat × List Word) :=
  if 16 ≤ x ∨ s.stallState x ≠ 2 then (s, some (4, []))
  else ({ s with stops := s.stops.set none x (some (s.course + 1)) }, some (0, []))

/-! ### MAIL (R387) -/

def State.scpMail (x : Nat) (c : ScpCmd) (s : State) : State × Option (Nat × List Word) :=
  if c.body.length < 1 ∨ 32 < c.body.length then (s, some (2, []))
  else if 16 ≤ (s.sess x).mails.length then (s, some (9, []))
  else (((s.setSess x fun e => { e with mails := e.mails ++ [c.body] }).stir x).mailIn x 17, some (0, []))

/-- R387: the oldest message of channel 4 leaves as a MAIL frame. -/
def State.mailOut (s : State) (x : Nat) : State :=
  match s.supCluster x with
  | some k =>
    match s.chanQ (chanKey k 4) with
    | m :: rest => if s.deviceReady x then (s.setChanQ (chanKey k 4) rest).deviceFrame x 8 m.words else s
    | [] => s
  | none => s

/-! ### Delivery (R388, R389) -/

def State.retiredSeq (s : State) (x : Nat) : Nat := s.f64 F.stlLedgerRetiredLo_RETIRED F.stlLedgerRetiredHi_RETIRED x

def State.scpAck (x : Nat) (c : ScpCmd) (s : State) : State × Option (Nat × List Word) :=
  let cum := cmdLong c 0 + 2 ^ 32 * cmdLong c 2
  if 16 ≤ x ∨ c.body.length < 7 then (s, none)
  else if !stlRuns s.stlState then (s.count F.scpStatSilentAck_SILENT_ACK x, none)
  else if (s.sess x).high < cum ∧ cum ≠ s.retiredSeq x then (s.count F.scpStatBadAck_BAD_ACK x, none)
  else
    let s1 := s.retireLedger x cum
    let r := s1.retiredSeq x
    (s1.setSess x fun e =>
      { e with cum := max cum r, credit := cmdLong c 4, sent := if cmdWord c 6 % 2 = 1 then r else max e.sent r,
               since := if s.retiredSeq x < r then s.course else e.since }, none)

/-- The longest run of entries within a number of bytes. -/
def takeBytes (limit : Nat) : List LedgerEnt → List LedgerEnt
  | [] => []
  | e :: es => let n := ledgerBytes e.data.length; if n ≤ limit then e :: takeBytes (limit - n) es else []

/-- R388: the entries that one DELIVER frame may carry now. -/
def State.deliverable9 (s : State) (x : Nat) : List LedgerEnt :=
  let e := s.sess x
  let owed := (s.ledger.get [] x).filter fun l => e.cum < l.seq && l.course < s.acceptedPlus
  takeBytes 8192 ((takeBytes e.credit owed).filter fun l => e.sent < l.seq)

def State.deliverDue (s : State) (x : Nat) : Bool :=
  x < 16 && stlRuns s.stlState && s.f F.supPwr_STATE != 2 && s.deviceReady x && !(s.deliverable9 x).isEmpty

def State.deliver (s : State) (x : Nat) : State :=
  let es := s.deliverable9 x
  let e := s.sess x
  let again := (es.filter fun l => l.seq ≤ e.high).length
  let last := es.foldl (fun a l => max a l.seq) e.sent
  let s1 := (s.count F.scpStatRetxDeliver_RETX_DELIVER x again).setSess x fun e =>
    { e with sent := last, high := max e.high last, since := if e.sent ≤ s.retiredSeq x then s.course else e.since }
  s1.deviceFrame x 9 (es.flatMap ledgerWords)

/-- R389: no progress for RTO courses while entries are outstanding. -/
def State.resendDue (s : State) (x : Nat) : Bool :=
  let rto := s.f F.scpStallRto_COURSES x
  x < 16 && rto != 0 && s.sessionOpen x && decide (s.retiredSeq x < (s.sess x).sent) && decide ((s.sess x).since + rto ≤ s.course)

/-! ### NOTICE (R391, R398) -/

/-- Up to `n` records of a target, taken out. -/
def State.noticeRecs (s : State) (x : Nat) (p : EvRec → Bool) : Nat → List Word × State
  | 0 => ([], s)
  | n + 1 =>
    match s.nextRec x true p with
    | none => ([], s)
    | some e =>
      let (ws, s1) := s.takeRec e
      let (rest, s2) := s1.noticeRecs x p n
      (ws ++ rest, s2)

def isStill (e : EvRec) : Bool := evStallPart e.src == some 15

/-- R391: records that a NOTICE_MAX of 0 keeps from leaving are discarded. -/
def State.noticeDrop (s : State) (x : Nat) : State :=
  let gone := fun (e : EvRec) => e.owner == x && e.notice && s.deliverable e && !isStill e
  State.count { s with evRecs := s.evRecs.filter fun e => !gone e } F.scpStatNoticeDrop_NOTICE_DROP x (s.evRecs.filter gone).length

/-- NOTICE frames that have left in the present course. -/
def State.noticesNow (s : State) (x : Nat) : Nat := if (s.sess x).notices.1 == s.course then (s.sess x).notices.2 else 0

def State.notice (s : State) (x : Nat) : State :=
  let m := s.f F.scpStallLimit_NOTICE_MAX x
  let s0 := if m = 0 then s.noticeDrop x else s
  let p := fun (e : EvRec) => isStill e || decide (s.noticesNow x < m)
  match s0.noticeRecs x p 16 with
  | ([], s1) => s1
  | (ws, s1) => (s1.setSess x fun e => { e with notices := (s.course, s.noticesNow x + 1) }).deviceFrame x 11 ws

/-! ### RESET, LEDGER (R386, R407) -/

/-- R386: the response to a DEVICE reset has left before the reset begins. -/
def State.replyNow (s : State) (x : Nat) (c : ScpCmd) : State :=
  let f := s.scpFrame x 2 c.op c.seq 1 0 []
  if s.linkUp c.port then (s.txCount c.port f.bytes).emit (.scp c.port x f.cls f.op f.seq f.sealed) else s

def State.scpReset (x : Nat) (c : ScpCmd) (s : State) : State × Option (Nat × List Word) :=
  let kind := cmdWord c 0
  let id := cmdWord c 1
  let lim := match kind with | 1 => 16 | 2 => 16 | 3 => 128 | _ => 1024
  let cl := match kind with | 2 => id | 3 => id / 8 | _ => id / 64
  if c.body.length < 2 ∨ kind = 0 ∨ 5 < kind ∨ (kind = 5 ∧ x ≠ 16) then (s, some (2, []))
  else if kind = 5 then ((s.replyNow x c).deviceReset 3 s.strap, none)
  else if lim ≤ id ∨ (x < 16 ∧ (if kind = 1 then id ≠ x else s.clusterOwner cl ≠ x)) then (s, some (5, []))
  else (s.resetKind kind (match kind with | 2 => id * 64 | 3 => id * 8 | _ => id), some (0, []))

def State.scpLedger (x : Nat) (c : ScpCmd) (s : State) : State × Option (Nat × List Word) :=
  let r := cmdWord c 0
  let cur := cmdLong c 1
  let n := cmdWord c 3
  if c.body.length < 4 ∨ 16 < n then (s, some (2, []))
  else if 32 ≤ r ∨ s.f F.ldgCfg_OWNER r ≠ x then (s, some (5, []))
  else (s, some (0, (List.range n).map fun i => word (s.recordWord r (bits cur 8 10) (bits cur 0 8 + i))))

/-! ### DEBUG (R392) -/

/-- R392: why a DEBUG is refused before its function: 7 LIFECYCLE, 5 RANGE. -/
def State.debugBar (s : State) (x t : Nat) : Option Nat :=
  let lc := s.fuses.lcState
  if lc = 4 ∨ (x < 16 ∧ lc = 1) ∨ (x = 16 ∧ lc = 2) then some 7
  else if x < 16 then (if t < 1024 ∧ s.clusterOwner (t / 64) = x then none else some 5)
  else if t < 1032 then none else some 5

/-- A DEBUG command on a thread; `need`: it must be STOPPED; `len`: words its fields need. -/
def State.debug (x : Nat) (need : Bool) (len : Nat) (f : Nat → State → State × Option (Nat × List Word)) (c : ScpCmd) (s : State) :
    State × Option (Nat × List Word) :=
  let t := cmdWord c 1
  if c.body.length < len then (s, some (2, []))
  else
    match s.debugBar x t with
    | some e => (s, some (e, []))
    | none => if need && (s.th t).st != .stopped then (s, some (4, [])) else f t s

/-- The debugger halts a thread between instructions; its registers are final (R194), and its stall's course is not still (R290). -/
def State.halt (s : State) (t : Nat) : State := ((s.stir (s.tidOwner t)).finalRegs t).setTh t fun th => { th with st := .stopped, stopBy := 8, steps := none }

def State.debugStop (t : Nat) (s : State) : State × Option (Nat × List Word) :=
  match (s.th t).st with
  | .parked => (s, some (4, []))
  | .stopped => (s, some (0, []))
  | _ => (s.halt t, some (0, []))

/-- R298: a waiter that was passed over while STOPPED takes its lock if that is free now. -/
def State.lockResume (s : State) (t : Nat) (l : LockId) : State :=
  if s.lockHeld l then s
  else
    let s1 := { s with lockQ := s.lockQ.filter fun e => !(e.1 == t && e.2 == l) }
    let c := s1.lockStale l || bits (s1.lockLow l) 14 1 == 1
    (s1.lockTake t l c (s1.lockAwaited l) true).lockEnd t true c

/-- A stopped thread goes on: in its wait, or at its next instruction; held traps are taken (R228, R268), and a wait that is over ends. -/
def State.goOn (s : State) (t : Nat) (steps : Option Nat) : State :=
  let s1 := s.stampUse.setTh t fun th =>
    { th with st := if th.wait == .none then .running else .blocked, stopBy := 0, steps := steps, since := s.useCtr }
  let th := s1.th t
  if !th.inTrap && (th.heldOverrun.isSome || th.heldStill) then (s1.abandonWait t).takeHeld t
  else
    match th.wait with
    | .none => s1.pendingTraps t
    | .lka l => s1.lockResume t l
    | .tsync => if th.mchk then (s1.setTh t fun th => { th with mchk := false }).trap t 11 1 0 0 th.pc else s1.tsyncCheck t
    | _ => s1.storesDone t

def State.debugResume (t : Nat) (s : State) : State × Option (Nat × List Word) := (s.goOn t none, some (0, []))

def State.debugStep (c : ScpCmd) (t : Nat) (s : State) : State × Option (Nat × List Word) :=
  let n := cmdWord c 2
  if n = 0 then (s, some (0, [])) else (s.goOn t (some n), some (0, []))

/-- R392: u0-t3, fl, wp, the next instruction address and SCH_THREADt. -/
def State.debugRegs (t : Nat) (s : State) : State × Option (Nat × List Word) :=
  let th := s.th t
  let r := if t < 1024 then s.peekReg 0 .schThread t 0 else s.peekReg 0 .schHthread (t - 1024) 0
  (s, some (0, ((List.range 24).map fun i => word (th.reg i)) ++ [word th.fl, word th.wp] ++ words32 th.pc ++ words32 r))

/-- Registers are written in GETREGS' order, from body word 2 on; wp and SCH_THREADt ignore the write (R206, R271). -/
def State.debugSetRegs (c : ScpCmd) (t : Nat) (s : State) : State × Option (Nat × List Word) :=
  let pc := cmdLong c 28
  if 131072 ≤ pc then (s, some (2, []))
  else
    let s1 := (List.range 24).foldl (fun (s : State) i => s.putReg t i (cmdWord c (2 + i))) s
    ((s1.putReg t 25 (cmdWord c 26)).setTh t fun th => { th with pc := pc }, some (0, []))

/-- One word of a stopped thread's near space; none where the address answers nothing. -/
def State.nearPeek (s : State) (t a : Nat) : Option (List Word) × State :=
  if (s.nearFault t a false false).isSome then (none, s)
  else if nearRegion a ≤ 2 then (some [word (s.sramWord (coreOf t) a)], s)
  else
    match s.ioLoad t a with
    | some (v, s1) => (some [word v], s1)
    | none => (none, s)

def State.nearPoke (s : State) (t a : Nat) (w : Word) : WrEnd × State :=
  if (s.nearFault t a false true).isSome then (.denied, s)
  else if nearRegion a ≤ 2 then (.ok, s.setSram (coreOf t) a w.toNat)
  else
    match s.ioStore t a w.toNat with
    | .inl s1 => (.ok, s1)
    | .inr _ => (.denied, s)

def State.nearRead (c : ScpCmd) (t : Nat) (s : State) : State × Option (Nat × List Word) :=
  let a := cmdWord c 2
  let n := cmdWord c 3
  if n = 0 ∨ 256 < n ∨ 65536 < a + n then (s, some (2, []))
  else
    let (ws, ok, s1) := readItems (fun i (s : State) => s.nearPeek t (a + i)) 0 n (s.drainAll (coreOf t))
    if ok then (s1, some (0, ws)) else (s1, some (3, ws.drop (ws.length - 2)))

def State.nearWrite (c : ScpCmd) (t : Nat) (s : State) : State × Option (Nat × List Word) :=
  let a := cmdWord c 2
  let ws := c.body.drop 3
  if ws.isEmpty ∨ 256 < ws.length ∨ 65536 < a + ws.length then (s, some (2, []))
  else endStatus (writeItems (fun i w (s : State) => s.nearPoke t (a + i) w) 0 ws (s.drainAll (coreOf t))) []

/-- R392: a stepped thread stops again. -/
def State.stepDone (s : State) (t : Nat) : State :=
  if (s.th t).st == .parked then s.setTh t fun th => { th with steps := none } else s.halt t

/-! ### Rows -/

/-- R70, R376: the engine takes the oldest SCP frame that H port `p` received. -/
def execScpFrameReceived (p : Fin 2) (s : State) : Res :=
  run s fun s =>
    match (s.port (8 + p)).ctlQ with
    | bs :: rest =>
      let s1 := s.setPort (8 + p) fun q => { q with ctlQ := rest }
      s1.scpIn (8 + p) (s1.scpParse bs)
    | [] => s

def execHello (x : Target) (s : State) : Res := run s fun s => s.hello x

def execCaps (x : Target) (s : State) : Res := run s fun s => s.withCmd x (isOp 2) fun c s => (s, some (s.caps c))

def execLoad (x : Target) (s : State) : Res := run s fun s => s.withCmd x (isOp 3) (State.load x)

def execScpStart (x : Target) (s : State) : Res := run s fun s => s.withCmd x (isOp 4) (State.scpStart x)

def execScpStop (x : Target) (s : State) : Res := run s fun s => s.withCmd x (isOp 5) (State.scpStop x)

def execRead (x : Target) (s : State) : Res := run s fun s => s.withCmd x (isOp 6) (State.scpRead x)

def execWrite (x : Target) (s : State) : Res := runT s fun s => s.withCmd x (isOp 7) (State.scpWrite x)

def execMail (x : Target) (s : State) : Res := run s fun s => s.withCmd x (isOp 8) (State.scpMail x)

def execScpAck (x : Target) (s : State) : Res := run s fun s => s.withCmd x (isOp 10) (State.scpAck x)

def execScpReset (x : Target) (s : State) : Res := run s fun s => s.withCmd x (isOp 12) (State.scpReset x)

def execScpLedger (x : Target) (s : State) : Res := run s fun s => s.withCmd x (isOp 13) (State.scpLedger x)

def execDebugStop (x : Target) (s : State) : Res := run s fun s => s.withCmd x (isDebug 0) (State.debug x false 2 State.debugStop)

def execDebugResume (x : Target) (s : State) : Res := run s fun s => s.withCmd x (isDebug 1) (State.debug x true 2 State.debugResume)

def execDebugStep (x : Target) (s : State) : Res :=
  run s fun s => s.withCmd x (isDebug 2) fun c => State.debug x true 3 (State.debugStep c) c

def execDebugGetregs (x : Target) (s : State) : Res := run s fun s => s.withCmd x (isDebug 3) (State.debug x true 2 State.debugRegs)

def execDebugSetregs (x : Target) (s : State) : Res :=
  run s fun s => s.withCmd x (isDebug 4) fun c => State.debug x true 30 (State.debugSetRegs c) c

def execNearRead (x : Target) (s : State) : Res :=
  run s fun s => s.withCmd x (isDebug 5) fun c => State.debug x true 4 (State.nearRead c) c

def execNearWrite (x : Target) (s : State) : Res :=
  run s fun s => s.withCmd x (isDebug 6) fun c => State.debug x true 3 (State.nearWrite c) c

/-- R384: due from the boundary on. -/
def execStallStartEffect (x : StallId) (s : State) : Res :=
  run s fun s =>
    match s.starts.get none x with
    | some r => if r.course ≤ s.course then s.startEffect x r else s
    | none => s

/-- R385: due from the boundary on. -/
def execStallStopEffect (x : StallId) (s : State) : Res :=
  run s fun s =>
    match s.stops.get none x with
    | some c =>
      if c ≤ s.course then
        let s1 := { s with stops := s.stops.set none x none }
        if s.stallState x = 2 then s1.setF F.scpStallState_STATE x 3 else s1
      else s
    | none => s

def execMailOutSend (x : Target) (s : State) : Res := run s fun s => s.mailOut x

def execDeliver (x : Target) (s : State) : Res := run s (onlyIf (s.deliverDue x) fun s => s.deliver x)

def execResendTimeout (x : Target) (s : State) : Res :=
  run s (onlyIf (s.resendDue x) fun s => s.setSess x fun e => { e with sent := s.retiredSeq x, since := s.course })

def execNotice (x : Target) (s : State) : Res := run s (onlyIf (s.deviceReady x) fun s => s.notice x)

def execStepComplete (t : Tid) (s : State) : Res := run s (onlyIf ((s.th t).steps == some 0) fun s => s.stepDone t)

end Sys2Proof.Machine
end

