-- ==== Sys2Proof/Machine/Boot.lean ====
section
/-! DEFINITION. Boot (R421-R423, R429, R446): BOOT reads, checks and applies the image; performed again once the DRAM channels are up, it
does the rest. -/

namespace Sys2Proof.Machine

/-! ### The image (R421, R422) -/

/-- `n` bytes of an image from byte `i` as a number, the first most significant. -/
def imageNum (im : List Nat) (i n : Nat) : Nat := numOf ((im.drop i).take n)

/-- A section's content as words of `n` bytes. -/
def sectionWords (n : Nat) (c : List Nat) : List Nat := (chunks n c.length c).map numOf

/-- R421: the sections that NSECT counts: TYPE, OFFSET and LENGTH. -/
def imageSections (im : List Nat) : List (Nat × Nat × Nat) :=
  (List.range (min 8 (imageNum im 6 2))).map fun i => (imageNum im (128 + 16 * i) 4, imageNum im (132 + 16 * i) 4, imageNum im (136 + 16 * i) 4)

/-- The contents of the sections of a type, in the header's order. -/
def imageOf (im : List Nat) (ty : Nat) : List (List Nat) :=
  (imageSections im).filterMap fun (t, o, n) => if t = ty then some ((im.drop o).take n) else none

/-- Consecutive pairs. -/
def pairs {α : Type} : List α → List (α × α)
  | a :: b :: rest => (a, b) :: pairs rest
  | _ => []

/-- R421: the records of a GRAPHS section; `none` where one is not whole. -/
def graphRecords : Nat → List Nat → Option (List (Word32 × List Word32))
  | _, [] => some []
  | k + 1, p :: n :: rest =>
    if rest.length < n then none
    else (graphRecords k (rest.drop n)).map fun rs => (BitVec.ofNat 32 p, (rest.take n).map (BitVec.ofNat 32)) :: rs
  | _, _ => none

def graphsOf (c : List Nat) : Option (List (Word32 × List Word32)) := graphRecords c.length (sectionWords 4 c)

/-- R421: a section's content has the form of its type (log entry 137). -/
def contentOk (ty : Nat) (c : List Nat) : Bool :=
  match ty with
  | 1 => c.length % 8 == 0
  | 2 => c.length % 4 == 0
  | 3 => c.length == 4 + 528 * 12
  | 4 => c.length % 4 == 0 && (graphsOf c).isSome
  | 5 => c.length % 2 == 0 && decide (c.length ≤ 262144)
  | _ => false

/-- Two sections share no byte. -/
def apart (a b : Nat × Nat × Nat) : Bool := decide (a.2.1 + a.2.2 ≤ b.2.1) || decide (b.2.1 + b.2.2 ≤ a.2.1)

def allApart : List (Nat × Nat × Nat) → Bool
  | [] => true
  | a :: rest => rest.all (apart a) && allApart rest

/-- R422: the sections are within bytes 256 to SIG_OFF - 1, of a known type, and no two overlap. -/
def sectionsFit (im : List Nat) : Bool :=
  let n := imageNum im 6 2
  decide (1 ≤ n) && decide (n ≤ 8) &&
    (imageSections im).all (fun (t, o, l) =>
      decide (1 ≤ t) && decide (t ≤ 5) && decide (256 ≤ o) && decide (o + l ≤ imageNum im 12 4) && contentOk t ((im.drop o).take l)) &&
    allApart (imageSections im)

/-- R426, R430: the image root of the life-cycle state: the maker root's hash, or the ROOT fuses. -/
def State.imageRoot (s : State) : Option (List Nat) :=
  match s.fuses.lcState with
  | 0 => some (sha384 (4 :: bytesOf 48 Config.makerRoot.1 ++ bytesOf 48 Config.makerRoot.2))
  | 3 => some (sha384 (4 :: bytesOf 48 Config.makerRoot.1 ++ bytesOf 48 Config.makerRoot.2))
  | 4 => none
  | _ => s.fuses.root.map fun ws => nats (w32Bytes ws)

/-- R422: the hash of PUBKEY is the image root, and the signature at SIG_OFF verifies over the bytes before it (log entry 137). -/
def State.imageSigned (s : State) (im : List Nat) : Bool :=
  let off := imageNum im 12 4
  let sig := (im.drop off).take 96
  s.imageRoot == some (sha384 ((im.drop 24).take 97)) && imageNum im 24 1 == 4 && off % 4 == 0 && sig.length == 96 &&
    ecdsaOk (imageNum im 25 48) (imageNum im 73 48) (numOf (sha384 (im.take off))) (numOf (sig.take 48)) (numOf (sig.drop 48))

/-- R421: what the device finds in a copy; `none`: the flash gives a read error or a timeout. A copy is at most 16 MiB. -/
def State.readCopy (s : State) (raw : Option (List Byte)) : BootCopy :=
  let im := nats ((raw.getD []).take (2 ^ 24))
  { readOk := raw.isSome, magicOk := imageNum im 0 4 == 0x425A4C49 && imageNum im 4 2 == 1, keyOk := s.imageSigned im, version := imageNum im 8 4,
    sectionsOk := sectionsFit im, entry := imageNum im 16 4, hvbase := imageNum im 20 2,
    regs := ((imageOf im 1).flatMap fun c => pairs (sectionWords 4 c)).map fun e => (BitVec.ofNat 32 e.1, BitVec.ofNat 32 e.2),
    ddr := ((imageOf im 2).flatMap (sectionWords 4)).map (BitVec.ofNat 32),
    tally := (imageOf im 3).map fun c =>
      (BitVec.ofNat 32 (imageNum c 0 4), (chunks 12 c.length (c.drop 4)).map fun e =>
        (BitVec.ofNat 32 (imageNum e 0 4), BitVec.ofNat 32 (imageNum e 4 4), BitVec.ofNat 32 (imageNum e 8 4))),
    graphs := (imageOf im 4).flatMap fun c => (graphsOf c).getD [],
    house := ((imageOf im 5).flatMap (sectionWords 2)).map word }

/-! ### Boot -/

/-- R422: a copy's boot code: 0 OK, 1 NO_IMAGE, 2 FLASH, 3 SIGNATURE, 4 ROLLBACK, 5 CONTENT. -/
def State.bootCheck (s : State) (c : BootCopy) : Nat :=
  if !c.readOk then 2
  else if !c.magicOk then 1
  else if !c.keyOk then 3
  else if c.version < s.fuses.rollback then 4
  else if !c.sectionsOk then 5
  else 0

/-- R446: a PHY parameter and its value are listed. -/
def phyListed (n v : Nat) : Bool :=
  match n with
  | 0 => decide (v ≤ 2)
  | 1 => decide (v ≤ 2)
  | 2 => decide (v ≤ 4)
  | 3 => decide (350 ≤ v) && decide (v ≤ 900)
  | 4 => decide (v ≤ 2)
  | 5 => decide (v ≤ 2)
  | 6 => decide (v ≤ 2)
  | 7 => decide (1 ≤ v) && decide (v ≤ 1000)
  | _ => false

/-- R421, R446: one entry of the DDR5 section is staged for every channel of its mask; a staged value is held as itself plus one, at
channel × 512 + 256 for a PHY parameter + number. -/
def State.stageDdr (s : State) (e : Word32) : State :=
  let w := e.toNat
  (List.range 4).foldl (fun (s : State) ch =>
    if bits w (28 + ch) 1 = 1 then
      s.setCtl fun c => { c with ddr := c.ddr.set 0 (ch * 512 + 256 * bits w 27 1 + bits w 16 8) (bits w 0 16 + 1) }
    else s) s

def ddrListed (e : Word32) : Bool := bits e.toNat 27 1 == 0 || phyListed (bits e.toNat 16 8) (bits e.toNat 0 16)

/-- The accessor boot writes with: the house (R421). -/
def bootHand : Accessor := .house 0

/-- R421: register writes in order; `false` once one is refused. -/
def State.bootRegs : List (Word32 × Word32) → State → Bool × State
  | [], s => (true, s)
  | (off, v) :: rest, s =>
    let (e, s1) := s.regWrite bootHand off.toNat v.toNat
    if e = .ok then State.bootRegs rest s1 else (false, s1)

/-- R423, step 3, of a copy that passed its checks. -/
def State.bootStage (s : State) (c : BootCopy) : Bool × State :=
  if c.ddr.all ddrListed then State.bootRegs c.regs (c.ddr.foldl State.stageDdr s) else (false, s)

/-- R423: boot of a copy has failed: of copy A, copy B is tried (`some`); of copy B, boot stops (`none`). -/
def State.bootNote (s : State) (onB : Bool) (code : Nat) : State :=
  if onB then s.setF F.supBoot_CODE 0 code else (s.setF F.supBoot_A_FAILED 0 1).setF F.supBoot_A_CODE 0 code

/-- R423: BOOT_FAILED: every port is disabled, TWIN_ALIVE_OUT is low, the house core does not run. -/
def State.bootFailed (s : State) : State :=
  let s1 := (List.range 12).foldl (fun (s : State) n => s.wrPort n (putBits (s.rd .prtCfg n) 4 1 0)) s
  (s1.setSup fun u => { u with bootDue := false, booting := none, failed := true, ready := false }).emit (.alive false)

/-- R423, steps 2 and 3, of one copy. -/
def State.bootTry (s : State) (c : BootCopy) (onB : Bool) : Bool × State :=
  match s.bootCheck c with
  | 0 =>
    let (ok, s1) := s.bootStage c
    if ok then (true, s1.setF F.supBoot_COPY 0 (boolNat onB)) else (false, s1.bootNote onB 5)
  | code => (false, s.bootNote onB code)

/-- R423, steps 2 and 3: copy A, then copy B. -/
def State.bootBegin (s : State) (a b : BootCopy) : State :=
  let go := fun (onB : Bool) (s : State) => s.setSup fun u => { u with booting := some ⟨a, b, onB, false⟩ }
  match s.bootTry a false with
  | (true, s1) => go false s1
  | (false, s1) =>
    match s1.bootTry b true with
    | (true, s2) => go true s2
    | (false, s2) => s2.bootFailed

/-- R423, step 4: no enabled channel trains, or is still in self-refresh. -/
def State.dramSettled (s : State) : Bool :=
  (List.range 4).all fun ch => !s.b F.drcCfg_ENABLE ch || s.dstate ch == 2 || s.dstate ch == 5

def State.dramFailed (s : State) : List Nat := (List.range 4).filter fun ch => s.b F.drcCfg_ENABLE ch && s.dstate ch == 5

/-- R423, step 5: TALLY: the patch words in order, then APPLY. -/
def State.bootTally : List (Word32 × List (Word32 × Word32 × Word32)) → State → Bool × State
  | [], s => (true, s)
  | t :: rest, s =>
    let s1 := t.2.foldl (fun (s : State) e =>
      (((s.wr .tlyPloadD0 0 0 e.1.toNat).wr .tlyPloadD1 0 0 e.2.1.toNat).wr .tlyPloadD2 0 0 e.2.2.toNat).patchWord e.2.2.toNat)
      (s.setF F.tlyPloadAddr_ADDR 0 0)
    let s2 := (s1.setF F.tlyPatch_VERSION 0 t.1.toNat).patchApply
    if s2.f F.tlyPatch_STATUS = 3 then (false, s2) else State.bootTally rest s2

/-- R423, step 5: GRAPHS: each record is a pointer and the DATA values that follow it. -/
def State.bootGraphs : List (Word32 × List Word32) → State → Bool × State
  | [], s => (true, s)
  | (p, ds) :: rest, s =>
    let ws := (BitVec.ofNat 32 (Reg.pgrLoadPtr.off 16 0), p) :: ds.map fun d => (BitVec.ofNat 32 (Reg.pgrLoadData.off 16 0), d)
    match State.bootRegs ws s with
    | (true, s1) => State.bootGraphs rest s1
    | (false, s1) => (false, s1)

/-- R423, step 5: HOUSE: code words from address 0. -/
def State.bootHouse (s : State) (ws : List Word) : State :=
  { s with code := (List.zip (List.range ws.length) ws).foldl (fun (t : Tab Word) e => t.set 0 (16 * 131072 + e.1) e.2) s.code }

/-- R423, step 5; R429: the first boot in RETURN zeroes DRAM first. -/
def State.bootLoad (s : State) (c : BootCopy) : Bool × State :=
  let (ok, s1) := State.bootTally c.tally s
  if !ok then (false, s1)
  else
    let (ok2, s2) := State.bootGraphs c.graphs s1
    if !ok2 then (false, s2)
    else
      let s3 := ((s2.bootHouse c.house).setF F.supCtl_HVBASE 0 c.hvbase).setF F.supImgver_VERSION 0 c.version
      (true, if s3.sup.wipe then ({ s3 with dram := [] } : State).setSup fun u => { u with wipe := false } else s3)

/-- R423, step 6: house thread 0 is released at ENTRY as SERVICE, PRIO 4, with wp 0x0001. -/
def State.bootRelease (s : State) (entry : Nat) : State :=
  let s1 := ((s.setF F.schHthread_CLASS 0 1).setF F.schHthread_PRIO 0 4).setF F.supBoot_CODE 0 0
  (s1.startThread 1024 (entry % 131072)).setSup fun u => { u with bootDue := false, booting := none, ready := true }

/-- R423, steps 4 to 6. -/
def State.bootFinish (s : State) (r : BootRun) : State :=
  if !s.dramSettled then s
  else if !s.dramFailed.isEmpty && s.sup.fromPower && !r.retried then
    let s1 := s.dramFailed.foldl (fun (s : State) ch => s.setF F.drcStatus_STATE ch 1) s
    s1.setSup fun u => { u with booting := some { r with retried := true } }
  else
    let s1 := if s.dramFailed.isEmpty then s else s.setF F.supBoot_DEGRADED 0 1
    let c := if r.onB then r.b else r.a
    match s1.bootLoad c with
    | (true, s2) => s2.bootRelease c.entry
    | (false, s2) =>
      let s3 := s2.bootNote r.onB 5
      if r.onB then s3.bootFailed
      else
        match s3.bootTry r.b true with
        | (true, s4) => s4.setSup fun u => { u with booting := some { r with onB := true } }
        | (false, s4) => s4.bootFailed

/-- R423: whether boot has something to do: not in VOID, and not held in reset. -/
def State.bootOwed (s : State) : Bool := s.sup.bootDue && !s.sup.held && s.fuses.lcState != 4

/-! ### Commands -/

/-- R421, R423: the operands are the bytes of copies A and B as the flash gives them; a boot under way goes on with what it has read. -/
def execBoot (a b : Option (List Byte)) (s : State) : Res :=
  runT s (onlyIf s.bootOwed fun s =>
    match s.sup.booting with
    | none => s.bootBegin (s.readCopy a) (s.readCopy b)
    | some r => s.bootFinish r)

end Sys2Proof.Machine
end

