-- ==== Sys2Proof/Machine/Strobes.lean ====
section
/-! DEFINITION. What a lath boundary, a course-start strobe and a packet-deadline strobe do across the units (R47, R48, R169). -/

namespace Sys2Proof.Machine

/-! ### The lath -/

/-- R47: what a lath drives beside the time base (R119, R142, R364, R387, R290, R332, R417). -/
def State.lathWork (s : State) (tj : Nat) : State :=
  let s1 := s.scanLath.dramLath
  let s2 := (List.range 17).foldl (fun (s : State) x => s.mailIn x 16) s1
  let s3 := (List.range 16).foldl (fun (s : State) x => if s.stillNow x then s else { s with restless := s.restless.set false x true }) s2
  s3.stlLath.thermal tj

/-- R47: the next lath begins once the work of the present boundary is done. -/
def State.lathBegin (s : State) (tj : Nat) : State := if s.time.clear then s.lathTime.lathWork tj else s

/-! ### The course-start strobe -/

/-- R48: a course starts. -/
def State.strobeDue (s : State) : Bool := s.time.live && s.time.strobeDue && !s.time.frameDue && !s.time.lenDue

/-- What the strobe does beside the time base: staged values and maps (R100, R107, R178-R180), stillness (R290), ports and flow control (R74, R81, R82),
settlement (R326, R332, R338, R350), admission (R420) and gating (R419). -/
def State.strobeWork (s : State) : State :=
  let s1 := { s with houseFrames := 0 }.graphStrobe
  let s2 := (List.range 16).foldl (fun (s : State) x => s.stageApply .clsBank x) s1
  let s3 := ((List.range 12).foldl (fun (s : State) n => s.portStrobe n) s2).flowAll
  s3.moveStrobe.giftStrobe.powerStrobe.stlStrobe.gateStrobe

def State.courseStrobe (s : State) : State :=
  let s1 := (List.range 16).foldl (fun (s : State) x => s.stillStrobe x) s
  (s1.setTime Time.strobe).strobeWork

/-! ### Commands -/

/-- `tj` is what the temperature sensor reads. -/
def execLathBoundary (tj : Byte) (s : State) : Res :=
  .next { s.lathBegin tj.toNat with time := if s.time.clear then s.lathTime.time else s.time, pending := s.pending }

def execCourseStartStrobe (s : State) : Res :=
  .next { onlyIf s.strobeDue State.courseStrobe s with time := if s.strobeDue then s.time.strobe else s.time, pending := s.pending }

/-- R169; the settlement due at the strobe is built once its deadlines are dealt with (R326). -/
def execPacketDeadline (s : State) : Res := run s (onlyIf s.deadlineDue fun s => s.deadlines.buildDue)

end Sys2Proof.Machine
end

