-- ==== Sys2Proof/Machine/Dispatch.lean ====
section
/-! DEFINITION. The dispatch of a command to its meaning: one arm per constructor of `Instr`. -/

namespace Sys2Proof.Machine

def exec (i : Instr) (s : State) : Host.Outcome State Fault Refusal :=
  match i with
  | .lathBoundary tj => Sys2Proof.Machine.execLathBoundary tj s
  | .timeBaseStart a v => Sys2Proof.Machine.execTimeBaseStart a v s
  | .rejoin a v => Sys2Proof.Machine.execRejoin a v s
  | .promoteMaster a v => Sys2Proof.Machine.execPromoteMaster a v s
  | .lenChangeRequest a v => Sys2Proof.Machine.execLenChangeRequest a v s
  | .lenChangeCancel a v => Sys2Proof.Machine.execLenChangeCancel a v s
  | .phaseAdjWrite a v => Sys2Proof.Machine.execPhaseAdjWrite a v s
  | .timeBaseStep a v => Sys2Proof.Machine.execTimeBaseStep a v s
  | .txtsPop a n => Sys2Proof.Machine.execTxtsPop a n s
  | .portEnable a n v => Sys2Proof.Machine.execPortEnable a n v s
  | .portDisable a n v => Sys2Proof.Machine.execPortDisable a n v s
  | .linkUp n at_ => Sys2Proof.Machine.execLinkUp n at_ s
  | .linkDown n rxPartial align uncorr => Sys2Proof.Machine.execLinkDown n rxPartial align uncorr s
  | .flushComplete n => Sys2Proof.Machine.execFlushComplete n s
  | .frameReceived n at_ bytes err corr uncorr => Sys2Proof.Machine.execFrameReceived n at_ bytes err corr uncorr s
  | .pauseReceived n => Sys2Proof.Machine.execPauseReceived n s
  | .pauseHoldExpiry n prio => Sys2Proof.Machine.execPauseHoldExpiry n prio s
  | .xoffRepeat n => Sys2Proof.Machine.execXoffRepeat n s
  | .parseWalk n perr => Sys2Proof.Machine.execParseWalk n perr s
  | .innerWalk perr => Sys2Proof.Machine.execInnerWalk perr s
  | .graphLoadWrite a x v => Sys2Proof.Machine.execGraphLoadWrite a x v s
  | .graphLoadRead a x => Sys2Proof.Machine.execGraphLoadRead a x s
  | .graphEntryWrite a e v => Sys2Proof.Machine.execGraphEntryWrite a e v s
  | .bind a x v => Sys2Proof.Machine.execBind a x v s
  | .unbind a x v => Sys2Proof.Machine.execUnbind a x v s
  | .tableReconcile a v => Sys2Proof.Machine.execTableReconcile a v s
  | .classLoadWrite a x v => Sys2Proof.Machine.execClassLoadWrite a x v s
  | .classBankWrite a x v => Sys2Proof.Machine.execClassBankWrite a x v s
  | .stationRangeWrite a x v => Sys2Proof.Machine.execStationRangeWrite a x v s
  | .rangeReady x => Sys2Proof.Machine.execRangeReady x s
  | .stationCacheFill h => Sys2Proof.Machine.execStationCacheFill h s
  | .stationWriteback h => Sys2Proof.Machine.execStationWriteback h s
  | .search a x v => Sys2Proof.Machine.execSearch a x v s
  | .next a x v => Sys2Proof.Machine.execNext a x v s
  | .scanResult x => Sys2Proof.Machine.execScanResult x s
  | .flushByPort a x v => Sys2Proof.Machine.execFlushByPort a x v s
  | .flushDone x => Sys2Proof.Machine.execFlushDone x s
  | .ageSweepStart a x v => Sys2Proof.Machine.execAgeSweepStart a x v s
  | .ageSweepDone x => Sys2Proof.Machine.execAgeSweepDone x s
  | .alloc a x v => Sys2Proof.Machine.execAlloc a x v s
  | .free a x v k ecc => Sys2Proof.Machine.execFree a x v k ecc s
  | .release a x v => Sys2Proof.Machine.execRelease a x v s
  | .link a x v ecc => Sys2Proof.Machine.execLink a x v ecc s
  | .admissionClose x => Sys2Proof.Machine.execAdmissionClose x s
  | .slotFill c => Sys2Proof.Machine.execSlotFill c s
  | .packetPost t k => Sys2Proof.Machine.execPacketPost t k s
  | .retire c => Sys2Proof.Machine.execRetire c s
  | .turnGrant t k => Sys2Proof.Machine.execTurnGrant t k s
  | .mapLoadWrite a x v => Sys2Proof.Machine.execMapLoadWrite a x v s
  | .bucketMove a x v => Sys2Proof.Machine.execBucketMove a x v s
  | .moveFenceLift x b => Sys2Proof.Machine.execMoveFenceLift x b s
  | .clusterOwnerWrite a c v => Sys2Proof.Machine.execClusterOwnerWrite a c v s
  | .clusterZeroed c => Sys2Proof.Machine.execClusterZeroed c s
  | .clusterOutOfService a v => Sys2Proof.Machine.execClusterOutOfService a v s
  | .lineRefill k line parityErr => Sys2Proof.Machine.execLineRefill k line parityErr s
  | .storeDrain k ecc => Sys2Proof.Machine.execStoreDrain k ecc s
  | .farLoadResult t => Sys2Proof.Machine.execFarLoadResult t s
  | .farStoreAccept t => Sys2Proof.Machine.execFarStoreAccept t s
  | .farStoreError t => Sys2Proof.Machine.execFarStoreError t s
  | .mov t a b => Sys2Proof.Machine.execMov t a b s
  | .add t a b => Sys2Proof.Machine.execAdd t a b s
  | .adc t a b => Sys2Proof.Machine.execAdc t a b s
  | .sub t a b => Sys2Proof.Machine.execSub t a b s
  | .sbc t a b => Sys2Proof.Machine.execSbc t a b s
  | .cmp t a b => Sys2Proof.Machine.execCmp t a b s
  | .and t a b => Sys2Proof.Machine.execAnd t a b s
  | .or t a b => Sys2Proof.Machine.execOr t a b s
  | .xor t a b => Sys2Proof.Machine.execXor t a b s
  | .shl t a b => Sys2Proof.Machine.execShl t a b s
  | .shr t a b => Sys2Proof.Machine.execShr t a b s
  | .sar t a b => Sys2Proof.Machine.execSar t a b s
  | .shlq t a n => Sys2Proof.Machine.execShlq t a n s
  | .shrq t a n => Sys2Proof.Machine.execShrq t a n s
  | .sarq t a n => Sys2Proof.Machine.execSarq t a n s
  | .mul t a b => Sys2Proof.Machine.execMul t a b s
  | .muls t a b => Sys2Proof.Machine.execMuls t a b s
  | .dadd t a b => Sys2Proof.Machine.execDadd t a b s
  | .dsub t a b => Sys2Proof.Machine.execDsub t a b s
  | .daj t a b => Sys2Proof.Machine.execDaj t a b s
  | .dshl t a b => Sys2Proof.Machine.execDshl t a b s
  | .dshr t a b => Sys2Proof.Machine.execDshr t a b s
  | .movi t a imm => Sys2Proof.Machine.execMovi t a imm s
  | .addi t a imm => Sys2Proof.Machine.execAddi t a imm s
  | .subi t a imm => Sys2Proof.Machine.execSubi t a imm s
  | .cmpi t a imm => Sys2Proof.Machine.execCmpi t a imm s
  | .andi t a imm => Sys2Proof.Machine.execAndi t a imm s
  | .ori t a imm => Sys2Proof.Machine.execOri t a imm s
  | .xori t a imm => Sys2Proof.Machine.execXori t a imm s
  | .tsti t a imm => Sys2Proof.Machine.execTsti t a imm s
  | .not t a => Sys2Proof.Machine.execNot t a s
  | .neg t a => Sys2Proof.Machine.execNeg t a s
  | .swapb t a => Sys2Proof.Machine.execSwapb t a s
  | .zxb t a => Sys2Proof.Machine.execZxb t a s
  | .sxb t a => Sys2Proof.Machine.execSxb t a s
  | .rdf t a n => Sys2Proof.Machine.execRdf t a n s
  | .nop t a => Sys2Proof.Machine.execNop t a s
  | .ret t a ecc => Sys2Proof.Machine.execRet t a ecc s
  | .rett t a ecc => Sys2Proof.Machine.execRett t a ecc s
  | .brk t n => Sys2Proof.Machine.execBrk t n s
  | .exit t a => Sys2Proof.Machine.execExit t a s
  | .jmpr t a => Sys2Proof.Machine.execJmpr t a s
  | .callr t a ecc => Sys2Proof.Machine.execCallr t a ecc s
  | .join t a => Sys2Proof.Machine.execJoin t a s
  | .b t cc off => Sys2Proof.Machine.execB t cc off s
  | .j t cc z target => Sys2Proof.Machine.execJ t cc z target s
  | .call t cc z target ecc => Sys2Proof.Machine.execCall t cc z target ecc s
  | .tset t a b imm => Sys2Proof.Machine.execTset t a b imm s
  | .trel t a b => Sys2Proof.Machine.execTrel t a b s
  | .fork t a b => Sys2Proof.Machine.execFork t a b s
  | .chw t a b => Sys2Proof.Machine.execChw t a b s
  | .che t a b => Sys2Proof.Machine.execChe t a b s
  | .cheUnblock t => Sys2Proof.Machine.execCheUnblock t s
  | .chr t a b => Sys2Proof.Machine.execChr t a b s
  | .chrWake t => Sys2Proof.Machine.execChrWake t s
  | .chp t a b => Sys2Proof.Machine.execChp t a b s
  | .lka t a => Sys2Proof.Machine.execLka t a s
  | .lkt t a => Sys2Proof.Machine.execLkt t a s
  | .lkr t a => Sys2Proof.Machine.execLkr t a s
  | .lkf t a => Sys2Proof.Machine.execLkf t a s
  | .ldReg t a b ecc => Sys2Proof.Machine.execLdReg t a b ecc s
  | .ldPostinc t a b ecc => Sys2Proof.Machine.execLdPostinc t a b ecc s
  | .ldDisp t a b d ecc => Sys2Proof.Machine.execLdDisp t a b d ecc s
  | .ldIndex t a b w ecc => Sys2Proof.Machine.execLdIndex t a b w ecc s
  | .stReg t a b => Sys2Proof.Machine.execStReg t a b s
  | .stPostinc t a b => Sys2Proof.Machine.execStPostinc t a b s
  | .stPredec t a b => Sys2Proof.Machine.execStPredec t a b s
  | .stDisp t a b d => Sys2Proof.Machine.execStDisp t a b d s
  | .stIndex t a b w => Sys2Proof.Machine.execStIndex t a b w s
  | .ldpPostinc t a b ecc => Sys2Proof.Machine.execLdpPostinc t a b ecc s
  | .ldpDisp t a b d ecc => Sys2Proof.Machine.execLdpDisp t a b d ecc s
  | .stpPredec t a b => Sys2Proof.Machine.execStpPredec t a b s
  | .stpPostinc t a b => Sys2Proof.Machine.execStpPostinc t a b s
  | .stpDisp t a b d => Sys2Proof.Machine.execStpDisp t a b d s
  | .ldfDisp t a b d => Sys2Proof.Machine.execLdfDisp t a b d s
  | .ldfPostinc t a b => Sys2Proof.Machine.execLdfPostinc t a b s
  | .ldfIndex t a b w => Sys2Proof.Machine.execLdfIndex t a b w s
  | .stfDisp t a b d => Sys2Proof.Machine.execStfDisp t a b d s
  | .stfPostinc t a b => Sys2Proof.Machine.execStfPostinc t a b s
  | .ldfpDisp t a b d => Sys2Proof.Machine.execLdfpDisp t a b d s
  | .ldfpPostinc t a b => Sys2Proof.Machine.execLdfpPostinc t a b s
  | .stfpDisp t a b d => Sys2Proof.Machine.execStfpDisp t a b d s
  | .stfpPostinc t a b => Sys2Proof.Machine.execStfpPostinc t a b s
  | .tlock t a => Sys2Proof.Machine.execTlock t a s
  | .tfree t a => Sys2Proof.Machine.execTfree t a s
  | .tsync t a => Sys2Proof.Machine.execTsync t a s
  | .mtt t a b w => Sys2Proof.Machine.execMtt t a b w s
  | .mft t a b w => Sys2Proof.Machine.execMft t a b w s
  | .topClr t b w => Sys2Proof.Machine.execTopClr t b w s
  | .topMova t b w => Sys2Proof.Machine.execTopMova t b w s
  | .topAdd t b w => Sys2Proof.Machine.execTopAdd t b w s
  | .topSub t b w => Sys2Proof.Machine.execTopSub t b w s
  | .topMul t b w => Sys2Proof.Machine.execTopMul t b w s
  | .topDiv t b w => Sys2Proof.Machine.execTopDiv t b w s
  | .topRnd t b w => Sys2Proof.Machine.execTopRnd t b w s
  | .topCmp t b w => Sys2Proof.Machine.execTopCmp t b w s
  | .topNeg t b w => Sys2Proof.Machine.execTopNeg t b w s
  | .topAbs t b w => Sys2Proof.Machine.execTopAbs t b w s
  | .topCvd t b w => Sys2Proof.Machine.execTopCvd t b w s
  | .topCvb t b w => Sys2Proof.Machine.execTopCvb t b w s
  | .topHeat t b w => Sys2Proof.Machine.execTopHeat t b w s
  | .tallyCommandComplete u mchk => Sys2Proof.Machine.execTallyCommandComplete u mchk s
  | .patchWordWrite a v => Sys2Proof.Machine.execPatchWordWrite a v s
  | .patchApply a v => Sys2Proof.Machine.execPatchApply a v s
  | .bankExchange u => Sys2Proof.Machine.execBankExchange u s
  | .threadClassWrite a t v => Sys2Proof.Machine.execThreadClassWrite a t v s
  | .channelCfgWrite a x v => Sys2Proof.Machine.execChannelCfgWrite a x v s
  | .timerArm t k n => Sys2Proof.Machine.execTimerArm t k n s
  | .timerCancel t k v => Sys2Proof.Machine.execTimerCancel t k v s
  | .timerExpiry t k => Sys2Proof.Machine.execTimerExpiry t k s
  | .still x => Sys2Proof.Machine.execStill x s
  | .outputRequest a x v => Sys2Proof.Machine.execOutputRequest a x v s
  | .egressSelect n k ecc => Sys2Proof.Machine.execEgressSelect n k ecc s
  | .frameTransmitDone n at_ => Sys2Proof.Machine.execFrameTransmitDone n at_ s
  | .recircReentry k => Sys2Proof.Machine.execRecircReentry k s
  | .switchLoadWrite a x v => Sys2Proof.Machine.execSwitchLoadWrite a x v s
  | .forceLead a v => Sys2Proof.Machine.execForceLead a v s
  | .ledgerAppend a x v => Sys2Proof.Machine.execLedgerAppend a x v s
  | .dramEnable a ch v => Sys2Proof.Machine.execDramEnable a ch v s
  | .trainingComplete ch fail => Sys2Proof.Machine.execTrainingComplete ch fail s
  | .dramRetrainStart a ch v => Sys2Proof.Machine.execDramRetrainStart a ch v s
  | .dramRequestAdmit ch chk => Sys2Proof.Machine.execDramRequestAdmit ch chk s
  | .dramCommandIssue ch sub chk => Sys2Proof.Machine.execDramCommandIssue ch sub chk s
  | .dramReadDone ch chk => Sys2Proof.Machine.execDramReadDone ch chk s
  | .scrubPeriodWrite a ch v => Sys2Proof.Machine.execScrubPeriodWrite a ch v s
  | .moverGo a m v => Sys2Proof.Machine.execMoverGo a m v s
  | .moverStop a m v => Sys2Proof.Machine.execMoverStop a m v s
  | .moveUnitDone m => Sys2Proof.Machine.execMoveUnitDone m s
  | .scpFrameReceived p => Sys2Proof.Machine.execScpFrameReceived p s
  | .hello x => Sys2Proof.Machine.execHello x s
  | .caps x => Sys2Proof.Machine.execCaps x s
  | .load x => Sys2Proof.Machine.execLoad x s
  | .scpStart x => Sys2Proof.Machine.execScpStart x s
  | .stallStartEffect x => Sys2Proof.Machine.execStallStartEffect x s
  | .scpStop x => Sys2Proof.Machine.execScpStop x s
  | .stallStopEffect x => Sys2Proof.Machine.execStallStopEffect x s
  | .read x => Sys2Proof.Machine.execRead x s
  | .write x => Sys2Proof.Machine.execWrite x s
  | .mail x => Sys2Proof.Machine.execMail x s
  | .mailOutSend x => Sys2Proof.Machine.execMailOutSend x s
  | .scpAck x => Sys2Proof.Machine.execScpAck x s
  | .deliver x => Sys2Proof.Machine.execDeliver x s
  | .resendTimeout x => Sys2Proof.Machine.execResendTimeout x s
  | .notice x => Sys2Proof.Machine.execNotice x s
  | .scpReset x => Sys2Proof.Machine.execScpReset x s
  | .scpLedger x => Sys2Proof.Machine.execScpLedger x s
  | .debugStop x => Sys2Proof.Machine.execDebugStop x s
  | .debugResume x => Sys2Proof.Machine.execDebugResume x s
  | .debugGetregs x => Sys2Proof.Machine.execDebugGetregs x s
  | .debugSetregs x => Sys2Proof.Machine.execDebugSetregs x s
  | .nearRead x => Sys2Proof.Machine.execNearRead x s
  | .nearWrite x => Sys2Proof.Machine.execNearWrite x s
  | .create a x v => Sys2Proof.Machine.execCreate a x v s
  | .remove a x v => Sys2Proof.Machine.execRemove a x v s
  | .stallRemoved x => Sys2Proof.Machine.execStallRemoved x s
  | .keyWrite a x v => Sys2Proof.Machine.execKeyWrite a x v s
  | .eventRaise a x v => Sys2Proof.Machine.execEventRaise a x v s
  | .eventRecordPublish x => Sys2Proof.Machine.execEventRecordPublish x s
  | .snap a r v => Sys2Proof.Machine.execSnap a r v s
  | .periodicTrigger r => Sys2Proof.Machine.execPeriodicTrigger r s
  | .clear a r v => Sys2Proof.Machine.execClear a r v s
  | .arm a r v => Sys2Proof.Machine.execArm a r v s
  | .rearmComplete r => Sys2Proof.Machine.execRearmComplete r s
  | .powerReset strap => Sys2Proof.Machine.execPowerReset strap s
  | .deviceReset strap => Sys2Proof.Machine.execDeviceReset strap s
  | .devrst a v => Sys2Proof.Machine.execDevrst a v s
  | .kick a v => Sys2Proof.Machine.execKick a v s
  | .stallReset a x v => Sys2Proof.Machine.execStallReset a x v s
  | .clusterReset a x v => Sys2Proof.Machine.execClusterReset a x v s
  | .coreReset a x v => Sys2Proof.Machine.execCoreReset a x v s
  | .threadReset a x v => Sys2Proof.Machine.execThreadReset a x v s
  | .boot a b => Sys2Proof.Machine.execBoot a b s
  | .admitWrite a v => Sys2Proof.Machine.execAdmit a v s
  | .standbyEntry a v => Sys2Proof.Machine.execStandbyEntry a v s
  | .standbyExit a v => Sys2Proof.Machine.execStandbyExit a v s
  | .lifecycle a v => Sys2Proof.Machine.execLifecycle a v s
  | .rollbackRaise a v => Sys2Proof.Machine.execRollbackRaise a v s
  | .unmappedAccess a off write => Sys2Proof.Machine.execUnmappedAccess a off write s
  | .rcRead a off => Sys2Proof.Machine.execRcRead a off s
  | .pairLowRead a off => Sys2Proof.Machine.execPairLowRead a off s
  | .registerWrite a off v => Sys2Proof.Machine.execRegisterWrite a off v s
  | .farStorePerformed t => Sys2Proof.Machine.execFarStorePerformed t s
  | .lockOperationDone t err => Sys2Proof.Machine.execLockOperationDone t err s
  | .tickFrameReceived f offset => Sys2Proof.Machine.execTickFrameReceived f offset s
  | .ppsInEdge edge => Sys2Proof.Machine.execPpsInEdge edge s
  | .trainFail n => Sys2Proof.Machine.execTrainFail n s
  | .pauseStorm n => Sys2Proof.Machine.execPauseStorm n s
  | .flushGuardEnd x => Sys2Proof.Machine.execFlushGuardEnd x s
  | .ageSweepAuto x => Sys2Proof.Machine.execAgeSweepAuto x s
  | .guardCycle k => Sys2Proof.Machine.execGuardCycle k s
  | .heartbeat f => Sys2Proof.Machine.execHeartbeat f s
  | .settle f => Sys2Proof.Machine.execSettle f s
  | .ack f => Sys2Proof.Machine.execAck f s
  | .fillReq f => Sys2Proof.Machine.execFillReq f s
  | .fillData f => Sys2Proof.Machine.execFillData f s
  | .mark f => Sys2Proof.Machine.execMark f s
  | .abandon f => Sys2Proof.Machine.execAbandon f s
  | .joinReq f => Sys2Proof.Machine.execJoinReq f s
  | .joinCopy f => Sys2Proof.Machine.execJoinCopy f s
  | .joinDone f => Sys2Proof.Machine.execJoinDone f s
  | .dramRetrainAuto ch temp => Sys2Proof.Machine.execDramRetrainAuto ch temp s
  | .trainDone ch => Sys2Proof.Machine.execTrainDone ch s
  | .refreshDue ch sub rank ba => Sys2Proof.Machine.execRefreshDue ch sub rank ba s
  | .mr4Poll ch code beyond => Sys2Proof.Machine.execMr4Poll ch code beyond s
  | .throttleExpiry r ch => Sys2Proof.Machine.execThrottleExpiry r ch s
  | .debugStep x => Sys2Proof.Machine.execDebugStep x s
  | .stepComplete t => Sys2Proof.Machine.execStepComplete t s
  | .clusterWake c => Sys2Proof.Machine.execClusterWake c s
  | .courseStartStrobe => Sys2Proof.Machine.execCourseStartStrobe s
  | .tickFrameBoundary => Sys2Proof.Machine.execTickFrameBoundary s
  | .followingEntry => Sys2Proof.Machine.execFollowingEntry s
  | .tickLathMissed => Sys2Proof.Machine.execTickLathMissed s
  | .lenChangeApplied => Sys2Proof.Machine.execLenChangeApplied s
  | .ppsLoss => Sys2Proof.Machine.execPpsLoss s
  | .ppsOutPulse => Sys2Proof.Machine.execPpsOutPulse s
  | .classifyLookup => Sys2Proof.Machine.execClassifyLookup s
  | .cipherInbound => Sys2Proof.Machine.execCipherInbound s
  | .learn => Sys2Proof.Machine.execLearn s
  | .dispatchDecide => Sys2Proof.Machine.execDispatchDecide s
  | .packetDeadline => Sys2Proof.Machine.execPacketDeadline s
  | .deferReadmit => Sys2Proof.Machine.execDeferReadmit s
  | .gateRelease => Sys2Proof.Machine.execGateRelease s
  | .ackSend => Sys2Proof.Machine.execAckSend s
  | .ackTimeout => Sys2Proof.Machine.execAckTimeout s
  | .linkSilence => Sys2Proof.Machine.execLinkSilence s
  | .twinAliveLost => Sys2Proof.Machine.execTwinAliveLost s
  | .shadowOnlyDiscard => Sys2Proof.Machine.execShadowOnlyDiscard s
  | .journalRecordComplete => Sys2Proof.Machine.execJournalRecordComplete s
  | .journalRecovery => Sys2Proof.Machine.execJournalRecovery s
  | .joinWaitExpiry => Sys2Proof.Machine.execJoinWaitExpiry s
  | .joinCopyComplete => Sys2Proof.Machine.execJoinCopyComplete s
  | .watchdog => Sys2Proof.Machine.execWatchdog s
  | .thermalTrip => Sys2Proof.Machine.execThermalTrip s
  | .settlementLeaveOff => Sys2Proof.Machine.execSettlementLeaveOff s
  | .standbySettled => Sys2Proof.Machine.execStandbySettled s
  | .standbyAbandon => Sys2Proof.Machine.execStandbyAbandon s
  | .cellTime => Sys2Proof.Machine.execCellTime s
  | .twinAliveInToggle => Sys2Proof.Machine.execTwinAliveInToggle s
  | .reconciliationComplete => Sys2Proof.Machine.execReconciliationComplete s

end Sys2Proof.Machine
end

