-- ==== Sys2Proof/Safety.lean ====
section
/-! DEFINITION. What claims speak of: the parts of the state a command may change, the time base's invariant, and when an accessor's
register write or a thread's instruction is the one performed. -/

namespace Sys2Proof.Machine

/-! ### Frames -/

/-- `s` with other register words, pending event records, LOST marks, recorders and count of free values: all that an event changes
(R394-R409). -/
def State.withEv (s : State) (regs : Tab Word32) (recs : List EvRec) (lost : List (Nat × Bool)) (ldg : Tab Recorder) (free : Nat) : State :=
  { s with regs := regs, evRecs := recs, evLost := lost, ldg := ldg, freeCtr := free }

/-- `t` is `s` but for what an event changes. -/
def State.onlyEvents (s t : State) : Prop := ∃ r e l g f, t = s.withEv r e l g f

/-- The parts of the device's state, but for the queue of waiting commands. -/
inductive Part where
  /-- the time base (R39-R68) -/
  | time
  /-- the register file -/
  | regs
  /-- pending event records and recorders (R394-R409) -/
  | events
  /-- what accessors were answered and have captured (R15) -/
  | access
  /-- the model's own counters -/
  | free
  /-- what has left on the balls -/
  | sent
  /-- maintenance activities (R424) -/
  | maint
  /-- fuses -/
  | fuses
  /-- ports and egress stamps (R64-R85) -/
  | ports
  /-- packet memory (R147-R159) -/
  | cells
  /-- parse graphs, their staged settings and the classification banks (R86-R101) -/
  | graphs
  /-- the queues between receive stages -/
  | pipe
  /-- station cache, scans, sweeps and ranges (R106-R146) -/
  | stations
  /-- DRAM bytes -/
  | dram
  /-- local SRAMs, code stores and cluster memories -/
  | sram
  /-- threads, cores, tally units and their patches -/
  | threads
  /-- channels (R278-R290) and lock waiters -/
  | chans
  /-- dispatch queues, maps, moves and cluster gifts (R160-R181) -/
  | dispatch
  /-- the eave gate and released courses (R174-R177) -/
  | gate
  /-- the switch core (R304-R322) -/
  | egress
  /-- settlement, ledgers and journal (R323-R350) -/
  | settle
  /-- DRAM controllers, arbiters and movers (R351-R370) -/
  | dramCtl
  /-- the SCP engine (R371-R393) -/
  | scp
  /-- the supervision block (R410-R430) -/
  | sup
  deriving DecidableEq, Repr

/-- A part reads the same in two states. -/
def Part.same (s t : State) : Part → Prop
  | .time => t.time = s.time
  | .regs => t.regs = s.regs
  | .events => t.evRecs = s.evRecs ∧ t.evLost = s.evLost ∧ t.ldg = s.ldg
  | .access => t.captures = s.captures ∧ t.resp = s.resp
  | .free => t.freeCtr = s.freeCtr ∧ t.useCtr = s.useCtr
  | .sent => t.emits = s.emits
  | .maint => t.maint = s.maint
  | .fuses => t.fuses = s.fuses
  | .ports => t.txts = s.txts ∧ t.ports = s.ports
  | .cells => t.cells = s.cells ∧ t.cellData = s.cellData ∧ t.rotors = s.rotors ∧ t.redLath = s.redLath
  | .graphs => t.graphs = s.graphs ∧ t.houseFrames = s.houseFrames ∧ t.drain = s.drain ∧ t.staged = s.staged ∧ t.clsBanks = s.clsBanks
  | .pipe => t.cipherQ = s.cipherQ ∧ t.reparseQ = s.reparseQ ∧ t.classQ = s.classQ ∧ t.learnQ = s.learnQ ∧ t.dispQ = s.dispQ
  | .stations => t.hot = s.hot ∧ t.stn = s.stn ∧ t.stnWait = s.stnWait ∧ t.reconciling = s.reconciling ∧ t.needReconcile = s.needReconcile ∧ t.scans = s.scans ∧ t.sweeps = s.sweeps ∧ t.lastFound = s.lastFound ∧ t.guards = s.guards ∧ t.sweepAt = s.sweepAt ∧ t.keyCache = s.keyCache ∧ t.rangeZero = s.rangeZero
  | .dram => t.dram = s.dram
  | .sram => t.sram = s.sram ∧ t.code = s.code ∧ t.clMem = s.clMem
  | .threads => t.threads = s.threads ∧ t.cores = s.cores ∧ t.units = s.units ∧ t.patches = s.patches ∧ t.patchFrom = s.patchFrom ∧ t.chains = s.chains ∧ t.restless = s.restless
  | .chans => t.chans = s.chans ∧ t.chanCfg = s.chanCfg ∧ t.lockQ = s.lockQ
  | .dispatch => t.freeAfter = s.freeAfter ∧ t.clusterQ = s.clusterQ ∧ t.clusterRotor = s.clusterRotor ∧ t.defers = s.defers ∧ t.admitted = s.admitted ∧ t.maps = s.maps ∧ t.moves = s.moves ∧ t.fences = s.fences ∧ t.oldMaps = s.oldMaps ∧ t.gifts = s.gifts ∧ t.roles = s.roles
  | .gate => t.gateFrom = s.gateFrom ∧ t.banks = s.banks ∧ t.released = s.released
  | .egress => t.outPorts = s.outPorts ∧ t.planes = s.planes ∧ t.xbar = s.xbar ∧ t.geom = s.geom ∧ t.qstat = s.qstat
  | .settle => t.deltas = s.deltas ∧ t.idents = s.idents ∧ t.acceptedPlus = s.acceptedPlus ∧ t.heldFrames = s.heldFrames ∧ t.appends = s.appends ∧ t.ledger = s.ledger ∧ t.unretired = s.unretired ∧ t.journal = s.journal ∧ t.stl = s.stl
  | .dramCtl => t.ctl = s.ctl
  | .scp => t.sessions = s.sessions ∧ t.starts = s.starts ∧ t.stops = s.stops
  | .sup => t.sup = s.sup

/-- Every part but those listed is as before, and so is the queue: what a command leaves alone. -/
def State.frame (ps : List Part) (s t : State) : Prop := t.pending = s.pending ∧ ∀ p, p ∉ ps → p.same s t

/-- What a reset of threads, cores or clusters may change (R411, R412): not the time base, nor what is on its way through the device. -/
def scopedParts : List Part :=
  [.cells, .chans, .dispatch, .dram, .dramCtl, .events, .free, .gate, .ports, .regs, .sent, .settle, .sram, .stations, .threads, .access]

/-- Every word of the register file but those listed is as before. -/
def State.regsBut (s t : State) (keys : List Nat) : Prop := ∀ k d, k ∉ keys → t.regs.get d k = s.regs.get d k

/-! ### Register accesses -/

/-- R10, R11, R435: the accessor reaches instance (i, j) of the register, and may write `v` to it. -/
def State.permits (s : State) (a : Accessor) (r : Reg) (i j v : Nat) : Prop :=
  s.mayReach (s.accOwner a) r i = true ∧ s.breach a r i j v = false

/-- What the accessor was answered last: a value, and that it was not refused. -/
def State.answered (s : State) (a : Accessor) (v : Nat) : Prop :=
  s.resp.get Resp.reset a.num = { value := BitVec.ofNat 32 v, refused := false }

/-! ### Instructions -/

/-- R184, R223, R228: thread `u` is chosen to issue, the words at its pc are the assigned words `ws`, and no machine check waits for it. -/
def State.canIssue (s : State) (u : Nat) (ws : List Nat) : Prop :=
  s.selected u = true ∧ assigned (s.codeWord u (s.th u).pc) = true ∧ (s.insnAddrs u).map (s.codeWord u) = ws ∧ (s.th u).mchk = false

/-- The packets a thread's slots hold, without the count of instructions issued for them (R167). -/
def Thread.held (th : Thread) : List (Nat × Option SlotPkt) := th.slots.map fun e => (e.1, e.2.map fun p => { p with issued := 0 })

/-- Of a thread only the registers, the flags, the pc, the shadows of its loads, its place among the eligible (R276), the debugger's step
count and its packets' counts of instructions differ. -/
def Thread.sameRest (a b : Thread) : Prop :=
  b = { a with file := b.file, fl := b.fl, pc := b.pc, shades := b.shades, since := b.since, slots := b.slots, steps := b.steps } ∧ b.held = a.held

/-- Every word of a thread's window file but those listed is as before (R209). -/
def Thread.wordsBut (a b : Thread) (ks : List Nat) : Prop := ∀ k, k ∉ ks → b.file.get 0 k = a.file.get 0 k

/-- Every thread but those listed is as before, save that the end of a guard cycle may make it eligible afresh (R192, R276). -/
def State.othersKept (s t : State) (us : List Nat) : Prop := ∀ w, w ∉ us → t.th w = { s.th w with since := (t.th w).since }

/-- R184, R193: thread `u` has issued an instruction and goes on at `pc`; every other thread is as before, and so is all of the device but
threads, cores and their counters. -/
def State.ranTo (s t : State) (u pc : Nat) : Prop :=
  (t.th u).pc = pc ∧ (s.th u).sameRest (t.th u) ∧ s.othersKept t [u] ∧ State.frame [.threads, .regs, .free] s t

/-- The same for an instruction of `n` words that goes on at the next one. -/
def State.ranOn (s t : State) (u n : Nat) : Prop := s.ranTo t u (((s.th u).pc + n) % 131072)

/-- R227: thread `u` has taken a trap at `pc`: what it saves, and the handler it goes on at, with the window slid down one frame. -/
def State.trapped (s t : State) (u vec detail addr info pc : Nat) : Prop :=
  (t.th u).inTrap = true ∧ (t.th u).tcause = vec + detail * 256 ∧ (t.th u).taddr = addr ∧ (t.th u).tinfo = info ∧
    (t.th u).tpc = pc % 2 ^ 32 ∧ (t.th u).tfl = (s.th u).fl ∧ (t.th u).pc = s.handler u vec ∧ (t.th u).st = .running ∧
    (t.th u).frame = ((s.th u).frame + 1) % 16

/-- R194: no tally command of thread `u` is outstanding and no register of it is open, so that a trap finds every register final. -/
def State.regsFinal (s : State) (u : Nat) : Prop := s.tallyPending u = false ∧ ∀ e ∈ (s.th u).shades, e.clash = false

/-- R194, R210, R227: a trap of thread `u` finds a free frame and final registers. -/
def State.trapReady (s : State) (u : Nat) : Prop := (s.th u).inTrap = false ∧ (s.th u).spillDue = false ∧ s.regsFinal u

/-- A register code takes a value: its word of the window file, fl's five bits, and nothing for zr and wp (R206). -/
def Thread.took (a b : Thread) (c v : Nat) : Prop :=
  match a.key c with
  | some k => if k = flKey then b.fl = v % 32 ∧ a.wordsBut b [] else b.file.get 0 k = word v ∧ a.wordsBut b [k]
  | none => a.wordsBut b []

/-- The values an instruction reads in registers a and b, in order (a register in a load's shadow may read either of two, R193). -/
def State.reads2 (s : State) (u a b x y : Nat) : Prop := ∃ s1 s2, s.readReg u a = (x, s1) ∧ s1.readReg u b = (y, s2)

/-- The same of an instruction that also reads fl. -/
def State.reads3 (s : State) (u a b x y fl : Nat) : Prop :=
  ∃ s1 s2 s3, s.readReg u a = (x, s1) ∧ s1.readReg u b = (y, s2) ∧ s2.readReg u 25 = (fl, s3)

/-- R207: Z and N say that a 16-bit result is 0 and that its bit 15 is set. -/
def signs (v fl : Nat) : Prop := (flZ fl = true ↔ v = 0) ∧ (flN fl = true ↔ 32768 ≤ v)

/-- The number four packed decimal digits stand for (R239). -/
def packedValue (w : Nat) : Nat := digit w 0 + 10 * digit w 1 + 100 * digit w 2 + 1000 * digit w 3

/-- The canonical form of the addressed memories: keys strictly rising, and nothing listed that reads as an unlisted place does. -/
def Memory.wf (s : State) : Bool := s.dram.wf 0 && s.sram.wf 0 && s.code.wf 0 && s.clMem.wf 0 && s.cellData.wf []

/-- A command waits at the front of the queue. -/
def State.fronted (s : State) (c : Instr) (rest : List Instr) : State := { s with pending := c :: rest }

/-- R261: thread `u`'s command has entered its unit's queue, and nothing else of the unit has changed. -/
def State.tallyQueued (s t : State) (u : Nat) (c : TallyCmd) : Prop :=
  t.unit (coreOf u) = { s.unit (coreOf u) with queue := (s.unit (coreOf u)).queue ++ [(u, c)] } ∧
    (∀ k, k ≠ coreOf u → t.unit k = s.unit k) ∧ (t.th u).pc = ((s.th u).pc + 2) % 131072 ∧ (s.th u).wordsBut (t.th u) [] ∧
    (t.th u).fl = (s.th u).fl ∧ s.othersKept t [u] ∧ State.frame [.threads, .regs, .free] s t

/-- R70, R331: the oldest Elvant frame that waits on the frame's lane has this TYPE and these contents, and `rest` wait behind it. -/
def State.arrives (s : State) (type : Nat) (f : Elvant) (rest : List (List Byte)) : Prop :=
  ∃ bs, s.laneFrames f.lane = bs :: rest ∧ elvantSpells f type bs = true

/-- R331: an Elvant frame that waits is of this pair, this version and a course near this one. -/
def State.hears (s : State) (type : Nat) (current : Bool) (f : Elvant) (rest : List (List Byte)) : Prop :=
  s.arrives type f rest ∧ f.pair.toNat = s.f F.stlPair_PAIR_ID ∧ f.version = 1 ∧ s.elvantCourseOk current f = true

/-- The settlement unit once a frame of the pair has been heard on a lane (R331, R339). -/
def State.heard (s : State) (f : Elvant) : Stl :=
  { s.stl with lastValid := s.now, laneAt := s.stl.laneAt.insert f.lane (s.now + 1), quiet := false }

/-- R70, R376: the oldest SCP frame that waits on H port `p` reads as `f`, which the engine takes, and `rest` wait behind it. -/
def State.scpTakes (s : State) (p : Nat) (f : ScpFrame) (rest : List (List Byte)) : Prop :=
  ∃ bs, (s.port (8 + p)).ctlQ = bs :: rest ∧ s.scpParse bs = f ∧ s.b F.scpCfg_ENABLE = true ∧ f.cls = 5 ∧ f.version = 1 ∧ f.target < 17 ∧
    (f.target < 16 → s.stallState f.target ≠ 0) ∧ f.fits = true ∧ s.portQueue (8 + p) < 256

/-- R379, R381: a command waits alone in an open session, is next in sequence order, and is to be carried out. -/
def State.scpReady (s : State) (x : Nat) (c : ScpCmd) : Prop :=
  s.sessionOpen x = true ∧ (s.sess x).waiting = [c] ∧ c.seq = s.lastSeq x + 1 ∧ c.seq < 2 ^ 32 ∧ s.early x c = none ∧ s.rateOver x = false

/-- R379: its sequence is executed and nothing waits. -/
def State.scpDone (t : State) (x : Nat) (c : ScpCmd) : Prop := t.lastSeq x = c.seq ∧ (t.sess x).waiting = []

/-- R375, R379, R380: it is executed and has the response with this status and body, kept for a retry. -/
def State.scpAnswered (t : State) (x : Nat) (c : ScpCmd) (status : Nat) (body : List Word) : Prop :=
  t.scpDone x c ∧ ∃ f, (t.sess x).stored.head? = some f ∧ f.op = c.op ∧ f.seq = c.seq ∧ f.words.drop 8 = body ∧
    (f.words.getD 1 0).toNat / 256 = status

/-! ### The time base -/

/-- What the time base keeps to (R47-R49): the length codes are legal; the timeline stands at a lath; a frame that is due, or a length
that is to take effect, stands at a frame; a course that is due stands at a multiple of its length, and one in progress began at one and
has not run its length; before START nothing has moved. -/
def Time.Inv (t : Time) : Prop :=
  t.len ≤ 4 ∧ t.nextLen ≤ 4 ∧ t.timeline.toNat % 1024 = 0 ∧ (t.frameDue = true ∨ t.lenDue = true → t.timeline.toNat % frameUnits = 0) ∧
    (t.strobeDue = true → t.timeline.toNat % courseUnits t.len = 0) ∧
    (t.strobeDue = false → t.courseStart.toNat % courseUnits t.len = 0 ∧ (t.timeline - t.courseStart).toNat < courseUnits t.len) ∧
    (t.st = .off → t.timeline = 0 ∧ t.courseStart = 0)

end Sys2Proof.Machine

namespace Sys2Proof

/-- The commands that may act on the time base: its own, register writes that can reach its registers, boot and POWER reset. -/
def Instr.actsOnTime : Instr → Bool
  | .lathBoundary _ => true
  | .courseStartStrobe => true
  | .tickFrameBoundary => true
  | .tickFrameReceived _ _ => true
  | .tickLathMissed => true
  | .followingEntry => true
  | .lenChangeApplied => true
  | .ppsInEdge _ => true
  | .ppsLoss => true
  | .timeBaseStart _ _ => true
  | .rejoin _ _ => true
  | .promoteMaster _ _ => true
  | .lenChangeRequest _ _ => true
  | .lenChangeCancel _ _ => true
  | .phaseAdjWrite _ _ => true
  | .timeBaseStep _ _ => true
  | .registerWrite _ _ _ => true
  | .farStoreAccept _ => true
  | .write _ => true
  | .boot _ _ => true
  | .powerReset _ => true
  | _ => false

end Sys2Proof

namespace Sys2Proof.Machine

/-! ### Plain registers -/

/-- A write of the register only stores (R10). -/
def Reg.plainWrite (r : Reg) : Bool :=
  !r.ofTime && !([.prtCfg, .pgrGraphCfg, .pgrLoadData, .clsCfg, .clsSeed, .clsBindCmd, .clsLoadData, .stnCmdCmd, .stnRange, .espPrefix,
    .stnLearnSweep, .pkmPoolLimit, .pkmPoolGreen, .pkmPoolYellow, .pkmPoolRed, .pkmPoolCtl, .pkmCellCmd, .dspStallMap, .dspMaploadData,
    .dspCluster, .dspOos, .tlyPloadD2, .tlyPatch, .schThread, .schHthread, .schChanCfg, .swcPortCfg, .swcPortPrioMap, .swcOutCmd, .swcLoadData, .stlCfg,
    .stlCtl, .stlLedgerBase, .stlLedgerSize, .stlAppendCmd, .drcCfg, .drcTim, .arbMapLo, .arbMapHi, .drcTrain, .drcScrub, .arbMoveSrc,
    .arbMoveDst, .arbMoveLen, .arbMoveCtl, .scpStallCtl, .scpKey, .evcSrc, .evcRaise, .ldgCfg, .ldgHbase, .ldgHwidth, .ldgSel, .ldgCtl,
    .supCtl, .supWdog, .supRstCmd, .supPwr, .supLcReq, .supRollback, .supLcToken, .supHkey, .supRoot] : List Reg).contains r

/-- Counters of pipeline cycles and squashed instructions, whose values are free. -/
def Reg.cycleCounters : List Reg := [.cluCoreEmpty, .cluCoreRefillWait, .cluCoreSbFull, .cluCoreTallySquash, .tlyUnitQfull]

/-- A read of the register does nothing beside R13 and R15. -/
def Reg.plainRead (r : Reg) : Bool :=
  !([.tmbTxtsTag, .pgrLoadData, .clsLoadData, .dspMaploadData, .swcLoadData, .swcQstatEnq, .swcQstatEarly, .swcQstatCap, .swcQstatMark,
    .swcQstatUnmark, .swcQstatFlush] ++ Reg.cycleCounters : List Reg).contains r

end Sys2Proof.Machine
end

