-- ==== Sys2Proof/WellFormed.lean ====
section
/-! DEFINITION. Well-formed commands: operands that a frame or an image on the device's balls can have. `exec` is total on every
command; these checks say which commands a sender can form. -/

namespace Sys2Proof

/-- R350: a JOIN_COPY item names a record, an SA or a ledger that exists. -/
def JoinItem.wf : JoinItem → Bool
  | .station h ws => decide (h < 2 ^ 20) && ws.all fun w => decide (w.1 < 128)
  | .sa i ws => decide (i < 2 ^ 21) && ws.all fun w => decide (w.1 < 32)
  | .ledger x _ tag h _ _ => decide (x < 16) && decide (tag < 65536) && decide (h < 2 ^ 20)

/-- R332, R336: a payload that is words alone. -/
def ElvantBody.isWords : ElvantBody → Bool
  | .words _ => true
  | _ => false

def ElvantBody.isFillReq : ElvantBody → Bool
  | .fillReq p _ => decide (p < 12)
  | _ => false

def ElvantBody.isFillData : ElvantBody → Bool
  | .fillData p _ _ _ _ _ => decide (p < 12)
  | _ => false

def ElvantBody.isJoinReq : ElvantBody → Bool
  | .joinReq _ _ ds => decide (ds.length ≤ 16)
  | _ => false

def ElvantBody.isJoinCopy : ElvantBody → Bool
  | .joinCopy i => i.wf
  | _ => false

def ElvantBody.isJoinDone : ElvantBody → Bool
  | .joinDone _ => true
  | _ => false

/-- R421: a copy is at most 16 MiB, so no more of it is read. -/
def copyWf (c : Option (List Byte)) : Bool := c.all fun bs => decide (bs.length ≤ 2 ^ 24)

/-- Whether a command can be formed: the payload of an Elvant frame is that of its TYPE, and a boot image fits its copy. Every other operand's type bounds it. -/
def Instr.wf : Instr → Bool
  | .heartbeat f => f.body.isWords
  | .settle f => f.body.isWords
  | .ack f => f.body.isWords
  | .mark f => f.body.isWords
  | .abandon f => f.body.isWords
  | .fillReq f => f.body.isFillReq
  | .fillData f => f.body.isFillData
  | .joinReq f => f.body.isJoinReq
  | .joinCopy f => f.body.isJoinCopy
  | .joinDone f => f.body.isJoinDone
  | .boot copyA copyB => copyWf copyA && copyWf copyB
  | _ => true

end Sys2Proof
end

