-- ==== Sys2Proof/Certificates/Slice0/Obligations.lean ====
section
/-! DEFINITION. What is claimed of the device, for the provers: completion, results and frames of every command, and the rules of the
whole machine. -/

open Sys2Proof Sys2Proof.Machine

/-! ### Time -/

/-- R47: a lath boundary moves the timeline on by 64 ns and says which work of the boundary is due: a tick frame every 256 laths, and the
course strobe where the course in progress has run its length. R48: at the course-start strobe the course number rises by one and the
course begins where the timeline stands. -/
def Obligations.LathAndStrobe : Prop :=
  (∀ (s : State) (tj : Byte), s.time.live = true → s.time.clear = true →
     ∃ t, exec (.lathBoundary tj) s = .next t ∧ t.time.timeline = s.time.timeline + 1024 ∧
       t.time.frameDue = (t.time.timeline.toNat % frameUnits == 0) ∧
       t.time.strobeDue = ((t.time.timeline - s.time.courseStart).toNat == courseUnits s.time.len) ∧
       t.time.course = s.time.course ∧ t.time.courseStart = s.time.courseStart ∧ t.time.len = s.time.len ∧
       t.time.ppsDone = false ∧
       State.frame [.time, .regs, .events, .free, .sent, .maint, .ports, .cells, .graphs, .stations, .dram, .threads, .chans, .dispatch, .gate,
         .settle, .dramCtl, .scp, .sup] s t) ∧
  (∀ s : State, s.strobeDue = true → s.time.strobeFirst = false →
     ∃ t, exec .courseStartStrobe s = .next t ∧ t.time.course = s.time.course + 1 ∧ t.time.courseStart = s.time.timeline ∧
       t.time.prevStart = s.time.courseStart ∧ t.time.timeline = s.time.timeline ∧ t.time.strobeDue = false ∧ t.fuses = s.fuses ∧ t.pending = s.pending)

/-- R49, R51, R60: a tick frame boundary: the frame's course is taken over, a pending change of length counts one frame down, and a label
announced before takes effect. R49: CRS_LEN_CHG on a master: a change is announced with at least two frames to go, may be taken back,
and takes effect at the frame boundary at which its countdown has reached zero. -/
def Obligations.TickFrames : Prop :=
  (∀ s : State, s.time.frameDue = true →
     ∃ t, exec .tickFrameBoundary s = .next t ∧ t.time.frameDue = false ∧ t.time.missed = 0 ∧ t.time.timeline = s.time.timeline ∧
       t.time.frameCourse = (if s.time.strobeFirst then s.time.course else s.time.course + 1) ∧
       (∀ l, s.time.nextLabel = some l → t.time.label = l) ∧ (s.time.nextLabel = none → t.time.label = s.time.label) ∧
       (s.time.change = true → s.time.taken = true → 2 ≤ s.time.frames → t.time.frames + 1 = s.time.frames) ∧
       (s.time.change = true → s.time.taken = true → s.time.frames ≤ 1 → t.time.lenDue = true) ∧
       State.frame [.time, .regs, .events, .maint, .sent, .free] s t) ∧
  ((∀ (s : State) (a : Accessor) (v : Word32), s.permits a .crsLenChg 0 0 v.toNat → s.isMaster = true → s.time.st ≠ .off →
     s.time.change = false → bits v.toNat 3 8 ≠ 0 → bits v.toNat 0 3 ≤ 4 →
     ∃ t, exec (.lenChangeRequest a v) s = .next t ∧
       t.time = { s.time with change := true, taken := false, nextLen := bits v.toNat 0 3, frames := max 2 (bits v.toNat 3 8) } ∧
       State.frame [.time, .access] s t) ∧
   (∀ (s : State) (a : Accessor) (v : Word32), s.permits a .crsLenChg 0 0 (withField v 3 8 0) → s.isMaster = true → s.time.st ≠ .off →
     s.time.change = true → (s.time.taken = false ∨ 2 ≤ s.time.frames) →
     ∃ t, exec (.lenChangeCancel a v) s = .next t ∧
       t.time = { s.time with change := false, taken := false, nextLen := s.time.len, frames := 0 } ∧ State.frame [.time, .access] s t) ∧
   (∀ s : State, s.time.lenDue = true → s.time.frameDue = false →
     ∃ t, exec .lenChangeApplied s = .next t ∧
       t.time = { s.time with len := s.time.nextLen, change := false, taken := false, frames := 0, lenDue := false } ∧
       State.frame [.time, .regs, .events, .free] s t))

/-- R54, R57, R58: START, REJOIN and taking the master's role, through TMB_CTL. R60, R61: a phase adjustment replaces what is left of the
one before; a step of the label is asked for and announced in the next tick frame. R55-R57: a follower takes over the master's
timeline, course, label and length at a frame boundary; agreeing frames keep it following; missed laths, bad frames and a disagreeing
frame take it out. -/
def Obligations.TimeBaseControl : Prop :=
  ((∀ (s : State) (a : Accessor) (v : Word32), s.permits a .tmbCtl 0 0 (withField v 0 1 1) → s.time.st = .off →
     ∃ t, exec (.timeBaseStart a v) s = .next t ∧
       (bits v.toNat 2 1 = 1 → t.time = { s.time with st := .free, starting := true }) ∧
       (bits v.toNat 2 1 = 0 → t.time = { s.time with st := .acquire, acqGood := 0, acqFrame := none }) ∧
       State.frame [.time, .regs, .access] s t ∧ State.regsBut s t [Reg.key .tmbCtl 0 0 0]) ∧
   (∀ (s : State) (a : Accessor) (v : Word32), s.permits a .tmbCtl 0 0 (withField v 1 1 1) → s.time.st = .isolated → s.anyStarted = false →
     ∃ t, exec (.rejoin a v) s = .next t ∧
       t.time = { s.time with st := .acquire, acqGood := 0, acqFrame := none, rejoin := true } ∧
       State.frame [.time, .regs, .access] s t ∧ State.regsBut s t [Reg.key .tmbCtl 0 0 0]) ∧
   (∀ (s : State) (a : Accessor) (v : Word32), s.permits a .tmbCtl 0 0 (withField v 2 1 1) → s.time.st = .holdover → s.isMaster = false →
     ((bits v.toNat 4 1 = 0 ∨ s.f F.tmbStatus_PPS_SEEN = 1) →
       ∃ t, exec (.promoteMaster a v) s = .next t ∧ t.isMaster = true ∧ t.time = { s.time with st := .locked } ∧
         t.f F.tmbHold_EST_NS = 0 ∧ State.frame [.time, .regs, .access] s t ∧
         State.regsBut s t [Reg.key .tmbCtl 0 0 0, Reg.key .tmbHold 0 0 0, Reg.key .tmbStatus 0 0 0]) ∧
     (bits v.toNat 4 1 = 1 → s.f F.tmbStatus_PPS_SEEN = 0 →
       ∃ t, exec (.promoteMaster a v) s = .next t ∧ t.isMaster = true ∧ t.time = s.time ∧ State.frame [.regs, .access] s t ∧
         State.regsBut s t [Reg.key .tmbCtl 0 0 0]))) ∧
  ((∀ (s : State) (a : Accessor) (v : Word32), s.permits a .tmbPhaseAdj 0 0 v.toNat →
     ∃ t, exec (.phaseAdjWrite a v) s = .next t ∧ t.f F.tmbPhaseAdj_PHASE = v.toNat ∧ t.time = { s.time with slewAcc := 0 } ∧
       State.frame [.time, .regs, .access] s t ∧ State.regsBut s t [Reg.key .tmbPhaseAdj 0 0 0]) ∧
   (∀ (s : State) (a : Accessor) (v : Word32), s.permits a .tmbStepSec 0 0 (withField v 16 1 1) → s.isMaster = true →
     -1000000000 < signed 32 (s.f F.tmbStepNs_NS) → signed 32 (s.f F.tmbStepNs_NS) < 1000000000 → s.maintBusy 0x61 = none →
     ∃ t, exec (.timeBaseStep a v) s = .next t ∧ t.time = { s.time with stepReq := some (signed 16 (bits v.toNat 0 16), signed 32 (s.f F.tmbStepNs_NS)) } ∧
       t.maint = 0x61 :: s.maint ∧
       t.f F.tmbStepSec_STATUS = 1 ∧ t.f F.tmbStepSec_SEC = bits v.toNat 0 16 ∧ t.f F.supMaint_RUNNING = (s.maint.length + 1) % 32 ∧
       State.frame [.time, .regs, .access, .maint] s t ∧ State.regsBut s t [Reg.key .tmbStepSec 0 0 0, Reg.key .supMaint 0 0 0])) ∧
  ((∀ (s : State) (i : TickInfo), s.time.st = .acquire → s.time.acqFrame = some i → 2 ≤ s.time.acqGood → s.time.rejoin = false →
     ∃ t, exec .followingEntry s = .next t ∧ t.time.st = .following ∧ t.time.timeline = BitVec.ofNat 64 ((i.frame + 1) * frameUnits) ∧
       t.time.course = i.course + BitVec.ofNat 64 (2 ^ (4 - i.len)) ∧ t.time.courseStart = t.time.timeline ∧ t.time.label = i.label ∧
       (i.len ≤ 4 → t.time.len = i.len) ∧ (∀ n : Fin 12, (t.port n).lastAt = 0) ∧ State.frame [.time, .ports] s t) ∧
   (∀ (s : State) (f : BitVec 256) (o : Word32) (r : Int), s.isMaster = false → s.time.st = .following → tickBits f 240 255 = tickCrc f →
     s.time.agrees (tickInfo f) = true → r = o.toInt - s.f F.tmbTickCtl_IN_DELAY → -2048 ≤ r → r ≤ 2048 →
     (s.time.late (tickInfo f) = false →
       ∃ t, exec (.tickFrameReceived f o) s = .next t ∧ t.time.st = .following ∧ t.f F.tmbTickOffset_OFFSET = unsigned 32 r ∧
         t.f F.tmbStatus_ALIGNED = (if -6 ≤ r ∧ r ≤ 6 then 1 else 0) ∧ t.time.timeline = s.time.timeline ∧
         State.frame [.time, .regs] s t ∧ State.regsBut s t [Reg.key .tmbTickOffset 0 0 0, Reg.key .tmbStatus 0 0 0]) ∧
     (s.time.late (tickInfo f) = true → s.time.frameDue = false → (tickInfo f).label ≠ s.time.label →
       ∃ t, exec (.tickFrameReceived f o) s = .next t ∧ t.time.st = .following ∧ t.time.label = (tickInfo f).label ∧
         t.time.timeline = s.time.timeline ∧ State.frame [.time, .regs, .events, .maint, .free] s t)) ∧
   (∀ (s : State) (f : BitVec 256) (o : Word32), s.isMaster = false → s.time.st = .following →
     ((tickBits f 240 255 = tickCrc f ∧ s.time.agrees (tickInfo f) = false) ∨ edgeNear (o.toInt - s.f F.tmbTickCtl_IN_DELAY) = false) →
     ∃ t, exec (.tickFrameReceived f o) s = .next t ∧ t.time.st = .isolated ∧ State.frame [.time, .regs, .events, .free] s t) ∧
   (∀ s : State, s.isMaster = false → s.time.st = .following → s.time.missed < 3 →
     ∃ t, exec .tickLathMissed s = .next t ∧ t.time = { s.time with missed := s.time.missed + 1 } ∧ State.frame [.time] s t) ∧
   (∀ s : State, s.isMaster = false → s.time.st = .following → 3 ≤ s.time.missed →
     ∃ t, exec .tickLathMissed s = .next t ∧ t.time.st = .holdover ∧ t.time.holdSince = s.time.timeline ∧
       t.f F.tmbHold_EST_NS = 4 ∧ State.frame [.time, .regs, .events, .free] s t))

/-- R44, R46, R54, R59: PPS_IN and PPS_OUT. R64: a read of TMB_TXTSn.TAG takes the oldest stamp out of the port's FIFO; TS_LO and TS_HI
then read its time. -/
def Obligations.PinsAndStamps : Prop :=
  ((∀ (s : State) (e : Fin 4096), s.time.starting = true → s.f F.tmbCtl_PPS_EN = 1 →
     ∃ t, exec (.ppsInEdge e) s = .next t ∧ t.f F.tmbStatus_PPS_SEEN = 1 ∧ t.time.st = .locked ∧ t.time.timeline = 0 ∧ t.time.course = 0 ∧
       t.time.starting = false ∧ State.frame [.time, .regs] s t ∧ State.regsBut s t [Reg.key .tmbStatus 0 0 0]) ∧
   (∀ (s : State) (e : Fin 4096), s.time.starting = false →
     ∃ t, exec (.ppsInEdge e) s = .next t ∧ t.f F.tmbStatus_PPS_SEEN = 1 ∧ State.frame [.time, .regs] s t) ∧
   (∀ s : State, s.isMaster = true → s.f F.tmbCtl_PPS_SERVO = 1 → s.time.st = .locked → s.ppsGone = true →
     ∃ t, exec .ppsLoss s = .next t ∧ t.time.st = .holdover ∧ t.time.holdSince = s.time.timeline ∧ t.f F.tmbStatus_PPS_SEEN = 0 ∧
       State.frame [.time, .regs, .events, .free] s t) ∧
   (∀ s : State, s.secondNow = true → s.f F.tmbPpsCtl_WIDTH_US ≠ 0 →
     ∃ t, exec .ppsOutPulse s = .next t ∧ t.emits = .pps (min (s.f F.tmbPpsCtl_WIDTH_US) 1000) :: s.emits ∧
       t.time = { s.time with ppsDone := true } ∧ State.frame [.sent, .time] s t)) ∧
  (∀ (s : State) (a : Accessor) (n : Fin 10) (e : TxStamp) (rest : List TxStamp), s.mayReach (s.accOwner a) .tmbTxtsTag n = true →
     s.capturedHalf a.num (Reg.tmbTxtsTag.off n 0) = none → s.txts.get [] n = e :: rest →
     ∃ t, exec (.txtsPop a n) s = .next t ∧ t.txts.get [] n = rest ∧ t.fA a.num F.tmbTxtsTsLo_STAMP n = e.stamp.toNat % 2 ^ 32 ∧
       t.fA a.num F.tmbTxtsTsHi_STAMP n = e.stamp.toNat / 2 ^ 32 ∧ State.frame [.regs, .access, .ports] s t ∧
       State.regsBut s t [Reg.key .tmbTxtsTsLo a.num n 0, Reg.key .tmbTxtsTsHi a.num n 0] ∧ t.ports = s.ports)

/-! ### Ports -/

/-- R72, R73, R75: the link comes up, training fails, the flush ends. R71, R74, R320: ENABLE of PRT_CFG, and the loss of a link: the port
is down and flushing, nothing waits on it, and nothing holds it. -/
def Obligations.Links : Prop :=
  ((∀ (s : State) (n : Fin 12), s.f F.prtCfg_ENABLE n = 1 → s.f F.prtCfg_MODE n ≠ 0 → s.f F.prtStatus_LINK n = 0 →
     s.f F.prtStatus_FLUSHING n = 0 →
     ∀ at_ : Fin 1024, ∃ t, exec (.linkUp n at_) s = .next t ∧ t.f F.prtStatus_LINK n = 1 ∧ t.f F.prtStatus_TRAINED n = 1 ∧
       (s.time.live = true → (t.port n).upAt = BitVec.ofNat 64 (s.now + at_.val)) ∧ (t.port n).parseQ = (s.port n).parseQ ∧
       State.frame [.regs, .events, .ports, .free] s t) ∧
   (∀ (s : State) (n : Fin 12), s.f F.prtCfg_ENABLE n = 1 → s.f F.prtStatus_LINK n = 0 →
     (s.f F.prtCfg_MODE n = 1 ∨ s.f F.prtCfg_MODE n = 2) →
     ∃ t, exec (.trainFail n) s = .next t ∧ t.f F.prtStatus_TRAIN_FAILS n ≠ 0 ∧ t.f F.prtStatus_LINK n = 0 ∧
       State.frame [.regs, .events, .free] s t) ∧
   (∀ (s : State) (n : Fin 12), s.f F.prtStatus_FLUSHING n = 1 →
     ∃ t, exec (.flushComplete n) s = .next t ∧ t.f F.prtStatus_FLUSHING n = 0 ∧ State.frame [.regs] s t ∧
       State.regsBut s t [Reg.key .prtStatus 0 n 0])) ∧
  ((∀ (s : State) (a : Accessor) (n : Fin 12) (v : Word32), s.permits a .prtCfg n 0 (withField v 4 1 1) →
     ∃ t, exec (.portEnable a n v) s = .next t ∧ t.f F.prtCfg_ENABLE n = 1 ∧
       (s.f F.prtCfg_ENABLE n = 1 → t.f F.prtCfg_MODE n = s.f F.prtCfg_MODE n) ∧
       (s.f F.prtCfg_ENABLE n = 0 → t.f F.prtCfg_MODE n = bits v.toNat 0 2) ∧
       t.f F.prtCfg_MAX_LEN n = min 9216 (max 64 (bits v.toNat 16 14)) ∧
       State.frame [.regs, .access, .free] s t ∧ State.regsBut s t [Reg.key .prtCfg 0 n 0]) ∧
   (∀ (s : State) (a : Accessor) (n : Fin 12) (v : Word32), s.permits a .prtCfg n 0 (withField v 4 1 0) →
     s.f F.prtCfg_ENABLE n = 1 → s.f F.prtStatus_LINK n = 1 →
     ∃ t, exec (.portDisable a n v) s = .next t ∧ t.f F.prtCfg_ENABLE n = 0 ∧ t.f F.prtStatus_LINK n = 0 ∧
       t.f F.prtStatus_FLUSHING n = 1 ∧ (t.outPort n).queues = [] ∧ (t.outPort n).scpQ = [] ∧ (t.outPort n).fifo = [] ∧
       (t.outPort n).buf = [] ∧ (t.outPort n).sending = none ∧ (t.port n).holds = [] ∧
       State.frame [.regs, .access, .free, .cells, .egress, .events, .gate, .ports, .sent] s t) ∧
   (∀ (s : State) (n : Fin 12) (part align : Bool) (uncorr : Word), s.f F.prtStatus_LINK n = 1 →
     (align = true ∨ (s.f F.prtFec_UNCORR_THR n ≠ 0 ∧ s.f F.prtFec_UNCORR_THR n ≤ (s.port n).uncorr + uncorr.toNat)) →
     ∃ t, exec (.linkDown n part align uncorr) s = .next t ∧ t.f F.prtStatus_LINK n = 0 ∧ t.f F.prtStatus_FLUSHING n = 1 ∧
       t.f F.prtStatus_TRAINED n = 0 ∧ (t.outPort n).queues = [] ∧ (t.outPort n).scpQ = [] ∧ (t.outPort n).fifo = [] ∧
       (t.outPort n).buf = [] ∧ (t.outPort n).sending = none ∧ (t.port n).holds = [] ∧
       State.frame [.regs, .cells, .egress, .events, .gate, .ports, .sent, .free] s t) ∧
   (∀ (s : State) (n : Fin 12) (part : Bool) (uncorr : Word), s.f F.prtStatus_LINK n = 1 →
     (s.f F.prtFec_UNCORR_THR n = 0 ∨ (s.port n).uncorr + uncorr.toNat < s.f F.prtFec_UNCORR_THR n) →
     ∃ t, exec (.linkDown n part false uncorr) s = .next t ∧ t.f F.prtStatus_LINK n = 1 ∧ (t.port n).uncorr = (s.port n).uncorr + uncorr.toNat ∧
       State.frame [.regs, .ports] s t))

/-- R70, R73, R74, R77, R78, R151: a frame that fails a receive check is counted and goes no further; one that passes takes the port's next
sequence number and, where its slice has room, its cells and a place in the port's parse queue, or its place before the SCP or the
Elvant engine; the codewords that reach UNCORR_THR take the port down instead; a frame whose delimiter precedes the port's coming up is
none. -/
def Obligations.FrameReceived : Prop :=
  (∀ (s : State) (n : Fin 12) (at_ : Word64) (bs : List Byte) (err : Bool) (corr uncorr : Byte) (c : Fld),
    s.f F.prtStatus_LINK n = 1 → s.rxDue n at_ = true → (s.countFec n corr.toNat uncorr.toNat).fecDown n = false → s.rxCheck n bs err = some c →
    s.f c n < 2 ^ 32 - 1 →
    ∃ t, exec (.frameReceived n at_ bs err corr uncorr) s = .next t ∧ t.f c n = s.f c n + 1 ∧
      t.f F.prtSeq_NEXT_SEQ n = s.f F.prtSeq_NEXT_SEQ n ∧ (t.port n).parseQ = (s.port n).parseQ ∧ (t.port n).ctlQ = (s.port n).ctlQ ∧
      (t.port n).mac = (if c = F.prtRxPause_COUNT then (s.port n).mac ++ [macControl bs] else (s.port n).mac) ∧
      State.frame [.regs, .ports, .cells] s t) ∧
  (∀ (s : State) (n : Fin 12) (at_ : Word64) (bs : List Byte) (err : Bool) (corr uncorr : Byte),
    s.f F.prtStatus_LINK n = 1 → s.rxDue n at_ = true → (s.countFec n corr.toNat uncorr.toNat).fecDown n = false → s.rxCheck n bs err = none →
    (s.takeCells (some n.val) 17 (cellsFor bs.length)).isSome = true →
    ((n.val < 8 ∨ (n.val < 10 ∧ s.isScp bs = false)) → (s.port n).parseQ.length < 128 →
      ∃ t p, exec (.frameReceived n at_ bs err corr uncorr) s = .next t ∧ (t.port n).parseQ = (s.port n).parseQ ++ [p] ∧
        p.port = n.val ∧ p.stamp = s.rxStamp n at_ ∧ p.len = bs.length ∧ p.seq.toNat = s.f F.prtSeq_NEXT_SEQ n ∧ p.stall = none ∧
        p.course = s.courseOf (s.rxStamp n at_) ∧ t.f F.prtSeq_NEXT_SEQ n = (s.f F.prtSeq_NEXT_SEQ n + 1) % 2 ^ 32 ∧
        (s.time.live = true → (t.port n).lastAt = at_) ∧ State.frame [.regs, .ports, .cells, .settle] s t) ∧
    (8 ≤ n.val → (10 ≤ n.val ∨ s.isScp bs = true) →
      ∃ t, exec (.frameReceived n at_ bs err corr uncorr) s = .next t ∧ (t.port n).ctlQ = (s.port n).ctlQ ++ [bs] ∧
        (t.port n).parseQ = (s.port n).parseQ ∧ t.f F.prtSeq_NEXT_SEQ n = (s.f F.prtSeq_NEXT_SEQ n + 1) % 2 ^ 32 ∧
        State.frame [.regs, .ports, .cells] s t)) ∧
  (∀ (s : State) (n : Fin 12) (at_ : Word64) (bs : List Byte) (err : Bool) (corr uncorr : Byte),
    s.f F.prtStatus_LINK n = 1 → s.rxDue n at_ = true → (s.countFec n corr.toNat uncorr.toNat).fecDown n = true →
    ∃ t, exec (.frameReceived n at_ bs err corr uncorr) s = .next t ∧ t.f F.prtStatus_LINK n = 0 ∧ t.f F.prtStatus_FLUSHING n = 1 ∧
      t.f F.prtSeq_NEXT_SEQ n = s.f F.prtSeq_NEXT_SEQ n ∧ (t.port n).parseQ = (s.port n).parseQ ∧
      State.frame [.regs, .cells, .egress, .events, .gate, .ports, .sent, .free] s t) ∧
  (∀ (s : State) (n : Fin 12) (at_ : Word64) (bs : List Byte) (err : Bool) (corr uncorr : Byte),
    (s.f F.prtStatus_LINK n = 0 ∨ ((s.port n).upAt ≠ 0 ∧ at_ ≤ (s.port n).upAt)) →
    exec (.frameReceived n at_ bs err corr uncorr) s = .next s)

/-- R79-R82: MAC Control frames hold transmission for their quanta, a hold ends, XOFF is repeated, and the watchdog ends a hold that lasts. -/
def Obligations.PauseAndPfc : Prop :=
  (∀ (s : State) (n : Fin 12) (m : MacCtl) (rest : List MacCtl), (s.port n).mac = m :: rest → (s.port n).wdIgnore = false → n.val < 10 →
    s.f F.prtStatus_SILENT n = 0 → s.f F.prtCfg_FC_MODE n = 1 → m.opcode = 1 →
    ∃ t, exec (.pauseReceived n) s = .next t ∧ (t.port n).mac = rest ∧
      (m.quanta.headD 0 ≠ 0 → (8, s.now * 100 + m.quanta.headD 0 * 8192) ∈ (t.port n).holds ∧ t.f F.prtStatus_PAUSED n = 1) ∧
      (m.quanta.headD 0 = 0 → ∀ e, ¬(8, e) ∈ (t.port n).holds) ∧
      State.frame [.regs, .ports, .egress] s t ∧ State.regsBut s t [Reg.key .prtStatus 0 n 0]) ∧
  (∀ (s : State) (n : Fin 12) (m : MacCtl) (rest : List MacCtl), (s.port n).mac = m :: rest →
    ((s.port n).wdIgnore = true ∨ 10 ≤ n.val ∨ s.f F.prtStatus_SILENT n = 1 ∨ (s.f F.prtCfg_FC_MODE n ≠ 1 ∧ s.f F.prtCfg_FC_MODE n ≠ 2) ∨
      (s.f F.prtCfg_FC_MODE n = 1 ∧ m.opcode ≠ 1) ∨ (s.f F.prtCfg_FC_MODE n = 2 ∧ m.opcode ≠ 0x0101)) →
    ∃ t, exec (.pauseReceived n) s = .next t ∧ (t.port n).mac = rest ∧ (t.port n).holds = (s.port n).holds ∧
      State.frame [.regs, .ports, .egress] s t ∧ State.regsBut s t [Reg.key .prtStatus 0 n 0]) ∧
  (∀ (s : State) (n : Fin 12) (m : MacCtl) (rest : List MacCtl), (s.port n).mac = m :: rest → (s.port n).wdIgnore = false → n.val < 10 →
    s.f F.prtStatus_SILENT n = 0 → s.f F.prtCfg_FC_MODE n = 2 → m.opcode = 0x0101 →
    ∃ t, exec (.pauseReceived n) s = .next t ∧ (t.port n).mac = rest ∧
      (∀ i, i < 8 → m.enable / 2 ^ i % 2 = 1 → m.quanta.getD i 0 ≠ 0 → (i, s.now * 100 + m.quanta.getD i 0 * 8192) ∈ (t.port n).holds) ∧
      (∀ i, i < 8 → m.enable / 2 ^ i % 2 = 1 → m.quanta.getD i 0 = 0 → ∀ e, ¬(i, e) ∈ (t.port n).holds) ∧
      (∀ i e, (8 ≤ i ∨ m.enable / 2 ^ i % 2 = 0) → ((i, e) ∈ (t.port n).holds ↔ (i, e) ∈ (s.port n).holds)) ∧
      State.frame [.regs, .ports, .egress] s t ∧ State.regsBut s t [Reg.key .prtStatus 0 n 0]) ∧
  (∀ (s : State) (n : Fin 12) (prio : Fin 9), s.holdExpired n prio = true →
    ∃ t, exec (.pauseHoldExpiry n prio) s = .next t ∧ (∀ h, h ∈ (t.port n).holds ↔ h ∈ (s.port n).holds ∧ h.1 ≠ prio.val) ∧
      t.f F.prtStatus_PAUSED n = boolNat (!(t.port n).holds.isEmpty) ∧
      State.frame [.regs, .ports, .egress] s t ∧ State.regsBut s t [Reg.key .prtStatus 0 n 0]) ∧
  (∀ (s : State) (n : Fin 12), (s.port n).xoff = true → s.xoffCond n = true →
    (s.port n).xoffAt * 100 + s.f F.prtFc_PAUSE_QUANTA n * 4096 < (s.now + 1024) * 100 →
    s.f F.prtStatus_LINK n = 1 → s.f F.prtStatus_SILENT n = 0 → s.f F.prtFc_PAUSE_QUANTA n ≠ 0 →
    ∃ t, exec (.xoffRepeat n) s = .next t ∧ (t.port n).xoffAt = s.now ∧
      (s.f F.prtCfg_FC_MODE n = 1 → t.emits = .macControl n 1 0 (s.f F.prtFc_PAUSE_QUANTA n) :: s.emits) ∧
      (s.f F.prtCfg_FC_MODE n = 2 → s.f F.prtFc_PFC_MASK n ≠ 0 →
        t.emits = .macControl n 0x0101 (s.f F.prtFc_PFC_MASK n) (s.f F.prtFc_PAUSE_QUANTA n) :: s.emits) ∧ State.frame [.regs, .ports, .sent] s t) ∧
  (∀ (s : State) (n : Fin 12), s.stormDue n = true →
    ∃ t, exec (.pauseStorm n) s = .next t ∧ (t.port n).holds = [] ∧ (t.port n).wdIgnore = true ∧ t.f F.prtStatus_PAUSED n = 0 ∧
      State.frame [.regs, .ports, .egress, .events, .free] s t)

/-- R158, R307, R317-R319: a frame is chosen only while the output's buffer of 40 cells has places for it; a frame of the house's output
leaves its FIFO for the buffer, and its cells are asked for; one with a link entry beyond repair is discarded and the cell leaves
service. After a choice the active list holds the units that are eligible and not strict, and no other. R317: the scheduler gives no
unit a choice while another strict unit of a higher number is eligible. R305, R306: in a cell time the pairs matched before move one
cell each, and no source and no output is matched twice by a plane. -/
def Obligations.EgressScheduling : Prop :=
  ((∀ (s : State) (n : Fin 12) (k : Fin 36) (ecc : Ecc), s.egChoose n = none → ∃ t, exec (.egressSelect n k ecc) s = .next t ∧ State.frame [] s t) ∧
   (∀ (s : State) (n : Fin 12) (k : Fin 36) (ecc : Ecc) (r : OutReq) (b : Bool) (rest : List (OutReq × Bool)), 10 ≤ n.val →
     (s.outPort n).fifo = (r, b) :: rest → placesUsed (s.outPort n) + r.cells ≤ 40 →
     (ecc ≠ .double →
       ∃ t e, exec (.egressSelect n k ecc) s = .next t ∧ (t.outPort n).fifo = rest ∧ (t.outPort n).buf = (s.outPort n).buf ++ [e] ∧
         e.item = .out r ∧ e.places = r.cells ∧ e.want = (s.chain r.cell).take r.cells ∧ (t.outPort n).queues = (s.outPort n).queues ∧
         State.frame [.egress, .regs] s t) ∧
     (∀ h, ecc = .double → ((s.chain r.cell).take r.cells)[k.val]? = some h →
       ∃ t, exec (.egressSelect n k ecc) s = .next t ∧ (t.outPort n).fifo = rest ∧ (t.outPort n).buf = (s.outPort n).buf ∧
         (t.cell h).oos = true ∧ (t.cell h).alloc = false ∧
         State.frame [.cells, .egress, .events, .gate, .ports, .regs, .sent, .free] s t)) ∧
   (∀ (s : State) (n : Fin 12) (k : Fin 36) (ecc : Ecc) (f : ScpOut), s.egChoose n = some (.scp (.scp f)) →
     (placesUsed (s.outPort n) + cellsFor f.bytes ≤ 40 → (s.outPort n).sending.isSome = true →
       ∃ t e, exec (.egressSelect n k ecc) s = .next t ∧ (t.outPort n).scpQ = (s.outPort n).scpQ.drop 1 ∧
         (t.outPort n).buf = (s.outPort n).buf ++ [e] ∧ e.item = .scp f ∧ e.prio = s.f F.swcPortCfg_SCP_PRIO n ∧ e.want = [] ∧
         (t.outPort n).queues = (s.outPort n).queues ∧ State.frame [.egress] s t) ∧
     (placesUsed (s.outPort n) + cellsFor f.bytes ≤ 40 → (s.outPort n).sending = none → (s.outPort n).buf = [] →
       ∃ t e, exec (.egressSelect n k ecc) s = .next t ∧ (t.outPort n).scpQ = (s.outPort n).scpQ.drop 1 ∧
         (t.outPort n).sending = some e ∧ (t.outPort n).buf = [] ∧ e.item = .scp f ∧ State.frame [.egress] s t) ∧
     (40 < placesUsed (s.outPort n) + cellsFor f.bytes → ∃ t, exec (.egressSelect n k ecc) s = .next t ∧ State.frame [] s t)) ∧
   (∀ (s : State) (n : Fin 12) (k : Fin 36) (ecc : Ecc) (r : OutReq) (q u : Nat) (d sub : Drr), s.egChoose n = some (.frame r q u d sub) →
     (placesUsed (s.outPort n) + r.cells ≤ 40 → ecc ≠ .double →
       ∃ t e, exec (.egressSelect n k ecc) s = .next t ∧ (t.outPort n).queue q = ((s.outPort n).queue q).drop 1 ∧
         (t.outPort n).buf = (s.outPort n).buf ++ [e] ∧ e.item = .out r ∧ e.prio = s.unitPrio n u ∧ e.places = r.cells ∧
         (∀ w, w ∈ (t.outPort n).units.active ↔ t.unitElig n w = true ∧ t.unitStrict n w = false) ∧ State.frame [.egress, .regs] s t) ∧
     (40 < placesUsed (s.outPort n) + r.cells → ∃ t, exec (.egressSelect n k ecc) s = .next t ∧ State.frame [] s t))) ∧
  (∀ (s : State) (n u v q : Nat) (r : OutReq) (d sub : Drr), u < 8 → v < 8 →
     bits (s.f F.swcPortCfg_STRICT n) v 1 = 1 → (s.unitQueues n v).isEmpty = false → s.prioHeld n (s.unitPrio n v) = false →
     s.chooseUnit n = some (.frame r q u d sub) → v ≤ u ∧ bits (s.f F.swcPortCfg_STRICT n) u 1 = 1) ∧
  (∀ s : State, ∃ t, exec .cellTime s = .next t ∧ State.frame [.regs, .egress] s t ∧ t.geom = s.geom ∧ t.qstat = s.qstat ∧
     (∀ k, k < 2 → ((t.plane k).matched.map (·.1)).Nodup ∧ ((t.plane k).matched.map (·.2)).Nodup))

/-- R309: the frame that is being sent is out, and the next whose cells are all there begins (R307); R64: its tag enters the stamp FIFO
where it asks for that. R176: the accepted course whose bank waits longest is released, and its bank is free again. R321: a
recirculated frame re-enters as a new frame of its stall, with the output's next sequence number and a stamp of now: to be parsed from
outputs 12 and 13, to the inbound cipher from 14 and 15, where the SA it names must be its stall's. -/
def Obligations.LeavingFrames : Prop :=
  ((∀ (s : State) (n : Fin 12) (at_ : Word64), s.f F.prtStatus_LINK n = 1 → (s.outPort n).sending = none →
     ∃ t, exec (.frameTransmitDone n at_) s = .next t ∧ State.frame [] s t) ∧
   (∀ (s : State) (n : Fin 12) (at_ : Word64) (e : BufEnt) (r : OutReq), s.f F.prtStatus_LINK n = 1 → (s.outPort n).sending = some e →
     e.item = .out r →
     ∃ t, exec (.frameTransmitDone n at_) s = .next t ∧ (t.outPort n).sending = s.nextReady n ∧
       (∀ b, s.nextReady n = some b → (t.outPort n).buf = (s.outPort n).buf.erase b) ∧
       (s.nextReady n = none → (t.outPort n).buf = (s.outPort n).buf) ∧
       (∃ later, t.emits = later ++ .frame n (s.wireBytes r (s.txStamp n at_)) :: s.emits) ∧
       (bits r.flags 1 1 = 1 → n.val < 10 → (s.txts.get [] n).length < 64 →
         t.txts.get [] n = s.txts.get [] n ++ [{ tag := word r.tag, stamp := BitVec.ofNat 64 (s.txStamp n at_) }]) ∧
       State.frame [.cells, .egress, .events, .gate, .ports, .regs, .sent, .free] s t) ∧
   (∀ (s : State) (n : Fin 12) (at_ : Word64) (e : BufEnt) (f : ScpOut), s.f F.prtStatus_LINK n = 1 → (s.outPort n).sending = some e →
     e.item = .scp f →
     ∃ t, exec (.frameTransmitDone n at_) s = .next t ∧ (t.outPort n).sending = s.nextReady n ∧
       t.emits = .scp n f.session f.cls f.op f.seq f.sealed :: s.emits ∧ State.frame [.egress, .regs, .sent] s t)) ∧
  ((∀ s : State, s.nextBank = none → ∃ t, exec .gateRelease s = .next t ∧ State.frame [] s t) ∧
   (∀ (s : State) (b : Bank), s.nextBank = some b →
     ∃ t, exec .gateRelease s = .next t ∧ b.course < s.acceptedPlus ∧
       (∀ c ∈ s.banks, c.course < s.acceptedPlus → b.course ≤ c.course) ∧ t.banks = s.banks.filter (fun c => c.course != b.course) ∧
       (t.released.map (·.course)) = s.released.map (·.course) ++ [b.course] ∧
       State.frame [.cells, .dispatch, .egress, .events, .gate, .ports, .regs, .sent, .free] s t)) ∧
  ((∀ (s : State) (i : Fin 4) (r : OutReq) (rest : List (OutReq × Bool)), i.val < 2 → s.reparseQ.length < 256 →
     (s.outPort (12 + i)).fifo = (r, true) :: rest →
     ∃ t p, exec (.recircReentry i) s = .next t ∧ (t.outPort (12 + i)).fifo = rest ∧ t.reparseQ = s.reparseQ ++ [p] ∧
       p.stall = some r.stall ∧ p.port = 12 + i.val ∧ p.cell = r.cell ∧ p.len = r.len ∧ p.colour = s.f F.pkmPoolStatus_LEVEL r.stall - 1 ∧ p.seq.toNat = s.f F.swcRecircSeq_SEQ i ∧
       p.stamp.toNat = s.now ∧ t.f F.swcRecircSeq_SEQ i = (s.f F.swcRecircSeq_SEQ i + 1) % 2 ^ 32 ∧ t.cipherQ = s.cipherQ ∧
       State.frame [.cells, .egress, .free, .gate, .pipe, .regs, .settle] s t) ∧
   (∀ (s : State) (i : Fin 4) (r : OutReq) (rest : List (OutReq × Bool)), 2 ≤ i.val → s.cipherQ.length < 512 →
     (s.outPort (12 + i)).fifo = (r, true) :: rest →
     s.spiStall (be32 (s.chainBytes r.cell 0 r.len) r.espOff) = some r.stall →
     ∃ t p, exec (.recircReentry i) s = .next t ∧ (t.outPort (12 + i)).fifo = rest ∧ t.cipherQ = s.cipherQ ++ [p] ∧
       p.stall = some r.stall ∧ p.port = 12 + i.val ∧ p.cell = r.cell ∧ p.seq.toNat = s.f F.swcRecircSeq_SEQ i ∧
       p.stamp.toNat = s.now ∧ t.f F.swcRecircSeq_SEQ i = (s.f F.swcRecircSeq_SEQ i + 1) % 2 ^ 32 ∧ t.reparseQ = s.reparseQ ∧
       State.frame [.cells, .egress, .free, .gate, .pipe, .regs, .settle] s t))

/-! ### The pipeline -/

/-- R98, R99, R100: the node words of a slot are loaded through PGR_LOADx only while the slot is IDLE and by its owner; PTR goes on after
every access; port and stall entries are written as any register, to take effect at the next strobe. R113, R450: the classifier's banks
are loaded while not in use; ENABLE after a DEVICE reset waits for the reconciliation. R322: a geometry table word is written through
SWC_LOADx by its owner and for an external port, and PTR goes on. -/
def Obligations.TableLoading : Prop :=
  ((∀ (s : State) (a : Accessor) (x : Target) (v : Word32) (g n r : Nat), s.permits a .pgrLoadData x 0 v.toNat → s.loadPtr x = (g, n, r) →
     s.slotState g = 0 → s.f F.pgrGraphCfg_OWNER g = x.val →
     ∃ t, exec (.graphLoadWrite a x v) s = .next t ∧ t.nodeWord g n (2 * r) = bits v.toNat 0 16 ∧
       t.nodeWord g n (2 * r + 1) = bits v.toNat 16 16 ∧
       (∀ k, k ≠ (g * 256 + n) * 72 + 2 * r → k ≠ (g * 256 + n) * 72 + 2 * r + 1 → t.graphs.get 0 k = s.graphs.get 0 k) ∧
       t.f F.pgrLoadPtr_REG x = (if r = 35 then 0 else r + 1) ∧ t.f F.pgrLoadPtr_NODE x = (if r = 35 then (n + 1) % 256 else n) ∧
       State.frame [.graphs, .regs, .access] s t ∧ t.clsBanks = s.clsBanks ∧ t.staged = s.staged ∧
       State.regsBut s t [Reg.key .pgrLoadPtr 0 x 0]) ∧
   (∀ (s : State) (a : Accessor) (x : Target) (v : Word32) (g n r : Nat), s.permits a .pgrLoadData x 0 v.toNat → s.loadPtr x = (g, n, r) →
     (s.slotState g ≠ 0 ∨ s.f F.pgrGraphCfg_OWNER g ≠ x.val) →
     ∃ t, exec (.graphLoadWrite a x v) s = .next t ∧ t.f F.pgrLoadStat_LAST_REASON x = (if s.slotState g ≠ 0 then 1 else 2) ∧
       (t.resp.get Resp.reset a.num).refused = true ∧ State.frame [.regs, .access] s t ∧
       State.regsBut s t [Reg.key .pgrLoadStat 0 x 0]) ∧
   (∀ (s : State) (a : Accessor) (x : Target) (g n r : Nat), s.mayReach (s.accOwner a) .pgrLoadData x = true →
     s.capturedHalf a.num (Reg.pgrLoadData.off x 0) = none → s.loadPtr x = (g, n, r) →
     ∃ t, exec (.graphLoadRead a x) s = .next t ∧ t.answered a (s.graphRead x) ∧
       t.f F.pgrLoadPtr_REG x = (if r = 35 then 0 else r + 1) ∧ State.frame [.regs, .access] s t ∧
       State.regsBut s t [Reg.key .pgrLoadPtr 0 x 0]) ∧
   (∀ (s : State) (a : Accessor) (e : Fin 26) (v : Word32),
     (e.val < 10 → s.permits a .pgrPortCfg e 0 v.toNat →
       ∃ t, exec (.graphEntryWrite a e v) s = .next t ∧ t.rd .pgrPortCfg e = Reg.written .pgrPortCfg e (s.rd .pgrPortCfg e) v.toNat % 2 ^ 32 ∧
         State.frame [.regs, .access] s t ∧ State.regsBut s t [Reg.key .pgrPortCfg 0 e 0]) ∧
     (10 ≤ e.val → s.permits a .pgrStallEntry (e - 10) 0 v.toNat →
       ∃ t, exec (.graphEntryWrite a e v) s = .next t ∧
         t.rd .pgrStallEntry (e.val - 10) = Reg.written .pgrStallEntry (e.val - 10) (s.rd .pgrStallEntry (e.val - 10)) v.toNat % 2 ^ 32 ∧
         State.frame [.regs, .access] s t ∧ State.regsBut s t [Reg.key .pgrStallEntry 0 (e.val - 10) 0]))) ∧
  ((∀ (s : State) (a : Accessor) (x : Target) (v : Word32) (y bank i : Nat), s.permits a .clsLoadData x 0 v.toNat → s.clsPtr x = (y, bank, i) →
     s.bankActive y bank = false → (x.val = 16 → s.f F.scpStallState_STATE y ≠ 0) →
     ∃ t, exec (.classLoadWrite a x v) s = .next t ∧ t.bankWord y bank i = bits v.toNat 0 16 ∧ t.bankWord y bank (i + 1) = bits v.toNat 16 16 ∧
       t.f F.clsLoadPtr_INDEX x = (if i = 766 then 0 else i + 2) ∧ t.graphs = s.graphs ∧ t.staged = s.staged ∧
       State.frame [.graphs, .regs, .access] s t ∧ State.regsBut s t [Reg.key .clsLoadPtr 0 x 0]) ∧
   (∀ (s : State) (a : Accessor) (x : Target) (v : Word32) (y bank i : Nat), s.permits a .clsLoadData x 0 v.toNat → s.clsPtr x = (y, bank, i) →
     s.bankActive y bank = true →
     ∃ t, exec (.classLoadWrite a x v) s = .next t ∧ t.f F.clsLoadStat_LAST_REASON x = 1 ∧ (t.resp.get Resp.reset a.num).refused = true ∧
       State.frame [.regs, .access] s t) ∧
   (∀ (s : State) (a : Accessor) (x : StallId) (v : Word32), s.permits a .clsBank x 0 v.toNat →
     ∃ t, exec (.classBankWrite a x v) s = .next t ∧ t.rd .clsBank x = Reg.written .clsBank x (s.rd .clsBank x) v.toNat % 2 ^ 32 ∧
       State.frame [.regs, .access] s t ∧ State.regsBut s t [Reg.key .clsBank 0 x 0]) ∧
   (∀ (s : State) (a : Accessor) (v : Word32), s.permits a .clsCfg 0 0 (withField v 16 1 1) →
     ∃ t, exec (.tableReconcile a v) s = .next t ∧ t.f F.clsCfg_TABLE_BASE = bits v.toNat 0 16 ∧
       t.f F.clsCfg_ENABLE = (if s.needReconcile then 0 else 1) ∧ t.reconciling = (s.reconciling || s.needReconcile) ∧
       State.frame [.regs, .access, .stations] s t ∧ State.regsBut s t [Reg.key .clsCfg 0 0 0]) ∧
   (∀ s : State, s.reconciling = true → s.stl.recover = none →
     ∃ t, exec .reconciliationComplete s = .next t ∧ t.reconciling = false ∧ t.needReconcile = false ∧ t.f F.clsCfg_ENABLE = 1 ∧
       State.frame [.dram, .dramCtl, .events, .free, .regs, .settle, .stations] s t) ∧
   (∀ s : State, s.stl.recover ≠ none → ∃ t, exec .reconciliationComplete s = .next t ∧ State.frame [] s t)) ∧
  ((∀ (s : State) (a : Accessor) (x : Target) (v : Word32) (tb port i : Nat), s.permits a .swcLoadData x 0 v.toNat →
     s.swcPtr x = (tb, port, i) → port ≤ 9 → s.swcMayWrite x tb port i v.toNat = true →
     ∃ t, exec (.switchLoadWrite a x v) s = .next t ∧ t.geomWord tb port i = Nat.land v.toNat (geomMask tb i) ∧
       (∀ k, k ≠ geomKey tb port i → ∀ d, t.geom.get d k = s.geom.get d k) ∧
       t.f F.swcLoadPtr_INDEX x = (i + 1) % geomSize tb ∧ t.outPorts = s.outPorts ∧ t.qstat = s.qstat ∧
       State.frame [.egress, .regs, .access] s t ∧ State.regsBut s t [Reg.key .swcLoadPtr 0 x 0]) ∧
   (∀ (s : State) (a : Accessor) (x : Target) (v : Word32) (tb port i : Nat), s.permits a .swcLoadData x 0 v.toNat →
     s.swcPtr x = (tb, port, i) → (9 < port ∨ s.swcMayWrite x tb port i v.toNat = false) →
     ∃ t, exec (.switchLoadWrite a x v) s = .next t ∧ t.f F.swcLoadStat_LAST_REASON x = (if 9 < port then 2 else 1) ∧
       (t.resp.get Resp.reset a.num).refused = true ∧ State.frame [.regs, .access] s t))

/-- R89: however a graph is loaded, no walk that does not fail has visited more than 24 nodes. R89-R95: the oldest frame of a port's parse
queue: dropped where the port steers nowhere; else charged to the stall its walk reached and handed to the classifier, or dropped by
its graph, or handed to the cipher. R96: the oldest inner packet is walked from its stall's inner entry, and keeps the stall it has. -/
def Obligations.ParseWalks : Prop :=
  (∀ (s : State) (win : List Byte) (perr fuel : Nat) (entry : Nat → Nat) (w w' : WalkAt) (e : WalkEnd),
     w.visits ≤ 24 → s.walk win perr entry fuel w = (e, w') → (∀ k n g v, e ≠ .fail k n g v) → w'.visits < 24) ∧
  ((∀ (s : State) (n : Fin 12) (perr : Fin 25), (s.port n).parseQ = [] →
     ∃ t, exec (.parseWalk n perr) s = .next t ∧ State.frame [] s t) ∧
   (∀ (s s1 : State) (n : Fin 12) (perr : Fin 25) (p : Pkt) (rest : List Pkt), (s.port n).parseQ = p :: rest →
     s1 = s.setPort n (fun q => { q with parseQ := rest }) →
     (bits (s.inForce .pgrPortCfg n p.stampCourse) 18 1 = 0 →
       ∃ t, exec (.parseWalk n perr) s = .next t ∧ (t.port n).parseQ = rest ∧
         State.frame [.ports, .cells, .events, .regs, .sent, .free] s t) ∧
     (∀ (e : WalkEnd) (w : WalkAt), bits (s.inForce .pgrPortCfg n p.stampCourse) 18 1 = 1 →
       s1.walk (s1.outerWindow p) perr.val (fun x => s1.inForce .pgrStallEntry x p.stampCourse) 26
         { slot := bits (s.inForce .pgrPortCfg n p.stampCourse) 0 4, node := bits (s.inForce .pgrPortCfg n p.stampCourse) 8 8,
           came := bits (s.inForce .pgrPortCfg n p.stampCourse) 8 8, cursor := 0, visits := 0, stall := none, marks := ⟨255, 255, 255⟩ } = (e, w) →
       (∀ code node p' s2, e = .exit code node → s1.charge p (w.stall.getD 0) = (some p', s2) →
         ∃ t, exec (.parseWalk n perr) s = .next t ∧ t.classQ = s.classQ ++ [p'.parsed w.marks code node] ∧ (t.port n).parseQ = rest ∧
           State.frame [.ports, .cells, .pipe, .events, .regs, .sent, .free] s t) ∧
       (∀ cursor, e = .cipher cursor → s.cipherQ.length < 512 →
         ∃ t q, exec (.parseWalk n perr) s = .next t ∧ t.cipherQ = s.cipherQ ++ [q] ∧ q.cell = p.cell ∧ q.esp.isSome = true ∧
           (t.port n).parseQ = rest ∧ State.frame [.ports, .pipe] s t) ∧
       (e = .steerDrop →
         ∃ t, exec (.parseWalk n perr) s = .next t ∧ (t.port n).parseQ = rest ∧ State.frame [.ports, .cells, .events, .regs, .sent, .free] s t)))) ∧
  ((∀ (s : State) (perr : Fin 25), s.reparseQ = [] → ∃ t, exec (.innerWalk perr) s = .next t ∧ State.frame [] s t) ∧
   (∀ (s s1 : State) (perr : Fin 25) (p : Pkt) (rest : List Pkt) (x en code node : Nat) (w : WalkAt), s.reparseQ = p :: rest →
     p.stall = some x → s1 = { s with reparseQ := rest } → en = s1.inForce .pgrStallEntry x p.stampCourse → bits en 12 1 = 1 →
     s1.walk (s1.innerWindow p) perr.val (fun _ => 0) 26
       { slot := bits en 8 4, node := bits en 24 8, came := bits en 24 8, cursor := 0, visits := 0, stall := some x,
         marks := ⟨if p.port = 12 ∨ p.port = 13 then p.w14 else 0, 255, 255⟩ } = (.exit code node, w) →
     ∃ t, exec (.innerWalk perr) s = .next t ∧ t.reparseQ = rest ∧ t.classQ = s.classQ ++ [p.parsed w.marks code node] ∧
       (p.parsed w.marks code node).stall = some x ∧ State.frame [.pipe] s t))

/-- R101-R108, R112, R117: the oldest frame at the classifier, once its two bucket lines are read: a hit presents it with its station
handle and hash and hands it to the learning unit; a miss takes the exit's miss action; one whose candidate record waits for a way
stays. Where the records of all candidates are cached, the probe of the slots answers the table's lookup. R106: a key is looked up in
the sixteen slots of its two buckets, which differ. R103: a paired profile gives both directions of a flow one key: exchanging the
bytes of the two roles leaves the key as it is. -/
def Obligations.Classification : Prop :=
  ((∀ s : State, s.classQ = [] → ∃ t, exec .classifyLookup s = .next t ∧ State.frame [] s t) ∧
   (∀ (s s1 s2 : State) (p : Pkt) (rest : List Pkt) (x bank ex hash : Nat) (key : List Byte) (dir : Bool) (look : Look),
     s.classQ = p :: rest → p.stall = some x → x < 16 → bank = s.inForce .clsBank x p.stampCourse % 2 →
     ex = s.bankWord x bank (p.exitCode % 256) → s.buildKey x bank (bits ex 0 4) p (s.window p) = some (key, dir) →
     s.f F.clsCfg_ENABLE = 1 → s.reconciling = false → hash = s.foldHash x key →
     s1 = (State.hotTouch { s with classQ := rest } (buckets hash).1 p.deadline).hotTouch (buckets hash).2 p.deadline →
     s1.probe x hash key p.deadline (slotOrder hash) = (look, s2) →
     (∀ h, look = .hit h →
       ∃ t q, exec .classifyLookup s = .next t ∧ t.classQ = rest ∧ t.dispQ = s.dispQ ++ [q] ∧ t.learnQ = s.learnQ ++ [q] ∧
         q.station % 2 ^ 20 = h ∧ bits q.station 21 1 = 1 ∧ q.hash = hash ∧ q.dir = dir ∧ q.cell = p.cell ∧
         State.frame [.pipe, .stations, .regs, .dram, .dramCtl, .free] s t) ∧
     (look = .miss → bits ex 4 2 = 1 →
       ∃ t q, exec .classifyLookup s = .next t ∧ t.classQ = rest ∧ t.dispQ = s.dispQ ++ [q] ∧ t.learnQ = s.learnQ ∧ q.station = 0 ∧
         q.hash = hash ∧ q.cell = p.cell ∧ State.frame [.pipe, .stations, .regs, .dram, .dramCtl, .free] s t) ∧
     (look = .miss → 2 ≤ bits ex 4 2 →
       ∃ t, exec .classifyLookup s = .next t ∧ t.classQ = rest ∧ t.dispQ = s.dispQ ∧ t.learnQ = s.learnQ ∧
         State.frame [.pipe, .stations, .regs, .dram, .dramCtl, .cells, .events, .ports, .sent, .free] s t) ∧
     (∀ h, look = .wait h →
       ∃ t, exec .classifyLookup s = .next t ∧ t.classQ = s.classQ ∧ t.dispQ = s.dispQ ∧ t.learnQ = s.learnQ ∧
         State.frame [.stations, .regs, .dram, .dramCtl, .free] s t)) ∧
   (∀ (s : State) (x dl : Nat) (key : List Byte),
     (∀ bi ∈ slotOrder (s.foldHash x key), (s.clsSlot bi.1 bi.2).valid = true → s.stnPresent (s.clsSlot bi.1 bi.2).handle = true) →
     (s.probe x (s.foldHash x key) key dl (slotOrder (s.foldHash x key))).1 =
       (match s.lookup x key with | some h => Look.hit h | none => Look.miss))) ∧
  (∀ h : Nat, h < 2 ^ 32 → (buckets h).1 < 2 ^ 18 ∧ (buckets h).2 < 2 ^ 18 ∧ (buckets h).1 ≠ (buckets h).2 ∧ (slotOrder h).Nodup ∧
     (slotOrder h).length = 16) ∧
  (∀ (s : State) (x bank prof : Nat) (p : Pkt) (win win' : List Byte) (key key' : List Byte) (d d' : Bool),
     bits (s.bankWord x bank (256 + 32 * prof)) 8 1 = 1 → win.length = win'.length →
     (∀ ds, ds = (List.range (bits (s.bankWord x bank (256 + 32 * prof)) 9 4)).map (fun i => s.keyDesc x bank prof i) →
       roleBytes p win' ds 0 = roleBytes p win ds 0 ∧ roleBytes p win' ds 1 = roleBytes p win ds 2 ∧ roleBytes p win' ds 2 = roleBytes p win ds 1 ∧
       roleBytes p win' ds 3 = roleBytes p win ds 4 ∧ roleBytes p win' ds 4 = roleBytes p win ds 3 ∧
       (∀ e ∈ ds, e.role = 0 → descBytes p win' e = descBytes p win e)) →
     s.buildKey x bank prof p win = some (key, d) → s.buildKey x bank prof p win' = some (key', d') → key = key')

/-- R109, R110: CLS_BINDx: a bind of a record in the stall's range is refused with the code of the first check it fails; a bind that passes
them marks the record BOUND and FRESH and counts it; an unbind takes it back. -/
def Obligations.Bind : Prop :=
  (∀ (s : State) (a : Accessor) (x : Target) (v : Word32) (h y : Nat), s.permits a .clsBindCmd x 0 (withField v 20 2 1) →
    (∀ z, a = .session z → s.isShadow = false) → h = bits v.toNat 0 20 → y = (if x.val = 16 then bits v.toNat 24 4 else x.val) →
    ∃ t, exec (.bind a x v) s = .next t ∧
      (s.inRange y h = false → t.fA a.num F.clsBindStatus_CODE x = 1 ∧ State.frame [.regs, .access] s t) ∧
      (s.inRange y h = true → s.stnFlag h 0 = true → t.fA a.num F.clsBindStatus_CODE x = 2 ∧ State.frame [.regs, .access] s t) ∧
      (s.inRange y h = true → s.stnFlag h 0 = false → (bits (s.stnWord h 1) 0 6 = 0 ∨ 48 < bits (s.stnWord h 1) 0 6) →
        t.fA a.num F.clsBindStatus_CODE x = 3 ∧ State.frame [.regs, .access] s t) ∧
      (∀ code o b i, s.bindCheck y h = (code, o, b, i) → code ≠ 0 →
        t.fA a.num F.clsBindStatus_CODE x = code ∧ State.frame [.regs, .access, .events, .free] s t) ∧
      (∀ b i, s.bindCheck y h = (0, 0, b, i) → t.fA a.num F.clsBindStatus_CODE x = 0 ∧ bits (t.stnWord h 0) 0 2 = 3 ∧
        t.f F.clsBound_COUNT y = (s.f F.clsBound_COUNT y + 1) % 2 ^ F.clsBound_COUNT.width ∧
        (s.stnPresent h = true → (t.clsSlot b i).valid = true ∧ (t.clsSlot b i).handle = h ∧ (t.clsSlot b i).stall = y) ∧
        State.frame [.regs, .access, .dram, .dramCtl, .free, .stations, .settle] s t)) ∧
  (∀ (s : State) (a : Accessor) (x : Target) (v : Word32) (h y : Nat), s.permits a .clsBindCmd x 0 (withField v 20 2 2) →
    (∀ z, a = .session z → s.isShadow = false) → h = bits v.toNat 0 20 → y = (if x.val = 16 then bits v.toNat 24 4 else x.val) →
    ∃ t, exec (.unbind a x v) s = .next t ∧
      (s.inRange y h = false → t.fA a.num F.clsBindStatus_CODE x = 1 ∧ State.frame [.regs, .access] s t) ∧
      (s.inRange y h = true → s.stnFlag h 0 = false → t.fA a.num F.clsBindStatus_CODE x = 2 ∧ State.frame [.regs, .access] s t) ∧
      (s.inRange y h = true → s.stnFlag h 0 = true → t.fA a.num F.clsBindStatus_CODE x = 0 ∧ bits (t.stnWord h 0) 0 1 = 0 ∧
        t.f F.clsBound_COUNT y = s.f F.clsBound_COUNT y - 1 ∧ State.frame [.regs, .access, .dram, .dramCtl, .free, .stations, .settle] s t))

/-- R117, R118, R325: a record's words read the same whether it is cached, waits for a way of its set, or is in DRAM; a line that has been
dirty for CLEAN_COURSES whole courses is written back, its chunks of accepted courses only. R114: a range is written only where it
overlaps no other stall's and drops no bound record; blocks it adds are zeroed before they count as in the range. -/
def Obligations.StationRecords : Prop :=
  ((∀ (s : State) (h : Fin 1048576), s.stnPresent h = true →
     ∃ t, exec (.stationCacheFill h) s = .next t ∧ (∀ h' w, t.stnWord h' w = s.stnWord h' w) ∧
       State.frame [.regs, .stations, .free] s t ∧ State.regsBut s t [Reg.key .stnStatHit 0 0 0]) ∧
   (∀ (s : State) (h : Fin 1048576), s.stnPresent h = false → (s.stn.filter fun e => e.1 % 4096 == h.val % 4096).length < 16 →
     ∃ t, exec (.stationCacheFill h) s = .next t ∧ t.stnPresent h = true ∧ t.stnWaits h = false ∧
       (∀ h' w, w < 128 → t.stnWord h' w = s.stnWord h' w) ∧
       State.frame [.regs, .stations, .free, .dramCtl] s t ∧ State.regsBut s t [Reg.key .stnStatMiss 0 0 0]) ∧
   (∀ (s : State) (h : Fin 1048576) (v : Nat), s.stnPresent h = false →
     16 ≤ (s.stn.filter fun e => e.1 % 4096 == h.val % 4096).length → s.stnVictim h = some v →
     ∃ t, exec (.stationCacheFill h) s = .next t ∧ t.stnPresent h = true ∧ t.stnPresent v = false ∧
       (∀ w, w < 128 → t.stnWord h w = s.stnWord h w) ∧ State.frame [.regs, .stations, .free, .dram, .dramCtl] s t) ∧
   (∀ (s : State) (h : Fin 1048576), s.stnReady h = false →
     ∃ t, exec (.stationCacheFill h) s = .next t ∧ t.stnPresent h = false ∧ t.stnWaits h = true ∧
       (∀ h' w, w < 128 → t.stnWord h' w = s.stnWord h' w) ∧ State.frame [.regs, .stations] s t ∧
       State.regsBut s t [Reg.key .stnStatMiss 0 0 0, Reg.key .stnStatSetWait 0 0 0]) ∧
   (∀ (s : State) (h : Fin 1048576), s.cleanDue h = true →
     ∃ t, exec (.stationWriteback h) s = .next t ∧
       (∀ c, c ∈ (t.stn.get StnLine.reset h).dirty ↔
         c ∈ (s.stn.get StnLine.reset h).dirty ∧ s.acceptedPlus < (s.stn.get StnLine.reset h).courses.get 0 c) ∧
       (t.stnPresent h = true → ∀ w, t.stnWord h w = s.stnWord h w) ∧ State.frame [.regs, .stations, .dram, .dramCtl, .free] s t) ∧
   (∀ (s : State) (h : Fin 1048576), s.cleanDue h = false → ∃ t, exec (.stationWriteback h) s = .next t ∧ State.frame [] s t)) ∧
  ((∀ (s : State) (a : Accessor) (x : StallId) (v : Word32) (base n : Nat), s.permits a .stnRange x 0 v.toNat → base = bits v.toNat 0 10 →
     n = bits v.toNat 10 11 → base + n ≤ 1024 →
     (∀ y, y < 16 → y ≠ x.val → n = 0 ∨ s.f F.stnRange_BLOCKS y = 0 ∨ s.f F.stnRange_BASE y + s.f F.stnRange_BLOCKS y ≤ base ∨
       base + n ≤ s.f F.stnRange_BASE y) →
     (∀ b, s.f F.stnRange_BASE x ≤ b → b < s.f F.stnRange_BASE x + s.f F.stnRange_BLOCKS x → (b < base ∨ base + n ≤ b) → s.blockBound b = false) →
     ∃ t, exec (.stationRangeWrite a x v) s = .next t ∧ t.f F.stnRange_BASE x = base ∧ t.f F.stnRange_BLOCKS x = n ∧
       (∀ b, b ∈ t.rangeZero.get [] x ↔ base ≤ b ∧ b < base + n ∧
         (b ∈ s.rangeZero.get [] x ∨ b < s.f F.stnRange_BASE x ∨ s.f F.stnRange_BASE x + s.f F.stnRange_BLOCKS x ≤ b)) ∧
       (t.rangeZero.get [] x ≠ [] → t.f F.stnRange_READY x = 0) ∧ State.frame [.regs, .access, .stations] s t ∧
       State.regsBut s t [Reg.key .stnRange 0 x 0]) ∧
   (∀ (s : State) (a : Accessor) (x : StallId) (v : Word32), s.permits a .stnRange x 0 v.toNat →
     1024 < bits v.toNat 0 10 + bits v.toNat 10 11 →
     ∃ t, exec (.stationRangeWrite a x v) s = .next t ∧ State.frame [.access] s t) ∧
   (∀ (s : State) (x : Fin 16), s.rangeZero.get [] x ≠ [] →
     ∃ t, exec (.rangeReady x) s = .next t ∧ t.f F.stnRange_READY x = 1 ∧ t.rangeZero.get [] x = [] ∧
       (∀ b, b ∈ s.rangeZero.get [] x → ∀ i, i < 256 * 1024 → t.dramByte (s.recordAddr (b * 1024) + i) = 0) ∧
       State.frame [.regs, .dram, .stations] s t ∧ State.regsBut s t [Reg.key .stnRange 0 x 0]))

/-- R119-R121, R144: SEARCH, NEXT and FLUSH-BY-PORT begin where no flush is running, and end with their result. R142, R143: ageing sweeps
start by command or by their period, unless the maintenance sequencer is busy, and end. R117, R136-R138: the learning unit takes the
oldest frame that hit; for a port that does not learn nothing else happens; one whose record must wait for a way of its set stays; a
FRESH record takes the frame's stamp and path and is FRESH no more. -/
def Obligations.MaintenanceScans : Prop :=
  ((∀ (s : State) (a : Accessor) (x : Target) (v : Word32), s.permits a .stnCmdCmd x 0 (withField v 0 2 1) →
     (∀ sc, s.scans.get none x = some sc → sc.kind ≠ 3) →
     ∃ t, exec (.search a x v) s = .next t ∧ t.lastFound = s.lastFound ∧
       (s.scanOwns x (s.f F.stnCmdStart_HANDLE x) = true → t.f F.stnCmdResult_STATUS x = 1 ∧
         ∃ sc, t.scans.get none x = some sc ∧ sc.kind = 1 ∧ sc.at_ = s.f F.stnCmdStart_HANDLE x ∧ sc.done = false) ∧
       (s.scanOwns x (s.f F.stnCmdStart_HANDLE x) = false → t.f F.stnCmdResult_STATUS x = 4 ∧ t.scans.get none x = none) ∧
       State.frame [.regs, .access, .stations] s t ∧ State.regsBut s t [Reg.key .stnCmdResult 0 x 0]) ∧
   (∀ (s : State) (a : Accessor) (x : Target) (v : Word32), s.permits a .stnCmdCmd x 0 (withField v 0 2 2) →
     (∀ sc, s.scans.get none x = some sc → sc.kind ≠ 3) →
     ∃ t, exec (.next a x v) s = .next t ∧
       (s.lastFound.get none x = none → t.f F.stnCmdResult_STATUS x = 3 ∧ t.scans.get none x = none) ∧
       (∀ h, s.lastFound.get none x = some h → t.f F.stnCmdResult_STATUS x = 1 ∧
         ∃ sc, t.scans.get none x = some sc ∧ sc.kind = 1 ∧ sc.at_ = h + 1 ∧ sc.done = false) ∧
       State.frame [.regs, .access, .stations] s t ∧ State.regsBut s t [Reg.key .stnCmdResult 0 x 0]) ∧
   (∀ (s : State) (a : Accessor) (x : Target) (v : Word32), s.permits a .stnCmdCmd x 0 (withField v 0 2 3) →
     (∀ sc, s.scans.get none x = some sc → sc.kind ≠ 3) → s.maintBusy (flushId x) = none →
     ∃ t, exec (.flushByPort a x v) s = .next t ∧ t.f F.stnCmdResult_STATUS x = 1 ∧ t.maint = flushId x :: s.maint ∧
       t.guards = { owner := x, port := bits v.toNat 4 4, since := BitVec.ofNat 64 s.now, until_ := none } :: s.guards ∧
       State.frame [.regs, .access, .stations, .maint] s t) ∧
   (∀ (s : State) (x : Fin 17) (sc : Scan), s.scans.get none x = some sc → sc.done = true → sc.kind = 1 →
     ∃ t, exec (.scanResult x) s = .next t ∧ t.scans.get none x = none ∧
       (∀ h, h < 2 ^ 20 → sc.found = some h → t.f F.stnCmdResult_STATUS x = 2 ∧ t.f F.stnCmdResult_HANDLE x = h ∧ t.lastFound.get none x = some h) ∧
       (sc.found = none → t.f F.stnCmdResult_STATUS x = 3) ∧ State.frame [.regs, .stations] s t ∧
       State.regsBut s t [Reg.key .stnCmdResult 0 x 0]) ∧
   (∀ (s : State) (x : Fin 17) (sc : Scan), s.scans.get none x = some sc → sc.done = true → sc.kind = 3 →
     ∃ t, exec (.flushDone x) s = .next t ∧ t.scans.get none x = none ∧ t.f F.stnCmdResult_STATUS x = 6 ∧
       t.maint = s.maint.filter (· != flushId x) ∧ (∀ g ∈ t.guards, g.owner = x.val → g.until_.isSome = true) ∧
       State.frame [.regs, .events, .stations, .maint, .free] s t) ∧
   (∀ (s : State) (x : Fin 17),
     ∃ t, exec (.flushGuardEnd x) s = .next t ∧
       (∀ g, g ∈ t.guards ↔ g ∈ s.guards ∧ ¬(g.owner = x.val ∧ ∃ c, g.until_ = some c ∧ c ≤ s.course)) ∧ State.frame [.stations] s t)) ∧
  ((∀ (s : State) (a : Accessor) (x : StallId) (v : Word32), s.permits a .stnLearnSweep x 0 (withField v 17 1 1) →
     ∃ t, exec (.ageSweepStart a x v) s = .next t ∧ t.f F.stnLearnSweep_PERIOD x = bits v.toNat 0 16 ∧
       t.f F.stnLearnSweep_ACTION x = bits v.toNat 16 1 ∧
       (s.maintBusy (0x30 + x) = none → t.f F.stnLearnSweepStat_STATUS x = 1 ∧ t.maint = (0x30 + x.val) :: s.maint ∧
         t.sweepAt.get 0 x = s.course) ∧
       (∀ b, b < 256 → s.maintBusy (0x30 + x) = some b → t.f F.stnLearnSweepStat_STATUS x = 3 ∧ t.f F.stnLearnSweepStat_BUSY_ID x = b ∧
         t.maint = s.maint ∧ t.sweeps = s.sweeps) ∧
       State.frame [.regs, .access, .stations, .maint] s t) ∧
   (∀ (s : State) (x : Fin 16), s.f F.stnLearnSweep_PERIOD x ≠ 0 → s.sweepAt.get 0 x + s.f F.stnLearnSweep_PERIOD x ≤ s.course →
     ∃ t, exec (.ageSweepAuto x) s = .next t ∧ t.sweepAt.get 0 x = s.course ∧
       (s.maintBusy (0x30 + x) = none → t.maint = (0x30 + x.val) :: s.maint) ∧
       (∀ b, s.maintBusy (0x30 + x) = some b → t.maint = s.maint ∧ t.sweeps = s.sweeps) ∧ State.frame [.regs, .stations, .maint] s t) ∧
   (∀ (s : State) (x : Fin 16) (sc : Scan), s.sweeps.get none x = some sc → sc.done = true →
     ∃ t, exec (.ageSweepDone x) s = .next t ∧ t.sweeps.get none x = none ∧ t.f F.stnLearnSweepStat_STATUS x = 2 ∧
       t.maint = s.maint.filter (· != 0x30 + x.val) ∧ State.frame [.regs, .events, .stations, .maint, .free] s t)) ∧
  ((∀ s : State, s.learnQ = [] → ∃ t, exec .learn s = .next t ∧ State.frame [] s t) ∧
   (∀ (s : State) (p : Pkt) (rest : List Pkt), s.learnQ = p :: rest →
     (10 ≤ p.port ∨ bits (s.f F.stnLearnCtl_PORTS (p.stall.getD 0)) p.port 1 = 0) →
     ∃ t, exec .learn s = .next t ∧ t.learnQ = rest ∧ t.classQ = s.classQ ∧ t.dispQ = s.dispQ ∧ State.frame [.pipe] s t) ∧
   (∀ (s : State) (p : Pkt) (rest : List Pkt), s.learnQ = p :: rest → s.learns p = true → s.stnReady (p.station % 2 ^ 20) = false →
     ∃ t, exec .learn s = .next t ∧ t.stnWaits (p.station % 2 ^ 20) = true ∧ State.frame [.stations, .regs] s t) ∧
   (∀ (s : State) (p : Pkt) (rest : List Pkt) (x h : Nat), s.learnQ = p :: rest → p.port < 10 → p.stall = some x → x < 16 →
     bits (s.f F.stnLearnCtl_PORTS x) p.port 1 = 1 → h = p.station % 2 ^ 20 → s.stnPresent h = true → s.stnFlag h 1 = true →
     ∃ t, exec .learn s = .next t ∧ t.learnQ = rest ∧ t.stnFlag h 1 = false ∧ t.stn64 h 4 = p.stamp.toNat ∧
       (∀ e, s.endpoint p = some e → t.stnFlag h 3 = true ∧ bits (t.stnWord h 32) 0 4 = p.port ∧ t.stn64 h 44 = p.stamp.toNat) ∧
       (∀ h' w, h' ≠ h → t.stnWord h' w = s.stnWord h' w) ∧ State.frame [.pipe, .stations, .regs, .free] s t))

/-- R97, R129, R130: the cipher engine waits while its next packet may not be taken; a packet it cannot give to a stall is counted and its
cells wait for the settlement of its course; a stall's packet that fails a check reaches no parse graph and ESP_LAST holds the code of
the first check it failed; one of a tunnel-mode SA that passes them all becomes an inner packet. The checks read the device as it
stands once the packet is charged to its stall. R129-R131: a packet of a tunnel-mode SA that passes every check becomes an inner packet
of the SA's stall, and its sequence number is marked in the replay window. -/
def Obligations.Cipher : Prop :=
  ((∀ s : State, s.cipherDue = false → ∃ t, exec .cipherInbound s = .next t ∧ State.frame [] s t) ∧
   (∀ (s : State) (p : Pkt) (info : EspInfo), s.cipherDue = true → s.cipherNext = some p → p.esp = some info →
     (s.f F.espCfg_ENABLE = 0 ∨ (s.chainBytes p.cell 0 (p.len - 4)).length < info.cursor + 4 ∨
       s.spiStall (be32 (s.chainBytes p.cell 0 (p.len - 4)) info.cursor) = none) →
     ∃ t, exec .cipherInbound s = .next t ∧ t.cipherQ = s.cipherQ.erase p ∧ t.reparseQ = s.reparseQ ∧
       t.freeAfter = s.freeAfter ++ [(p.stampCourse, p.cell, false)] ∧ State.frame [.pipe, .regs, .events, .dispatch, .free] s t) ∧
   (∀ (s s1 : State) (p : Pkt) (info : EspInfo) (bs : List Byte) (x : Nat), s.cipherDue = true → s.cipherNext = some p → p.esp = some info →
     s.f F.espCfg_ENABLE = 1 → bs = s.chainBytes p.cell 0 (p.len - 4) → info.cursor + 4 ≤ bs.length →
     s.spiStall (be32 bs info.cursor) = some x → p.port < 12 →
     State.charge { s with cipherQ := s.cipherQ.erase p } p x = (none, s1) →
     ∃ t, exec .cipherInbound s = .next t ∧ t.cipherQ = s.cipherQ.erase p ∧ t.reparseQ = s.reparseQ ∧
       State.frame [.pipe, .cells, .regs, .events, .free, .ports, .sent] s t) ∧
   (∀ (s s1 : State) (p q : Pkt) (info : EspInfo) (bs : List Byte) (x spi i low fin : Nat), s.cipherDue = true → s.cipherNext = some p →
     p.esp = some info → s.f F.espCfg_ENABLE = 1 → bs = s.chainBytes p.cell 0 (p.len - 4) → spi = be32 bs info.cursor → i = spi % 2 ^ 21 →
     low = be32 bs (info.cursor + 4) → fin = min (ipEnd bs info.l3) bs.length → info.cursor + 4 ≤ bs.length → s.spiStall spi = some x →
     (if p.port < 12 then State.charge { s with cipherQ := s.cipherQ.erase p } p x else (some p, { s with cipherQ := s.cipherQ.erase p })) =
       (some q, s1) →
     ∃ t, exec .cipherInbound s = .next t ∧ t.cipherQ = s.cipherQ.erase p ∧
       (espMalformed bs info.l3 info.cursor = true → t.f F.espLast_CODE x = 1 ∧ t.f F.espLast_INDEX x = i ∧ t.reparseQ = s.reparseQ) ∧
       (espMalformed bs info.l3 info.cursor = false →
         (s1.saOwned x i = false ∨ s1.saFlag i 0 = false ∨ (s1.saFlag i 2 = false ∧ s1.saFlag i 4 = true) ∨ s1.saKey x i 16 = none →
           t.f F.espLast_CODE x = 3 ∧ t.f F.espLast_INDEX x = i ∧ t.reparseQ = s.reparseQ) ∧
         (∀ key nonce ct n, s1.saOwned x i = true → s1.saFlag i 0 = true → (s1.saFlag i 2 = true ∨ s1.saFlag i 4 = false) →
           s1.saKey x i 16 = some key → n = s1.inferSeq i low → nonce = s1.saBytes i 12 4 ++ espIv bs info.cursor →
           ct = espCt bs info.cursor fin →
           (s1.replayed i n = true → t.f F.espLast_CODE x = 4 ∧ t.f F.espLast_INDEX x = i ∧ t.reparseQ = s.reparseQ) ∧
           (s1.replayed i n = false → gcmSeal key nonce (s1.espAad i spi n.toNat) ct ≠ espIcv bs fin →
             t.f F.espLast_CODE x = 5 ∧ t.f F.espLast_INDEX x = i ∧ t.reparseQ = s.reparseQ) ∧
           (∀ plain inner pad, s1.replayed i n = false → gcmSeal key nonce (s1.espAad i spi n.toNat) ct = espIcv bs fin →
             s1.saFlag i 2 = true → plain = gcmText key nonce ct → 2 ≤ plain.length → pad = (plain.getD (plain.length - 2) 0).toNat →
             ((plain.getD (plain.length - 1) 0).toNat = 4 ∨ (plain.getD (plain.length - 1) 0).toNat = 41) → pad + 2 ≤ plain.length →
             (∀ k, k < pad → (plain.getD (plain.length - 2 - pad + k) 0).toNat = (k + 1) % 256) →
             inner = (plain.take (plain.length - 2 - pad)).take (innerLen (plain.take (plain.length - 2 - pad))) →
             (s1.takeCells none x (cellsFor inner.length)).isSome = true →
             ∃ r, t.reparseQ = s.reparseQ ++ [r] ∧ r.len = inner.length ∧ r.port = p.port ∧ r.seq = p.seq ∧ r.stall = q.stall))) ∧
       State.frame [.pipe, .cells, .regs, .events, .dispatch, .dram, .dramCtl, .free, .ports, .sent, .settle, .stations] s t)) ∧
  (∀ (s : State) (p : Pkt) (x spi n fin pad nh : Nat) (info : EspInfo) (bs key nonce plain : List Byte), s.saFlag (spi % 2 ^ 21) 2 = true →
     n < 2 ^ 64 → nonce = s.saBytes (spi % 2 ^ 21) 12 4 ++ espIv bs info.cursor →
     gcmSeal key nonce (s.espAad (spi % 2 ^ 21) spi n) (espCt bs info.cursor fin) = espIcv bs fin →
     plain = gcmText key nonce (espCt bs info.cursor fin) →
     2 ≤ plain.length → pad = (plain.getD (plain.length - 2) 0).toNat → nh = (plain.getD (plain.length - 1) 0).toNat →
     pad + 2 ≤ plain.length → (∀ k, k < pad → (plain.getD (plain.length - 2 - pad + k) 0).toNat = (k + 1) % 256) → (nh = 4 ∨ nh = 41) →
     (∀ inner, inner = (plain.take (plain.length - 2 - pad)).take (innerLen (plain.take (plain.length - 2 - pad))) →
       (s.takeCells none x (cellsFor inner.length)).isSome = true →
       ∃ q, (s.espOpen p x spi n fin info bs key).reparseQ = s.reparseQ ++ [q] ∧ q.len = inner.length ∧ q.port = p.port ∧ q.seq = p.seq ∧
         q.esp.isSome = true) ∧
     (s.espOpen p x spi n fin info bs key).replayed (spi % 2 ^ 21) n = true)

/-- R155-R157: PKM_CELLx: cells are given to the register's owner within its limit, freed only by their owner and when not held, and a
private chain leaves its thread's list when it is released. -/
def Obligations.CellOperations : Prop :=
  (∀ (s : State) (a : Accessor) (x : Target) (v : Word32) (stall n : Nat) (hs : List Nat) (s1 : State),
    s.permits a .pkmCellCmd x 0 (withField v 0 3 1) → stall = (if x.val = 16 then bits v.toNat 16 4 else x.val) → n = bits v.toNat 8 6 →
    0 < n → n ≤ 36 → s.used stall + n ≤ s.f F.pkmPoolLimit_LIMIT stall → n ≤ s.freeIn 12 + s.freeIn 13 + s.freeIn 14 + s.freeIn 15 →
    (∀ u, accThread a = some u → (s.chains.get [] u).length < 8) → s.takeCells none stall n = some (hs, s1) →
    ∃ t, exec (.alloc a x v) s = .next t ∧ (∀ h ∈ hs, (t.cell h).alloc = true ∧ (t.cell h).owner = stall) ∧
      (∀ h, h ∉ hs → t.cell h = s.cell h) ∧ t.rdA a.num .pkmCellResult x 0 = hs.headD 0 % 2 ^ 18 + n * 2 ^ 18 ∧
      (∀ u, accThread a = some u → t.chains.get [] u = s.chains.get [] u ++ [hs.headD 0]) ∧
      State.frame [.cells, .events, .ports, .regs, .sent, .threads, .access, .free] s t) ∧
  (∀ (s : State) (a : Accessor) (x : Target) (v : Word32) (stall n : Nat), s.permits a .pkmCellCmd x 0 (withField v 0 3 1) →
    stall = (if x.val = 16 then bits v.toNat 16 4 else x.val) → n = bits v.toNat 8 6 →
    ∃ t, exec (.alloc a x v) s = .next t ∧
      (36 < n → bits (t.rdA a.num .pkmCellResult x 0) 24 4 = 2 ∧ State.frame [.regs, .access] s t) ∧
      (0 < n → n ≤ 36 → s.f F.pkmPoolLimit_LIMIT stall < s.used stall + n →
        bits (t.rdA a.num .pkmCellResult x 0) 24 4 = 3 ∧ State.frame [.regs, .access] s t)) ∧
  (∀ (s : State) (a : Accessor) (x : Target) (v : Word32) (k : Fin 64) (ecc : Ecc) (stall h n : Nat),
    s.permits a .pkmCellCmd x 0 (withField v 0 3 2) → ecc ≠ .double → stall = (if x.val = 16 then bits v.toNat 16 4 else x.val) → h = s.rdA a.num .pkmCellHandle x 0 → n = bits v.toNat 8 6 →
    h < 2 ^ 18 →
    ((∀ c ∈ (if n = 0 then s.chain h else (s.chain h).take n), (s.cell c).alloc = true ∧ s.cellOwned x stall c = true) →
      (s.cell h).held = false →
      ∃ t, exec (.free a x v k ecc) s = .next t ∧
        (∀ c ∈ (if n = 0 then s.chain h else (s.chain h).take n), (t.cell c).alloc = false) ∧
        (∀ c, c ∉ (if n = 0 then s.chain h else (s.chain h).take n) → t.cell c = s.cell c) ∧
        State.frame [.cells, .events, .ports, .regs, .sent, .threads, .access, .free] s t) ∧
    ((s.cell h).alloc = false →
      ∃ t, exec (.free a x v k ecc) s = .next t ∧ bits (t.rdA a.num .pkmCellResult x 0) 24 4 = 5 ∧ State.frame [.regs, .access, .events, .free] s t)) ∧
  (∀ (s : State) (a : Accessor) (x : Target) (v : Word32), s.permits a .pkmCellCmd x 0 (withField v 0 3 3) →
    s.rdA a.num .pkmCellHandle x 0 < 2 ^ 18 →
    ∃ t, exec (.release a x v) s = .next t ∧
      (∀ u, accThread a = some u → ∀ h, h ∈ t.chains.get [] u ↔ h ∈ s.chains.get [] u ∧ h ≠ s.rdA a.num .pkmCellHandle x 0) ∧
      t.cells = s.cells ∧ State.frame [.regs, .threads, .access] s t) ∧
  (∀ (s : State) (a : Accessor) (x : Target) (v : Word32) (ecc : Ecc) (stall h : Nat), s.permits a .pkmCellCmd x 0 (withField v 0 3 4) →
    ecc ≠ .double → stall = (if x.val = 16 then bits v.toNat 16 4 else x.val) → h = s.rdA a.num .pkmCellHandle x 0 → h < 2 ^ 18 →
    (s.cell h).alloc = true → s.cellOwned x stall h = true → (s.cell h).owner < 32 →
    ∃ t, exec (.link a x v ecc) s = .next t ∧
      ((s.cell h).last = false → (s.cell h).next < 2 ^ 18 → bits (t.rdA a.num .pkmCellLink x 0) 0 18 = (s.cell h).next) ∧
      bits (t.rdA a.num .pkmCellLink x 0) 18 1 = boolNat (s.cell h).last ∧
      bits (t.rdA a.num .pkmCellLink x 0) 20 1 = boolNat (s.cell h).held ∧ bits (t.rdA a.num .pkmCellLink x 0) 21 5 = (s.cell h).owner ∧
      State.frame [.regs, .access, .free] s t) ∧
  (∀ (s : State) (a : Accessor) (x : Target) (v : Word32) (k : Fin 64) (h c : Nat), s.permits a .pkmCellCmd x 0 (withField v 0 3 2) →
    h = s.rdA a.num .pkmCellHandle x 0 → h < 2 ^ 18 → (s.cellsRead h (withField v 0 3 2))[k.val]? = some c →
    ∃ t, exec (.free a x v k .double) s = .next t ∧ (t.cell c).oos = true ∧ (t.cell c).alloc = false ∧
      (∀ g, g ≠ c → t.cell g = s.cell g) ∧ bits (t.rdA a.num .pkmCellResult x 0) 24 4 = 4 ∧
      State.frame [.cells, .events, .ports, .regs, .sent, .access, .free] s t) ∧
  (∀ (s : State) (a : Accessor) (x : Target) (v : Word32) (h : Nat), s.permits a .pkmCellCmd x 0 (withField v 0 3 4) →
    h = s.rdA a.num .pkmCellHandle x 0 → h < 2 ^ 18 →
    ∃ t, exec (.link a x v .double) s = .next t ∧ (t.cell h).oos = true ∧ (t.cell h).alloc = false ∧
      (∀ g, g ≠ h → t.cell g = s.cell g) ∧ bits (t.rdA a.num .pkmCellResult x 0) 24 4 = 4 ∧
      State.frame [.cells, .events, .ports, .regs, .sent, .access, .free] s t)

/-! ### Dispatch -/

/-- R160-R162, R169, R179, R333: the decision on the oldest presented frame: held by a silent device (a host's frame is discarded), STOPPED
where its stall does not run, not run once admission has closed, its budget is spent, its cluster is not in service or its queue is
full, else queued at the cluster its bucket's map entry names. R161, R172: closing admission takes the frames of the closed course out
of the cluster queues; frames deferred two courses ago are presented again. -/
def Obligations.Dispatch : Prop :=
  ((∀ s : State, s.dispQ = [] → ∃ t, exec .dispatchDecide s = .next t ∧ State.frame [] s t) ∧
   (∀ (s : State) (p : Pkt) (rest : List Pkt) (x c : Nat), s.dispQ = p :: rest → p.stall = some x → x < 16 → s.holdsFrames = false →
     s.runs x = true → s.closed x p.course = false →
     (s.f F.dspStallBudget_FRAMES x = 0 ∨ s.admittedIn x p.course < s.f F.dspStallBudget_FRAMES x) →
     c = s.mapFor x p.course p.bucket → s.inService c x = true → (s.clusterQ.get [] c).length < 512 →
     ∃ t, exec .dispatchDecide s = .next t ∧ t.dispQ = rest ∧ t.clusterQ.get [] c = s.clusterQ.get [] c ++ [p] ∧
       t.admittedIn x p.course = s.admittedIn x p.course + 1 ∧ t.freeAfter = s.freeAfter ∧ State.frame [.pipe, .dispatch, .regs, .threads] s t) ∧
   (∀ (s : State) (p : Pkt) (rest : List Pkt) (x : Nat), s.dispQ = p :: rest → p.stall = some x → x < 16 → s.holdsFrames = false →
     s.runs x = false →
     ∃ t, exec .dispatchDecide s = .next t ∧ t.dispQ = rest ∧ t.clusterQ = s.clusterQ ∧
       t.freeAfter = s.freeAfter ++ [(p.course, p.cell, true)] ∧ State.frame [.pipe, .dispatch, .cells, .regs, .settle] s t) ∧
   (∀ (s : State) (p : Pkt) (rest : List Pkt) (x : Nat), s.dispQ = p :: rest → p.stall = some x → x < 16 → s.holdsFrames = false →
     s.runs x = true →
     (s.closed x p.course = true ∨ (s.f F.dspStallBudget_FRAMES x ≠ 0 ∧ s.f F.dspStallBudget_FRAMES x ≤ s.admittedIn x p.course) ∨
       s.inService (s.mapFor x p.course p.bucket) x = false ∨ 512 ≤ (s.clusterQ.get [] (s.mapFor x p.course p.bucket)).length) →
     ∃ t, exec .dispatchDecide s = .next t ∧ t.dispQ = rest ∧ t.clusterQ = s.clusterQ ∧
       (s.f F.dspStallCtl_OVERRUN x = 0 → t.freeAfter = s.freeAfter ++ [(p.course, p.cell, true)] ∧ t.defers = s.defers) ∧
       (s.f F.dspStallCtl_OVERRUN x ≠ 0 → p.deferred = false → (s.defers.get [] x).length < 512 →
         t.freeAfter = s.freeAfter ∧ ∃ q, t.defers.get [] x = s.defers.get [] x ++ [q] ∧ q.deferred = true ∧ q.cell = p.cell) ∧
       State.frame [.pipe, .dispatch, .cells, .regs, .settle] s t) ∧
   (∀ (s : State) (p : Pkt) (rest : List Pkt), s.dispQ = p :: rest → s.holdsFrames = true → p.port < 8 →
     ∃ t h, exec .dispatchDecide s = .next t ∧ t.dispQ = rest ∧ t.heldFrames = s.heldFrames ++ [h] ∧ h.pkt = p ∧
       State.frame [.pipe, .settle] s t) ∧
   (∀ (s : State) (p : Pkt) (rest : List Pkt), s.dispQ = p :: rest → s.holdsFrames = true → 8 ≤ p.port →
     ∃ t, exec .dispatchDecide s = .next t ∧ t.dispQ = rest ∧ State.frame [.pipe, .cells, .events, .free, .ports, .regs, .sent] s t)) ∧
  ((∀ (s : State) (x : StallId), s.course ≠ 0 → s.closed x (s.course - 1) = true →
     ∃ t, exec (.admissionClose x) s = .next t ∧
       (∀ c, c < 16 → t.clusterQ.get [] c = (s.clusterQ.get [] c).filter fun p => !(p.stall == some x.val && s.closed x p.course)) ∧
       t.clusterRotor = s.clusterRotor ∧ t.maps = s.maps ∧ State.frame [.dispatch, .cells, .regs, .settle] s t) ∧
   (∀ s : State,
     ∃ t again, exec .deferReadmit s = .next t ∧ t.dispQ = s.dispQ ++ again ∧
       (∀ x, x < 16 → t.defers.get [] x = (s.defers.get [] x).filter fun p => !decide (p.course + 2 ≤ s.course)) ∧
       (∀ q ∈ again, q.course = s.course ∧ q.keyStamp = s.time.courseStart) ∧
       (∀ x, x < 16 → ∀ p ∈ s.defers.get [] x, p.course + 2 ≤ s.course → ∃ q ∈ again, q.port = p.port ∧ q.seq = p.seq ∧ q.cell = p.cell) ∧
       State.frame [.dispatch, .pipe, .settle] s t))

/-- R161, R163-R165, R309: the head of a cluster's queue is LATE past the close of its admission; else it takes a free window slot of a
thread that may take packets, with up to 512 bytes of the frame in the thread's window memory; its packet message then goes to the
thread, and its chain is held from then on. R173: a packet gets its station's turn only where no packet with an earlier key is
registered for the station on its cluster, the horizon has passed it and no fence holds its bucket. -/
def Obligations.WindowSlots : Prop :=
  ((∀ (s : State) (c : Fin 16), s.clusterQ.get [] c = [] → ∃ t, exec (.slotFill c) s = .next t ∧ State.frame [] s t) ∧
   (∀ (s : State) (c : Fin 16) (p : Pkt) (rest : List Pkt) (u : Nat), s.clusterQ.get [] c = p :: rest → s.fillThread c = some u →
     s.closed (p.stall.getD 0) p.course = true →
     ∃ t, exec (.slotFill c) s = .next t ∧ t.clusterQ.get [] c = rest ∧ (∀ w, t.th w = s.th w) ∧
       State.frame [.dispatch, .cells, .regs, .settle] s t) ∧
   (∀ (s : State) (c : Fin 16) (p : Pkt) (rest : List Pkt) (u : Nat), s.clusterQ.get [] c = p :: rest → s.fillThread c = some u →
     s.closed (p.stall.getD 0) p.course = false →
     ∃ t i q, exec (.slotFill c) s = .next t ∧ clusterOf u = c.val ∧ i < 4 ∧ (s.th u).slot i = none ∧ (t.th u).slot i = some q ∧ q.pkt = p ∧
       q.phase = 0 ∧ (∀ j, j ≠ i → (t.th u).slot j = (s.th u).slot j) ∧ (∀ w, w ≠ u → t.th w = s.th w) ∧ t.clusterQ.get [] c = rest ∧
       (∀ j, 2 * j + 1 < min 512 p.len → t.sramWord (coreOf u) (0x6000 + 1024 * (u % 8) + 256 * i + j) =
         ((s.chainBytes p.cell 0 (min 512 p.len)).getD (2 * j) 0).toNat * 256 +
           ((s.chainBytes p.cell 0 (min 512 p.len)).getD (2 * j + 1) 0).toNat) ∧
       State.frame [.dispatch, .sram, .threads] s t) ∧
   (∀ (s : State) (u : Fin 1024) (i : Fin 4) (p : SlotPkt), (s.th u).slot i = some p → p.phase = 0 →
     ((s.chanQ (chanKey (clusterOf u) 0)).filter fun m => m.dest == u.val).length < 4 →
     ∃ t m, exec (.packetPost u i) s = .next t ∧ t.chanQ (chanKey (clusterOf u) 0) = s.chanQ (chanKey (clusterOf u) 0) ++ [m] ∧
       m.words = p.pkt.desc ++ [word i] ∧ m.dest = u.val ∧ (t.th u).slot i = some { p with phase := 1 } ∧ t.lockQ = s.lockQ ∧
       t.chanCfg = s.chanCfg ∧ (t.cell p.pkt.cell).held = true ∧ (∀ h, h ≠ p.pkt.cell → t.cell h = s.cell h) ∧
       State.frame [.cells, .chans, .threads] s t)) ∧
  ((∀ (s : State) (u : Tid) (i : Fin 4) (p : SlotPkt) (r : FarReq), (s.th u).slot i = some p → p.phase = 2 → p.turn = false →
     p.pkt.handle.isSome = true → s.turnOk (clusterOf u) p.pkt = true → (s.th u).wait = .far r → r.turnWait = true →
     ∃ t, exec (.turnGrant u i) s = .next t ∧ (t.th u).slot i = some { p with turn := true } ∧
       (t.th u).wait = .far { r with turnWait := false } ∧ (∀ w, w ≠ u.val → t.th w = s.th w) ∧ State.frame [.threads] s t) ∧
   (∀ (s : State) (u : Tid) (i : Fin 4) (p : SlotPkt), (s.th u).slot i = some p → s.turnOk (clusterOf u) p.pkt = false →
     ∃ t, exec (.turnGrant u i) s = .next t ∧ State.frame [] s t) ∧
   (∀ (s : State) (c : Nat) (p : Pkt) (e : Nat × Nat × SlotPkt), s.turnOk c p = true → e ∈ s.clusterPackets c → e.2.2.pkt.handle = p.handle →
     p.key ≤ e.2.2.pkt.key))

/-- R166, R167, R171, R309: a retire message, whose CHE has found that it is in time for a running packet, takes the packet out of its
slot: PASS lets its output requests go, CONSUME withdraws them, and its cells are freed once its course is settled. A message for a
slot whose packet has left in between does nothing. R169: after the packet deadlines of a strobe no packet two courses old is in a slot
or in a cluster's queue. -/
def Obligations.RetireAndDeadline : Prop :=
  ((∀ (s : State) (c : Fin 16), s.chanQ (chanKey c 1) = [] → ∃ t, exec (.retire c) s = .next t ∧ State.frame [] s t) ∧
   (∀ (s : State) (c : Fin 16) (m : Msg) (rest : List Msg) (i v : Nat) (p : SlotPkt), s.chanQ (chanKey c 1) = m :: rest →
     i = (m.words.headD 0).toNat % 4 → v = bits (m.words.headD 0).toNat 2 2 → (s.th m.sender).slot i = some p → p.phase = 3 →
     (v = 1 ∨ v = 2) →
     ∃ t, exec (.retire c) s = .next t ∧ t.chanQ (chanKey c 1) = rest ∧ (t.th m.sender).slot i = none ∧
       (p.pkt.course, p.pkt.cell, true) ∈ t.freeAfter ∧
       (∀ b ∈ t.banks, ∀ r ∈ b.outs, r.ofPkt = some (p.pkt.port, p.pkt.seq.toNat) → r.course = p.pkt.course → v = 1 ∧ r.live = true) ∧
       State.frame [.cells, .chans, .dispatch, .dram, .dramCtl, .events, .free, .gate, .ports, .regs, .sent, .settle, .stations, .threads] s t) ∧
   (∀ (s : State) (c : Fin 16) (m : Msg) (rest : List Msg), s.chanQ (chanKey c 1) = m :: rest →
     (∀ p, (s.th m.sender).slot ((m.words.headD 0).toNat % 4) = some p → p.phase ≠ 3) →
     ∃ t, exec (.retire c) s = .next t ∧ t.chanQ (chanKey c 1) = rest ∧ State.frame [.chans] s t)) ∧
  (∀ s : State, s.deadlineDue = true →
     ∃ t, exec .packetDeadline s = .next t ∧ (∀ u i p, (t.th u).slot i = some p → s.course < p.pkt.course + 2) ∧
       (∀ c, c < 16 → ∀ p ∈ t.clusterQ.get [] c, s.course < p.course + 2) ∧
       State.frame [.cells, .chans, .dispatch, .dram, .dramCtl, .events, .free, .gate, .ports, .regs, .sent, .settle, .sram, .stations, .threads] s t)

/-- R178, R179: the staged bank of a stall's bucket map is loaded eight entries at a time; SWITCH asks for a bucket move, which is refused
where an entry names a cluster that does not serve the stall. R179, R180, R181: fences lift, clusters change owner zeroed, and a
cluster may be taken out of service for another of its stall. -/
def Obligations.Placement : Prop :=
  ((∀ (s : State) (a : Accessor) (x : Target) (v : Word32) (y bank i : Nat), s.permits a .dspMaploadData x 0 v.toNat →
     s.mapPtr x = (y, bank, i) → bank ≠ s.activeBank y → (x.val = 16 → s.f F.scpStallState_STATE y ≠ 0) →
     ∃ t, exec (.mapLoadWrite a x v) s = .next t ∧ (∀ j, j < 8 → t.mapEntry y bank (8 * i + j) = bits v.toNat (4 * j) 4) ∧
       (∀ k, k < mapKey y bank (8 * i) ∨ mapKey y bank (8 * i) + 8 ≤ k → t.maps.get 0 k = s.maps.get 0 k) ∧
       t.f F.dspMaploadPtr_INDEX x = (i + 1) % 2 ^ F.dspMaploadPtr_INDEX.width ∧ t.moves = s.moves ∧
       State.frame [.dispatch, .regs, .access] s t ∧ State.regsBut s t [Reg.key .dspMaploadPtr 0 x 0]) ∧
   (∀ (s : State) (a : Accessor) (x : Target) (v : Word32) (y bank i : Nat), s.permits a .dspMaploadData x 0 v.toNat →
     s.mapPtr x = (y, bank, i) → bank = s.activeBank y →
     ∃ t, exec (.mapLoadWrite a x v) s = .next t ∧ t.f F.dspMaploadStat_LAST_REASON x = 1 ∧ (t.resp.get Resp.reset a.num).refused = true ∧
       State.frame [.regs, .access] s t) ∧
   (∀ (s : State) (a : Accessor) (x : StallId) (v : Word32), s.permits a .dspStallMap x 0 (withField v 0 1 1) →
     ((∀ b, b < 4096 → s.inService (s.mapEntry x (1 - s.activeBank x) b) x = true) → s.maintBusy (0x50 + x) = none →
       ∃ t, exec (.bucketMove a x v) s = .next t ∧ t.f F.dspStallMap_STATUS x = 1 ∧ t.maint = (0x50 + x.val) :: s.maint ∧
         t.moves = s.moves ++ [{ stall := x, start := s.course + 1, live := false, oos := none }] ∧ t.maps = s.maps ∧
         State.frame [.dispatch, .maint, .regs, .access] s t) ∧
     (∀ b, b < 4096 → s.inService (s.mapEntry x (1 - s.activeBank x) b) x = false →
       ∃ t, exec (.bucketMove a x v) s = .next t ∧ t.f F.dspStallMap_STATUS x = 3 ∧ t.f F.dspStallMap_REASON x = 1 ∧
         State.frame [.regs, .access] s t ∧ State.regsBut s t [Reg.key .dspStallMap 0 x 0]))) ∧
  ((∀ (s : State) (x : StallId) (b : Fin 4096) (f : Fence), f ∈ s.fences → f.stall = x.val → f.bucket = b.val → s.bucketOn x b f.old = false →
     ∃ t, exec (.moveFenceLift x b) s = .next t ∧ (∀ g, g ∈ t.fences ↔ g ∈ s.fences ∧ ¬(g.stall = x.val ∧ g.bucket = b.val)) ∧
       t.maps = s.maps ∧ State.frame [.dispatch, .events, .maint, .regs, .free] s t) ∧
   (∀ (s : State) (c : Fin 16) (g : Gift), s.gifts.get none c = some g →
     ∃ t, exec (.clusterZeroed c) s = .next t ∧ t.gifts.get none c = some { g with zeroed := true } ∧ t.maps = s.maps ∧
       t.clusterQ = s.clusterQ ∧ State.frame [.dispatch] s t) ∧
   (∀ (s : State) (a : Accessor) (c : Fin 16) (v : Word32) (x : Nat), s.permits a .dspCluster c 0 v.toNat → x = v.toNat % 32 → x < 16 →
     16 ≤ s.clusterOwner c → s.lowKept x (s.setF F.dspCluster_OWNER c x) = true →
     ∃ t, exec (.clusterOwnerWrite a c v) s = .next t ∧ t.clusterOwner c = x ∧ t.f F.dspCluster_STATE c = 0 ∧
       t.gifts.get none c = some { owner := x, zeroed := false } ∧ (∀ k, k / 262144 = c.val → t.sram.get 0 k = 0) ∧
       (∀ k, k / 524288 = c.val → t.clMem.get 0 k = 0) ∧ (∀ k, k / 131072 = c.val → t.code.get 0 k = 0) ∧
       State.frame [.cells, .chans, .dispatch, .dram, .dramCtl, .events, .free, .gate, .ports, .regs, .sent, .settle, .sram, .stations, .threads,
         .access] s t) ∧
   (∀ (s : State) (a : Accessor) (c : Fin 16) (v : Word32), s.permits a .dspCluster c 0 v.toNat → s.clusterOwner c < 16 →
     s.clusterOwner c ≠ v.toNat % 32 → s.removable c = false →
     ∃ t, exec (.clusterOwnerWrite a c v) s = .next t ∧ (t.resp.get Resp.reset a.num).refused = true ∧ State.frame [.access] s t) ∧
   (∀ (s : State) (a : Accessor) (v : Word32) (c r x : Nat), s.permits a .dspOos 0 0 (withField v 8 1 1) → c = bits v.toNat 0 4 →
     r = bits v.toNat 4 4 → x = s.clusterOwner c → x < 16 → r ≠ c → s.inService r x = true →
     s.lowKept x (s.setF F.dspCluster_OWNER c 31) = true → s.maintBusy (0x50 + x) = none →
     ∃ t, exec (.clusterOutOfService a v) s = .next t ∧ t.f F.dspOos_STATUS = 1 ∧ t.maint = (0x50 + x) :: s.maint ∧
       t.moves = s.moves ++ [{ stall := x, start := s.course + 1, live := false, oos := some (c, r) }] ∧
       State.frame [.dispatch, .maint, .regs, .access] s t))

/-- R308: a request that fails a check is answered with the check's code and leaves nothing behind; one that passes and asks for no
encryption enters its course's bank whole. -/
def Obligations.OutputRequest : Prop :=
  (∀ (s : State) (a : Accessor) (x : Target) (v : Word32) (c : Nat), s.permits a .swcOutCmd x 0 (withField v 0 1 1) →
    s.outCheck x (s.outRegs a.num x)
      (match accThread a with | some u => ((s.th u).current).isSome | none => false) = some c →
    ∃ t, exec (.outputRequest a x v) s = .next t ∧ t.fA a.num F.swcOutResult_CODE x = c ∧ State.frame [.regs, .access] s t ∧
      State.regsBut s t [Reg.key .swcOutResult a.num x 0]) ∧
  (∀ (s s1 : State) (a : Accessor) (x : Target) (v : Word32) (cur : Option SlotPkt) (r : OutRegs) (course : Nat),
    s.permits a .swcOutCmd x 0 (withField v 0 1 1) →
    cur = (match accThread a with | some u => ((s.th u).current).map (·.2) | none => none) → r = s.outRegs a.num x →
    s.outCheck x r cur.isSome = none → r.flag 0 = false → course = (s.outOrder cur).2.2.2.2 → s.needBank course = some s1 →
    (s1.bankOuts course).length < 32768 →
    ∃ t q, exec (.outputRequest a x v) s = .next t ∧ t.bankOuts course = s1.bankOuts course ++ [q] ∧ q.cell = r.handle ∧ q.len = r.len ∧
      q.output = r.output ∧ q.queue = r.queue ∧ q.stall = x.val ∧ q.live = cur.isNone ∧
      (t.cell r.handle).held = true ∧ t.fA a.num F.swcOutResult_CODE x = 0 ∧ t.fA a.num F.swcOutResult_HANDLE x = r.handle ∧
      State.frame [.regs, .access, .gate, .cells, .threads] s t)

/-! ### Phouz instructions (R206-R254) -/

/-- R193, R230, R234, R238-R241: the register instructions: a := f(fl, a, b) with the flags of the group, in every form; those that read a
carry read fl as they read a register, and the flags outside their group stay; a shift by 0 changes nothing. -/
def Obligations.RegisterOps : Prop :=
  (∀ e ∈ ([(Instr.mov, 0x01, fun fl _ y => ⟨y, fl⟩), (Instr.add, 0x02, fun fl x y => add16 fl x y 0),
      (Instr.sub, 0x04, fun fl x y => sub16 fl x y 0), (Instr.and, 0x07, fun fl x y => logic16 fl (Nat.land x y)),
      (Instr.or, 0x08, fun fl x y => logic16 fl (Nat.lor x y)), (Instr.xor, 0x09, fun fl x y => logic16 fl (Nat.xor x y)),
      (Instr.dshl, 0x12, dshl16), (Instr.dshr, 0x13, dshr16)] :
      List ((Tid → Fin 32 → Fin 32 → Instr) × Nat × (Nat → Nat → Nat → Res16))),
    ∀ (s : State) (u : Tid) (a b : Fin 32) (x y : Nat), s.canIssue u [enc e.2.1 a b] → regOk a = true → regOk b = true → s.reads2 u a b x y →
      ∃ t, exec (e.1 u a b) s = .next t ∧ (s.th u).took (t.th u) a (e.2.2 (s.th u).fl x y).val ∧
        (a.val ≠ 25 → (t.th u).fl = (e.2.2 (s.th u).fl x y).fl) ∧ s.ranOn t u 1) ∧
  (∀ e ∈ ([(Instr.adc, 0x03, 16, fun fl x y => add16 fl x y (boolNat (flC fl))), (Instr.sbc, 0x05, 16, fun fl x y => sub16 fl x y (boolNat (flC fl))),
      (Instr.dadd, 0x0F, 6, dec16 false), (Instr.dsub, 0x10, 6, dec16 true), (Instr.daj, 0x11, 14, daj16)] :
      List ((Tid → Fin 32 → Fin 32 → Instr) × Nat × Nat × (Nat → Nat → Nat → Res16))),
    ∀ (s : State) (u : Tid) (a b : Fin 32) (x y fl : Nat), s.canIssue u [enc e.2.1 a b] → regOk a = true → regOk b = true →
      s.reads3 u a b x y fl →
      ∃ t, exec (e.1 u a b) s = .next t ∧ (s.th u).took (t.th u) a (e.2.2.2 fl x y).val ∧
        (a.val ≠ 25 → (t.th u).fl = keepFl e.2.2.1 (e.2.2.2 fl x y).fl (s.th u).fl) ∧ s.ranOn t u 1) ∧
  (∀ e ∈ ([(Instr.shl, 0x0A, ShiftKind.shl), (Instr.shr, 0x0B, ShiftKind.shr), (Instr.sar, 0x0C, ShiftKind.sar)] :
      List ((Tid → Fin 32 → Fin 32 → Instr) × Nat × ShiftKind)),
    ∀ (s : State) (u : Tid) (a b : Fin 32) (x y : Nat), s.canIssue u [enc e.2.1 a b] → regOk a = true → regOk b = true → s.reads2 u a b x y →
      ∃ t, exec (e.1 u a b) s = .next t ∧
        (y % 32 ≠ 0 → (s.th u).took (t.th u) a (shift16 e.2.2 (s.th u).fl x (y % 32)).val ∧
          (a.val ≠ 25 → (t.th u).fl = (shift16 e.2.2 (s.th u).fl x (y % 32)).fl)) ∧
        (y % 32 = 0 → (s.th u).wordsBut (t.th u) [] ∧ (t.th u).fl = (s.th u).fl) ∧ s.ranOn t u 1)

/-- R234: the table "Register arithmetic": each row's operation on reg[a] and reg[b] and its flags, the others unchanged; CMP writes
nothing. fl as the destination takes the result's low bits in place of the flags (R207). -/
def Obligations.RegisterArithmetic : Prop :=
  ∀ e ∈ ([(Instr.mov, 0x01, fun _ kept _ y v fl' => v = y ∧ fl' = kept),
      (Instr.add, 0x02, fun _ kept x y v fl' => v = (x + y) % 65536 ∧ (flC fl' = true ↔ 65536 ≤ x + y) ∧
        (flV fl' = true ↔ signed 16 v ≠ signed 16 x + signed 16 y) ∧ signs v fl' ∧ flDC fl' = flDC kept),
      (Instr.adc, 0x03, fun fl kept x y v fl' => v = (x + y + boolNat (flC fl)) % 65536 ∧ (flC fl' = true ↔ 65536 ≤ x + y + boolNat (flC fl)) ∧
        (flV fl' = true ↔ signed 16 v ≠ signed 16 x + signed 16 y + boolNat (flC fl)) ∧ signs v fl' ∧ flDC fl' = flDC kept),
      (Instr.sub, 0x04, fun _ kept x y v fl' => (v + y) % 65536 = x ∧ (flC fl' = true ↔ x < y) ∧
        (flV fl' = true ↔ signed 16 v ≠ signed 16 x - signed 16 y) ∧ signs v fl' ∧ flDC fl' = flDC kept),
      (Instr.sbc, 0x05, fun fl kept x y v fl' => (v + y + boolNat (flC fl)) % 65536 = x ∧ (flC fl' = true ↔ x < y + boolNat (flC fl)) ∧
        (flV fl' = true ↔ signed 16 v ≠ signed 16 x - signed 16 y - boolNat (flC fl)) ∧ signs v fl' ∧ flDC fl' = flDC kept),
      (Instr.cmp, 0x06, fun _ kept x y v fl' => (v + y) % 65536 = x ∧ (flC fl' = true ↔ x < y) ∧
        (flV fl' = true ↔ signed 16 v ≠ signed 16 x - signed 16 y) ∧ signs v fl' ∧ flDC fl' = flDC kept),
      (Instr.and, 0x07, fun _ kept x y v fl' => v = Nat.land x y ∧ flV fl' = false ∧ signs v fl' ∧ flC fl' = flC kept ∧ flDC fl' = flDC kept),
      (Instr.or, 0x08, fun _ kept x y v fl' => v = Nat.lor x y ∧ flV fl' = false ∧ signs v fl' ∧ flC fl' = flC kept ∧ flDC fl' = flDC kept),
      (Instr.xor, 0x09, fun _ kept x y v fl' => v = Nat.xor x y ∧ flV fl' = false ∧ signs v fl' ∧ flC fl' = flC kept ∧ flDC fl' = flDC kept)] :
      List ((Tid → Fin 32 → Fin 32 → Instr) × Nat × (Nat → Nat → Nat → Nat → Nat → Nat → Prop))),
    ∀ (s : State) (u : Tid) (a b : Fin 32) (x y fl : Nat), s.canIssue u [enc e.2.1 a b] → regOk a = true → regOk b = true →
      s.reads3 u a b x y fl → x < 65536 → y < 65536 →
      ∃ t v fl', exec (e.1 u a b) s = .next t ∧ v < 65536 ∧ e.2.2 fl (s.th u).fl x y v fl' ∧
        (if e.2.1 = 0x06 then (s.th u).wordsBut (t.th u) [] else (s.th u).took (t.th u) a v) ∧
        ((a.val ≠ 25 ∨ e.2.1 = 0x06) → (t.th u).fl = fl') ∧ s.ranOn t u 1

/-- R234, R235: CMP, CMPI and TSTI set the flags alone. R235, R236, R238, R224: instructions with a constant and on one register. R237: MUL
and MULS write the 32-bit product to a pair, and only the flags where the pair is the zero pair. R207: after CMP the condition codes
order the operands, as numbers without and with sign. -/
def Obligations.ComparesAndConstants : Prop :=
  ((∀ (s : State) (u : Tid) (a b : Fin 32) (x y : Nat), s.canIssue u [enc 0x06 a b] → regOk a = true → regOk b = true → s.reads2 u a b x y →
     ∃ t, exec (.cmp u a b) s = .next t ∧ (t.th u).fl = (sub16 (s.th u).fl x y 0).fl ∧ (s.th u).wordsBut (t.th u) [] ∧ s.ranOn t u 1) ∧
   (∀ (s s1 : State) (u : Tid) (a : Fin 32) (imm : Word) (x : Nat), s.canIssue u [enc 0x14 a 3, imm.toNat] → regOk a = true →
     s.readReg u a = (x, s1) →
     ∃ t, exec (.cmpi u a imm) s = .next t ∧ (t.th u).fl = (sub16 (s.th u).fl x imm.toNat 0).fl ∧ (s.th u).wordsBut (t.th u) [] ∧
       s.ranOn t u 2) ∧
   (∀ (s s1 : State) (u : Tid) (a : Fin 32) (imm : Word) (x : Nat), s.canIssue u [enc 0x14 a 7, imm.toNat] → regOk a = true →
     s.readReg u a = (x, s1) →
     ∃ t, exec (.tsti u a imm) s = .next t ∧ (t.th u).fl = (logic16 (s.th u).fl (Nat.land x imm.toNat)).fl ∧
       (s.th u).wordsBut (t.th u) [] ∧ s.ranOn t u 2)) ∧
  ((∀ e ∈ ([(Instr.movi, 0, fun fl _ y => ⟨y, fl⟩), (Instr.addi, 1, fun fl x y => add16 fl x y 0), (Instr.subi, 2, fun fl x y => sub16 fl x y 0),
       (Instr.andi, 4, fun fl x y => logic16 fl (Nat.land x y)), (Instr.ori, 5, fun fl x y => logic16 fl (Nat.lor x y)),
       (Instr.xori, 6, fun fl x y => logic16 fl (Nat.xor x y))] :
       List ((Tid → Fin 32 → Word → Instr) × Nat × (Nat → Nat → Nat → Res16))),
     ∀ (s s1 : State) (u : Tid) (a : Fin 32) (imm : Word) (x : Nat), s.canIssue u [enc 0x14 a e.2.1, imm.toNat] → regOk a = true →
       s.readReg u a = (x, s1) →
       ∃ t, exec (e.1 u a imm) s = .next t ∧ (s.th u).took (t.th u) a (e.2.2 (s.th u).fl x imm.toNat).val ∧
         (a.val ≠ 25 → (t.th u).fl = (e.2.2 (s.th u).fl x imm.toNat).fl) ∧ s.ranOn t u 2) ∧
   (∀ e ∈ ([(Instr.shlq, 0x15, ShiftKind.shl), (Instr.shrq, 0x16, ShiftKind.shr), (Instr.sarq, 0x17, ShiftKind.sar)] :
       List ((Tid → Fin 32 → Fin 32 → Instr) × Nat × ShiftKind)),
     ∀ (s s1 : State) (u : Tid) (a n : Fin 32) (x : Nat), s.canIssue u [enc e.2.1 a n] → regOk a = true → s.readReg u a = (x, s1) →
       ∃ t, exec (e.1 u a n) s = .next t ∧
         (n.val ≠ 0 → (s.th u).took (t.th u) a (shift16 e.2.2 (s.th u).fl x n).val ∧
           (a.val ≠ 25 → (t.th u).fl = (shift16 e.2.2 (s.th u).fl x n).fl)) ∧
         (n.val = 0 → (s.th u).wordsBut (t.th u) [] ∧ (t.th u).fl = (s.th u).fl) ∧ s.ranOn t u 1) ∧
   (∀ e ∈ ([(Instr.not, 0, fun fl x => unary16 fl (65535 - x)), (Instr.neg, 1, fun fl x => sub16 fl 0 x 0),
       (Instr.swapb, 2, fun fl x => unary16 fl (x / 256 + x % 256 * 256)), (Instr.zxb, 3, fun fl x => unary16 fl (x % 256)),
       (Instr.sxb, 4, fun fl x => unary16 fl (unsigned 16 (signed 8 x)))] : List ((Tid → Fin 32 → Instr) × Nat × (Nat → Nat → Res16))),
     ∀ (s s1 : State) (u : Tid) (a : Fin 32) (x : Nat), s.canIssue u [enc 0x18 a e.2.1] → regOk a = true → s.readReg u a = (x, s1) →
       ∃ t, exec (e.1 u a) s = .next t ∧ (s.th u).took (t.th u) a (e.2.2 (s.th u).fl x).val ∧
         (a.val ≠ 25 → (t.th u).fl = (e.2.2 (s.th u).fl x).fl) ∧ s.ranOn t u 1) ∧
   (∀ (s : State) (u : Tid) (a : Fin 32) (n : Fin 4), s.canIssue u [enc 0x18 a (8 + n.val)] → regOk a = true →
     ∃ t, exec (.rdf u a n) s = .next t ∧ (s.th u).took (t.th u) a (featWord (isHouseThread u) n) ∧
       (a.val ≠ 25 → (t.th u).fl = (s.th u).fl) ∧ s.ranOn t u 1)) ∧
  (∀ e ∈ ([(Instr.mul, 0x0D, false), (Instr.muls, 0x0E, true)] : List ((Tid → Fin 32 → Fin 32 → Instr) × Nat × Bool)),
     ∀ (s : State) (u : Tid) (a b : Fin 32) (x y : Nat), s.canIssue u [enc e.2.1 a b] → pairOk a = true → regOk b = true → s.reads2 u a b x y →
       ∃ t, exec (e.1 u a b) s = .next t ∧ (t.th u).fl = (mul16 e.2.2 (s.th u).fl x y).fl ∧
         (a.val = 24 → (s.th u).wordsBut (t.th u) []) ∧
         (∀ k k', (s.th u).key a = some k → (s.th u).key (a + 1) = some k' →
           (t.th u).keyWord k = word (mul16 e.2.2 (s.th u).fl x y).val ∧
           (t.th u).keyWord k' = word ((mul16 e.2.2 (s.th u).fl x y).val / 65536) ∧ (s.th u).wordsBut (t.th u) [k, k']) ∧ s.ranOn t u 1) ∧
  (∀ fl a b, a < 65536 → b < 65536 →
     (condTrue (sub16 fl a b 0).fl 0 = true ↔ a = b) ∧ (condTrue (sub16 fl a b 0).fl 2 = true ↔ a < b) ∧
     (condTrue (sub16 fl a b 0).fl 8 = true ↔ b < a) ∧ (condTrue (sub16 fl a b 0).fl 9 = true ↔ a ≤ b) ∧
     (condTrue (sub16 fl a b 0).fl 10 = true ↔ signed 16 b ≤ signed 16 a) ∧ (condTrue (sub16 fl a b 0).fl 11 = true ↔ signed 16 a < signed 16 b) ∧
     (condTrue (sub16 fl a b 0).fl 12 = true ↔ signed 16 b < signed 16 a) ∧ (condTrue (sub16 fl a b 0).fl 13 = true ↔ signed 16 a ≤ signed 16 b))

/-- R239: DADD and DSUB, digit by digit: the carry or borrow runs from DC through the four digits, V says that a digit was none, Z is of
the result, C and N stay; on valid packed decimals that is decimal addition and subtraction modulo 10,000. -/
def Obligations.PackedDecimal : Prop :=
  (∀ e ∈ ([(Instr.dadd, 0x0F, fun (x y c : Int) => x + y + c, fun (n : Int) => decide (10 ≤ n)),
      (Instr.dsub, 0x10, fun x y c => x - y - c, fun n => decide (n < 0))] :
      List ((Tid → Fin 32 → Fin 32 → Instr) × Nat × (Int → Int → Int → Int) × (Int → Bool))),
    ∀ (s : State) (u : Tid) (a b : Fin 32) (x y fl : Nat), s.canIssue u [enc e.2.1 a b] → regOk a = true → regOk b = true →
      s.reads3 u a b x y fl → x < 65536 → y < 65536 →
      ∃ t v, ∃ c : Nat → Nat, exec (e.1 u a b) s = .next t ∧ v < 65536 ∧ c 0 = boolNat (flDC fl) ∧
        (∀ i, i < 4 → (c (i + 1) = if e.2.2.2 (e.2.2.1 (digit x i) (digit y i) (c i)) then 1 else 0) ∧
          (digit v i : Int) = if e.2.2.2 (e.2.2.1 (digit x i) (digit y i) (c i)) then
              (e.2.2.1 (digit x i) (digit y i) (c i) + (if e.2.1 = 0x0F then -10 else 10)) % 16
            else e.2.2.1 (digit x i) (digit y i) (c i)) ∧
        (s.th u).took (t.th u) a v ∧
        (a.val ≠ 25 → (flDC (t.th u).fl = true ↔ c 4 = 1) ∧ (flV (t.th u).fl = true ↔ ∃ i, i < 4 ∧ (9 < digit x i ∨ 9 < digit y i)) ∧
          (flZ (t.th u).fl = true ↔ v = 0) ∧ flC (t.th u).fl = flC (s.th u).fl ∧ flN (t.th u).fl = flN (s.th u).fl) ∧ s.ranOn t u 1) ∧
  (∀ fl a b, a < 65536 → b < 65536 → (∀ i, i < 4 → digit a i ≤ 9 ∧ digit b i ≤ 9) →
    packedValue (dec16 false fl a b).val = (packedValue a + packedValue b + boolNat (flDC fl)) % 10000 ∧
    (flDC (dec16 false fl a b).fl = true ↔ 10000 ≤ packedValue a + packedValue b + boolNat (flDC fl)) ∧
    flV (dec16 false fl a b).fl = false ∧
    packedValue (dec16 true fl a b).val = (packedValue a + 10000 - packedValue b - boolNat (flDC fl)) % 10000 ∧
    (flDC (dec16 true fl a b).fl = true ↔ packedValue a < packedValue b + boolNat (flDC fl)) ∧
    flV (dec16 true fl a b).fl = false)

/-- R213, R214, R221, R222, R242: a near load from local SRAM that no buffered store meets: the words at the effective address come into
the register or pair, and the base register moves as the mode says (but not where it is the destination). R195, R196, R221, R222, R242:
a near store to local SRAM enters the core's store buffer, with the value its register had before the base moved; the SRAM itself is as
before until the buffer drains. R213: a near access that its region refuses performs nothing and takes the ACCESS trap. -/
def Obligations.NearAccesses : Prop :=
  (∀ (s s1 s2 : State) (u : Tid) (a b : Fin 32) (d w : Word),
     ∀ e ∈ ([(Instr.ldReg u a b .ok, 0x25, false, Mode.reg), (Instr.ldPostinc u a b .ok, 0x26, false, .postInc),
         (Instr.ldDisp u a b d .ok, 0x27, false, .disp d.toNat), (Instr.ldIndex u a b w .ok, 0x28, false, .index w.toNat),
         (Instr.ldpPostinc u a b .ok, 0x2E, true, .postInc), (Instr.ldpDisp u a b d .ok, 0x2F, true, .disp d.toNat)] :
         List (Instr × Nat × Bool × Mode)),
       ∀ (base x n ea : Nat) (nb : Option Nat), s.canIssue u (enc e.2.1 a b :: e.2.2.2.words) →
         (if e.2.2.1 then pairOk a else regOk a) = true → regOk b = true → e.2.2.2.legal = true → s.readReg u b = (base, s1) →
         s1.readIndex u e.2.2.2 = (x, s2) → n = (if e.2.2.1 then 2 else 1) → e.2.2.2.address base x n 65536 = (ea, nb) → ea < 65536 →
         s.nearFault u ea e.2.2.1 false = none → nearRegion ea ≤ 2 → overlap (s.core (coreOf u)).sb ea n = none →
         ∃ t, exec e.1 s = .next t ∧
           (∀ k, e.2.2.1 = false → a.val ≠ 25 → (s.th u).key a = some k → (t.th u).keyWord k = word (s.sramWord (coreOf u) ea)) ∧
           (∀ k k', e.2.2.1 = true → (s.th u).key a = some k → (s.th u).key (a + 1) = some k' →
             (t.th u).keyWord k = word (s.sramWord (coreOf u) ea) ∧ (t.th u).keyWord k' = word (s.sramWord (coreOf u) (ea + 1))) ∧
           (∀ k v, nb = some v → b.val ≠ 25 → (s.th u).key b = some k → a ≠ b → (e.2.2.1 = true → a.val + 1 ≠ b.val) →
             (t.th u).keyWord k = word v) ∧
           (∀ v, nb = some v → b.val = 25 → a ≠ b → (t.th u).fl = v % 32) ∧
           (∀ k, (∀ c, (c = a.val ∨ (e.2.2.1 = true ∧ c = a.val + 1) ∨ (nb ≠ none ∧ c = b.val)) → (s.th u).key c ≠ some k) →
             (t.th u).keyWord k = (s.th u).keyWord k) ∧
           (a.val ≠ 25 → b.val ≠ 25 → (t.th u).fl = (s.th u).fl) ∧
           (a.val = 25 → (t.th u).fl = s.sramWord (coreOf u) ea % 32) ∧ s.ranOn t u (1 + e.2.2.2.words.length)) ∧
  (∀ (s s1 s2 s3 : State) (u : Tid) (a b : Fin 32) (d w : Word),
     ∀ e ∈ ([(Instr.stReg u a b, 0x29, false, Mode.reg), (Instr.stPostinc u a b, 0x2A, false, .postInc),
         (Instr.stPredec u a b, 0x2B, false, .preDec), (Instr.stDisp u a b d, 0x2C, false, .disp d.toNat),
         (Instr.stIndex u a b w, 0x2D, false, .index w.toNat), (Instr.stpPredec u a b, 0x30, true, .preDec),
         (Instr.stpPostinc u a b, 0x31, true, .postInc), (Instr.stpDisp u a b d, 0x32, true, .disp d.toNat)] : List (Instr × Nat × Bool × Mode)),
       ∀ (base x v n ea : Nat) (nb : Option Nat), s.canIssue u (enc e.2.1 a b :: e.2.2.2.words) →
         (if e.2.2.1 then pairOk a else regOk a) = true → regOk b = true → e.2.2.2.legal = true → s.readReg u b = (base, s1) →
         s1.readIndex u e.2.2.2 = (x, s2) → (if e.2.2.1 then s2.readPair u a else s2.readReg u a) = (v, s3) →
         n = (if e.2.2.1 then 2 else 1) → e.2.2.2.address base x n 65536 = (ea, nb) → ea < 65536 →
         s.nearFault u ea e.2.2.1 true = none → nearRegion ea ≤ 2 → (s.core (coreOf u)).sb.length < 8 →
         ∃ t q, exec e.1 s = .next t ∧ (t.core (coreOf u)).sb = (s.core (coreOf u)).sb ++ [q] ∧ q.addr = ea ∧ q.thread = u.val ∧
           q.data = (if e.2.2.1 then [word (v % 65536), word (v / 65536)] else [word v]) ∧
           (∀ k nv, nb = some nv → b.val ≠ 25 → (s.th u).key b = some k → (t.th u).keyWord k = word nv) ∧
           (∀ nv, nb = some nv → b.val = 25 → (t.th u).fl = nv % 32) ∧
           (∀ k, (nb ≠ none → (s.th u).key b ≠ some k) → (t.th u).keyWord k = (s.th u).keyWord k) ∧
           (b.val ≠ 25 → (t.th u).fl = (s.th u).fl) ∧ (∀ k, k ≠ coreOf u → t.core k = s.core k) ∧ s.ranOn t u (1 + e.2.2.2.words.length)) ∧
  (∀ (s s1 s2 : State) (u : Tid) (a b : Fin 32) (d : Word) (base x hi ea : Nat) (nb : Option Nat), s.canIssue u [enc 0x27 a b, d.toNat] →
     regOk a = true → regOk b = true → s.readReg u b = (base, s1) → s1.readIndex u (.disp d.toNat) = (x, s2) →
     Mode.address (.disp d.toNat) base x 1 65536 = (ea, nb) → ea < 65536 → s.nearFault u ea false false = some hi → s.trapReady u →
     ∃ t, exec (.ldDisp u a b d .ok) s = .next t ∧ s.trapped t u 2 0 ea hi (s.th u).pc ∧ s.othersKept t [u] ∧
       State.frame [.threads, .regs, .free] s t)

/-- R218-R220, R242, R243: a far access that its segment permits: a load blocks its thread until it is answered; a store to DRAM or to
cluster memory is posted and the thread goes on; the request carries the segment, the offset and the data. R195, R201, R218, R219,
R222, R243: a far load's data reaches its register and a far store its place, once the destination has answered; a pair at an odd
address goes as two requests, the low half first, outside DRAM in two commands; a refusal takes the far trap; a store that fails in
DRAM is lost; a cluster memory takes its stores in order. -/
def Obligations.FarAccesses : Prop :=
  (∀ (s s1 s2 s3 : State) (u : Tid) (a b : Fin 32) (d w : Word),
     ∀ e ∈ ([(Instr.ldfDisp u a b d, 0x33, true, false, Mode.disp d.toNat), (Instr.ldfPostinc u a b, 0x34, true, false, .postInc),
         (Instr.ldfIndex u a b w, 0x35, true, false, .index w.toNat), (Instr.stfDisp u a b d, 0x36, false, false, .disp d.toNat),
         (Instr.stfPostinc u a b, 0x37, false, false, .postInc), (Instr.ldfpDisp u a b d, 0x38, true, true, .disp d.toNat),
         (Instr.ldfpPostinc u a b, 0x39, true, true, .postInc), (Instr.stfpDisp u a b d, 0x3A, false, true, .disp d.toNat),
         (Instr.stfpPostinc u a b, 0x3B, false, true, .postInc)] : List (Instr × Nat × Bool × Bool × Mode)),
       ∀ (base x v n ea : Nat) (nb : Option Nat) (pl : Place), s.canIssue u (enc e.2.1 a b :: e.2.2.2.2.words) →
         (if e.2.2.2.1 then pairOk a else regOk a) = true → pairOk b = true → e.2.2.2.2.legal = true → s.readPair u b = (base, s1) →
         s1.readIndex u e.2.2.2.2 = (x, s2) →
         (if e.2.2.1 then (0, s2) else if e.2.2.2.1 then s2.readPair u a else s2.readReg u a) = (v, s3) →
         n = (if e.2.2.2.1 then 2 else 1) → e.2.2.2.2.address base x n (2 ^ 32) = (ea, nb) → ea < 2 ^ 32 →
         s.farCheck (s.tidOwner u) ea (!e.2.2.1) e.2.2.2.1 = .inl pl →
         ∃ t r, exec e.1 s = .next t ∧ r.seg = ea / 2 ^ 28 ∧ r.off = ea % 2 ^ 28 ∧ r.place = pl ∧ r.load = e.2.2.1 ∧
           r.data = (if e.2.2.1 then [] else if e.2.2.2.1 then [word v, word (v / 65536)] else [word v]) ∧
           ((e.2.2.1 = true ∨ (∀ z, pl ≠ .dram z) ∧ (∀ c z, pl ≠ .cluster c z)) →
             (t.th u).st = .blocked ∧ (t.th u).wait = .far r ∧ (t.th u).pc = (s.th u).pc ∧ (s.th u).wordsBut (t.th u) []) ∧
           (e.2.2.1 = false → ((∃ z, pl = .dram z) ∨ ∃ c z, pl = .cluster c z) →
             (t.th u).posted = (s.th u).posted ++ [r] ∧ (t.th u).st = .running ∧ (nb = none → (s.th u).wordsBut (t.th u) []) ∧
             (∀ k nv, nb = some nv → b.val < 24 → (s.th u).key b = some k → (t.th u).keyWord k = word nv) ∧
             (t.th u).pc = ((s.th u).pc + 1 + e.2.2.2.2.words.length) % 131072) ∧
           s.othersKept t [u] ∧ State.frame [.threads, .regs, .free] s t) ∧
  ((∀ (s : State) (u : Tid) (r : FarReq) (ws : List Word) (n : Nat), s.farLoadDue u = some r → (s.th u).st = .blocked → (s.th u).mchk = false →
     n = (if r.pair then 2 else 1) →
     ((∃ z, r.place = .dram z ∧ r.answer = some (some ws)) ∨
       (r.split = false ∧ ∃ c o, r.place = .cluster c o ∧ ws = (List.range n).map fun i => word (s.clWord c (o + i))) ∨
       (r.split = false ∧ ∃ c o, r.place = .packet c o ∧ s.cellReach (s.accOwner u.acc) c = true ∧
         ws = (List.range n).map fun i => word (s.placeRead (.packet c (o + i)))) ∨
       (r.split = false ∧ ∃ i w, r.place = .sa i w ∧ s.saReach (s.accOwner u.acc) i = true ∧
         ws = (List.range n).map fun k => word (s.saWord i (w + k)))) →
     ∃ t, exec (.farLoadResult u) s = .next t ∧
       (∀ i k, i < n → (s.th u).key (r.dst + i) = some k → k ≠ flKey → (r.pair = true → r.dst ≠ 23) →
         (t.th u).keyWord k = ws.getD i 0) ∧
       (r.base = none → r.pair = false → (s.th u).took (t.th u) r.dst (ws.getD 0 0).toNat) ∧
       (t.th u).st = .running ∧ (t.th u).wait = .none ∧ (t.th u).pc = ((s.th u).pc + r.len) % 131072 ∧
       (∀ w, w ≠ u.val → t.th w = s.th w) ∧ State.frame [.threads, .free] s t) ∧
   (∀ (s s1 : State) (u : Tid) (r : FarReq) (ws : List Word), s.farLoadDue u = some r → (s.th u).st = .blocked → (s.th u).mchk = false →
     ((∃ h w, r.place = .station h w) ∨ ∃ o, r.place = .control o) → s.placeReady r.target = true → r.split = false →
     s.placeLoad u.acc (some u.val) r.target (if r.pair then 2 else 1) = (some ws, s1) → s1.threads = s.threads →
     ∃ t, exec (.farLoadResult u) s = .next t ∧
       (r.base = none → r.pair = false → (s.th u).took (t.th u) r.dst (ws.getD 0 0).toNat) ∧
       (t.th u).st = .running ∧ (t.th u).wait = .none ∧ (t.th u).pc = ((s.th u).pc + r.len) % 131072 ∧
       (∀ w, w ≠ u.val → t.th w = s.th w) ∧ State.frame [.threads, .free] s1 t) ∧
   (∀ (s : State) (u : Tid) (r : FarReq) (c o : Nat), s.farLoadDue u = some r → (s.th u).st = .blocked → r.place = .cluster c o →
     r.split = true → r.low = none →
     ∃ t, exec (.farLoadResult u) s = .next t ∧
       t.th u = { s.th u with wait := .far { r with low := some (word (s.clWord c o)) } } ∧ (∀ w, w ≠ u.val → t.th w = s.th w) ∧
       State.frame [.threads] s t) ∧
   (∀ (s : State) (u : Tid) (r : FarReq), s.farLoadDue u = some r → (s.th u).st = .blocked → s.trapReady u →
     (∃ z, r.place = .dram z) → r.answer = some none →
     ∃ t, exec (.farLoadResult u) s = .next t ∧
       s.trapped t u 3 0 (r.seg * 2 ^ 28 + r.off) (4 + if r.second then 16 else 0) (s.th u).pc ∧ State.frame [.threads, .regs, .free] s t) ∧
   (∀ (s : State) (u : Tid) (r : FarReq) (h w : Nat), s.farLoadDue u = some r → (s.th u).st = .blocked → s.trapReady u →
     (∀ z, r.place ≠ .dram z) → r.target = .station h w → s.stnReady h = true → s.stnReach (s.accOwner u.acc) h = false →
     ∃ t, exec (.farLoadResult u) s = .next t ∧
       s.trapped t u 2 0 (r.seg * 2 ^ 28 + r.off) (4 + if r.second then 16 else 0) (s.th u).pc ∧ State.frame [.threads, .regs, .free] s t) ∧
   (∀ (s : State) (u : Tid) (r : FarReq) (c o : Nat), s.farStoreDue u = some r → (s.th u).st = .blocked → (s.th u).mchk = false →
     r.target = .packet c o → s.cellReach (s.accOwner u.acc) c = true → r.words.length ≤ 2 → o + r.words.length ≤ 128 →
     ∃ t, exec (.farStoreAccept u) s = .next t ∧
       (∀ i, i < r.words.length → t.placeRead (.packet c (o + i)) = (r.words.getD i 0).toNat) ∧
       ((r.split = false ∨ r.second = true) → (t.th u).st = .running ∧ (t.th u).pc = ((s.th u).pc + r.len) % 131072) ∧
       ((r.split = true ∧ r.second = false) → t.th u = { s.th u with wait := .far { r with low := r.data.head? } }) ∧
       (∀ w, w ≠ u.val → t.th w = s.th w) ∧ State.frame [.threads, .free, .cells] s t) ∧
   (∀ (s s1 : State) (u : Tid) (r : FarReq), s.farStoreDue u = some r → s.placeReady r.target = true → r.split = false →
     s.placeStore u.acc (some u.val) r.target r.words = (.ok, s1) → (s1.th u).wait = .far r → (s1.th u).st = .blocked → (s1.th u).mchk = false →
     ∃ t, exec (.farStoreAccept u) s = .next t ∧ (t.th u).st = .running ∧ (t.th u).wait = .none ∧
       (t.th u).pc = ((s1.th u).pc + r.len) % 131072 ∧ (∀ w, w ≠ u.val → t.th w = s1.th w) ∧
       ∀ p, p ∉ [Part.threads, .free] → p.same s1 t) ∧
   (∀ (s : State) (u : Tid) (r : FarReq) (h w : Nat), s.farStoreDue u = some r → (s.th u).st = .blocked → s.trapReady u →
     r.target = .station h w → s.stnReady h = true → s.stnReach (s.accOwner u.acc) h = false →
     ∃ t, exec (.farStoreAccept u) s = .next t ∧
       s.trapped t u 2 0 (r.seg * 2 ^ 28 + r.off) (12 + if r.second then 16 else 0) (s.th u).pc ∧ State.frame [.threads, .regs, .free] s t) ∧
   (∀ (s : State) (u : Tid) (r : FarReq), s.failedStore u = some r →
     ∃ t, exec (.farStoreError u) s = .next t ∧ (t.th u).posted = (s.th u).posted.erase r ∧ t.dram = s.dram ∧
       State.frame [.threads, .regs, .free, .events, .chans, .sram] s t) ∧
   (∀ (s : State) (u : Tid) (r : FarReq) (c o : Nat), s.clusterStore u = some (r, c, o) → o + r.words.length ≤ 524288 →
     ∃ t, exec (.farStorePerformed u) s = .next t ∧
       (t.th u).posted = (if r.split = true ∧ r.second = false then (s.th u).posted.map (fun (q : FarReq) => if q = r then { q with low := r.data.head? } else q)
         else (s.th u).posted.erase r) ∧
       (∀ i, i < r.words.length → t.clWord c (o + i) = (r.words.getD i 0).toNat) ∧
       (∀ k, (∀ i, i < r.words.length → k ≠ c * 524288 + (o + i)) → t.clMem.get 0 k = s.clMem.get 0 k) ∧ t.code = s.code ∧
       State.frame [.threads, .regs, .free, .events, .chans, .sram] s t))

/-- R193, R244-R246: B and J read fl as any register and go on at their target or at the next instruction as the condition says; JMPR goes
on where its pair says, and takes ILLEGAL there where that is past the code store; NOP goes on. R211, R214, R227, R228: RET slides the
window up and goes on at the link pair's address, filling the frame below from the spill area where it had gone there; RETT gives the
flags, the pc and the trap state back, and then takes an OVERRUN that was held; neither leaves the bottom frame; a double-bit error in
the rows of the fill stops the thread. -/
def Obligations.JumpsAndReturns : Prop :=
  ((∀ (s s1 : State) (u : Tid) (cc : Fin 16) (off : Fin 64) (fl : Nat), s.canIssue u [0x1B * 1024 + cc.val * 64 + off.val] →
     s.readReg u 25 = (fl, s1) →
     ∃ t, exec (.b u cc off) s = .next t ∧ (s.th u).wordsBut (t.th u) [] ∧ (t.th u).fl = (s.th u).fl ∧
       s.ranTo t u (if condTrue fl cc then ((s.th u).pc + 1 + 131072 + off.val - (if 32 ≤ off.val then 64 else 0)) % 131072
         else ((s.th u).pc + 1) % 131072)) ∧
   (∀ (s s1 : State) (u : Tid) (cc : Fin 16) (target : Fin 131072) (fl : Nat), s.canIssue u (encBL 0x1C cc 0 target) →
     s.readReg u 25 = (fl, s1) →
     ∃ t, exec (.j u cc 0 target) s = .next t ∧ (s.th u).wordsBut (t.th u) [] ∧ (t.th u).fl = (s.th u).fl ∧
       s.ranTo t u (if condTrue fl cc then target.val else ((s.th u).pc + 2) % 131072)) ∧
   (∀ (s s1 : State) (u : Tid) (a : Fin 32) (v : Nat), s.canIssue u [enc 0x19 a 5] → pairOk a = true → s.readPair u a = (v, s1) → v < 131072 →
     ∃ t, exec (.jmpr u a) s = .next t ∧ (s.th u).wordsBut (t.th u) [] ∧ (t.th u).fl = (s.th u).fl ∧ s.ranTo t u v) ∧
   (∀ (s s1 : State) (u : Tid) (a : Fin 32) (v : Nat), s.canIssue u [enc 0x19 a 5] → pairOk a = true → s.readPair u a = (v, s1) →
     131072 ≤ v → s.trapReady u →
     ∃ t, exec (.jmpr u a) s = .next t ∧ s.trapped t u 0 0 0 0 v ∧ s.othersKept t [u] ∧ State.frame [.threads, .regs, .free] s t) ∧
   (∀ (s : State) (u : Tid), s.canIssue u [enc 0x19 0 0] →
     ∃ t, exec (.nop u 0) s = .next t ∧ (s.th u).wordsBut (t.th u) [] ∧ (t.th u).fl = (s.th u).fl ∧ s.ranOn t u 1)) ∧
  ((∀ (s s1 : State) (u : Tid) (o : Ecc) (target : Nat), s.canIssue u [enc 0x19 0 1] → (s.th u).bottom = false →
     s.linkTarget u = (target, s1) → ((s.th u).fillDue = false ∨ o ≠ .double) →
     (target < 131072 →
       ∃ t, exec (.ret u 0 o) s = .next t ∧ (t.th u).pc = target ∧ (t.th u).frame = ((s.th u).frame + 15) % 16 ∧
         (t.th u).fl = (s.th u).fl ∧
         ((s.th u).fillDue = false → (s.th u).wordsBut (t.th u) [] ∧ (t.th u).low = (s.th u).low ∧ (t.th u).spilled = (s.th u).spilled) ∧
         ((s.th u).fillDue = true → (t.th u).low = ((s.th u).low + 15) % 16 ∧ (t.th u).spilled + 1 = (s.th u).spilled ∧
           ∀ j, j < 14 → (t.th u).keyWord (((s.th u).low + 15) % 16 * 14 + j) =
             word (s.sramWord (coreOf u) (0x4000 + 1024 * (u.val % 8) + 14 * ((s.th u).spilled - 1) + j))) ∧
         s.othersKept t [u] ∧ State.frame [.threads, .regs, .free] s t) ∧
     (131072 ≤ target → (s.th u).inTrap = false →
       ∃ t, exec (.ret u 0 o) s = .next t ∧ (t.th u).tcause = 0 ∧ (t.th u).tpc = target % 2 ^ 32 ∧
         State.frame [.threads, .regs, .free, .sram, .events] s t)) ∧
   (∀ (s : State) (u : Tid) (o : Ecc), s.canIssue u [enc 0x19 0 1] → (s.th u).bottom = true → s.trapReady u →
     ∃ t, exec (.ret u 0 o) s = .next t ∧ s.trapped t u 5 0 0 0 (s.th u).pc ∧ s.othersKept t [u] ∧ State.frame [.threads, .regs, .free] s t) ∧
   (∀ (s : State) (u : Tid) (o : Ecc), s.canIssue u [enc 0x19 0 2] → (s.th u).inTrap = true → (s.th u).bottom = false →
     ((s.th u).fillDue = false ∨ o ≠ .double) →
     ((s.th u).heldOverrun = none → (s.th u).heldStill = false →
       ∃ t, exec (.rett u 0 o) s = .next t ∧ (t.th u).pc = (s.th u).tpc % 131072 ∧ (t.th u).fl = (s.th u).tfl % 32 ∧ (t.th u).inTrap = false ∧
         (t.th u).frame = ((s.th u).frame + 15) % 16 ∧ (t.th u).st = .running ∧ s.othersKept t [u] ∧
         State.frame [.threads, .regs, .free] s t) ∧
     (∀ i, (s.th u).heldOverrun = some i →
       ∃ t, exec (.rett u 0 o) s = .next t ∧ (t.th u).tcause = 8 ∧ (t.th u).tinfo = i ∧ (t.th u).tpc = (s.th u).tpc % 131072 ∧
         (t.th u).heldOverrun = none ∧ State.frame [.threads, .regs, .free, .sram, .events] s t)) ∧
   (∀ (s : State) (u : Tid) (o : Ecc), s.canIssue u [enc 0x19 0 2] → s.trapReady u →
     ∃ t, exec (.rett u 0 o) s = .next t ∧ s.trapped t u 0 0 0 0 (s.th u).pc ∧ s.othersKept t [u] ∧ State.frame [.threads, .regs, .free] s t) ∧
   (∀ (s : State) (u : Tid) (o : Ecc), s.canIssue u [enc 0x19 0 2] → (s.th u).inTrap = true → (s.th u).bottom = true →
     ∃ t, exec (.rett u 0 o) s = .next t ∧ (t.th u).st = .stopped ∧ (t.th u).stopBy = 9 ∧ State.frame [.threads, .regs, .free, .events] s t) ∧
   (∀ (s : State) (u : Tid), ∀ e ∈ ([(Instr.ret u 0 .double, 1), (Instr.rett u 0 .double, 2)] : List (Instr × Nat)),
     s.canIssue u [enc 0x19 0 e.2] → (s.th u).bottom = false → (s.th u).fillDue = true → (e.2 = 2 → (s.th u).inTrap = true) →
     ∃ t, exec e.1 s = .next t ∧ (t.th u).st = .stopped ∧ (t.th u).stopBy = 9 ∧ State.frame [.threads, .regs, .free, .events] s t))

/-- R210, R214, R245: a CALL whose condition is false does nothing; a taken CALL or a CALLR slides the window down one frame, with the
return address in the new frame's link pair; the words of every other frame stay; the spilled frame's words go to the thread's spill
area; a full spill area takes WINDOW_OVERFLOW; a double-bit error in the rows of the spill stops the thread; a CALLR past the code
store takes ILLEGAL at its target. -/
def Obligations.Calls : Prop :=
  (∀ (s s1 : State) (u : Tid) (cc : Fin 16) (target : Fin 131072) (o : Ecc) (fl : Nat), s.canIssue u (encBL 0x1D cc 0 target) →
    s.readReg u 25 = (fl, s1) → condTrue fl cc = false →
    ∃ t, exec (.call u cc 0 target o) s = .next t ∧ (s.th u).wordsBut (t.th u) [] ∧ (t.th u).fl = (s.th u).fl ∧ s.ranOn t u 2) ∧
  ∀ (s : State) (u : Tid) (i : Instr) (len target : Nat) (o : Ecc),
    ((∃ cc tg fl s1, i = .call u cc 0 tg o ∧ s.canIssue u (encBL 0x1D cc 0 tg) ∧ s.readReg u 25 = (fl, s1) ∧ condTrue fl cc = true ∧ len = 2 ∧
        target = tg.val) ∨
      (∃ a s1, i = .callr u a o ∧ s.canIssue u [enc 0x19 a 6] ∧ pairOk a = true ∧ s.readPair u a = (target, s1) ∧ len = 1)) →
    ((s.th u).spillDue = false ∨ ((s.th u).spilled ≠ 73 ∧ o ≠ .double) → target < 131072 →
      ∃ t, exec i s = .next t ∧ (t.th u).pc = target ∧ (t.th u).frame = ((s.th u).frame + 1) % 16 ∧ (t.th u).fl = (s.th u).fl ∧
        (t.th u).keyWord (((s.th u).frame + 1) % 16 * 14 + 6) = word (((s.th u).pc + len) % 131072) ∧
        (t.th u).keyWord (((s.th u).frame + 1) % 16 * 14 + 7) = word (((s.th u).pc + len) % 131072 / 65536 % 2) ∧
        (∀ k, k / 14 ≠ ((s.th u).frame + 1) % 16 → (t.th u).keyWord k = (s.th u).keyWord k) ∧
        ((s.th u).spillDue = false → (t.th u).low = (s.th u).low ∧ (t.th u).spilled = (s.th u).spilled ∧ t.sram = s.sram) ∧
        ((s.th u).spillDue = true → (t.th u).low = ((s.th u).low + 1) % 16 ∧ (t.th u).spilled = (s.th u).spilled + 1 ∧
          ∀ j, j < 14 → t.sramWord (coreOf u) (0x4000 + 1024 * (u.val % 8) + 14 * (s.th u).spilled + j) =
            ((s.th u).keyWord ((s.th u).low * 14 + j)).toNat) ∧
        s.othersKept t [u] ∧ State.frame [.threads, .regs, .free, .sram] s t) ∧
    ((s.th u).spillDue = true → (s.th u).spilled ≠ 73 → o = .double →
      ∃ t, exec i s = .next t ∧ (t.th u).st = .stopped ∧ (t.th u).stopBy = 9 ∧ State.frame [.threads, .regs, .free, .events] s t) ∧
    ((s.th u).spillDue = true → (s.th u).spilled = 73 → (s.th u).inTrap = false → s.regsFinal u →
      ∃ t, exec i s = .next t ∧ (t.th u).st = .stopped ∧ (t.th u).tcause = 4 ∧ (t.th u).tpc = (s.th u).pc % 2 ^ 32 ∧
        (t.th u).frame = (s.th u).frame ∧ (t.th u).low = (s.th u).low ∧ (t.th u).spilled = (s.th u).spilled ∧
        (s.th u).wordsBut (t.th u) [] ∧ (t.th u).fl = (s.th u).fl ∧ s.othersKept t [u] ∧
        State.frame [.threads, .regs, .free, .events] s t) ∧
    ((s.th u).spillDue = false ∨ ((s.th u).spilled ≠ 73 ∧ o ≠ .double) → 131072 ≤ target → (s.th u).inTrap = false →
      ∃ t, exec i s = .next t ∧ (t.th u).tcause = 0 ∧ (t.th u).tpc = target % 2 ^ 32 ∧
        State.frame [.threads, .regs, .free, .sram, .events] s t)

/-- R226, R227, R231, R232, R246: BRK takes its trap with n in the cause and the next instruction's address; words that are no instruction,
a register code or a field that its format does not allow, and a group that the core lacks take ILLEGAL at their own address. R185,
R186, R192, R196, R214: a line arrives in a core's line buffers, or for its parity does not and its thread takes the parity trap; a
long wait for one gets a guard cycle; the oldest buffered store reaches the SRAM, or stops its thread for a double-bit error. -/
def Obligations.TrapsAndLines : Prop :=
  ((∀ (s : State) (u : Tid) (n : Fin 32), s.canIssue u [enc 0x19 n 3] → s.trapReady u →
     ∃ t, exec (.brk u n) s = .next t ∧ s.trapped t u 7 n 0 0 (((s.th u).pc + 1) % 131072) ∧ s.othersKept t [u] ∧
       State.frame [.threads, .regs, .free] s t) ∧
   (∀ (s : State) (u : Tid) (a b : Fin 32), s.selected u = true → assigned (s.codeWord u (s.th u).pc) = false → s.trapReady u →
     ∃ t, exec (.add u a b) s = .next t ∧ s.trapped t u 0 0 0 0 (s.th u).pc ∧ State.frame [.threads, .regs, .free] s t) ∧
   (∀ (s : State) (u : Tid) (a b : Fin 32) (cc : Fin 16) (target : Fin 131072) (w : Word) (o : Ecc),
     ∀ e ∈ ([(Instr.add u a b, [enc 0x02 a b], regOk a && regOk b), (.mul u a b, [enc 0x0D a b], pairOk a && regOk b),
         (.movi u a w, [enc 0x14 a 0, w.toNat], regOk a), (.not u a, [enc 0x18 a 0], regOk a), (.shlq u a b, [enc 0x15 a b], regOk a),
         (.ldReg u a b o, [enc 0x25 a b], regOk a && regOk b), (.ldIndex u a b w o, [enc 0x28 a b, w.toNat], regOk a && regOk b && Mode.legal (.index w.toNat)),
         (.stpPostinc u a b, [enc 0x31 a b], pairOk a && regOk b), (.ldfPostinc u a b, [enc 0x34 a b], regOk a && pairOk b),
         (.nop u a, [enc 0x19 a 0], a.val == 0), (.ret u a o, [enc 0x19 a 1], a.val == 0), (.jmpr u a, [enc 0x19 a 5], pairOk a),
         (.j u cc a target, encBL 0x1C cc a target, a.val == 0), (.call u cc a target o, encBL 0x1D cc a target, a.val == 0),
         (.chw u a b, [enc 0x21 a b], regOk a && regOk b), (.lka u a, [enc 0x1A a 0], pairOk a),
         (.tlock u a, [enc 0x3C a 0], a.val == 0 && decide (u.val < 1024))] : List (Instr × List Nat × Bool)),
       s.canIssue u e.2.1 → e.2.2 = false → s.trapReady u →
       ∃ t, exec e.1 s = .next t ∧ s.trapped t u 0 0 0 0 (s.th u).pc ∧ s.othersKept t [u] ∧ State.frame [.threads, .regs, .free] s t)) ∧
  ((∀ (s : State) (k : Fin 129) (line : Fin 16384), (s.lineWanted k line ≠ [] ∨ line.val ∈ (s.core k).prefetch) →
     ∃ t, exec (.lineRefill k line false) s = .next t ∧ (t.core k).lines = (line.val :: (s.core k).lines).take 4 ∧
       (∀ c, c ≠ k.val → t.core c = s.core c) ∧ State.frame [.threads, .regs, .free] s t) ∧
   (∀ (s : State) (k : Fin 129) (line : Fin 16384), (s.lineWanted k line ≠ [] ∨ line.val ∈ (s.core k).prefetch) →
     ∃ t, exec (.lineRefill k line true) s = .next t ∧ (t.core k).lines = (s.core k).lines ∧ line.val ∉ (t.core k).prefetch ∧
       (s.lineWanted k line = [] → ∀ w, t.th w = { s.th w with since := (t.th w).since }) ∧
       (∀ u, s.lineWanted k line = [u] → (s.th u).inTrap = false → (t.th u).tcause = 9 ∧ (t.th u).tpc = (s.th u).pc % 2 ^ 32) ∧
       State.frame [.threads, .regs, .free, .events, .sram] s t) ∧
   (∀ (s : State) (k : Fin 129) (l : Nat) (u : Nat), (if k.val < 128 then s.f F.cluCoreCtl_GUARD (k / 8) (k % 8) else 32) ≠ 0 →
     u / 8 = k.val → (s.th u).st = .running → l ∈ s.linesNeeded u → l ∉ (s.core k).lines → l ∉ (s.core k).guarded →
     ∃ t, exec (.guardCycle k) s = .next t ∧ (t.core k).guard = true ∧ (t.core k).lines = (s.core k).lines ∧ t.threads = s.threads ∧
       State.frame [.threads] s t) ∧
   (∀ (s : State) (k : Fin 129), (s.core k).sb = [] → ∃ t, exec (.storeDrain k .ok) s = .next t ∧ State.frame [.threads, .free] s t) ∧
   (∀ (s : State) (k : Fin 129) (e : SbEntry) (rest : List SbEntry), (s.core k).sb = e :: rest →
     ∃ t, exec (.storeDrain k .ok) s = .next t ∧ (t.core k).sb = rest.filter (fun x => x.id != e.id) ∧
       (∀ i, i < e.data.length → t.sramWord k (e.addr + i) = (e.data.getD i 0).toNat) ∧
       (∀ a, (∀ i, i < e.data.length → a ≠ k.val * 32768 + (e.addr + i)) → t.sram.get 0 a = s.sram.get 0 a) ∧
       t.code = s.code ∧ t.clMem = s.clMem ∧ State.frame [.threads, .free, .sram] s t) ∧
   (∀ (s : State) (k : Fin 129) (e : SbEntry) (rest : List SbEntry), (s.core k).sb = e :: rest →
     ∃ t, exec (.storeDrain k .double) s = .next t ∧ (t.core k).sb = rest.filter (fun x => x.id != e.id) ∧ (t.th e.thread).st = .stopped ∧
       t.sram = s.sram ∧ State.frame [.threads, .regs, .free, .events] s t))

/-- R247-R250, R274, R275: TSET prepares and TREL starts a parked thread of the core; FORK starts a POOL thread as a child; JOIN waits for
one; EXIT parks the thread with nothing left of it; a thread started past the code store takes ILLEGAL there. R272, R278: a thread's
class is stored while it is parked, its priority always; an internal channel is configured by its cluster's owner while it is empty and
no thread waits on it, and refused with its reason otherwise. -/
def Obligations.ThreadControl : Prop :=
  ((∀ (s s1 s2 : State) (u : Tid) (a b : Fin 32) (c : Word) (v n : Nat), s.canIssue u [enc 0x1E a b, c.toNat] → regOk a = true →
     regOk b = true → (c.toNat < 24 ∨ c.toNat = 25) → s.readReg u a = (v, s1) → s1.readReg u b = (n, s2) →
     (s.startable u n = none → ∃ t, exec (.tset u a b c) s = .next t ∧ flZ (t.th u).fl = true ∧ (s.th u).wordsBut (t.th u) [] ∧ s.ranOn t u 2) ∧
     (∀ w, s.startable u n = some w →
       ∃ t, exec (.tset u a b c) s = .next t ∧ flZ (t.th u).fl = false ∧ (t.th u).pc = ((s.th u).pc + 2) % 131072 ∧
         (t.th w).prepared = true ∧ (t.th w).st = .parked ∧ (s.th w).prepare.took (t.th w) c.toNat v ∧
         s.othersKept t [u, w] ∧ State.frame [.threads, .regs, .free] s t)) ∧
   (∀ (s s1 s2 : State) (u : Tid) (a b : Fin 32) (v n : Nat), s.canIssue u [enc 0x1F a b] → pairOk a = true → regOk b = true →
     s.readPair u a = (v, s1) → s1.readReg u b = (n, s2) →
     ((s.th u).posted ≠ [] →
       ∃ t, exec (.trel u a b) s = .next t ∧ (t.th u).st = .blocked ∧ (t.th u).wait = .trel n v ∧ (t.th u).pc = (s.th u).pc ∧
         s.othersKept t [u] ∧ State.frame [.threads, .regs, .free] s t) ∧
     (∀ w, (s.th u).posted = [] → s.startable u n = some w → 131072 ≤ v → (s.th w).inTrap = false → s.tallyPending w = false →
       ∃ t, exec (.trel u a b) s = .next t ∧ flZ (t.th u).fl = false ∧ (t.th w).tcause = 0 ∧ (t.th w).tpc = v % 2 ^ 32 ∧
         State.frame [.threads, .regs, .free, .sram, .events] s t) ∧
     ((s.th u).posted = [] → s.startable u n = none → ∃ t, exec (.trel u a b) s = .next t ∧ flZ (t.th u).fl = true ∧ (s.th u).wordsBut (t.th u) [] ∧ s.ranOn t u 1) ∧
     (∀ w, (s.th u).posted = [] → s.startable u n = some w → v < 131072 →
       ∃ t, exec (.trel u a b) s = .next t ∧ flZ (t.th u).fl = false ∧ (t.th u).pc = ((s.th u).pc + 1) % 131072 ∧ (t.th w).st = .running ∧
         (t.th w).pc = v ∧ s.othersKept t [u, w] ∧ State.frame [.threads, .regs, .free] s t)) ∧
   (∀ (s s1 : State) (u : Tid) (a b : Fin 32) (v : Nat), s.canIssue u [enc 0x20 a b] → pairOk a = true → regOk b = true →
     s.readPair u a = (v, s1) →
     ((∀ i, i < 8 → (s.th (coreOf u * 8 + i)).st = .parked → s.classOf (coreOf u * 8 + i) ≠ 2) →
       ∃ t, exec (.fork u a b) s = .next t ∧ (s.th u).took (t.th u) b 0xFFFF ∧ (b.val ≠ 25 → flZ (t.th u).fl = true) ∧ s.ranOn t u 1) ∧
     (∀ i, i < 8 → (s.th (coreOf u * 8 + i)).st = .parked → s.classOf (coreOf u * 8 + i) = 2 →
       (∀ j, j < i → (s.th (coreOf u * 8 + j)).st ≠ .parked ∨ s.classOf (coreOf u * 8 + j) ≠ 2) → v < 131072 →
       ∃ t, exec (.fork u a b) s = .next t ∧ (s.th u).took (t.th u) b i ∧ (b.val ≠ 25 → flZ (t.th u).fl = false) ∧
         (t.th (coreOf u * 8 + i)).st = .running ∧ (t.th (coreOf u * 8 + i)).parent = some u.val ∧ (t.th (coreOf u * 8 + i)).pc = v ∧
         (t.th (coreOf u * 8 + i)).childClass = s.runClass u ∧ s.othersKept t [u.val, coreOf u * 8 + i] ∧
         State.frame [.threads, .regs, .free] s t) ∧
     (∀ i, i < 8 → (s.th (coreOf u * 8 + i)).st = .parked → s.classOf (coreOf u * 8 + i) = 2 →
       (∀ j, j < i → (s.th (coreOf u * 8 + j)).st ≠ .parked ∨ s.classOf (coreOf u * 8 + j) ≠ 2) → 131072 ≤ v →
       (s.th (coreOf u * 8 + i)).inTrap = false → s.tallyPending (coreOf u * 8 + i) = false →
       ∃ t, exec (.fork u a b) s = .next t ∧ (b.val ≠ 25 → flZ (t.th u).fl = false) ∧ (t.th (coreOf u * 8 + i)).tcause = 0 ∧
         (t.th (coreOf u * 8 + i)).tpc = v % 2 ^ 32 ∧ State.frame [.threads, .regs, .free, .sram, .events] s t)) ∧
   (∀ (s s1 : State) (u : Tid) (a : Fin 32) (v : Nat), s.canIssue u [enc 0x19 a 7] → regOk a = true → s.readReg u a = (v, s1) →
     ((7 < v ∨ (s.th (coreOf u * 8 + v)).parent ≠ some u.val ∨ (s.th (coreOf u * 8 + v)).st = .parked) →
       ∃ t, exec (.join u a) s = .next t ∧ flZ (t.th u).fl = true ∧ (s.th u).wordsBut (t.th u) [] ∧ s.ranOn t u 1) ∧
     (v ≤ 7 → (s.th (coreOf u * 8 + v)).parent = some u.val → (s.th (coreOf u * 8 + v)).st ≠ .parked →
       ∃ t, exec (.join u a) s = .next t ∧ (t.th u).st = .blocked ∧ (t.th u).wait = .join (coreOf u * 8 + v) ∧ (t.th u).pc = (s.th u).pc ∧
         s.othersKept t [u] ∧ State.frame [.threads, .regs, .free] s t)) ∧
   (∀ (s : State) (u : Tid), s.canIssue u [enc 0x19 0 4] → (∀ p, (s.th u).parent = some p → p ≠ u.val) →
     ∃ t, exec (.exit u 0) s = .next t ∧ (t.th u).st = .parked ∧ (t.th u).parent = none ∧ (t.th u).staging = none ∧ (t.th u).locks = [] ∧
       (t.th u).inTrap = false ∧ (∀ i, ((t.th u).timers.get Timer.reset i).due = 0) ∧ t.chains.get [] u = [] ∧
       State.frame [.threads, .regs, .free, .sram, .dram, .cells, .events, .ports, .sent, .chans] s t)) ∧
  ((∀ (s : State) (a : Accessor) (u : Tid) (v : Word32), u.val < 1024 → s.permits a .schThread u 0 v.toNat →
     ∃ t, exec (.threadClassWrite a u v) s = .next t ∧
       t.f F.schThread_PRIO u = bits v.toNat 2 3 ∧
       t.f F.schThread_CLASS u =
         (if (s.th u).st = .parked ∧ (s.isSup u = false ∨ bits v.toNat 0 2 = 0) then bits v.toNat 0 2 else s.f F.schThread_CLASS u) ∧
       State.frame [.regs, .access] s t ∧ State.regsBut s t [Reg.key .schThread 0 u 0]) ∧
   (∀ (s : State) (a : Accessor) (x : Target) (v : Word32) (c n : Nat), s.permits a .schChanCfg x 0 v.toNat →
     c = (if x.val = 16 ∧ bits (s.rd .schChanPtr x) 14 1 = 1 then 16 else bits (s.rd .schChanPtr x) 10 4) →
     n = bits (s.rd .schChanPtr x) 0 10 →
     ((x.val = 16 ∨ s.clusterOwner c = x.val) → 16 ≤ n → s.chanQ (chanKey c n) = [] →
       (∀ e ∈ s.threads, (∀ d r, e.2.wait ≠ .chr (chanKey c n) d r) ∧ ∀ m f, e.2.wait ≠ .che (chanKey c n) m f) →
       ∃ t, exec (.channelCfgWrite a x v) s = .next t ∧ t.chanConf (chanKey c n) = v.toNat % 2 ^ 21 ∧
         (∀ k, k ≠ chanKey c n → t.chanConf k = s.chanConf k) ∧ t.chans = s.chans ∧ State.frame [.chans, .access] s t) ∧
     (∀ r, r = (if x.val ≠ 16 ∧ s.clusterOwner c ≠ x.val then 2 else if n < 16 then 3 else 1) →
       (r = 1 → s.chanQ (chanKey c n) ≠ [] ∨ ∃ e ∈ s.threads, (∃ d q, e.2.wait = .chr (chanKey c n) d q) ∨ ∃ m f, e.2.wait = .che (chanKey c n) m f) →
       ∃ t, exec (.channelCfgWrite a x v) s = .next t ∧ t.f F.schChanStat_LAST_REASON x = r ∧ State.frame [.regs, .access] s t ∧
         State.regsBut s t [Reg.key .schChanStat 0 x 0])))

/-- R166, R219, R251, R252, R281-R283, R286: CHW stages a word; CHE waits for the thread's far stores, then publishes the message or waits
for room; on channel 1 it retires a running packet, or is counted and ignored; CHR and CHP take a message that is there, CHR waits for
one that is not; a copy that leaves its region takes ACCESS, and a channel the thread may not use takes the CHANNEL trap. R219, R252,
R282, R283, R286: a blocked CHR gets its message, or its copy's ACCESS trap, and a blocked CHE publishes, once it may; a CHE that has
waited for far stores waits for room next; one whose cluster has left service takes the CHANNEL trap; till then both wait on. -/
def Obligations.Channels : Prop :=
  ((∀ (s : State) (u : Tid) (a b : Fin 32) (v w k : Nat), s.canIssue u [enc 0x21 a b] → regOk a = true → regOk b = true →
     s.reads2 u a b v w → s.chanPut u w false = .inl k →
     ∃ t, exec (.chw u a b) s = .next t ∧
       (t.th u).staging = some (k, (match (s.th u).staging with | some (_, ws) => ws | none => []) ++ [word v]) ∧
       (t.th u).pc = ((s.th u).pc + 1) % 131072 ∧ (s.th u).wordsBut (t.th u) [] ∧ (t.th u).fl = (s.th u).fl ∧ s.othersKept t [u] ∧
       State.frame [.threads, .regs, .free] s t) ∧
   (∀ (s : State) (u : Tid) (a b : Fin 32) (v w d : Nat),
     ∀ e ∈ ([(Instr.chw u a b, 0x21, s.chanPut u w false), (.che u a b, 0x22, s.chanPut u w true), (.chr u a b, 0x23, s.chanTake u w),
         (.chp u a b, 0x24, s.chanTake u w)] : List (Instr × Nat × (Nat ⊕ Nat))),
       s.canIssue u [enc e.2.1 a b] → regOk a = true → regOk b = true → s.reads2 u a b v w → e.2.2 = .inr d → s.trapReady u →
       ∃ t, exec e.1 s = .next t ∧ s.trapped t u 13 d 0 0 (s.th u).pc ∧ s.othersKept t [u] ∧ State.frame [.threads, .regs, .free] s t) ∧
   (∀ (s : State) (u : Tid) (a b : Fin 32) (v w k : Nat) (msg : List Word), s.canIssue u [enc 0x22 a b] → regOk a = true → regOk b = true →
     s.reads2 u a b v w → s.chanPut u w true = .inl k →
     msg = s.withSender u k ((match (s.th u).staging with | some (_, ws) => ws | none => []) ++ [word v]) →
     ((s.th u).posted ≠ [] →
       ∃ t, exec (.che u a b) s = .next t ∧ (t.th u).st = .blocked ∧ (t.th u).wait = .che k msg true ∧ t.chans = s.chans ∧
         (t.th u).pc = (s.th u).pc ∧ State.frame [.threads, .regs, .free] s t) ∧
     ((s.th u).posted = [] → s.chanRoom k msg.length = true → s.firstWriter u k = true → k % 1024 ≠ 1 →
       ∃ t m, exec (.che u a b) s = .next t ∧ t.chanQ k = s.chanQ k ++ [m] ∧ m.words = msg ∧ m.sender = u.val ∧ (t.th u).staging = none ∧
         (t.th u).pc = ((s.th u).pc + 1) % 131072 ∧ s.othersKept t [u] ∧ State.frame [.threads, .regs, .free, .chans] s t) ∧
     (∀ i c, (s.th u).posted = [] → s.firstWriter u k = true → k % 1024 = 1 → i = (msg.headD 0).toNat % 4 → c = bits (msg.headD 0).toNat 2 2 →
       (∀ p, (s.th u).slot i = some p → p.phase = 2 → (c = 1 ∨ c = 2) →
         ∃ t m, exec (.che u a b) s = .next t ∧ t.chanQ k = s.chanQ k ++ [m] ∧ m.words = msg ∧ m.sender = u.val ∧ (t.th u).staging = none ∧
           (∃ q, (t.th u).slot i = some q ∧ q.phase = 3 ∧ q.pkt = p.pkt) ∧ (t.th u).pc = ((s.th u).pc + 1) % 131072 ∧
           State.frame [.threads, .regs, .free, .chans] s t) ∧
       ((∀ p, (s.th u).slot i = some p → p.phase ≠ 2 ∨ (c ≠ 1 ∧ c ≠ 2)) →
         ∃ t, exec (.che u a b) s = .next t ∧ t.chans = s.chans ∧ (t.th u).staging = none ∧
           (t.th u).pc = ((s.th u).pc + 1) % 131072 ∧ State.frame [.threads, .regs, .free] s t)) ∧
     ((s.th u).posted = [] → (s.chanRoom k msg.length = false ∨ s.firstWriter u k = false) →
       ∃ t, exec (.che u a b) s = .next t ∧ (t.th u).st = .blocked ∧ (t.th u).wait = .che k msg false ∧ t.chans = s.chans ∧
         (t.th u).pc = (s.th u).pc ∧ State.frame [.threads, .regs, .free] s t)) ∧
   (∀ (s : State) (u : Tid) (a b : Fin 32) (v w k idx : Nat) (m : Msg),
     ∀ e ∈ ([(Instr.chr u a b, 0x23), (.chp u a b, 0x24)] : List (Instr × Nat)),
       s.canIssue u [enc e.2 a b] → regOk a = true → regOk b = true → s.reads2 u a b v w → s.chanTake u w = .inl k →
       s.messageFor u k = some (idx, m) →
       (copyOk v m.words.length = true → (s.core (coreOf u)).sb = [] →
         ∃ t ms, exec e.1 s = .next t ∧ t.chanQ k = (s.chanQ k).eraseIdx idx ++ ms ∧ (k % 1024 ≠ 3 → ms = [] ∧ t.sessions = s.sessions) ∧
           (∀ i, i < m.words.length → t.sramWord (coreOf u) (v + i) = (m.words.getD i 0).toNat) ∧
           (s.th u).took (t.th u) a m.words.length ∧ (a.val ≠ 25 → flZ (t.th u).fl = false) ∧ (t.th u).pc = ((s.th u).pc + 1) % 131072 ∧
           s.othersKept t [u] ∧ State.frame [.threads, .regs, .free, .chans, .sram, .scp] s t) ∧
       (copyOk v m.words.length = true →
         ∃ t, exec e.1 s = .next t ∧
           ((t.th u).st = .stopped ∨ ∃ ms, t.chanQ k = (s.chanQ k).eraseIdx idx ++ ms) ∧
           State.frame [.threads, .regs, .free, .chans, .sram, .scp, .events] s t) ∧
       (copyOk v m.words.length = false → s.trapReady u →
         ∃ t, exec e.1 s = .next t ∧ s.trapped t u 2 0 v 8 (s.th u).pc ∧ s.othersKept t [u] ∧ State.frame [.threads, .regs, .free] s t)) ∧
   (∀ (s : State) (u : Tid) (a b : Fin 32) (v w k : Nat), s.canIssue u [enc 0x23 a b] → regOk a = true → regOk b = true →
     s.reads2 u a b v w → s.chanTake u w = .inl k → s.messageFor u k = none →
     ∃ t, exec (.chr u a b) s = .next t ∧ (t.th u).st = .blocked ∧ (t.th u).wait = .chr k v a ∧ (t.th u).pc = (s.th u).pc ∧
       s.othersKept t [u] ∧ State.frame [.threads, .regs, .free] s t) ∧
   (∀ (s : State) (u : Tid) (a b : Fin 32) (v w k : Nat), s.canIssue u [enc 0x24 a b] → regOk a = true → regOk b = true →
     s.reads2 u a b v w → s.chanTake u w = .inl k → s.messageFor u k = none →
     ∃ t, exec (.chp u a b) s = .next t ∧ (s.th u).took (t.th u) a 0 ∧ (a.val ≠ 25 → flZ (t.th u).fl = true) ∧ s.ranOn t u 1)) ∧
  ((∀ (s : State) (u : Tid) (k dst r idx : Nat) (m : Msg) (rest : List (Nat × Msg)), (s.th u).st = .blocked → (s.th u).wait = .chr k dst r →
     s.readable u k = (idx, m) :: rest →
     ((s.chrWaiters k).all (fun w => (s.th u).blockedAt ≤ (s.th w).blockedAt) = true ∨ (k % 1024 = 0 ∧ k < 16384)) →
     (copyOk dst m.words.length = true → (s.core (coreOf u)).sb = [] → (s.th u).mchk = false →
       ∃ t ms, exec (.chrWake u) s = .next t ∧ t.chanQ k = (s.chanQ k).eraseIdx idx ++ ms ∧ (k % 1024 ≠ 3 → ms = [] ∧ t.sessions = s.sessions) ∧
         (t.th u).st = .running ∧ (t.th u).wait = .none ∧ (t.th u).pc = ((s.th u).pc + 1) % 131072 ∧
         (∀ i, i < m.words.length → t.sramWord (coreOf u) (dst + i) = (m.words.getD i 0).toNat) ∧
         (s.th u).took (t.th u) r m.words.length ∧ State.frame [.threads, .regs, .free, .chans, .sram, .scp] s t) ∧
     (copyOk dst m.words.length = false → s.trapReady u →
       ∃ t, exec (.chrWake u) s = .next t ∧ s.trapped t u 2 0 dst 8 (s.th u).pc ∧ t.chans = s.chans ∧
         State.frame [.threads, .regs, .free] s t)) ∧
   (∀ (s : State) (u : Tid) (k dst r : Nat), (s.th u).wait = .chr k dst r → s.readable u k = [] →
     ∃ t, exec (.chrWake u) s = .next t ∧ State.frame [] s t) ∧
   (∀ (s : State) (u : Tid) (k : Nat) (ws : List Word) (stores : Bool), (s.th u).st = .blocked → (s.th u).wait = .che k ws stores →
     (1024 ≤ u.val ∨ s.inService (k / 1024) (s.tidOwner u) = true ∨ k / 1024 = clusterOf u) →
     ((stores = true → (s.th u).posted = []) → k % 1024 ≠ 1 → s.chanRoom k ws.length = true → s.firstWriter u k = true → (s.th u).mchk = false →
       ∃ t m, exec (.cheUnblock u) s = .next t ∧ t.chanQ k = s.chanQ k ++ [m] ∧ m.words = ws ∧ m.sender = u.val ∧ (t.th u).st = .running ∧
         (t.th u).wait = .none ∧ (t.th u).staging = none ∧ (t.th u).pc = ((s.th u).pc + 1) % 131072 ∧
         State.frame [.threads, .regs, .free, .chans] s t) ∧
     (stores = true → (s.th u).posted = [] → (s.chanRoom k ws.length = false ∨ s.firstWriter u k = false) →
       ∃ t, exec (.cheUnblock u) s = .next t ∧ (t.th u).st = .blocked ∧ (t.th u).wait = .che k ws false ∧ t.chans = s.chans ∧
         State.frame [.threads, .regs, .free] s t) ∧
     ((stores = true ∧ (s.th u).posted ≠ []) ∨ (stores = false ∧ s.chanRoom k ws.length = false) →
       ∃ t, exec (.cheUnblock u) s = .next t ∧ State.frame [] s t)) ∧
   (∀ (s : State) (u : Tid) (k : Nat) (ws : List Word) (stores : Bool), (s.th u).st = .blocked → (s.th u).wait = .che k ws stores →
     u.val < 1024 → s.inService (k / 1024) (s.tidOwner u) = false → k / 1024 ≠ clusterOf u → s.trapReady u →
     ∃ t, exec (.cheUnblock u) s = .next t ∧ s.trapped t u 13 6 0 0 (s.th u).pc ∧ State.frame [.threads, .regs, .free] s t))

/-- R287-R289: a timer is armed for a number of laths, cancelled, and posts its tag once the number has passed. R291: STILL is raised once,
and a blocked supervisor takes the STILL trap. -/
def Obligations.TimersAndStill : Prop :=
  ((∀ (s : State) (u : Tid) (i : Fin 8) (n : Word), (s.th u).st = .running → n.toNat ≠ 0 →
     (∀ k, s.timerChan u i = .inl k →
       ∃ t, exec (.timerArm u i n) s = .next t ∧ (t.timer u i).due = s.lathNow + n.toNat + 1 ∧ (t.timer u i).ch = (s.timer u i).ch ∧
         (t.timer u i).tag = (s.timer u i).tag ∧ (∀ w, w ≠ u.val → t.th w = s.th w) ∧ State.frame [.threads, .free] s t) ∧
     (∀ d, s.timerChan u i = .inr d → s.trapReady u →
       ∃ t, exec (.timerArm u i n) s = .next t ∧ s.trapped t u 13 d 0 0 (s.th u).pc ∧ State.frame [.threads, .regs, .free] s t)) ∧
   (∀ (s : State) (u : Tid) (i : Fin 8) (v : Word), (s.th u).st = .running →
     ∃ t, exec (.timerCancel u i v) s = .next t ∧ (t.timer u i).due = 0 ∧ (t.timer u i).ch = (s.timer u i).ch ∧
       (∀ w, w ≠ u.val → t.th w = s.th w) ∧ State.frame [.threads] s t) ∧
   (∀ (s : State) (u : Tid) (i : Fin 8), s.timerNext u i = true →
     (∀ k, s.timerChan u i = .inl k → s.chanRoom k 1 = true →
       ∃ t m, exec (.timerExpiry u i) s = .next t ∧ (t.timer u i).due = 0 ∧ t.chanQ k = s.chanQ k ++ [m] ∧ m.words = [(s.timer u i).tag] ∧
         State.frame [.threads, .chans] s t) ∧
     ((∀ k, s.timerChan u i = .inl k → s.chanRoom k 1 = false) →
       ∃ t, exec (.timerExpiry u i) s = .next t ∧ (t.timer u i).due = s.lathNow + 2 ∧ (t.timer u i).tag = (s.timer u i).tag ∧
         t.chans = s.chans ∧ State.frame [.threads, .regs] s t)) ∧
   (∀ (s : State) (u : Tid) (i : Fin 8), s.timerNext u i = false → ∃ t, exec (.timerExpiry u i) s = .next t ∧ State.frame [] s t)) ∧
  (∀ (s : State) (x : StallId), s.f F.schStillStat_COURSES x = 2 →
     ∃ t, exec (.still x) s = .next t ∧ t.f F.schStillStat_COURSES x = 0 ∧
       (∀ u, s.supervisor x = some u → (s.th u).st = .blocked → s.trapReady u → s.trapped t u 10 0 0 0 (s.th u).pc) ∧
       (∀ u, s.supervisor x = some u → (s.th u).st ≠ .blocked → t.threads = s.threads) ∧
       (∀ u, s.supervisor x = some u → (s.th u).st = .blocked → (s.th u).inTrap = true → (t.th u).heldStill = true) ∧
       State.frame [.threads, .regs, .events, .free, .sram, .dram, .chans] s t)

/-- R253, R296, R299, R301: the lock instructions go to the atomic unit; a lock the thread holds is answered at once; a ninth lock takes
the LOCK_LIMIT trap, an address that is no lock word ACCESS; LKF needs privilege. R219, R295-R300: an operation waits at the atomic
unit for the thread's earlier far stores; the unit gives a lock that is not held to the thread that asks; LKT of a held lock fails at
once, LKA of one waits in its queue; LKR and LKF free a lock, to its first waiter if there is one; an uncorrectable error of a pair in
DRAM takes MEMORY_ERROR. -/
def Obligations.WordLocks : Prop :=
  (∀ (s s1 : State) (u : Tid) (a : Fin 32) (ea : Nat),
     ∀ e ∈ ([(Instr.lka u a, 0), (.lkt u a, 1), (.lkr u a, 2), (.lkf u a, 3)] : List (Instr × Nat)),
       s.canIssue u [enc 0x1A a e.2] → pairOk a = true → s.readPair u a = (ea, s1) →
       (∀ l, s.lockAt u ea = some l → (e.2 = 3 → s.privileged u = true) → (e.2 ≤ 1 → (s.th u).holds l = false ∧ (s.th u).locks.length < 8) →
         ∃ t, exec e.1 s = .next t ∧ (t.th u).st = .blocked ∧ (t.th u).wait = .lockOp e.2 l ea ∧ (t.th u).pc = (s.th u).pc ∧
           s.othersKept t [u] ∧ State.frame [.threads, .regs, .free, .dramCtl] s t) ∧
       (∀ l, s.lockAt u ea = some l → e.2 ≤ 1 → (s.th u).holds l = true →
         ∃ t, exec e.1 s = .next t ∧ flZ (t.th u).fl = true ∧ flC (t.th u).fl = false ∧ (s.th u).wordsBut (t.th u) [] ∧ s.ranOn t u 1) ∧
       (∀ l, s.lockAt u ea = some l → e.2 ≤ 1 → (s.th u).holds l = false → 8 ≤ (s.th u).locks.length → s.trapReady u →
         ∃ t, exec e.1 s = .next t ∧ s.trapped t u 6 0 ea 4 (s.th u).pc ∧ (t.th u).locks = (s.th u).locks ∧
           State.frame [.threads, .regs, .free] s t) ∧
       (s.lockAt u ea = none → (e.2 = 3 → s.privileged u = true) → s.trapReady u →
         ∃ t, exec e.1 s = .next t ∧ s.trapped t u 2 0 ea 12 (s.th u).pc ∧ State.frame [.threads, .regs, .free] s t) ∧
       (e.2 = 3 → s.privileged u = false → s.trapReady u →
         ∃ t, exec e.1 s = .next t ∧ s.trapped t u 1 0 0 0 (s.th u).pc ∧ State.frame [.threads, .regs, .free] s t)) ∧
  ((∀ (s : State) (u : Tid) (op far : Nat) (l : LockId) (err : Bool), (s.th u).st = .blocked → (s.th u).wait = .lockOp op l far →
     (s.th u).lockWaits op far = true → ∃ t, exec (.lockOperationDone u err) s = .next t ∧ State.frame [] s t) ∧
   (∀ (s : State) (u : Tid) (op far : Nat) (l : LockId), (s.th u).st = .blocked → (s.th u).wait = .lockOp op l far →
     (s.th u).lockWaits op far = false → l.cluster = none → s.trapReady u →
     ∃ t, exec (.lockOperationDone u true) s = .next t ∧ s.trapped t u 3 0 far 4 (s.th u).pc ∧ State.frame [.threads, .regs, .free] s t) ∧
   (∀ (s : State) (u : Tid) (op far : Nat) (l : LockId) (err : Bool), (s.th u).st = .blocked → (s.th u).wait = .lockOp op l far →
     (s.th u).lockWaits op far = false → (err = true → l.cluster.isSome = true) → (s.th u).mchk = false →
     (op ≤ 1 → s.lockHeld l = false → s.epoch < 4096 →
       ∃ t, exec (.lockOperationDone u err) s = .next t ∧ t.lockHeld l = true ∧ t.lockHolder l = u.val ∧ (t.th u).holds l = true ∧
         flZ (t.th u).fl = true ∧ (t.th u).st = .running ∧ (t.th u).pc = ((s.th u).pc + 1) % 131072 ∧
         State.frame [.threads, .regs, .free, .dram, .sram] s t) ∧
     (op = 1 → s.lockHeld l = true →
       ∃ t, exec (.lockOperationDone u err) s = .next t ∧ flZ (t.th u).fl = false ∧ (t.th u).st = .running ∧ (t.th u).locks = (s.th u).locks ∧
         State.frame [.threads, .free] s t) ∧
     (op = 0 → s.lockHeld l = true →
       ∃ t, exec (.lockOperationDone u err) s = .next t ∧ (t.th u).st = .blocked ∧ (t.th u).wait = .lka l ∧ t.lockQ = s.lockQ ++ [(u.val, l)] ∧
         t.lockHeld l = true ∧ t.lockHolder l = s.lockHolder l ∧ State.frame [.threads, .regs, .free, .dram, .sram, .chans] s t) ∧
     (op = 2 → (s.th u).holds l = true → s.lockHeld l = true → s.lockHolder l = u.val → s.nextWaiter l = none →
       ∃ t, exec (.lockOperationDone u err) s = .next t ∧ t.lockHeld l = false ∧ (t.th u).holds l = false ∧ flZ (t.th u).fl = true ∧
         (t.th u).st = .running ∧ State.frame [.threads, .free, .dram, .sram] s t) ∧
     (op = 2 → (s.th u).holds l = false →
       ∃ t, exec (.lockOperationDone u err) s = .next t ∧ flZ (t.th u).fl = false ∧ (t.th u).st = .running ∧ State.frame [.threads, .free] s t) ∧
     (∀ w : Tid, op = 2 → (s.th u).holds l = true → s.lockHeld l = true → s.lockHolder l = u.val → s.nextWaiter l = some w.val → w ≠ u →
       s.epoch < 4096 → (s.th w).mchk = false →
       ∃ t, exec (.lockOperationDone u err) s = .next t ∧ t.lockHeld l = true ∧ t.lockHolder l = w.val ∧ (t.th u).holds l = false ∧
         (t.th w).holds l = true ∧ (t.th w).st = .running ∧ (t.th u).st = .running ∧
         State.frame [.threads, .regs, .free, .dram, .sram, .chans] s t) ∧
     (op = 3 → s.lockHeld l = true → s.nextWaiter l = none →
       ∃ t, exec (.lockOperationDone u err) s = .next t ∧ t.lockHeld l = false ∧ (t.th (s.lockHolder l)).holds l = false ∧
         flZ (t.th u).fl = true ∧ (t.th u).st = .running ∧ State.frame [.threads, .regs, .free, .dram, .sram] s t) ∧
     (op = 3 → s.lockHeld l = false →
       ∃ t, exec (.lockOperationDone u err) s = .next t ∧ flZ (t.th u).fl = false ∧ (t.th u).st = .running ∧ State.frame [.threads, .free] s t)))

/-! ### The tally unit -/

/-- R259, R262, R268: TLOCK takes a unit that is free or the thread's own, TFREE gives it back, TSYNC waits for the thread's commands and
reports the sticky bits, which it clears; on a failed unit it completes at once with V set. R260, R261, R263, R264, R268: a command of
the unit's owner enters the queue while it has room; a thread that does not own the unit, or whose unit has failed, takes the TALLY
trap; at a full queue every instruction of the group holds its core and changes nothing; after TSYNC an MFT reads at once. R261, R262,
R264, R267, R268: the oldest command of a unit completes and leaves the queue, unless it is a patch that has not ended; the last one of
a thread that waits in TSYNC lets it go on; a machine check empties the unit, marks it failed and traps a running thread whose command
it was. R269, R270, R424: patch words fill the standby bank in address order, with the parity the device gives them, and after them the
entry table; an apply makes every unit owe an exchange, which an idle unit makes from the next course on, or exchanges at once before
START; an apply that conflicts is refused. -/
def Obligations.TallyUse : Prop :=
  ((∀ (s : State) (u : Tid), s.canIssue u [enc 0x3C 0 0] → hasGroup u (some 2) = true → s.tallyRoom u = true →
     (((s.unit (coreOf u)).owner = none ∨ (s.unit (coreOf u)).owner = some (u.val % 8)) →
       ∃ t, exec (.tlock u 0) s = .next t ∧ flZ (t.th u).fl = true ∧ (t.unit (coreOf u)).owner = some (u.val % 8) ∧
         (t.unit (coreOf u)).acc = (s.unit (coreOf u)).acc ∧ (t.unit (coreOf u)).queue = (s.unit (coreOf u)).queue ∧
         ((s.unit (coreOf u)).owner = none → (t.unit (coreOf u)).status = 0) ∧ (t.th u).pc = ((s.th u).pc + 1) % 131072 ∧
         (s.th u).wordsBut (t.th u) [] ∧ s.othersKept t [u] ∧ State.frame [.threads, .regs, .free] s t) ∧
     (∀ j, (s.unit (coreOf u)).owner = some j → j ≠ u.val % 8 →
       ∃ t, exec (.tlock u 0) s = .next t ∧ flZ (t.th u).fl = false ∧ t.units = s.units ∧ (s.th u).wordsBut (t.th u) [] ∧ s.ranOn t u 1)) ∧
   (∀ (s : State) (u : Tid), s.canIssue u [enc 0x3C 0 1] → hasGroup u (some 2) = true → s.tallyRoom u = true → u.val < 1024 →
     ((s.unit (coreOf u)).owner = some (u.val % 8) →
       ∃ t, exec (.tfree u 0) s = .next t ∧ flZ (t.th u).fl = true ∧ t.unit (coreOf u) = { s.unit (coreOf u) with owner := none } ∧
         (t.th u).pc = ((s.th u).pc + 1) % 131072 ∧ (s.th u).wordsBut (t.th u) [] ∧ s.othersKept t [u] ∧
         State.frame [.threads, .regs, .free] s t) ∧
     ((s.unit (coreOf u)).owner ≠ some (u.val % 8) →
       ∃ t, exec (.tfree u 0) s = .next t ∧ flZ (t.th u).fl = false ∧ t.units = s.units ∧ (s.th u).wordsBut (t.th u) [] ∧ s.ranOn t u 1)) ∧
   (∀ (s : State) (u : Tid), s.canIssue u [enc 0x3C 0 2] → hasGroup u (some 2) = true → s.tallyRoom u = true →
     (s.tallyPending u = false → (∀ e ∈ (s.th u).shades, e.clash = false) →
       ∃ t, exec (.tsync u 0) s = .next t ∧
         ((s.unit (coreOf u)).failed = false → (t.th u).fl = tsyncFlags (s.th u).fl (s.unit (coreOf u)).status ∧
           (t.unit (coreOf u)).status = (s.unit (coreOf u)).status / 16 * 16) ∧
         ((s.unit (coreOf u)).failed = true → (t.th u).fl = (s.th u).fl % 8 + (s.th u).fl / 16 % 2 * 16 + 8 ∧ t.units = s.units) ∧
         (t.unit (coreOf u)).acc = (s.unit (coreOf u)).acc ∧ (t.th u).pc = ((s.th u).pc + 1) % 131072 ∧ (t.th u).st = .running ∧
         (s.th u).wordsBut (t.th u) [] ∧ s.othersKept t [u] ∧ State.frame [.threads, .regs, .free] s t) ∧
     (s.tallyPending u = true → (s.unit (coreOf u)).failed = false →
       ∃ t, exec (.tsync u 0) s = .next t ∧ (t.th u).st = .blocked ∧ (t.th u).wait = .tsync ∧ (t.th u).pc = (s.th u).pc ∧
         t.units = s.units ∧ (s.th u).wordsBut (t.th u) [] ∧ s.othersKept t [u] ∧ State.frame [.threads, .regs, .free] s t))) ∧
  ((∀ (s : State) (u : Tid) (b : Fin 32) (w : Word),
     ∀ e ∈ ([(Instr.topClr u b w, 0), (.topMova u b w, 1), (.topAdd u b w, 2), (.topSub u b w, 3), (.topMul u b w, 4), (.topDiv u b w, 5),
         (.topRnd u b w, 6), (.topCmp u b w, 7), (.topNeg u b w, 8), (.topAbs u b w, 9), (.topCvd u b w, 10), (.topCvb u b w, 11),
         (.topHeat u b w, 12)] : List (Instr × Nat)),
       s.canIssue u [enc 0x3F e.2 b, w.toNat] → hasGroup u (some 2) = true → w.toNat < 4096 →
       (s.tallyRoom u = true → s.tallyFault u = none →
         ∃ t, exec e.1 s = .next t ∧ s.tallyQueued t u (.top e.2 (b.val / 4) (b.val % 4) (w.toNat % 8) (bits w.toNat 3 3) (bits w.toNat 6 3)
           (bits w.toNat 9 3))) ∧
       (∀ d, s.tallyRoom u = true → s.tallyFault u = some d → s.trapReady u →
         ∃ t, exec e.1 s = .next t ∧ s.trapped t u 12 d 0 0 (s.th u).pc ∧ t.units = s.units ∧ State.frame [.threads, .regs, .free] s t)) ∧
   (∀ (s : State) (u : Tid) (a b : Fin 32) (w : Word),
     ∀ e ∈ ([(Instr.tlock u 0, [enc 0x3C 0 0], true), (.tfree u 0, [enc 0x3C 0 1], true), (.tsync u 0, [enc 0x3C 0 2], true),
         (.mtt u a b w, [enc 0x3D a b, w.toNat], tallyLegal a b w.toNat true), (.mft u a b w, [enc 0x3E a b, w.toNat], tallyLegal a b w.toNat false)] ++
         ([(Instr.topClr u b w, 0), (.topMova u b w, 1), (.topAdd u b w, 2), (.topSub u b w, 3), (.topMul u b w, 4), (.topDiv u b w, 5),
           (.topRnd u b w, 6), (.topCmp u b w, 7), (.topNeg u b w, 8), (.topAbs u b w, 9), (.topCvd u b w, 10), (.topCvb u b w, 11),
           (.topHeat u b w, 12)].map fun e => (e.1, [enc 0x3F e.2 b, w.toNat], decide (w.toNat < 4096))) : List (Instr × List Nat × Bool)),
       s.canIssue u e.2.1 → hasGroup u (some 2) = true → e.2.2 = true → s.tallyRoom u = false →
       ∃ t, exec e.1 s = .next t ∧ (t.core (coreOf u)).held = some (u.val, (s.th u).pc) ∧ t.threads = s.threads ∧ t.units = s.units ∧
         State.frame [.threads] s t) ∧
   (∀ (s : State) (u : Tid) (a b : Fin 32) (w : Word),
     ∀ e ∈ ([(Instr.mtt u a b w, enc 0x3D a b, tallyLegal a b w.toNat true), (.mft u a b w, enc 0x3E a b, tallyLegal a b w.toNat false)] :
         List (Instr × Nat × Bool)),
       ∀ d, s.canIssue u [e.2.1, w.toNat] → hasGroup u (some 2) = true → e.2.2 = true → s.tallyRoom u = true → s.tallyFault u = some d →
       s.trapReady u →
       ∃ t, exec e.1 s = .next t ∧ s.trapped t u 12 d 0 0 (s.th u).pc ∧ t.units = s.units ∧ State.frame [.threads, .regs, .free] s t) ∧
   (∀ (s s1 : State) (u : Tid) (a b : Fin 32) (w : Word) (v : Nat), s.canIssue u [enc 0x3D a b, w.toNat] → hasGroup u (some 2) = true →
     tallyLegal a b w.toNat true = true → s.tallyRoom u = true → s.tallyFault u = none →
     (if b.val % 2 == 1 then s.readPair u a else s.readReg u a) = (v, s1) →
     ∃ t, exec (.mtt u a b w) s = .next t ∧ s.tallyQueued t u (.mtt (bits w.toNat 7 2) (bits w.toNat 4 3) (w.toNat % 16) (b.val % 2 == 1)
       (bits w.toNat 9 1 == 1) (if b.val % 2 == 1 then [word v, word (v / 65536)] else [word v]))) ∧
   (∀ (s : State) (u : Tid) (a b : Fin 32) (w : Word), s.canIssue u [enc 0x3E a b, w.toNat] → hasGroup u (some 2) = true →
     tallyLegal a b w.toNat false = true → s.tallyRoom u = true → s.tallyFault u = none →
     ((s.th u).synced = false ∨ (s.unit (coreOf u)).queue ≠ [] →
       ∃ t, exec (.mft u a b w) s = .next t ∧ s.tallyQueued t u (.mft (bits w.toNat 7 2) (bits w.toNat 4 3) (w.toNat % 16) (b.val % 2 == 1)
         ((if a.val = 24 then [] else if b.val % 2 == 1 then [a.val, a.val + 1] else [a.val]).filterMap (s.th u).key))) ∧
     (∀ ws, (s.th u).synced = true → (s.unit (coreOf u)).queue = [] →
       (s.unit (coreOf u)).mftWords (bits w.toNat 7 2) (bits w.toNat 4 3) (w.toNat % 16) (b.val % 2 == 1) = ws →
       ∃ t, exec (.mft u a b w) s = .next t ∧
         (∀ i k, i < (if b.val % 2 = 1 then 2 else 1) → a.val < 24 → (s.th u).key (a.val + i) = some k →
           (t.th u).keyWord k = word (ws.getD i 0)) ∧
         (a.val = 25 → (t.th u).fl = ws.getD 0 0 % 32) ∧ t.units = s.units ∧ (t.th u).synced = false ∧
         (t.th u).pc = ((s.th u).pc + 2) % 131072 ∧ s.othersKept t [u] ∧ State.frame [.threads, .regs, .free] s t))) ∧
  ((∀ (s : State) (k : Fin 128) (v : Nat) (rest : List (Nat × TallyCmd)) (kind n w : Nat) (pair clr : Bool) (vals : List Word),
     (s.unit k).queue = (v, .mtt kind n w pair clr vals) :: rest → (∀ i, i < 8 → (s.th (k.val * 8 + i)).wait ≠ .tsync) →
     (s.th v).mchk = false →
     ∃ t, exec (.tallyCommandComplete k none) s = .next t ∧ t.unit k = Tally.applyMtt { s.unit k with queue := rest } kind n w clr vals ∧
       (∀ j, j ≠ k.val → t.unit j = s.unit j) ∧ t.threads = s.threads ∧ State.frame [.threads, .regs] s t) ∧
   (∀ (s : State) (k : Fin 128) (v : Nat) (rest : List (Nat × TallyCmd)) (f dst n sa sb sc sd : Nat),
     (s.unit k).queue = (v, .top f dst n sa sb sc sd) :: rest →
     (s.microEntry k f = none → (∀ i, i < 8 → (s.th (k.val * 8 + i)).wait ≠ .tsync) → (s.th v).mchk = false →
       ∃ t, exec (.tallyCommandComplete k none) s = .next t ∧
         t.unit k = Tally.applyTop { s.unit k with queue := rest } dst (Tally.top (s.unit k) f n sa sb sc sd).2 ∧
         (∀ j, j ≠ k.val → t.unit j = s.unit j) ∧ t.threads = s.threads ∧ State.frame [.threads, .regs] s t) ∧
     (∀ a, s.microEntry k f = some a →
       ∃ t, exec (.tallyCommandComplete k none) s = .next t ∧
         ((t.unit k).queue = (s.unit k).queue ∨ (t.unit k).queue = rest ∨ (t.unit k).queue = []) ∧ (t.unit k).scale = (s.unit k).scale ∧
         (∀ c w, c ≠ dst → w < 16 → (t.unit k).word c w = (s.unit k).word c w) ∧
         (∀ j, j ≠ k.val → t.unit j = s.unit j) ∧ State.frame [.threads, .regs, .free, .events, .sram] s t)) ∧
   (∀ (s : State) (k : Fin 128) (v : Nat) (rest : List (Nat × TallyCmd)) (kind n w d : Nat) (pair : Bool),
     (s.unit k).queue = (v, .mft kind n w pair [d]) :: rest → (∀ i, i < 8 → (s.th (k.val * 8 + i)).wait ≠ .tsync) → (s.th v).mchk = false →
     ∃ t, exec (.tallyCommandComplete k none) s = .next t ∧ t.unit k = { s.unit k with queue := rest } ∧
       (d ≠ flKey → (t.th v).keyWord d = word (((s.unit k).mftWords kind n w pair).headD 0) ∧ (s.th v).wordsBut (t.th v) [d] ∧
         (t.th v).fl = (s.th v).fl) ∧
       (d = flKey → (t.th v).fl = (word (((s.unit k).mftWords kind n w pair).headD 0)).toNat % 32 ∧ (s.th v).wordsBut (t.th v) []) ∧
       (∀ z, z ≠ v → t.th z = s.th z) ∧ State.frame [.threads, .regs] s t) ∧
   (∀ (s : State) (k : Fin 128) (v : Nat) (c : TallyCmd) (rest : List (Nat × TallyCmd)), (s.unit k).queue = (v, c) :: rest →
     (s.th v).st = .blocked → (s.th v).wait = .tsync → (s.th v).mchk = false → v / 8 = k.val → (∀ e ∈ rest, e.1 ≠ v) →
     (∀ f dst n sa sb sc sd, c = .top f dst n sa sb sc sd → s.microEntry k f = none) →
     ∃ t, exec (.tallyCommandComplete k none) s = .next t ∧ (t.th v).st = .running ∧ (t.th v).synced = true ∧
       (t.th v).pc = ((s.th v).pc + 1) % 131072 ∧ (t.unit k).queue = rest ∧ State.frame [.threads, .regs, .free] s t) ∧
   (∀ (s : State) (k : Fin 128) (a : Fin 2048), (s.unit k).queue ≠ [] → (s.unit k).bank ≤ 1 →
     ∃ t, exec (.tallyCommandComplete k (some a)) s = .next t ∧ (t.unit k).failed = true ∧ (t.unit k).queue = [] ∧
       (t.unit k).acc = (s.unit k).acc ∧ t.rd .tlyUnitMchk k 0 = a.val + (s.unit k).bank * 2048 + 4096 ∧
       (∀ v c rest, (s.unit k).queue = (v, c) :: rest → (s.th v).st = .running → v / 8 = k.val → (s.th v).inTrap = false →
         (s.th v).spillDue = false → (∀ e ∈ (s.th v).shades, e.clash = false) → s.trapped t v 11 1 0 0 (s.th v).pc) ∧
       State.frame [.threads, .regs, .free, .events, .sram] s t)) ∧
  ((∀ (s : State) (a : Accessor) (v : Word32) (i w : Nat), s.permits a .tlyPloadD2 0 0 v.toNat → i = s.f F.tlyPloadAddr_ADDR → i < 528 →
     s.patchFrom = none → w = s.rd .tlyPloadD0 + s.rd .tlyPloadD1 * 2 ^ 32 + v.toNat * 2 ^ 64 →
     ∃ t, exec (.patchWordWrite a v) s = .next t ∧
       t.patches.get 0 ((1 - (s.unit 0).bank) * 1024 + i) = (if i < 512 then w + microParity w else s.rd .tlyPloadD0 % 2048 + 2048) ∧
       (∀ k, k ≠ (1 - (s.unit 0).bank) * 1024 + i → t.patches.get 0 k = s.patches.get 0 k) ∧ t.f F.tlyPloadAddr_ADDR = i + 1 ∧
       t.units = s.units ∧ t.threads = s.threads ∧ State.frame [.threads, .regs, .access] s t) ∧
   (∀ (s : State) (a : Accessor) (v : Word32), s.permits a .tlyPloadD2 0 0 v.toNat →
     (528 ≤ s.f F.tlyPloadAddr_ADDR ∨ s.patchFrom ≠ none) →
     ∃ t, exec (.patchWordWrite a v) s = .next t ∧ t.patches = s.patches ∧ State.frame [.regs, .access] s t) ∧
   (∀ (s : State) (a : Accessor) (v : Word32), s.permits a .tlyPatch 0 0 (withField v 16 1 1) →
     (s.maintBusy 0x60 = none → s.time.live = true →
       ∃ t, exec (.patchApply a v) s = .next t ∧ t.f F.tlyPatch_STATUS = 1 ∧ t.maint = 0x60 :: s.maint ∧ t.patchFrom = some (s.course + 1) ∧
         (∀ k, k < 128 → t.unit k = { s.unit k with exchange := true }) ∧ t.patches = s.patches ∧
         State.frame [.threads, .maint, .regs, .access] s t) ∧
     (s.maintBusy 0x60 = none → s.time.live = false →
       ∃ t, exec (.patchApply a v) s = .next t ∧ t.f F.tlyPatch_STATUS = 2 ∧ t.f F.tlyTver_PATCHED = 1 ∧ t.patchFrom = none ∧
         (∀ k, k < 128 → t.unit k = { s.unit k with exchange := false, bank := 1 - (s.unit k).bank }) ∧ t.patches = s.patches ∧
         State.frame [.threads, .maint, .regs, .access, .events, .free] s t) ∧
     (∀ b, s.maintBusy 0x60 = some b → b < 256 →
       ∃ t, exec (.patchApply a v) s = .next t ∧ t.f F.tlyPatch_STATUS = 3 ∧ t.f F.tlyPatch_BUSY_ID = b ∧ State.frame [.regs, .access] s t)) ∧
   (∀ (s : State) (k : Fin 128) (c : Nat), (s.unit k).exchange = true → (s.unit k).queue = [] → s.patchFrom = some c → c ≤ s.course →
     ∃ t, exec (.bankExchange k) s = .next t ∧ t.unit k = { s.unit k with bank := 1 - (s.unit k).bank, exchange := false } ∧
       (∀ j, j ≠ k.val → t.unit j = s.unit j) ∧ ((∀ j, j < 128 → j ≠ k.val → (s.unit j).exchange = false) → t.patchFrom = none) ∧
       t.threads = s.threads ∧ State.frame [.threads, .regs, .events, .maint, .free] s t))

/-! ### Settlement and the twin -/

/-- R331: an Elvant frame of another pair or version is ignored and counted, whatever its type; one of a course too far off raises
COURSE_MISMATCH as well. R323, R336, R339: HEARTBEAT says that the other device is there; SETTLE segments are gathered in order on a
shadow and on a joiner, and one that is missing or a settlement whose CRC is wrong is asked for again; ACK of the oldest settled course
accepts it, or has its segments sent again. R331, R335, R341, R340: a FILL_REQ is answered with the entry's frame; FILL_DATA of a
wanted entry is held as its frame, or waits for cells; MARK gives counts or lets go of a course's frames; ABANDON leads to HELD. R350:
an ALONE device takes a joiner where nothing bars it and refuses it by its reason where something does; of two JOINING devices the one
strapped LEAD acts alone; copied records reach the joiner's DRAM and ledger, and JOIN_DONE makes it SHADOW at the next strobe. -/
def Obligations.TwinFrames : Prop :=
  (∀ (s : State) (f : Elvant) (rest : List (List Byte)),
     ∀ e ∈ ([(.heartbeat f, 1, true), (.settle f, 2, false), (.ack f, 3, false), (.fillReq f, 4, false), (.fillData f, 5, false), (.mark f, 6, false),
         (.abandon f, 7, false), (.joinReq f, 8, true), (.joinCopy f, 9, false), (.joinDone f, 10, false)] : List (Instr × Nat × Bool)),
       s.arrives e.2.1 f rest →
       (f.pair.toNat ≠ s.f F.stlPair_PAIR_ID ∨ f.version ≠ 1 →
         ∃ t, exec e.1 s = .next t ∧ t.regs = (s.count F.stlStatForeign_FOREIGN).regs ∧ (t.port (10 + f.lane)).ctlQ = rest ∧
           State.frame [.regs, .ports] s t) ∧
       (f.pair.toNat = s.f F.stlPair_PAIR_ID → f.version = 1 → s.elvantCourseOk e.2.2 f = false →
         ∃ t, exec e.1 s = .next t ∧ (s.count F.stlStatForeign_FOREIGN).raise Ev.COURSE_MISMATCH = { t with ports := s.ports } ∧
           (t.port (10 + f.lane)).ctlQ = rest ∧ State.frame [.regs, .ports, .events, .free] s t)) ∧
  ((∀ (s : State) (f : Elvant) (rest : List (List Byte)), s.hears 1 true f rest →
     ∃ t, exec (.heartbeat f) s = .next t ∧ t.stl = s.heard f ∧ (t.port (10 + f.lane)).ctlQ = rest ∧ State.frame [.settle, .ports] s t) ∧
   (∀ (s : State) (f : Elvant) (rest : List (List Byte)) (ws : List Word), s.hears 2 false f rest → f.body = .words ws →
     (s.stlState = 4 ∨ (s.stlState = 2 ∨ s.stlState = 6) ∧ s.stl.join.isSome = true →
       (f.segment = 0 → f.last = false → s.stl.inbox.find? (fun x => x.course == f.course.toNat) = none →
         ∃ t, exec (.settle f) s = .next t ∧
           t.stl = { s.heard f with inbox := s.stl.inbox ++ [{ course := f.course.toNat, segs := 1, words := ws, body := none, applied := false, fills := [] }] } ∧
           State.frame [.settle, .ports] s t) ∧
       (∀ x, s.stl.inbox.find? (fun x => x.course == f.course.toNat) = some x → x.body = none → x.segs = f.segment.toNat →
         (f.last = false →
           ∃ t, exec (.settle f) s = .next t ∧
             t.stl.inbox = s.stl.inbox.filter (fun z => z.course != f.course.toNat) ++ [{ x with segs := x.segs + 1, words := x.words ++ ws }] ∧
             State.frame [.settle, .ports] s t) ∧
         (f.last = true → readSettlement (x.words ++ ws) = none →
           ∃ t, exec (.settle f) s = .next t ∧
             t.stl.inbox = s.stl.inbox.filter (fun z => z.course != f.course.toNat) ++ [{ x with segs := 0, words := [] }] ∧
             State.frame [.settle, .ports, .regs, .sent, .free] s t) ∧
         (∀ b, f.last = true → readSettlement (x.words ++ ws) = some b → s.stlState = 4 →
           ∃ t, exec (.settle f) s = .next t ∧ (∃ y ∈ t.stl.inbox, y.course = f.course.toNat ∧ y.body = some b) ∧
             State.frame [.dispatch, .dram, .dramCtl, .events, .free, .ports, .regs, .sent, .settle, .sram, .stations, .threads] s t)) ∧
       (∀ x, s.stl.inbox.find? (fun x => x.course == f.course.toNat) = some x → x.body = none → x.segs < f.segment.toNat →
         ∃ t, exec (.settle f) s = .next t ∧ t.stl.inbox = s.stl.inbox ∧ State.frame [.settle, .ports, .regs, .sent, .free] s t)) ∧
     (¬(s.stlState = 4 ∨ (s.stlState = 2 ∨ s.stlState = 6) ∧ s.stl.join.isSome = true) →
       ∃ t, exec (.settle f) s = .next t ∧ t.stl = s.heard f ∧ State.frame [.settle, .ports] s t)) ∧
   (∀ (s : State) (f : Elvant) (rest : List (List Byte)) (b : Settlement) (bs : List Settlement), s.hears 3 false f rest → s.stlState = 3 →
     s.stl.settled = b :: bs →
     (b.course = f.course.toNat → s.stl.ackFrom ≤ b.course → wAt (elvantWords f) 0 ≠ 1 →
       ∃ t, exec (.ack f) s = .next t ∧ t.acceptedPlus = b.course + 1 ∧ (∀ c ∈ t.stl.settled, c ∈ s.stl.settled ∧ c.course ≠ b.course) ∧
         (∀ d ∈ t.deltas, b.course < d.course) ∧ t.dram = s.dram ∧ t.journal = s.journal ∧
         State.frame [.cells, .dispatch, .events, .free, .ports, .regs, .sent, .settle] s t) ∧
     (wAt (elvantWords f) 0 = 1 →
       ∃ t, exec (.ack f) s = .next t ∧ t.acceptedPlus = s.acceptedPlus ∧ t.stl.settled = s.stl.settled ∧
         State.frame [.free, .ports, .regs, .sent, .settle] s t) ∧
     (b.course ≠ f.course.toNat ∨ b.course < s.stl.ackFrom → wAt (elvantWords f) 0 ≠ 1 →
       ∃ t, exec (.ack f) s = .next t ∧ t.stl = s.heard f ∧ State.frame [.settle, .ports] s t)) ∧
   (∀ (s : State) (f : Elvant) (rest : List (List Byte)), s.hears 3 false f rest → s.stlState ≠ 3 ∨ s.stl.settled = [] →
     ∃ t, exec (.ack f) s = .next t ∧ t.stl = s.heard f ∧ State.frame [.settle, .ports] s t)) ∧
  ((∀ (s : State) (f : Elvant) (rest : List (List Byte)) (port i l : Nat) (ls : List Nat) (b : Settlement) (e : Ident), s.hears 4 false f rest →
     f.body = .fillReq port i → stlRuns s.stlState = true → s.upLanes = l :: ls →
     s.stl.settled.find? (fun b => b.course == f.course.toNat) = some b → (identsOf b.idents port)[i]? = some e →
     ∃ t g, exec (.fillReq f) s = .next t ∧ t.emits.head? = some (.elvant 5 g) ∧ g.lane.val = l ∧ g.course = f.course ∧
       g.body = .fillData port i e.stamp (BitVec.ofNat 32 e.seq) (match e.cell with | some c => s.chainBytes c 0 e.len | none => [])
         (e.inner.map fun c => s.chainBytes c.1 0 c.2) ∧
       t.stl = { s.heard f with backlog := t.stl.backlog } ∧ State.frame [.free, .ports, .regs, .sent, .settle] s t) ∧
   (∀ (s : State) (f : Elvant) (rest : List (List Byte)) (port i : Nat), s.hears 4 false f rest → f.body = .fillReq port i →
     stlRuns s.stlState = false ∨ s.stl.settled.find? (fun b => b.course == f.course.toNat) = none →
     ∃ t, exec (.fillReq f) s = .next t ∧ t.stl = s.heard f ∧ State.frame [.ports, .settle] s t) ∧
   (∀ (s : State) (f : Elvant) (rest : List (List Byte)) (port i : Nat) (stamp : Word64) (seq : Word32) (frame bytes : List Byte)
     (inner : Option (List Byte)) (x : Inbox) (b : Settlement),
     s.hears 5 false f rest → f.body = .fillData port i stamp seq frame inner → s.stlState = 4 → bytes = inner.getD frame →
     s.stl.inbox.find? (fun x => x.course == f.course.toNat && x.fills.contains (port, i)) = some x → x.body = some b →
     b.course = f.course.toNat →
     ((s.takeCells none 16 (cellsFor bytes.length)).isSome = true →
       ∃ t h, exec (.fillData f) s = .next t ∧ t.heldFrames = s.heldFrames ++ [h] ∧ h.entry = some (b.course, port, i) ∧ h.len = bytes.length ∧
         (∀ y ∈ t.stl.inbox, y.course = b.course → ∃ z ∈ s.stl.inbox, z.course = b.course ∧ y.fills = z.fills.erase (port, i)) ∧
         t.pending = s.pending) ∧
     (s.takeCells none 16 (cellsFor bytes.length) = none →
       ∃ t, exec (.fillData f) s = .next t ∧
         t.stl = { s.heard f with fillWait := s.stl.fillWait ++ [⟨b.course, port, i, stamp, seq.toNat, frame, inner⟩] } ∧
         State.frame [.ports, .settle] s t)) ∧
   (∀ (s : State) (f : Elvant) (rest : List (List Byte)), s.hears 5 false f rest → s.stlState ≠ 4 →
     ∃ t, exec (.fillData f) s = .next t ∧ t.stl = s.heard f ∧ State.frame [.ports, .settle] s t) ∧
   (∀ (s : State) (f : Elvant) (rest : List (List Byte)), s.hears 6 false f rest → f.released = true →
     ∃ t, exec (.mark f) s = .next t ∧
       t.heldFrames = s.heldFrames.filter (fun h => !(match h.entry with
         | some e => e.1 == f.course.toNat && f.course.toNat < s.acceptedPlus && h.code != 4
         | none => false)) ∧
       t.stl = { s.heard f with kept := s.stl.kept.filter fun e => e.body.course != f.course.toNat } ∧
       State.frame [.cells, .events, .ports, .regs, .sent, .settle, .free] s t) ∧
   (∀ (s : State) (f : Elvant) (rest : List (List Byte)), s.hears 6 false f rest → f.released = false →
     ∃ t, exec (.mark f) s = .next t ∧ t.heldFrames = s.heldFrames ∧
       (∀ (k : Kept) (o : Nat), k ∈ t.stl.kept → k.body.course = f.course.toNat → o < 16 → k.marks.get 0 o = wAt (elvantWords f) o) ∧
       t.stl.kept.map (·.body) = s.stl.kept.map (·.body) ∧ State.frame [.settle, .ports] s t) ∧
   (∀ (s : State) (f : Elvant) (rest : List (List Byte)), s.hears 7 false f rest →
     ∃ t, exec (.abandon f) s = .next t ∧ t.stl = (if s.stlState = 4 then { s.heard f with toState := some 6 } else s.heard f) ∧
       State.frame [.settle, .ports] s t)) ∧
  ((∀ (s : State) (f : Elvant) (rest : List (List Byte)) (strap : Bool) (tver : Nat) (ds : List Word32), s.hears 8 true f rest →
     f.body = .joinReq strap tver ds →
     (s.stlState = 5 → s.f F.stlCfg_JOIN_EN ≠ 0 → s.stl.join = none → s.joinReason f.course.toNat ds = 0 →
       ∃ t, exec (.joinReq f) s = .next t ∧ t.stl = { s.heard f with join := some { joiner := false, at_ := none } } ∧
         t.f F.stlStatus_JOIN = 1 ∧ t.stlState = 5 ∧ t.maint = 0x62 :: s.maint ∧ State.frame [.maint, .ports, .regs, .settle] s t) ∧
     (∀ r, s.stlState = 5 → s.f F.stlCfg_JOIN_EN ≠ 0 → s.stl.join = none → s.joinReason f.course.toNat ds = r → r ≠ 0 →
       ∃ t, exec (.joinReq f) s = .next t ∧ t.stl = s.heard f ∧ t.f F.stlStatus_JOIN = 3 ∧ t.f F.stlStatus_JOIN_REASON = r ∧
         State.frame [.ports, .regs, .settle] s t) ∧
     (s.stlState = 2 →
       ∃ t, exec (.joinReq f) s = .next t ∧
         t.stl = (if strap = s.b F.stlStatus_STRAP then { s.heard f with conflict := true }
           else if s.b F.stlStatus_STRAP then s.heard f else { s.heard f with toState := some 5 }) ∧ State.frame [.ports, .settle] s t) ∧
     (s.stlState ≠ 2 → s.stlState ≠ 5 ∨ s.f F.stlCfg_JOIN_EN = 0 ∨ s.stl.join.isSome = true →
       ∃ t, exec (.joinReq f) s = .next t ∧ t.stl = s.heard f ∧ State.frame [.ports, .settle] s t)) ∧
   (∀ (s : State) (f : Elvant) (rest : List (List Byte)) (x q tag h : Nat) (v : Bool) (data : List Byte), s.hears 9 false f rest →
     f.body = .joinCopy (.ledger x q tag h v data) → s.stlState = 2 ∨ s.stlState = 6 → x < 16 →
     ∃ t, exec (.joinCopy f) s = .next t ∧ t.stl = { s.heard f with join := some { joiner := true, at_ := none } } ∧ t.f F.stlStatus_JOIN = 1 ∧
       (∃ e ∈ t.ledger.get [] x, e.seq = q ∧ e.tag = tag ∧ e.data = data) ∧ (∀ y, y ≠ x → t.ledger.get [] y = s.ledger.get [] y) ∧
       State.frame [.ports, .regs, .settle] s t) ∧
   (∀ (s : State) (f : Elvant) (rest : List (List Byte)) (i : Nat) (g : Nat → Word), s.hears 9 false f rest →
     f.body = .joinCopy (.sa i ((List.range 56).map fun w => (w, g w))) → s.stlState = 2 ∨ s.stlState = 6 → i < 2 ^ 21 →
     ∃ t, exec (.joinCopy f) s = .next t ∧ t.stl = { s.heard f with join := some { joiner := true, at_ := none } } ∧ t.f F.stlStatus_JOIN = 1 ∧
       (∀ w, w = 2 ∨ w = 3 ∨ 8 ≤ w ∧ w ≤ 55 → t.saWord i w = (g w).toNat) ∧ State.frame [.dram, .ports, .regs, .settle, .stations] s t) ∧
   (∀ (s : State) (f : Elvant) (rest : List (List Byte)) (h : Nat) (ws : List (Nat × Word)), s.hears 9 false f rest →
     f.body = .joinCopy (.station h ws) → s.stlState = 2 ∨ s.stlState = 6 →
     ∃ t, exec (.joinCopy f) s = .next t ∧ t.stl.join = some { joiner := true, at_ := none } ∧ t.f F.stlStatus_JOIN = 1 ∧
       State.frame [.dram, .dramCtl, .events, .free, .ports, .regs, .settle, .stations, .threads] s t) ∧
   (∀ (s : State) (f : Elvant) (rest : List (List Byte)) (k : Word64), s.hears 10 false f rest → f.body = .joinDone k →
     s.stlState = 2 ∨ s.stlState = 6 →
     ∃ t, exec (.joinDone f) s = .next t ∧ t.stl = { s.heard f with join := none, toState := some 4 } ∧ t.f F.stlStatus_JOIN = 2 ∧
       State.frame [.events, .ports, .regs, .settle, .free] s t) ∧
   (∀ (s : State) (f : Elvant) (rest : List (List Byte)), s.stlState ≠ 2 → s.stlState ≠ 6 →
     (s.hears 9 false f rest → ∃ t, exec (.joinCopy f) s = .next t ∧ t.stl = s.heard f ∧ State.frame [.ports, .settle] s t) ∧
     (s.hears 10 false f rest → ∃ t, exec (.joinDone f) s = .next t ∧ t.stl = s.heard f ∧ State.frame [.ports, .settle] s t)) ∧
   (∀ (s : State) (j : JoinRun), s.stl.join = some j → j.joiner = false → s.stlState = 5 →
     ∃ t, exec .joinCopyComplete s = .next t ∧
       t.stl = { s.stl with join := none, ackFrom := s.course + 1, toState := some 3, backlog := t.stl.backlog } ∧
       t.f F.stlStatus_JOIN = 2 ∧ (∀ m, m ∈ t.maint ↔ m ∈ s.maint ∧ m ≠ 0x62) ∧ State.frame [.events, .free, .maint, .regs, .sent, .settle] s t) ∧
   (∀ s : State, s.joinWaitOver = true →
     ∃ t, exec .joinWaitExpiry s = .next t ∧ t.stl = { s.stl with toState := some 5 } ∧ State.frame [.settle] s t))

/-- R323, R333, R336, R337, R339-R343, R349: the shadow acknowledges the next course once it is applied and filled; a late ACK ends the
pair; silence makes a lead ALONE and a shadow take over or hold; frames no entry names are let go; a journal record accepts its course. -/
def Obligations.SettlementEvents : Prop :=
  (∀ (s : State) (x : Inbox), s.stlState = 4 → s.stl.inbox.find? (fun x => x.course == s.acceptedPlus && x.ready) = some x →
    ∃ t, exec .ackSend s = .next t ∧ t.acceptedPlus = s.acceptedPlus + 1 ∧ (∀ y ∈ t.stl.inbox, y ∈ s.stl.inbox ∧ y.course ≠ s.acceptedPlus) ∧
      State.frame [.cells, .dispatch, .events, .free, .ports, .regs, .sent, .settle] s t) ∧
  (∀ s : State, s.ackLate = true →
    ∃ t, exec .ackTimeout s = .next t ∧ t.stlState = 5 ∧ t.stl.toState = none ∧ t.stl.join = none ∧ t.acceptedPlus = s.acceptedPlus ∧
      State.frame [.dramCtl, .events, .free, .maint, .regs, .sent, .settle] s t) ∧
  (∀ s : State, s.linkQuiet = true →
    ∃ t, exec .linkSilence s = .next t ∧ t.stl.quiet = true ∧ (s.stlState = 3 → t.stl.toState = some 5 ∧ t.stl.join = none) ∧
      (s.stlState = 4 → s.stl.aliveAt = 0 ∨ s.stl.aliveAt - 1 + courseUnits s.time.len ≤ s.now →
        t.stl = { s.stl with quiet := true, takeover := some s.course, inbox := [], toState := some 5 }) ∧
      (s.stlState = 4 → s.stl.aliveAt ≠ 0 → s.now < s.stl.aliveAt - 1 + courseUnits s.time.len →
        t.stl = { s.stl with quiet := true, toState := some 6 }) ∧ t.stlState = s.stlState ∧
      State.frame [.events, .maint, .regs, .settle, .free] s t) ∧
  (∀ s : State, s.stl.aliveNote = true → s.aliveIn = false →
    ∃ t, exec .twinAliveLost s = .next t ∧ t.stl = { s.stl with aliveNote := false } ∧ State.frame [.events, .regs, .settle, .free] s t) ∧
  (∀ s : State,
    ∃ t, exec .twinAliveInToggle s = .next t ∧ t.stl = { s.stl with aliveAt := s.now + 1, aliveNote := true } ∧ State.frame [.settle] s t) ∧
  (∀ s : State, s.shadowStale ≠ [] →
    ∃ t, exec .shadowOnlyDiscard s = .next t ∧
      (∀ h ∈ t.heldFrames, h ∈ s.heldFrames ∧ (h.entry.isSome = true ∨ s.course < h.pkt.stampCourse + 3)) ∧ t.stl = s.stl ∧
      State.frame [.cells, .events, .ports, .regs, .sent, .settle, .free] s t) ∧
  (∀ (s : State) (r : JRec), s.journalDue = true → s.journal.find? (fun r => !r.complete) = some r →
    ∃ t, exec .journalRecordComplete s = .next t ∧ t.acceptedPlus = r.body.course + 1 ∧
      t.journal.map (fun q => (q.body, q.gen, q.at_)) = s.journal.map (fun q => (q.body, q.gen, q.at_)) ∧
      t.journal.map (·.complete) = s.journal.map (fun q => q.complete || (q.gen == r.gen && q.body.course == r.body.course)) ∧ t.dram = s.dram ∧
      State.frame [.cells, .dispatch, .dramCtl, .events, .ports, .regs, .sent, .settle, .free] s t) ∧
  (∀ (s : State) (g : Nat), s.stl.recover = some g → s.sup.ready = true →
    ∃ t, exec .journalRecovery s = .next t ∧ t.stl.recover = none ∧ t.f F.supBoot_RECOVERED = 1 ∧ t.appends = [] ∧
      t.journal.map (fun r => (r.at_, r.gen)) =
        ((s.journal.filter fun r => r.gen == g).takeWhile fun r => r.complete && (s.journalRead r).isSome).map (fun r => (r.at_, r.gen)) ∧
      t.pending = s.pending)

/-- R340, R346: FORCE_LEAD makes a JOINING or HELD device ALONE at the next strobe and does nothing else; an append that fails a check is
answered with its code and leaves nothing, one that passes waits for its course's settlement with its bytes. -/
def Obligations.SettlementCommands : Prop :=
  (∀ (s : State) (a : Accessor) (v : Word32), s.permits a .stlCtl 0 0 (withField v 0 1 1) →
    ∃ t, exec (.forceLead a v) s = .next t ∧
      t.stl = (if s.stlState = 2 ∨ s.stlState = 6 then { s.stl with toState := some 5 } else s.stl) ∧ t.banks = s.banks ∧
      State.frame [.settle, .access] s t) ∧
  (∀ (s : State) (a : Accessor) (x : Target) (v : Word32) (h len off y c : Nat), s.permits a .stlAppendCmd x 0 (withField v 0 1 1) →
    h = s.fA a.num F.stlAppendHandle_HANDLE x → len = s.fA a.num F.stlAppendLen_LENGTH x → off = s.fA a.num F.stlAppendLen_OFFSET x →
    y = (if x.val = 16 then s.fA a.num F.stlAppendTag_STALL x else x.val) → s.appendCheck y h off len = c →
    (c ≠ 0 → c ≠ 4 → ∃ t, exec (.ledgerAppend a x v) s = .next t ∧ t.fA a.num F.stlAppendResult_CODE x = c ∧ State.frame [.regs, .access] s t ∧
      State.regsBut s t [Reg.key .stlAppendResult a.num x 0]) ∧
    (c = 4 → ∃ t, exec (.ledgerAppend a x v) s = .next t ∧ t.fA a.num F.stlAppendResult_CODE x = 4 ∧ t.appends = s.appends ∧
      State.frame [.regs, .events, .access, .free] s t) ∧
    (c = 0 → ∃ t e, exec (.ledgerAppend a x v) s = .next t ∧ t.fA a.num F.stlAppendResult_CODE x = 0 ∧ t.appends = s.appends ++ [e] ∧
      e.stall = y ∧ e.data = s.chainBytes h off len ∧ e.tag = s.fA a.num F.stlAppendTag_TAG x ∧
      (accThread a = none → e.course = s.course ∧ e.live = true) ∧ t.ledger = s.ledger ∧ State.frame [.settle, .regs, .access, .dramCtl, .free] s t ∧
      State.regsBut s t [Reg.key .stlAppendResult a.num x 0]))

/-! ### DRAM -/

/-- R351, R352, R356: ENABLE is refused for a configuration or an address map that is not supported, and else begins training; R355: START
retrains a READY channel; R364: the scrub period starts, refuses and stops the scrub. R353-R355, R359, R361: training ends in READY or
FAILED; an automatic retraining is a maintenance activity and ends in READY; a due refresh closes its banks or, where a request is
urgent, is put off; MR4 readings and throttles. -/
def Obligations.DramRegisters : Prop :=
  ((∀ (s : State) (a : Accessor) (ch : Fin 4) (v : Word32) (w : Nat), w = withField v 16 1 1 → s.permits a .drcCfg ch 0 w →
     s.b F.drcCfg_ENABLE ch = false →
     (cfgGib w = none → ∃ t, exec (.dramEnable a ch v) s = .next t ∧ t.dstate ch = 5 ∧ t.f F.drcStatus_FAIL_REASON ch = 1 ∧
       t.rd .drcCfg ch = s.rd .drcCfg ch ∧ State.frame [.regs, .access] s t ∧ State.regsBut s t [Reg.key .drcStatus 0 ch 0]) ∧
     (cfgGib w ≠ none → s.mapValid w = false → ∃ t, exec (.dramEnable a ch v) s = .next t ∧ t.dstate ch = 5 ∧
       t.f F.drcStatus_FAIL_REASON ch = 4 ∧ State.frame [.regs, .access] s t ∧ State.regsBut s t [Reg.key .drcStatus 0 ch 0]) ∧
     (cfgGib w ≠ none → s.mapValid w = true → ∃ t, exec (.dramEnable a ch v) s = .next t ∧ t.dstate ch = 1 ∧
       t.b F.drcCfg_ENABLE ch = true ∧ t.rd .drcCfg ch = w % 4096 + 65536 ∧ State.frame [.regs, .access] s t ∧
       State.regsBut s t [Reg.key .drcStatus 0 ch 0, Reg.key .drcCfg 0 ch 0, Reg.key .arbCap 0 0 0])) ∧
   (∀ (s : State) (a : Accessor) (ch : Fin 4) (v : Word32), s.permits a .drcCfg ch 0 (withField v 16 1 1) → s.b F.drcCfg_ENABLE ch = true →
     ∃ t, exec (.dramEnable a ch v) s = .next t ∧ State.frame [.access] s t) ∧
   (∀ (s : State) (a : Accessor) (ch : Fin 4) (v : Word32), s.permits a .drcTrain ch 0 (withField v 16 1 1) →
     (s.dstate ch = 2 → s.maintBusy (0x10 + ch) = none →
       ∃ t, exec (.dramRetrainStart a ch v) s = .next t ∧ t.dstate ch = 4 ∧ t.f F.drcTrain_STATUS ch = 1 ∧ t.maint = (0x10 + ch.val) :: s.maint ∧
         t.f F.drcTrain_PERIOD_MS ch = bits v.toNat 0 12 ∧ State.frame [.dramCtl, .maint, .regs, .access] s t) ∧
     (s.dstate ch ≠ 2 →
       ∃ t, exec (.dramRetrainStart a ch v) s = .next t ∧ t.f F.drcTrain_STATUS ch = s.f F.drcTrain_STATUS ch ∧
         t.f F.drcTrain_PERIOD_MS ch = bits v.toNat 0 12 ∧ State.frame [.regs, .access] s t ∧ State.regsBut s t [Reg.key .drcTrain 0 ch 0]) ∧
     (∀ b, s.dstate ch = 2 → s.maintBusy (0x10 + ch) = some b → b < 256 →
       ∃ t, exec (.dramRetrainStart a ch v) s = .next t ∧ t.dstate ch = 2 ∧ t.f F.drcTrain_STATUS ch = 3 ∧ t.f F.drcTrain_BUSY_ID ch = b ∧
         State.frame [.regs, .access] s t)) ∧
   (∀ (s : State) (a : Accessor) (ch : Fin 4) (v : Word32) (h : Nat), s.permits a .drcScrub ch 0 v.toNat → h = v.toNat % 256 →
     (h ≠ 0 → s.f F.drcScrub_STATUS ch ≠ 1 → s.maintBusy (0x20 + ch) = none →
       ∃ t, exec (.scrubPeriodWrite a ch v) s = .next t ∧ t.f F.drcScrub_STATUS ch = 1 ∧ t.f F.drcScrub_PERIOD_H ch = h ∧
         t.maint = (0x20 + ch.val) :: s.maint ∧ State.frame [.maint, .regs, .access] s t) ∧
     (∀ b, h ≠ 0 → s.f F.drcScrub_STATUS ch ≠ 1 → s.maintBusy (0x20 + ch) = some b → b < 256 →
       ∃ t, exec (.scrubPeriodWrite a ch v) s = .next t ∧ t.f F.drcScrub_STATUS ch = 2 ∧ t.f F.drcScrub_BUSY_ID ch = b ∧
         State.frame [.regs, .access] s t) ∧
     (h ≠ 0 → s.f F.drcScrub_STATUS ch = 1 →
       ∃ t, exec (.scrubPeriodWrite a ch v) s = .next t ∧ t.f F.drcScrub_STATUS ch = 1 ∧ t.f F.drcScrub_PERIOD_H ch = h ∧
         State.frame [.regs, .access] s t ∧ State.regsBut s t [Reg.key .drcScrub 0 ch 0]) ∧
     (h = 0 → s.f F.drcScrub_STATUS ch ≠ 1 →
       ∃ t, exec (.scrubPeriodWrite a ch v) s = .next t ∧ t.f F.drcScrub_STATUS ch = 0 ∧ t.f F.drcScrub_PERIOD_H ch = 0 ∧
         State.frame [.regs, .access] s t ∧ State.regsBut s t [Reg.key .drcScrub 0 ch 0]) ∧
     (h = 0 → s.f F.drcScrub_STATUS ch = 1 →
       ∃ t, exec (.scrubPeriodWrite a ch v) s = .next t ∧ t.f F.drcScrub_STATUS ch = 0 ∧ t.f F.drcScrub_PERIOD_H ch = 0 ∧
         (∀ m, m ∈ t.maint ↔ m ∈ s.maint ∧ m ≠ 0x20 + ch.val) ∧ State.frame [.maint, .events, .regs, .access, .free] s t))) ∧
  ((∀ (s : State) (ch : Fin 4), s.dstate ch = 1 ∨ s.dstate ch = 3 ∧ s.f F.supPwr_STATE ≠ 2 →
     (∃ t, exec (.trainingComplete ch 0) s = .next t ∧ t.dstate ch = 2 ∧ t.ctl.lastTrain.get 0 ch = s.now ∧ t.ctl.queue = s.ctl.queue ∧
       State.frame [.dramCtl, .regs] s t ∧ State.regsBut s t [Reg.key .drcStatus 0 ch 0]) ∧
     ∀ n : Fin 3, n ≠ 0 → ∃ t, exec (.trainingComplete ch n) s = .next t ∧ t.dstate ch = 5 ∧ t.f F.drcStatus_FAIL_REASON ch = 1 + n.val ∧
       State.frame [.events, .regs, .free] s t) ∧
   (∀ (s : State) (ch : Fin 4) (temp : Fin 128), s.retrainAutoDue ch temp = true → s.maintBusy (0x10 + ch) = none →
     ∃ t, exec (.dramRetrainAuto ch temp) s = .next t ∧ t.dstate ch = 4 ∧ t.f F.drcTrain_STATUS ch = 1 ∧ t.maint = (0x10 + ch.val) :: s.maint ∧
       ch.val ∉ t.ctl.owed ∧ State.frame [.dramCtl, .maint, .regs] s t) ∧
   (∀ (s : State) (ch : Fin 4) (temp : Fin 128) (b : Nat), s.retrainAutoDue ch temp = true → s.maintBusy (0x10 + ch) = some b → b < 256 →
     ∃ t, exec (.dramRetrainAuto ch temp) s = .next t ∧ t.dstate ch = 2 ∧ t.f F.drcTrain_STATUS ch = 3 ∧ t.f F.drcTrain_BUSY_ID ch = b ∧
       t.ctl.retryAt.get 0 ch = s.course + 1 ∧ State.frame [.dramCtl, .regs] s t) ∧
   (∀ (s : State) (ch : Fin 4), s.f F.drcTrain_STATUS ch = 1 → (s.ctl.outSub.get (0, 0) ch).1 = 1 →
     ∃ t, exec (.trainDone ch) s = .next t ∧ t.dstate ch = 2 ∧ t.f F.drcTrain_STATUS ch = 2 ∧ t.ctl.lastTrain.get 0 ch = s.now ∧
       (∀ m, m ∈ t.maint ↔ m ∈ s.maint ∧ m ≠ 0x10 + ch.val) ∧ State.frame [.dramCtl, .events, .maint, .regs, .free] s t) ∧
   (∀ (s : State) (ch : Fin 4) (sub rank : Fin 2) (ba : Fin 4), s.dstate ch = 2 ∨ s.dstate ch = 4 →
     ((∀ q ∈ s.subQueue ch sub, q.place.rank = rank.val → q.place.ba = ba.val →
       (s.f F.drcRef_URGENT_NS ch : Int) < signed 32 (q.deadline + 2 ^ 32 - s.now8) * 8) ∨
       min 8 (s.f F.drcRef_MAX ch) ≤ (s.ctl.postponed.get [] ch).length) →
     ∃ t, exec (.refreshDue ch sub rank ba) s = .next t ∧
       (∀ g, g < 8 → (t.bankOf { ch := ch, sub := sub, rank := rank, bg := g, ba := ba, row := 0, col := 0 }).opened = none) ∧
       t.ctl.queue = s.ctl.queue ∧ State.frame [.dramCtl] s t) ∧
   (∀ (s : State) (ch : Fin 4) (sub rank : Fin 2) (ba : Fin 4) (q : DReq), s.dstate ch = 2 ∨ s.dstate ch = 4 → q ∈ s.subQueue ch sub → q.place.rank = rank.val →
     q.place.ba = ba.val → signed 32 (q.deadline + 2 ^ 32 - s.now8) * 8 ≤ (s.f F.drcRef_URGENT_NS ch : Int) →
     (s.ctl.postponed.get [] ch).length < min 8 (s.f F.drcRef_MAX ch) →
     ∃ t, exec (.refreshDue ch sub rank ba) s = .next t ∧
       t.ctl.postponed.get [] ch = s.ctl.postponed.get [] ch ++ [(sub.val, rank.val, ba.val)] ∧ t.ctl.banks = s.ctl.banks ∧
       State.frame [.dramCtl] s t) ∧
   (∀ (s : State) (ch : Fin 4) (code : Fin 8) (beyond : Bool), s.dstate ch = 2 →
     ∃ t, exec (.mr4Poll ch code beyond) s = .next t ∧ t.f F.drcStatus_REF_RATE ch = code ∧ t.dstate ch = 2 ∧
       (beyond = false → State.regsBut s t [Reg.key .drcStatus 0 ch 0]) ∧ State.frame [.events, .regs, .free] s t) ∧
   (∀ (s : State) (r : Fin 64) (ch : Fin 4), s.ctl.throttled.get 0 (ch * 64 + r) ≠ 0 → s.ctl.throttled.get 0 (ch * 64 + r) ≤ s.course →
     ∃ t, exec (.throttleExpiry r ch) s = .next t ∧ t.ctl.throttled.get 0 (ch * 64 + r) = 0 ∧ t.isThrottled ch r = false ∧
       (∀ k, k ≠ ch.val * 64 + r.val → t.ctl.throttled.get 0 k = s.ctl.throttled.get 0 k) ∧ State.frame [.dramCtl] s t))

/-- R357, R358, R362, R365, R366: the arbiter's choice is admitted: a load then waits for its data, a store is performed unless its check
finds an error that cannot be corrected; an access beyond the installed capacity gets an error response; a command of a channel goes to
the row that is open, or opens or closes a bank; a returned read answers its thread, a pair at an odd address by two reads (R201). -/
def Obligations.DramAccesses : Prop :=
  (∀ (s : State) (ch : Fin 4) (chk : DramCheck) (w : Waiting) (p : DPlace), (ch.val = 0 → s.badWaiting = none) →
    s.dstate ch = 2 ∨ s.dstate ch = 4 → s.arbPick ch = some (w, p) →
    (∀ u r, w.who = some (u, r) → r.load = true → (s.th u).wait = .far r →
      ∃ t, exec (.dramRequestAdmit ch chk) s = .next t ∧ (t.th u).wait = .far { r with admitted := true } ∧
        (∃ q, t.ctl.queue = s.ctl.queue ++ [q] ∧ q.place = p ∧ q.read = w.req.read ∧ q.thread = some u) ∧ t.dram = s.dram ∧
        (∀ z, z ≠ u → t.th z = s.th z) ∧ State.frame [.threads, .dramCtl, .regs, .free] s t) ∧
    (∀ u r, w.who = some (u, r) → r.load = false → r.words.length ≤ 2 →
      (chk = .ok →
        ∃ t, exec (.dramRequestAdmit ch chk) s = .next t ∧
          (t.th u).posted = (if r.split = true ∧ r.second = false then
            (s.th u).posted.map (fun (q : FarReq) => if q = r then { q with low := r.data.head? } else q) else (s.th u).posted.erase r) ∧
          (∀ i, i < r.words.length → t.dramWord (w.req.addr + 2 * i) = r.words.getD i 0) ∧
          (∀ z, z < w.req.addr ∨ w.req.addr + 2 * r.words.length ≤ z → t.dramByte z = s.dramByte z) ∧
          (∃ q, t.ctl.queue = s.ctl.queue ++ [q] ∧ q.place = p ∧ q.read = w.req.read) ∧ t.pending = s.pending) ∧
      (chk = .uncorrectable ∨ chk = .failed →
        ∃ t, exec (.dramRequestAdmit ch chk) s = .next t ∧
          (t.th u).posted = (s.th u).posted.map (fun (q : FarReq) => if q = r then { q with answer := some none } else q) ∧ t.dram = s.dram ∧
          State.frame [.threads, .dramCtl, .regs, .events, .free] s t)) ∧
    (w.who = none → w.req.read = true →
      ∃ t, exec (.dramRequestAdmit ch chk) s = .next t ∧ t.ctl.units = s.ctl.units.erase w.req ∧
        (∃ q, t.ctl.queue = s.ctl.queue ++ [q] ∧ q.place = p ∧ q.read = true ∧ q.thread = none) ∧ State.frame [.dramCtl, .regs, .free] s t) ∧
    (w.who = none → w.req.read = false → chk = .ok →
      ∃ t, exec (.dramRequestAdmit ch chk) s = .next t ∧
        (∀ i, i < w.req.data.length → t.dramWord (w.req.addr + 2 * i) = w.req.data.getD i 0) ∧
        (∀ z, z < w.req.addr ∨ w.req.addr + 2 * w.req.data.length ≤ z → t.dramByte z = s.dramByte z) ∧
        State.frame [.dram, .dramCtl, .regs, .settle, .free] s t)) ∧
  (∀ (s : State) (chk : DramCheck) (w : Waiting), s.badWaiting = some w →
    (∀ u r, w.who = some (u, r) → r.load = true → (s.th u).wait = .far r →
      ∃ t, exec (.dramRequestAdmit 0 chk) s = .next t ∧ (t.th u).wait = .far { r with answer := some none } ∧
        t.f F.arbCap_ADDR_ERR = (s.count F.arbCap_ADDR_ERR).f F.arbCap_ADDR_ERR ∧ State.frame [.threads, .dramCtl, .regs] s t) ∧
    (∀ u r, w.who = some (u, r) → r.load = false →
      ∃ t, exec (.dramRequestAdmit 0 chk) s = .next t ∧
        (t.th u).posted = (s.th u).posted.map (fun (q : FarReq) => if q = r then { q with answer := some none } else q) ∧
        t.f F.arbCap_ADDR_ERR = (s.count F.arbCap_ADDR_ERR).f F.arbCap_ADDR_ERR ∧ State.frame [.threads, .dramCtl, .regs] s t) ∧
    (w.who = none →
      ∃ t, exec (.dramRequestAdmit 0 chk) s = .next t ∧ t.f F.arbCap_ADDR_ERR = (s.count F.arbCap_ADDR_ERR).f F.arbCap_ADDR_ERR ∧
        State.frame [.dramCtl, .regs, .settle, .free] s t)) ∧
  (∀ (s : State) (ch : Fin 4) (sub : Fin 2) (q : DReq), s.dstate ch = 2 ∨ s.dstate ch = 4 ∧ s.subOut ch sub = false →
    s.ctl.postponed.get [] ch = [] → 1 ≤ s.f F.drcRef_MAX ch → s.subQueue ch sub = [q] →
    ((s.bankOf q.place).opened = some q.place.row →
      (∃ t, exec (.dramCommandIssue ch sub .ok) s = .next t ∧ q ∉ t.subQueue ch sub ∧
        t.ctl.issued = (if q.read then s.ctl.issued ++ [q] else s.ctl.issued) ∧ t.ctl.banks = s.ctl.banks ∧ State.frame [.dramCtl] s t) ∧
      ∀ u r, q.read = true → q.thread = some u → (s.th u).wait = .far r →
        ∃ t, exec (.dramCommandIssue ch sub .failed) s = .next t ∧ (t.th u).wait = .far { r with answer := some none } ∧
          q ∉ t.subQueue ch sub ∧ State.frame [.dramCtl, .threads, .regs, .events, .free] s t) ∧
    ((s.bankOf q.place).opened = none → (s.bankOf q.place).rfm = false → s.f F.drcTim_PARAM1 q.place.ch 5 = 0 →
      s.f F.drcHot_ROW_THR q.place.ch = 0 →
      ∃ t, exec (.dramCommandIssue ch sub .ok) s = .next t ∧ (t.bankOf q.place).opened = some q.place.row ∧
        (t.bankOf q.place).raa = (s.bankOf q.place).raa + 1 ∧ t.ctl.queue = s.ctl.queue ∧ State.frame [.dramCtl] s t) ∧
    (∀ y, (s.bankOf q.place).opened = some y → y ≠ q.place.row →
      ∃ t, exec (.dramCommandIssue ch sub .ok) s = .next t ∧ (t.bankOf q.place).opened = none ∧ t.ctl.queue = s.ctl.queue ∧
        State.frame [.dramCtl] s t)) ∧
  (∀ (s : State) (ch : Fin 4) (q : DReq), s.ctl.issued.find? (fun q => q.place.ch == ch.val) = some q →
    (∀ (u : Nat) (r : FarReq) (z : Nat), q.thread = some u → (s.th u).wait = .far r → r.place = .dram z → r.admitted = true →
      (∃ t, exec (.dramReadDone ch .ok) s = .next t ∧
        (t.th u).wait = .far (if r.split = true then (match r.low with
            | none => { r with admitted := false, low := some (s.dramWord z) }
            | some lo => { r with answer := some (some [lo, s.dramWord (z + 2)]) })
          else { r with answer := some (some ((List.range (if r.pair then 2 else 1)).map fun i => s.dramWord (z + 2 * i))) }) ∧
        t.ctl.issued = s.ctl.issued.erase q ∧ (∀ y, y ≠ u → t.th y = s.th y) ∧ State.frame [.threads, .dramCtl] s t) ∧
      ∃ t, exec (.dramReadDone ch .uncorrectable) s = .next t ∧ (t.th u).wait = .far { r with answer := some none } ∧
        State.frame [.threads, .dramCtl, .events, .regs, .free] s t) ∧
    (q.thread = none →
      ∃ t, exec (.dramReadDone ch .ok) s = .next t ∧ t.ctl.issued = s.ctl.issued.erase q ∧ State.frame [.dramCtl, .free] s t))

/-- R368, R369: GO starts a move whose checks pass and says which one fails; LEN 0 is done at once; STOP pauses at the next unit, GO then
goes on from there; a unit of 256 bytes, or of what is left, is complete once its requests are answered, and the last one ends the
move. -/
def Obligations.BulkMovers : Prop :=
  (∀ (s h : State) (a : Accessor) (m : Fin 32) (v : Word32) (st : Nat), s.permits a .arbMoveCtl m 0 (withField v 21 1 1) →
    bits v.toNat 22 1 = 0 → st = s.f F.arbMoveStatus_STATUS m → h = (if a.isHouse then s.setF F.arbMoveCtl_OWNER m (bits v.toNat 16 5) else s) →
    (st = 1 → ∃ t, exec (.moverGo a m v) s = .next t ∧ t.mover m = s.mover m ∧ State.frame [.regs, .access] s t ∧
      State.regsBut s t [Reg.key .arbMoveCtl 0 m 0]) ∧
    (st = 2 → (s.mover m).fresh = false → ∃ t, exec (.moverGo a m v) s = .next t ∧ t.f F.arbMoveStatus_STATUS m = 1 ∧
      t.f F.arbMoveProgress_BYTES m = s.f F.arbMoveProgress_BYTES m ∧ (t.mover m).go = s.now ∧ State.frame [.dramCtl, .regs, .access, .free] s t) ∧
    (st ≠ 1 → (st = 2 → (s.mover m).fresh = true) →
      (s.f F.arbMoveLen_LEN m = 0 → ∃ t, exec (.moverGo a m v) s = .next t ∧ t.f F.arbMoveStatus_STATUS m = 3 ∧
        t.f F.arbMoveProgress_BYTES m = 0 ∧ State.frame [.dramCtl, .regs, .access] s t) ∧
      (s.f F.arbMoveLen_LEN m ≠ 0 → h.moveCheckGo m = 0 → ∃ t, exec (.moverGo a m v) s = .next t ∧ t.f F.arbMoveStatus_STATUS m = 1 ∧
        t.f F.arbMoveProgress_BYTES m = 0 ∧ (t.mover m).go = s.now ∧ (t.mover m).stop = false ∧ (t.mover m).kill = false ∧
        State.frame [.dramCtl, .regs, .access, .free] s t) ∧
      (∀ c, s.f F.arbMoveLen_LEN m ≠ 0 → h.moveCheckGo m = c → c ≠ 0 → ∃ t, exec (.moverGo a m v) s = .next t ∧
        t.f F.arbMoveStatus_STATUS m = c ∧ State.frame [.dramCtl, .regs, .events, .access, .free] s t))) ∧
  (∀ (s : State) (a : Accessor) (m : Fin 32) (v : Word32), s.permits a .arbMoveCtl m 0 (withField v 22 1 1) → bits v.toNat 21 1 = 0 →
    ∃ t, exec (.moverStop a m v) s = .next t ∧ t.f F.arbMoveStatus_STATUS m = s.f F.arbMoveStatus_STATUS m ∧
      (s.f F.arbMoveStatus_STATUS m = 1 → t.mover m = { s.mover m with stop := true }) ∧ State.frame [.dramCtl, .regs, .access] s t ∧
      State.regsBut s t [Reg.key .arbMoveCtl 0 m 0]) ∧
  (∀ (s : State) (m : Fin 32) (done n : Nat), s.moveReady m = true → done = s.f F.arbMoveProgress_BYTES m →
    n = min 256 (s.f F.arbMoveLen_LEN m - done) →
    (s.moveAllowed m = false → ∃ t, exec (.moveUnitDone m) s = .next t ∧ t.f F.arbMoveStatus_STATUS m = 7 ∧
      State.frame [.regs, .events, .free] s t) ∧
    (s.moveAllowed m = true → (s.mover m).err = true → ∃ t, exec (.moveUnitDone m) s = .next t ∧ t.f F.arbMoveStatus_STATUS m = 8 ∧
      State.frame [.regs, .events, .free] s t) ∧
    (s.moveAllowed m = true → (s.mover m).err = false →
      ((s.mover m).kill = true → ∃ t, exec (.moveUnitDone m) s = .next t ∧ t.f F.arbMoveStatus_STATUS m = 0 ∧
        t.f F.arbMoveProgress_BYTES m = 0 ∧ t.mover m = Mover.reset ∧ State.frame [.dramCtl, .regs, .sram, .cells] s t) ∧
      ((s.mover m).kill = false →
        ∃ t, exec (.moveUnitDone m) s = .next t ∧ t.f F.arbMoveProgress_BYTES m = done + n ∧
          (s.f F.arbMoveLen_LEN m ≤ done + n → t.f F.arbMoveStatus_STATUS m = 3) ∧
          (done + n < s.f F.arbMoveLen_LEN m → t.f F.arbMoveStatus_STATUS m = (if (s.mover m).stop then 2 else 1)) ∧ t.dram = s.dram ∧
          State.frame [.dramCtl, .regs, .events, .sram, .cells, .free] s t ∧
          ∀ c o, s.moveDsts m = (List.range (n / 2)).map (fun i => some (.cluster c (o + i))) → (s.mover m).buf.length = n / 2 →
            (∀ i, i < n / 2 → t.clWord c (o + i) = (word ((s.mover m).buf.getD i 0)).toNat) ∧
            (∀ k, (∀ i, i < n / 2 → k ≠ c * 524288 + (o + i)) → t.clMem.get 0 k = s.clMem.get 0 k) ∧ t.cellData = s.cellData)))

/-! ### Stalls and their hosts -/

/-- R376, R377, R379, R381: a frame the engine does not take is counted; a HELLO of a new nonce waits for its acceptance, another is
discarded and counted; a command without a session or a good tag fails authentication; one in the window waits for its turn, one that
nothing carries out is answered, one executed before has its response sent again, and one outside the window is counted; an accepted
HELLO opens the session with its key and its counts at 0 and is answered. -/
def Obligations.ScpReception : Prop :=
  (∀ (s : State) (p : Fin 2) (bs : List Byte) (rest : List (List Byte)) (f : ScpFrame), (s.port (8 + p)).ctlQ = bs :: rest → s.scpParse bs = f →
    (s.b F.scpCfg_ENABLE = false ∨ f.cls ≠ 5 ∨ f.version ≠ 1 ∨ 17 ≤ f.target ∨ (f.target < 16 ∧ s.stallState f.target = 0) ∨ f.fits = false ∨
      256 ≤ s.portQueue (8 + p)) →
    ∃ t, exec (.scpFrameReceived p) s = .next t ∧ t.regs = (s.count F.scpDrop_COUNT).regs ∧ (t.port (8 + p)).ctlQ = rest ∧
      State.frame [.regs, .ports] s t) ∧
  (∀ (s : State) (p : Fin 2) (f : ScpFrame) (rest : List (List Byte)) (x : Nat), s.scpTakes p f rest → x = f.target →
    (f.op = 1 → f.seq = 0 → f.auth = true → 8 ≤ f.body.length → (s.longKey x).isSome = true →
      (s.sess x).nonces.contains (helloNonce f.body) = false →
      ∃ t, exec (.scpFrameReceived p) s = .next t ∧
        t.sess x = { s.sess x with hellos := (s.sess x).hellos ++ [(8 + p.val, helloNonce f.body)] } ∧ (t.port (8 + p)).ctlQ = rest ∧
        State.frame [.scp, .ports] s t) ∧
    (f.op = 1 → f.seq ≠ 0 ∨ f.auth = false ∨ f.body.length < 8 ∨ s.longKey x = none ∨ (s.sess x).nonces.contains (helloNonce f.body) = true →
      ∃ t, exec (.scpFrameReceived p) s = .next t ∧ t.f F.scpStatAuth_AUTH x = (s.count F.scpStatAuth_AUTH x).f F.scpStatAuth_AUTH x ∧
        State.frame [.regs, .events, .free, .ports] s t) ∧
    (f.op ≠ 1 → (s.sessionOpen x = false ∨ f.auth = false) →
      ∃ t, exec (.scpFrameReceived p) s = .next t ∧ t.f F.scpStatAuth_AUTH x = (s.count F.scpStatAuth_AUTH x).f F.scpStatAuth_AUTH x ∧
        State.frame [.regs, .events, .free, .ports] s t) ∧
    (f.op ≠ 1 → s.sessionOpen x = true → f.auth = true →
      (∀ c : ScpCmd, (∀ d ∈ (s.sess x).waiting, s.lastSeq x + 1 < d.seq) → c = { port := 8 + p.val, seq := f.seq, op := f.op, len := f.length, body := f.body } →
        s.lastSeq x < c.seq → c.seq ≤ s.lastSeq x + 16 → c.seq ≠ 0xFFFFFFFF →
        ((c.seq = s.lastSeq x + 1 → s.early x c = none) →
          ∃ t, exec (.scpFrameReceived p) s = .next t ∧ t.sess x = { s.sess x with waiting := (s.sess x).waiting ++ [c] } ∧
            t.lastSeq x = s.lastSeq x ∧ State.frame [.scp, .regs, .ports] s t) ∧
        (∀ st, (s.sess x).waiting = [] → c.seq = s.lastSeq x + 1 → c.seq < 2 ^ 32 → s.early x c = some st → s.rateOver x = false →
          ∃ t, exec (.scpFrameReceived p) s = .next t ∧ t.scpAnswered x c st [] ∧ State.frame [.scp, .regs, .ports, .egress] s t)) ∧
      (∀ o : ScpOut, f.seq ≠ 0 → f.seq ≤ s.lastSeq x → s.lastSeq x < f.seq + 16 → f.seq ≠ 0xFFFFFFFF →
        (s.sess x).stored.find? (fun r => r.seq == f.seq) = some o →
        ∃ t, exec (.scpFrameReceived p) s = .next t ∧
          (s.linkUp (8 + p) = true → (t.outPort (8 + p)).scpQ = (s.outPort (8 + p)).scpQ ++ [.scp o]) ∧
          t.sess x = s.sess x ∧ State.frame [.regs, .egress, .ports] s t) ∧
      (f.seq = 0 ∨ f.seq = 0xFFFFFFFF ∨ s.lastSeq x + 16 < f.seq ∨ f.seq + 16 ≤ s.lastSeq x →
        ∃ t, exec (.scpFrameReceived p) s = .next t ∧ t.f F.scpStatSeq_SEQ x = (s.count F.scpStatSeq_SEQ x).f F.scpStatSeq_SEQ x ∧
          State.frame [.regs, .ports] s t))) ∧
  (∀ (s : State) (x : Target) (p : Nat) (nh : BitVec 128) (rest : List (Nat × BitVec 128)), (s.sess x).hellos = (p, nh) :: rest →
    (∀ k, s.longKey x = some k → (s.sess x).nonces.contains nh = false →
      ∃ t, exec (.hello x) s = .next t ∧ t.sessionOpen x = true ∧ t.lastSeq x = 0 ∧ t.f F.scpStallDseq_DSEQ x = 0 ∧
        (t.sess x).gen = (s.sess x).gen + 1 ∧
        (t.sess x).key = sessionKey k x nh (words64 s.now ++ words64 s.fuses.serial.toNat) ∧
        (t.sess x).nonces.contains nh = true ∧ (t.sess x).hellos = rest ∧ (t.sess x).waiting = [] ∧ (t.sess x).stored = [] ∧
        (∀ y, y ≠ x.val → t.sess y = s.sess y) ∧
        (s.linkUp p = true → ∃ f, (t.outPort p).scpQ = (s.outPort p).scpQ ++ [.scp f] ∧ f.op = 1 ∧
          (f.words.drop 8).take 8 = words64 s.now ++ words64 s.fuses.serial.toNat) ∧
        State.frame [.scp, .regs, .egress, .access] s t) ∧
    (s.longKey x = none ∨ (s.sess x).nonces.contains nh = true →
      ∃ t, exec (.hello x) s = .next t ∧ t.sess x = { s.sess x with hellos := rest } ∧
        t.f F.scpStatAuth_AUTH x = (s.count F.scpStatAuth_AUTH x).f F.scpStatAuth_AUTH x ∧ State.frame [.scp, .regs, .events, .free] s t))

/-- R382, R383: CAPS answers the headers from a valid offset; LOAD stores code and cluster memory of the target's own clusters and names
the rest out of range; READ and WRITE reach far words and refuse a register of another owner with the failing item's index. -/
def Obligations.ScpData : Prop :=
  (∀ (s : State) (x : Target) (c : ScpCmd), s.scpReady x c → c.op = 2 →
    ((c.body.length < 2 ∨ capHeaders.contains (cmdLong c 0) = false) →
      ∃ t, exec (.caps x) s = .next t ∧ t.scpAnswered x c 2 [] ∧ State.frame [.scp, .regs, .egress] s t) ∧
    (2 ≤ c.body.length → capHeaders.contains (cmdLong c 0) = true →
      ∃ t ws, exec (.caps x) s = .next t ∧ t.scpAnswered x c 0 ws ∧ ws.take 2 = words32 (cmdLong c 0) ∧ State.frame [.scp, .regs, .egress] s t)) ∧
  (∀ (s : State) (x : Target) (c : ScpCmd) (cl addr : Nat), s.scpReady x c → c.op = 3 → 3 ≤ c.body.length → addr = cmdLong c 1 →
    cl = addr / 2 ^ 28 →
    (cmdWord c 0 ≤ 1 → x.val < 16 → s.clusterOwner cl ≠ x.val →
      ∃ t, exec (.load x) s = .next t ∧ t.scpAnswered x c 5 [] ∧ State.frame [.scp, .regs, .egress] s t) ∧
    (cmdWord c 0 = 0 → (x.val = 16 ∨ s.clusterOwner cl = x.val) → addr % 131072 + (c.body.length - 3) ≤ 131072 →
      ∃ t, exec (.load x) s = .next t ∧ t.scpAnswered x c 0 (words32 (c.body.length - 3)) ∧
        (∀ i, i < c.body.length - 3 → t.code.get 0 (cl * 131072 + (addr % 131072 + i)) = c.body.getD (3 + i) 0) ∧
        (∀ k, k < cl * 131072 + addr % 131072 ∨ cl * 131072 + (addr % 131072 + (c.body.length - 3)) ≤ k → t.code.get 0 k = s.code.get 0 k) ∧
        t.sram = s.sram ∧ State.frame [.scp, .regs, .egress, .sram, .threads] s t) ∧
    (cmdWord c 0 = 1 → (x.val = 16 ∨ s.clusterOwner cl = x.val) → addr % 2 ^ 28 + (c.body.length - 3) ≤ 524288 →
      ∃ t, exec (.load x) s = .next t ∧ t.scpAnswered x c 0 (words32 (c.body.length - 3)) ∧
        (∀ i, i < c.body.length - 3 → t.clWord cl (addr % 2 ^ 28 + i) = (c.body.getD (3 + i) 0).toNat) ∧
        t.code = s.code ∧ State.frame [.scp, .regs, .egress, .sram] s t) ∧
    (∀ b, cmdWord c 0 = 2 → c.body.length = 4 → s.farCheck x addr true false = .inl (.dram b) →
      ∃ t, exec (.load x) s = .next t ∧ t.scpAnswered x c 0 (words32 1) ∧ t.dramWord b = c.body.getD 3 0 ∧
        (∀ z, z ≠ b → z ≠ b + 1 → t.dramByte z = s.dramByte z) ∧ State.frame [.scp, .regs, .egress, .dram, .dramCtl, .free] s t) ∧
    (5 < cmdWord c 0 → ∃ t, exec (.load x) s = .next t ∧ t.scpAnswered x c 2 [] ∧ State.frame [.scp, .regs, .egress] s t)) ∧
  (∀ (s : State) (x : Target) (c : ScpCmd) (addr : Nat), s.scpReady x c → 4 ≤ c.body.length → addr = cmdLong c 1 → cmdWord c 3 = 1 →
    (∀ b, c.op = 6 → cmdWord c 0 = 1 → s.farCheck x addr false false = .inl (.dram b) →
      ∃ t, exec (.read x) s = .next t ∧ t.scpAnswered x c 0 [s.dramWord b] ∧
        State.frame [.scp, .regs, .egress, .dramCtl, .free] s t) ∧
    (∀ b, c.op = 7 → cmdWord c 0 = 1 → 5 ≤ c.body.length → s.farCheck x addr true false = .inl (.dram b) →
      ∃ t, exec (.write x) s = .next t ∧ t.scpAnswered x c 0 [] ∧ t.dramWord b = c.body.getD 4 0 ∧
        (∀ z, z ≠ b → z ≠ b + 1 → t.dramByte z = s.dramByte z) ∧ State.frame [.scp, .regs, .egress, .dram, .dramCtl, .free] s t) ∧
    (c.op = 6 → cmdWord c 0 = 1 → (∀ pl, s.farCheck x addr false false ≠ .inl pl) →
      ∃ t, exec (.read x) s = .next t ∧ t.scpAnswered x c 3 (words32 0) ∧ State.frame [.scp, .regs, .egress] s t) ∧
    (c.op = 7 → cmdWord c 0 = 1 → 5 ≤ c.body.length → (∀ pl, s.farCheck x addr true false ≠ .inl pl) →
      ∃ t, exec (.write x) s = .next t ∧ t.scpAnswered x c 3 (words32 0) ∧ State.frame [.scp, .regs, .egress] s t) ∧
    (∀ r i j, cmdWord c 0 = 0 → addr % 4 = 0 → addr + 4 ≤ 2 ^ 24 → capWord addr = none → Reg.find addr = some (r, i, j) →
      s.mayReach x r i = false →
      (c.op = 6 → ∃ t, exec (.read x) s = .next t ∧ t.scpAnswered x c 3 (words32 0) ∧ State.frame [.scp, .regs, .egress] s t) ∧
      (c.op = 7 → 6 ≤ c.body.length →
        ∃ t, exec (.write x) s = .next t ∧ t.scpAnswered x c 3 (words32 0) ∧ State.frame [.scp, .regs, .egress] s t)))

/-- R384, R385: a START whose entries pass takes effect at the next course boundary and is answered then; a STOP is answered at once and
takes effect at the boundary; a stall in another state answers STATE. R372-R374, R392, R393: a stall is created once its key, cluster
and ledger are there, and refused by the reason that is missing; REMOVE of a STARTED stall is refused, of another begins; once removed
it is ABSENT with no key and no ledger; the last key word completes a key and ends the session; a stepped thread stops again. -/
def Obligations.ScpStalls : Prop :=
  ((∀ (s : State) (x : Target) (c : ScpCmd) (n : Nat), s.scpReady x c → c.op = 4 → n = cmdWord c 0 →
     (x.val < 16 → s.starts.get none x = none → (s.stallState x = 1 ∨ s.stallState x = 3) → n ≤ 64 → 1 + 3 * n ≤ c.body.length →
       s.startFault x (startEntries c n) = none →
       ∃ t r, exec (.scpStart x) s = .next t ∧ t.starts.get none x = some r ∧ r.course = s.course + 1 ∧ r.entries = startEntries c n ∧
         r.seq = c.seq ∧ t.scpDone x c ∧ t.stallState x = s.stallState x ∧ State.frame [.scp, .regs] s t) ∧
     (16 ≤ x.val ∨ (s.starts.get none x).isSome = true ∨ (s.stallState x ≠ 1 ∧ s.stallState x ≠ 3) →
       ∃ t, exec (.scpStart x) s = .next t ∧ t.scpAnswered x c 4 [] ∧ t.starts = s.starts ∧ State.frame [.scp, .regs, .egress] s t) ∧
     (∀ st i, x.val < 16 → s.starts.get none x = none → (s.stallState x = 1 ∨ s.stallState x = 3) → n ≤ 64 → 1 + 3 * n ≤ c.body.length →
       s.startFault x (startEntries c n) = some (st, i) → st < 256 →
       ∃ t, exec (.scpStart x) s = .next t ∧ t.scpAnswered x c st [word i] ∧ t.starts = s.starts ∧ State.frame [.scp, .regs, .egress] s t)) ∧
   (∀ (s : State) (x : StallId) (r : StartReq), s.starts.get none x = some r → r.course ≤ s.course →
     (s.stallState x = 1 ∨ s.stallState x = 3) → (r.entries.map (·.1)).Nodup →
     (∀ e ∈ r.entries, e.1 < 1024 ∧ (s.th e.1).st = .parked ∧ e.2.1 < 4 ∧ e.2.2.1 < 8 ∧ e.2.2.2 < 131072) →
     ∃ t, exec (.stallStartEffect x) s = .next t ∧ t.stallState x = 2 ∧ t.starts.get none x = none ∧
       (∀ e ∈ r.entries, t.f F.schThread_CLASS e.1 = e.2.1 ∧
         (e.2.1 ≠ 2 → (t.th e.1).st = .running ∧ (t.th e.1).pc = e.2.2.2 ∧ t.f F.schThread_PRIO e.1 = e.2.2.1) ∧
         (e.2.1 = 2 → t.th e.1 = s.th e.1)) ∧
       (∀ w, w ∉ r.entries.map (·.1) → t.th w = s.th w) ∧ State.frame [.scp, .regs, .egress, .threads, .free] s t) ∧
   (∀ (s : State) (x : StallId) (r : StartReq), s.starts.get none x = some r → r.course ≤ s.course → s.stallState x ≠ 1 → s.stallState x ≠ 3 →
     ∃ t, exec (.stallStartEffect x) s = .next t ∧ t.starts.get none x = none ∧ State.frame [.scp] s t) ∧
   (∀ (s : State) (x : Target) (c : ScpCmd), s.scpReady x c → c.op = 5 →
     (x.val < 16 → s.stallState x = 2 →
       ∃ t, exec (.scpStop x) s = .next t ∧ t.scpAnswered x c 0 [] ∧ t.stops.get none x = some (s.course + 1) ∧ t.stallState x = 2 ∧
         State.frame [.scp, .regs, .egress] s t) ∧
     (16 ≤ x.val ∨ s.stallState x ≠ 2 →
       ∃ t, exec (.scpStop x) s = .next t ∧ t.scpAnswered x c 4 [] ∧ t.stops = s.stops ∧ State.frame [.scp, .regs, .egress] s t)) ∧
   (∀ (s : State) (x : StallId) (k : Nat), s.stops.get none x = some k → k ≤ s.course → s.stallState x = 2 →
     ∃ t, exec (.stallStopEffect x) s = .next t ∧ t.stallState x = 3 ∧ t.stops.get none x = none ∧ t.threads = s.threads ∧
       State.frame [.scp, .regs] s t ∧ State.regsBut s t [Reg.key .scpStallState 0 x 0])) ∧
  ((∀ (s : State) (a : Accessor) (x : StallId) (v : Word32), s.permits a .scpStallCtl x 0 (withField v 0 2 1) →
     (s.stallState x = 0 → s.b F.scpStallState_KEY_SET x = true → (s.lowCluster x).isSome = true → s.f F.stlLedgerSize_SIZE x ≠ 0 →
       ∃ t, exec (.create a x v) s = .next t ∧ t.stallState x = 1 ∧ t.f F.scpStallState_RESULT x = 1 ∧ State.frame [.regs, .access] s t ∧
         State.regsBut s t [Reg.key .scpStallState 0 x 0]) ∧
     (∀ r, r = (if s.stallState x ≠ 0 then 5 else if s.b F.scpStallState_KEY_SET x = false then 1 else if (s.lowCluster x).isNone then 2
         else if s.f F.stlLedgerSize_SIZE x = 0 then 3 else 0) → r ≠ 0 →
       ∃ t, exec (.create a x v) s = .next t ∧ t.stallState x = s.stallState x ∧ t.f F.scpStallState_RESULT x = 2 ∧
         t.f F.scpStallState_REASON x = r ∧ State.frame [.regs, .access] s t)) ∧
   (∀ (s : State) (a : Accessor) (x : StallId) (v : Word32), s.permits a .scpStallCtl x 0 (withField v 0 2 2) →
     (s.stallState x = 2 →
       ∃ t, exec (.remove a x v) s = .next t ∧ t.f F.scpStallState_RESULT x = 2 ∧ t.f F.scpStallState_REASON x = 4 ∧ t.stallState x = 2 ∧
         State.frame [.regs, .access] s t) ∧
     (∀ b, s.stallState x ≠ 2 → s.maintBusy (0x70 + x) = some b → b < 256 →
       ∃ t, exec (.remove a x v) s = .next t ∧ t.f F.scpStallState_RESULT x = 3 ∧ t.f F.scpStallState_BUSY_ID x = b ∧
         t.stallState x = s.stallState x ∧ State.frame [.regs, .access] s t) ∧
     (s.stallState x ≠ 2 → s.maintBusy (0x70 + x) = none →
       ∃ t, exec (.remove a x v) s = .next t ∧ 0x70 + x.val ∈ t.maint ∧ (∀ e ∈ t.evRecs, e.owner ≠ x.val) ∧ t.defers.get [] x = [] ∧
         t.time = s.time ∧ t.pending = s.pending)) ∧
   (∀ (s : State) (x : StallId), s.stallState x = 4 →
     ∃ t, exec (.stallRemoved x) s = .next t ∧ t.stallState x = 0 ∧ t.f F.scpStallState_RESULT x = 1 ∧ t.ledger.get [] x = [] ∧
       (∀ i, i < 8 → t.rd .scpKey x i = 0) ∧ t.sessionOpen x = false ∧ (0x70 + x.val) ∉ t.maint ∧ t.time = s.time ∧ t.pending = s.pending) ∧
   (∀ (s : State) (a : Accessor) (x : StallId) (v : Word32), s.permits a .scpKey x 7 v.toNat →
     ∃ t, exec (.keyWrite a x v) s = .next t ∧ t.rd .scpKey x 7 = v.toNat ∧ t.b F.scpStallState_KEY_SET x = true ∧ t.sessionOpen x = false ∧
       State.frame [.regs, .scp, .events, .stations, .access, .free] s t) ∧
   (∀ (s : State) (u : Tid), (s.th u).steps = some 0 →
     ((s.th u).st ≠ .parked →
       ∃ t, exec (.stepComplete u) s = .next t ∧ (t.th u).st = .stopped ∧ (t.th u).stopBy = 8 ∧ (t.th u).steps = none ∧
         State.frame [.threads, .regs, .events, .free] s t) ∧
     ((s.th u).st = .parked →
       ∃ t, exec (.stepComplete u) s = .next t ∧ t.th u = { s.th u with steps := none } ∧ (∀ w, w ≠ u.val → t.th w = s.th w) ∧
         State.frame [.threads] s t)))

/-- R387-R389, R391, R348, R386, R407: mail in and out, the host's ACK of the ledger, DELIVER and its resending, NOTICE, LEDGER, and a
RESET of one thread. -/
def Obligations.ScpTraffic : Prop :=
  (∀ (s : State) (x : Target) (c : ScpCmd), s.scpReady x c → c.op = 8 → 1 ≤ c.body.length → c.body.length ≤ 32 →
    (∀ k, s.supCluster x = some k → (s.sess x).mails = [] → (s.chanQ (chanKey k 3)).length < 16 →
      ∃ t m, exec (.mail x) s = .next t ∧ t.scpAnswered x c 0 [] ∧ t.chanQ (chanKey k 3) = s.chanQ (chanKey k 3) ++ [m] ∧ m.words = c.body ∧
        (t.sess x).mails = [] ∧ State.frame [.scp, .regs, .egress, .chans, .threads] s t) ∧
    (∀ k, s.supCluster x = some k → (s.sess x).mails.length < 16 → 16 ≤ (s.chanQ (chanKey k 3)).length →
      ∃ t, exec (.mail x) s = .next t ∧ t.scpAnswered x c 0 [] ∧ t.chans = s.chans ∧ (t.sess x).mails = (s.sess x).mails ++ [c.body] ∧
        State.frame [.scp, .regs, .egress, .threads] s t) ∧
    (16 ≤ (s.sess x).mails.length →
      ∃ t, exec (.mail x) s = .next t ∧ t.scpAnswered x c 9 [] ∧ State.frame [.scp, .regs, .egress] s t)) ∧
  (∀ (s : State) (x : Target) (k : Nat) (m : Msg) (rest : List Msg), s.supCluster x = some k → s.chanQ (chanKey k 4) = m :: rest →
    (s.deviceReady x = true →
      ∃ t, exec (.mailOutSend x) s = .next t ∧ t.chanQ (chanKey k 4) = rest ∧ t.f F.scpStallDseq_DSEQ x = s.f F.scpStallDseq_DSEQ x + 1 ∧
        State.frame [.regs, .egress, .chans] s t) ∧
    (s.deviceReady x = false → exec (.mailOutSend x) s = .next s)) ∧
  (∀ (s : State) (x : Target) (c : ScpCmd) (cum : Nat), s.scpReady x c → c.op = 10 → x.val < 16 → 7 ≤ c.body.length →
    cum = cmdLong c 0 + 2 ^ 32 * cmdLong c 2 →
    (stlRuns s.stlState = true → (cum ≤ (s.sess x).high ∨ cum = s.retiredSeq x) →
      ∃ t, exec (.scpAck x) s = .next t ∧ t.scpDone x c ∧ t.retiredSeq x = max cum (s.retiredSeq x) ∧
        (t.sess x).cum = max cum (s.retiredSeq x) ∧ (t.sess x).credit = cmdLong c 4 ∧
        (∀ e ∈ t.ledger.get [] x, e ∈ s.ledger.get [] x ∧ (s.retiredSeq x < cum → cum < e.seq)) ∧ State.frame [.scp, .regs, .settle] s t) ∧
    (stlRuns s.stlState = true → (s.sess x).high < cum → cum ≠ s.retiredSeq x →
      ∃ t, exec (.scpAck x) s = .next t ∧ t.scpDone x c ∧ t.ledger = s.ledger ∧
        t.f F.scpStatBadAck_BAD_ACK x = (s.count F.scpStatBadAck_BAD_ACK x).f F.scpStatBadAck_BAD_ACK x ∧ State.frame [.scp, .regs] s t) ∧
    (stlRuns s.stlState = false →
      ∃ t, exec (.scpAck x) s = .next t ∧ t.scpDone x c ∧
        t.f F.scpStatSilentAck_SILENT_ACK x = (s.count F.scpStatSilentAck_SILENT_ACK x).f F.scpStatSilentAck_SILENT_ACK x ∧
        State.frame [.scp, .regs] s t)) ∧
  (∀ (s : State) (x : Target), s.deliverDue x = true →
    ∃ t, exec (.deliver x) s = .next t ∧ (∀ e ∈ s.deliverable9 x, e.seq ≤ (t.sess x).sent ∧ e.seq ≤ (t.sess x).high) ∧
      t.f F.scpStallDseq_DSEQ x = s.f F.scpStallDseq_DSEQ x + 1 ∧ t.ledger = s.ledger ∧ State.frame [.scp, .regs, .egress] s t) ∧
  (∀ (s : State) (x : Target), s.resendDue x = true →
    ∃ t, exec (.resendTimeout x) s = .next t ∧ t.sess x = { s.sess x with sent := s.retiredSeq x, since := s.course } ∧
      (∀ y, y ≠ x.val → t.sess y = s.sess y) ∧ State.frame [.scp] s t) ∧
  (∀ (s : State) (x : Target) (e : EvRec), s.deviceReady x = true → s.f F.scpStallLimit_NOTICE_MAX x ≠ 0 →
    s.noticesNow x < s.f F.scpStallLimit_NOTICE_MAX x → s.nextRec x true (fun _ => true) = some e →
    ∃ t, exec (.notice x) s = .next t ∧ (t.sess x).notices = (s.course, s.noticesNow x + 1) ∧
      t.evRecs.length < s.evRecs.length ∧ t.f F.scpStallDseq_DSEQ x = s.f F.scpStallDseq_DSEQ x + 1 ∧
      State.frame [.scp, .regs, .egress, .events, .free] s t) ∧
  (∀ (s : State) (x : Target) (c : ScpCmd) (r : Fin 32), s.scpReady x c → c.op = 13 → 4 ≤ c.body.length → cmdWord c 3 ≤ 16 →
    cmdWord c 0 = r.val →
    (s.f F.ldgCfg_OWNER r = x.val →
      ∃ t, exec (.scpLedger x) s = .next t ∧
        t.scpAnswered x c 0 ((List.range (cmdWord c 3)).map fun i => word (s.recordWord r (bits (cmdLong c 1) 8 10) (bits (cmdLong c 1) 0 8 + i))) ∧
        State.frame [.scp, .regs, .egress] s t) ∧
    (s.f F.ldgCfg_OWNER r ≠ x.val →
      ∃ t, exec (.scpLedger x) s = .next t ∧ t.scpAnswered x c 5 [] ∧ State.frame [.scp, .regs, .egress] s t)) ∧
  (∀ (s : State) (x : Target) (c : ScpCmd) (u : Nat), s.scpReady x c → c.op = 12 → 2 ≤ c.body.length → u = cmdWord c 1 →
    (cmdWord c 0 = 4 → 1024 ≤ u → ∃ t, exec (.scpReset x) s = .next t ∧ t.scpAnswered x c 5 [] ∧ State.frame [.scp, .regs, .egress] s t) ∧
    (cmdWord c 0 = 4 → u < 1024 → (x.val = 16 ∨ s.clusterOwner (u / 64) = x.val) →
      ∃ t, exec (.scpReset x) s = .next t ∧ t.scpAnswered x c 0 [] ∧ (t.th u).st = .parked ∧ t.time = s.time ∧ t.pending = s.pending) ∧
    (cmdWord c 0 = 5 → x.val ≠ 16 → ∃ t, exec (.scpReset x) s = .next t ∧ t.scpAnswered x c 2 [] ∧ State.frame [.scp, .regs, .egress] s t) ∧
    (cmdWord c 0 = 5 → x.val = 16 → ∃ t, exec (.scpReset x) s = .next t ∧ t.f F.supStatus_CAUSE = 3 ∧ t.threads = [] ∧ t.time = s.time ∧
      t.fuses = s.fuses ∧ t.pending = s.pending))

/-- R392: DEBUG of a thread of the target: STOP halts it, RESUME and STEP let it go on, GETREGS and SETREGS give and take its registers,
and near words of a stopped thread are read and written; of a thread that is not stopped they answer STATE, and of one that the target
may not reach the reason. -/
def Obligations.ScpDebug : Prop :=
  ∀ (s : State) (x : Target) (c : ScpCmd) (u : Nat), s.scpReady x c → c.op = 14 → u = cmdWord c 1 →
    (∀ e ∈ ([(Instr.debugStop x, 0, 2), (.debugResume x, 1, 2), (.debugStep x, 2, 3), (.debugGetregs x, 3, 2), (.debugSetregs x, 4, 30),
        (.nearRead x, 5, 4), (.nearWrite x, 6, 3)] : List (Instr × Nat × Nat)), cmdWord c 0 = e.2.1 →
      (c.body.length < e.2.2 → ∃ t, exec e.1 s = .next t ∧ t.scpAnswered x c 2 [] ∧ State.frame [.scp, .regs, .egress] s t) ∧
      (∀ r, e.2.2 ≤ c.body.length → s.debugBar x u = some r →
        ∃ t, exec e.1 s = .next t ∧ t.scpAnswered x c r [] ∧ State.frame [.scp, .regs, .egress] s t) ∧
      (e.2.2 ≤ c.body.length → s.debugBar x u = none → e.2.1 ≠ 0 → (s.th u).st ≠ .stopped →
        ∃ t, exec e.1 s = .next t ∧ t.scpAnswered x c 4 [] ∧ State.frame [.scp, .regs, .egress] s t)) ∧
    (s.debugBar x u = none →
    (cmdWord c 0 = 0 → (s.th u).st = .running ∨ (s.th u).st = .blocked →
      ∃ t, exec (.debugStop x) s = .next t ∧ t.scpAnswered x c 0 [] ∧ (t.th u).st = .stopped ∧ (t.th u).stopBy = 8 ∧
        ((s.th u).wait ≠ .tsync → (t.th u).pc = (s.th u).pc ∧ (t.th u).wait = (s.th u).wait) ∧
        State.frame [.scp, .regs, .egress, .threads, .events, .free] s t) ∧
    (cmdWord c 0 = 0 → (s.th u).st = .stopped →
      ∃ t, exec (.debugStop x) s = .next t ∧ t.scpAnswered x c 0 [] ∧ State.frame [.scp, .regs, .egress] s t) ∧
    (cmdWord c 0 = 0 → (s.th u).st = .parked →
      ∃ t, exec (.debugStop x) s = .next t ∧ t.scpAnswered x c 4 [] ∧ State.frame [.scp, .regs, .egress] s t) ∧
    ((s.th u).st = .stopped → (s.th u).wait = .none → (s.th u).heldOverrun = none → (s.th u).heldStill = false → (s.th u).mchk = false →
      (cmdWord c 0 = 1 →
        ∃ t, exec (.debugResume x) s = .next t ∧ t.scpAnswered x c 0 [] ∧ (t.th u).st = .running ∧ (t.th u).steps = none ∧
          (t.th u).pc = (s.th u).pc ∧ (s.th u).wordsBut (t.th u) [] ∧ State.frame [.scp, .regs, .egress, .threads, .free] s t) ∧
      (cmdWord c 0 = 2 → 3 ≤ c.body.length → cmdWord c 2 = 0 →
        ∃ t, exec (.debugStep x) s = .next t ∧ t.scpAnswered x c 0 [] ∧ State.frame [.scp, .regs, .egress] s t) ∧
      (cmdWord c 0 = 2 → 3 ≤ c.body.length → cmdWord c 2 ≠ 0 →
        ∃ t, exec (.debugStep x) s = .next t ∧ t.scpAnswered x c 0 [] ∧ (t.th u).st = .running ∧ (t.th u).steps = some (cmdWord c 2) ∧
          (t.th u).pc = (s.th u).pc ∧ (s.th u).wordsBut (t.th u) [] ∧ State.frame [.scp, .regs, .egress, .threads, .free] s t)) ∧
    ((s.th u).st = .stopped →
      (∀ ws, cmdWord c 0 = 3 → (s.debugRegs u).2 = some (0, ws) →
        ∃ t, exec (.debugGetregs x) s = .next t ∧ t.scpAnswered x c 0 ws ∧ State.frame [.scp, .regs, .egress] s t) ∧
      (cmdWord c 0 = 4 → 30 ≤ c.body.length → cmdLong c 28 < 131072 → (s.th u).frame < 16 →
        ∃ t, exec (.debugSetregs x) s = .next t ∧ t.scpAnswered x c 0 [] ∧ (∀ i, i < 24 → (t.th u).reg i = cmdWord c (2 + i)) ∧
          (t.th u).fl = cmdWord c 26 % 32 ∧ (t.th u).pc = cmdLong c 28 ∧ (t.th u).st = .stopped ∧ (∀ w, w ≠ u → t.th w = s.th w) ∧
          State.frame [.scp, .regs, .egress, .threads] s t) ∧
      ((s.core (coreOf u)).sb = [] → (∀ i, i < 8 → (s.th (coreOf u * 8 + i)).replay = none) → nearRegion (cmdWord c 2) ≤ 2 →
        (cmdWord c 0 = 5 → 4 ≤ c.body.length → cmdWord c 3 = 1 → s.nearFault u (cmdWord c 2) false false = none →
          ∃ t, exec (.nearRead x) s = .next t ∧ t.scpAnswered x c 0 [word (s.sramWord (coreOf u) (cmdWord c 2))] ∧
            t.sram = s.sram ∧ State.frame [.scp, .regs, .egress, .threads] s t) ∧
        (cmdWord c 0 = 6 → c.body.length = 4 → s.nearFault u (cmdWord c 2) false true = none →
          ∃ t, exec (.nearWrite x) s = .next t ∧ t.scpAnswered x c 0 [] ∧ t.sramWord (coreOf u) (cmdWord c 2) = cmdWord c 3 ∧
            (∀ k, k ≠ coreOf u * 32768 + cmdWord c 2 → t.sram.get 0 k = s.sram.get 0 k) ∧
            State.frame [.scp, .regs, .egress, .threads, .sram] s t))))

/-! ### Events, resets, power and boot -/

/-- R396-R402: an occurrence is counted, and queued for its owner where it is neither masked nor directed nowhere; a record of its source
that waits takes it where the rule merges; a NOTICE without an open session is counted and goes nowhere; a record that may go enters
channel 2 of its owner's supervisor cluster. R403-R406, R408: SNAP writes the slot at HEAD and goes on to the next, or adds a sample to
the histogram; a frozen, stopped or re-arming recorder misses it; CLEAR empties the histogram; ARM is a maintenance activity that
leaves the recorder armed; a periodic recorder samples once in its course. A capture lasts 64 FCLK cycles, so whether one still runs is
open for two laths (log entry 104). -/
def Obligations.EventsAndRecorders : Prop :=
  ((∀ (s : State) (a : Accessor) (x : Target) (v : Word32) (src : Nat), s.permits a .evcRaise x 0 v.toNat →
     src = (if x.val = 16 then Ev.HOUSE_SOFT (bits v.toNat 0 5) else Ev.SOFT x (bits v.toNat 0 5)) →
     (s.f F.evcSrc_TARGETS src = 1 → s.f F.evcSrc_MASK src = 0 → s.f F.evcSrc_RULE src = 0 → s.evOwner src ≤ 16 →
       s.storeFull (s.evOwner src) = false →
       ∃ t e, exec (.eventRaise a x v) s = .next t ∧ t.evRecs = s.evRecs ++ [e] ∧ e.src = src ∧ e.owner = s.evOwner src ∧ e.notice = false ∧
         e.count = 1 ∧ e.stamp = BitVec.ofNat 64 s.now ∧ e.data = [word (v.toNat / 65536)] ∧
         t.f F.evcSrc_COUNT src = (s.count F.evcSrc_COUNT src).f F.evcSrc_COUNT src ∧ State.frame [.regs, .events, .access, .free] s t) ∧
     (s.f F.evcSrc_TARGETS src = 1 → s.f F.evcSrc_MASK src = 0 → s.f F.evcSrc_RULE src = 1 ∨ s.f F.evcSrc_RULE src = 3 → s.evOwner src ≤ 16 →
       s.evRecs.any (fun e => e.same src (s.evOwner src) false false) = true →
       ∃ t, exec (.eventRaise a x v) s = .next t ∧
         t.evRecs = mergeFirst (fun e => e.same src (s.evOwner src) false false) [word (v.toNat / 65536)] s.evRecs ∧
         t.f F.evcSrc_COUNT src = (s.count F.evcSrc_COUNT src).f F.evcSrc_COUNT src ∧ State.frame [.regs, .events, .access] s t) ∧
     (s.f F.evcSrc_TARGETS src = 2 → s.f F.evcSrc_MASK src = 0 → s.evOwner src ≤ 16 → s.sessionOpen (s.evOwner src) = false →
       ∃ t, exec (.eventRaise a x v) s = .next t ∧ t.f F.evcSrc_COUNT src = (s.count F.evcSrc_COUNT src).f F.evcSrc_COUNT src ∧
         t.f F.scpStatNoticeDrop_NOTICE_DROP (s.evOwner src) =
           (s.count F.scpStatNoticeDrop_NOTICE_DROP (s.evOwner src)).f F.scpStatNoticeDrop_NOTICE_DROP (s.evOwner src) ∧
         State.frame [.regs, .access] s t) ∧
     (s.f F.evcSrc_TARGETS src < 4 → s.f F.evcSrc_MASK src = 1 ∨ s.f F.evcSrc_TARGETS src = 0 →
       ∃ t, exec (.eventRaise a x v) s = .next t ∧ t.f F.evcSrc_COUNT src = (s.count F.evcSrc_COUNT src).f F.evcSrc_COUNT src ∧
         State.frame [.regs, .access] s t ∧ State.regsBut s t [Reg.key .evcSrc 0 src 0])) ∧
   (∀ (s : State) (x : Target) (e : EvRec) (k : Nat), s.nextRec x false (fun _ => true) = some e → s.supCluster x = some k →
     ((s.chanQ (chanKey k 2)).length < 64 →
       ∃ t m, exec (.eventRecordPublish x) s = .next t ∧ t.chanQ (chanKey k 2) = s.chanQ (chanKey k 2) ++ [m] ∧
         m.words = e.wordsOf (s.evLost.contains (e.owner, e.notice)) ∧ t.evRecs = s.evRecs.erase e ∧
         (∀ j, j ≠ chanKey k 2 → t.chanQ j = s.chanQ j) ∧ State.frame [.chans, .events, .regs, .threads, .free] s t) ∧
     (64 ≤ (s.chanQ (chanKey k 2)).length → exec (.eventRecordPublish x) s = .next s))) ∧
  ((∀ (s : State) (a : Accessor) (r : Fin 32) (v : Word32), s.permits a .ldgCtl r 0 (withField v 0 1 1) → bits v.toNat 1 2 = 0 →
     s.f F.ldgCfg_TRIG r ≠ 0 →
     ((∀ b, (s.recorder r).since = some b → b + 2048 ≤ s.now) → s.f F.ldgCfg_FREEZE r = 0 → s.f F.ldgStat_STOPPED r = 0 → (s.recorder r).rearming = false → s.f F.ldgCfg_MODE r = 0 →
       s.f F.ldgCfg_STOP r = 0 →
       ∃ t sl, exec (.snap a r v) s = .next t ∧ (t.recorder r).slots.get ⟨0, []⟩ (s.f F.ldgStat_HEAD r) = sl ∧
         sl.gen = ((s.recorder r).slots.get ⟨0, []⟩ (s.f F.ldgStat_HEAD r)).gen + 2 ∧
         sl.words.head? = some (word (min 16 (s.f F.ldgCfg_NREGS r) + 96)) ∧ (sl.words.drop 1).take 4 = words64 s.now ∧
         t.f F.ldgStat_HEAD r = (s.f F.ldgStat_HEAD r + 1) % 1024 ∧ (∀ q, q ≠ r.val → t.recorder q = s.recorder q) ∧
         State.frame [.regs, .events, .access, .free] s t) ∧
     ((∀ b, (s.recorder r).since = some b → b + 2048 ≤ s.now) → s.f F.ldgCfg_FREEZE r = 0 → s.f F.ldgStat_STOPPED r = 0 →
       (s.recorder r).rearming = false → s.f F.ldgCfg_MODE r = 1 → s.f F.ldgCfg_DELTA r = 0 →
       ∃ t n, exec (.snap a r v) s = .next t ∧ n = s.sample (s.f F.ldgCfg_OWNER r) (s.f F.ldgSel_OFFSET r 0) ∧
         (t.recorder r).count = satAdd 32 (s.recorder r).count 1 ∧ (t.recorder r).min = min (s.recorder r).min n ∧
         (t.recorder r).max = max (s.recorder r).max n ∧ (t.recorder r).slots = (s.recorder r).slots ∧
         State.frame [.events, .access] s t) ∧
     (s.f F.ldgCfg_FREEZE r = 1 ∨ s.f F.ldgStat_STOPPED r = 1 ∨ (s.recorder r).rearming = true →
       ∃ t, exec (.snap a r v) s = .next t ∧ t.f F.ldgStat_MISSED r = (s.count F.ldgStat_MISSED r).f F.ldgStat_MISSED r ∧
         State.frame [.regs, .access, .free] s t)) ∧
   (∀ (s : State) (a : Accessor) (r : Fin 32) (v : Word32), s.permits a .ldgCtl r 0 (withField v 2 1 1) → bits v.toNat 0 2 = 0 →
     ∃ t, exec (.clear a r v) s = .next t ∧ (t.recorder r).count = 0 ∧ (t.recorder r).min = 0xFFFFFFFF ∧ (t.recorder r).max = 0 ∧
       (t.recorder r).bins = [] ∧ (t.recorder r).histGen = (s.recorder r).histGen + 2 ∧ (t.recorder r).slots = (s.recorder r).slots ∧
       State.frame [.events, .access, .free] s t) ∧
   (∀ (s : State) (a : Accessor) (r : Fin 32) (v : Word32), s.permits a .ldgCtl r 0 (withField v 1 1 1) → bits v.toNat 0 1 = 0 →
     bits v.toNat 2 1 = 0 →
     (s.maintBusy (0x80 + r) = none →
       ∃ t, exec (.arm a r v) s = .next t ∧ t.f F.ldgCtl_ARM_STATUS r = 1 ∧ (t.recorder r).rearming = true ∧
         t.maint = (0x80 + r.val) :: s.maint ∧ State.frame [.regs, .events, .maint, .access, .free] s t) ∧
     (∀ b, s.maintBusy (0x80 + r) = some b → b < 256 →
       ∃ t, exec (.arm a r v) s = .next t ∧ t.f F.ldgCtl_ARM_STATUS r = 3 ∧ t.f F.ldgCtl_BUSY_ID r = b ∧ State.frame [.regs, .access] s t)) ∧
   (∀ (s : State) (r : Fin 32), s.periodicDue r = true →
     ∃ t, exec (.periodicTrigger r) s = .next t ∧ (t.recorder r).tick = s.course + 1 ∧
       ((∀ b, (s.recorder r).since = some b → b + 2048 ≤ s.now) → s.f F.ldgCfg_FREEZE r = 0 → s.f F.ldgStat_STOPPED r = 0 → (s.recorder r).rearming = false → s.f F.ldgCfg_MODE r = 0 →
         s.f F.ldgCfg_STOP r = 0 → t.f F.ldgStat_HEAD r = (s.f F.ldgStat_HEAD r + 1) % 1024) ∧ State.frame [.events, .regs, .free] s t) ∧
   (∀ (s : State) (r : Fin 32), (s.recorder r).rearming = true →
     ∃ t, exec (.rearmComplete r) s = .next t ∧ (t.recorder r).rearming = false ∧ t.f F.ldgCtl_ARM_STATUS r = 2 ∧
       (∀ m, m ∈ t.maint ↔ m ∈ s.maint ∧ m ≠ 0x80 + r.val) ∧ State.frame [.events, .maint, .regs, .free] s t))

/-- R410, R414, R416, R417: a POWER reset leaves the fuses; a DEVICE reset, from its pin, SUP_CTL, the watchdog or the thermal trip, leaves
the time base, the fuses, the ledgers and the journal, and says its cause. R411-R413, R204, R275: SUP_RSTx resets a thread, a core, a
cluster or a stall for the house; of a stall only its supervisor may, and no STALL reset. -/
def Obligations.Resets : Prop :=
  ((∀ (s : State) (strap : Fin 2),
     ∃ t, exec (.powerReset strap) s = .next t ∧ t.time = Time.reset ∧ t.fuses = s.fuses ∧ t.threads = [] ∧ t.dram = [] ∧ t.sram = [] ∧
       t.cells = [] ∧ t.ledger = [] ∧ t.maint = [] ∧ t.f F.stlStatus_STRAP = strap ∧ t.stlState = 0 ∧ t.sup.fromPower = true ∧
       t.sup.bootDue = true ∧ t.pending = s.pending) ∧
   (∀ (s : State) (strap : Fin 2),
     ∃ t, exec (.deviceReset strap) s = .next t ∧ t.f F.supStatus_CAUSE = 1 ∧ t.f F.stlStatus_STRAP = strap ∧ t.time = s.time ∧
       t.fuses = s.fuses ∧ t.dram = s.dram ∧ t.ledger = s.ledger ∧ t.journal.map (fun r => (r.body, r.gen, r.at_)) = s.journal.map (fun r => (r.body, r.gen, r.at_)) ∧
       (s.journalDue = false → t.journal = s.journal) ∧ t.threads = [] ∧ t.banks = [] ∧ t.outPorts = [] ∧ t.maint = [] ∧ t.sup.bootDue = true ∧ t.sup.fromPower = false ∧ t.emits.head? = some (.alive false) ∧ t.pending = s.pending) ∧
   (∀ s : State, s.wdogDue = true →
     ∃ t, exec .watchdog s = .next t ∧ t.f F.supStatus_CAUSE = 4 ∧ t.time = s.time ∧ t.fuses = s.fuses ∧ t.dram = s.dram ∧ t.threads = [] ∧
       t.sup.kicked = s.course ∧ t.pending = s.pending) ∧
   (∀ s : State, s.tripDue = true →
     ∃ t, exec .thermalTrip s = .next t ∧ t.f F.supStatus_CAUSE = 5 ∧ t.sup.held = true ∧ t.time = s.time ∧ t.fuses = s.fuses ∧
       t.threads = [] ∧ t.pending = s.pending) ∧
   (∀ (s : State) (a : Accessor) (v : Word32), s.permits a .supCtl 0 0 (withField v 1 1 1) →
     ∃ t, exec (.devrst a v) s = .next t ∧ t.f F.supStatus_CAUSE = 2 ∧ t.time = s.time ∧ t.fuses = s.fuses ∧ t.threads = [] ∧ t.stn = [] ∧
       t.pending = s.pending) ∧
   (∀ (s : State) (a : Accessor) (v : Word32), s.permits a .supWdog 0 0 (withField v 16 1 1) →
     ∃ t, exec (.kick a v) s = .next t ∧ t.sup = { s.sup with kicked := s.course } ∧ t.f F.supWdog_COURSES = v.toNat % 65536 ∧
       State.frame [.regs, .sup, .access] s t)) ∧
  ((∀ (s : State) (a : Accessor) (v : Word32) (u : Nat), s.permits a .supRstCmd 16 0 (withField v 0 3 4) → u = bits v.toNat 3 10 →
     ∃ t, exec (.threadReset a 16 v) s = .next t ∧ t.f F.supRstStatus_STATE 16 = 2 ∧ (t.th u).st = .parked ∧ (t.th u).pc = 0 ∧
       (t.th u).fl = 0 ∧ (t.th u).frame = 1 ∧ (t.th u).spilled = 0 ∧ (t.th u).inTrap = false ∧ (t.th u).locks = [] ∧ State.frame scopedParts s t) ∧
   (∀ (s : State) (a : Accessor) (v : Word32) (k : Nat), s.permits a .supRstCmd 16 0 (withField v 0 3 3) → k = bits v.toNat 3 10 / 8 →
     ∃ t, exec (.coreReset a 16 v) s = .next t ∧ t.f F.supRstStatus_STATE 16 = 2 ∧
       (∀ u, u / 8 = k → (t.th u).st = .parked ∧ (t.th u).pc = 0) ∧ (t.core k).sb = [] ∧ (t.core k).lines = [] ∧
       t.unit k = { Tally.reset with bank := (s.unit k).bank, exchange := (s.unit k).exchange } ∧ State.frame scopedParts s t) ∧
   (∀ (s : State) (a : Accessor) (v : Word32) (c : Nat), s.permits a .supRstCmd 16 0 (withField v 0 3 2) → c = bits v.toNat 3 10 / 64 →
     ∃ t, exec (.clusterReset a 16 v) s = .next t ∧ t.f F.supRstStatus_STATE 16 = 2 ∧
       (∀ u, u / 64 = c → (t.th u).st = .parked ∧ (t.th u).pc = 0) ∧ (∀ n, n < 1024 → t.chanQ (chanKey c n) = []) ∧
       t.code = s.code ∧ State.frame scopedParts s t) ∧
   (∀ (s : State) (a : Accessor) (v : Word32) (y : Nat), s.permits a .supRstCmd 16 0 (withField v 0 3 1) → y = bits v.toNat 3 10 % 16 →
     ∃ t, exec (.stallReset a 16 v) s = .next t ∧ t.f F.supRstStatus_STATE 16 = 2 ∧ (∀ e ∈ t.evRecs, e.owner ≠ y) ∧ t.defers.get [] y = [] ∧
       State.frame (.graphs :: .maint :: .pipe :: scopedParts) s t) ∧
   (∀ (s : State) (a : Accessor) (x : Target) (v : Word32), x.val < 16 →
     (∀ k : Fin 5, 2 ≤ k.val → ∀ c ∈ ([(4, Instr.threadReset a x v), (3, .coreReset a x v), (2, .clusterReset a x v)] : List (Nat × Instr)),
       c.1 = k.val → s.permits a .supRstCmd x 0 (withField v 0 3 k) → s.isSupervisor a x = false →
       ∃ t, exec c.2 s = .next t ∧ t.f F.supRstStatus_STATE x = 3 ∧ t.f F.supRstStatus_REASON x = 1 ∧ State.frame [.regs, .access] s t ∧
         State.regsBut s t [Reg.key .supRstStatus 0 x 0]) ∧
     (s.permits a .supRstCmd x 0 (withField v 0 3 1) → s.isSupervisor a x = true →
       ∃ t, exec (.stallReset a x v) s = .next t ∧ t.f F.supRstStatus_STATE x = 3 ∧ t.f F.supRstStatus_REASON x = 2 ∧
         State.frame [.regs, .access] s t)))

/-- R415, R419, R420, R425, R338, R345: the settlement unit leaves OFF, at the strobe, for the state its straps and history call for; ADMIT
waits for recovery where it must; STANDBY is requested, refused in other states and while a conflicting activity runs, entered once
settled, abandoned, and left; a gated cluster wakes. -/
def Obligations.PowerStates : Prop :=
  (∀ s : State, s.leaveDue = true →
    exec .settlementLeaveOff s = .next { s with stl := { s.stl with toState := some s.leaveState } }) ∧
  (∀ (s : State) (a : Accessor) (v : Word32), s.permits a .supCtl 0 0 (withField v 0 1 1) → bits v.toNat 1 1 = 0 →
    ∃ t, exec (.admitWrite a v) s = .next t ∧
      t.f F.supCtl_ADMIT = (if s.sup.gate = true ∧ s.b F.supBoot_RECOVERED = false then s.f F.supCtl_ADMIT else 1) ∧
      State.frame [.regs, .access] s t ∧ State.regsBut s t [Reg.key .supCtl 0 0 0]) ∧
  (∀ (s : State) (a : Accessor) (v : Word32) (g : List Nat), s.permits a .supPwr 0 0 (withField v 0 2 2) →
    g = (if bits v.toNat 4 1 = 0 then [] else s.sup.gated) →
    (s.f F.supPwr_STATE = 0 → s.stlState ≤ 1 ∨ s.stlState = 5 → s.maintBusy 0x63 = none →
      ∃ t, exec (.standbyEntry a v) s = .next t ∧ t.f F.supPwr_STATE = 1 ∧ t.maint = 0x63 :: s.maint ∧
        t.sup = { s.sup with standby := some { course := s.course + 1, alone := s.stlState == 5 }, gated := g } ∧
        State.frame [.regs, .maint, .sup, .access] s t) ∧
    (∀ b, s.f F.supPwr_STATE = 0 → s.stlState ≤ 1 ∨ s.stlState = 5 → s.maintBusy 0x63 = some b → b < 256 →
      ∃ t, exec (.standbyEntry a v) s = .next t ∧ t.f F.supPwr_STATE = 0 ∧ t.f F.supPwr_RESULT = 3 ∧ t.f F.supPwr_BUSY_ID = b ∧
        t.f F.supMaint_LAST_REQ = 0x63 ∧ t.f F.supMaint_LAST_BLOCKER = b ∧ t.sup = { s.sup with gated := g } ∧
        State.frame [.regs, .sup, .access] s t) ∧
    (s.f F.supPwr_STATE = 0 → 2 ≤ s.stlState → s.stlState ≠ 5 →
      ∃ t, exec (.standbyEntry a v) s = .next t ∧ t.f F.supPwr_STATE = 0 ∧ t.f F.supPwr_RESULT = 2 ∧ t.f F.supPwr_REASON = 1 ∧
        t.sup = { s.sup with gated := g } ∧ State.frame [.regs, .sup, .access] s t) ∧
    (s.f F.supPwr_STATE ≠ 0 →
      ∃ t, exec (.standbyEntry a v) s = .next t ∧ t.f F.supPwr_STATE = s.f F.supPwr_STATE ∧ t.f F.supPwr_RESULT = s.f F.supPwr_RESULT ∧
        t.sup = { s.sup with gated := g } ∧ State.frame [.regs, .sup, .access] s t)) ∧
  (∀ (s : State) (a : Accessor) (v : Word32) (g : List Nat), s.permits a .supPwr 0 0 (withField v 0 2 1) →
    g = (if bits v.toNat 4 1 = 0 then [] else s.sup.gated) →
    (s.f F.supPwr_STATE = 2 → ∃ t, exec (.standbyExit a v) s = .next t ∧ t.f F.supPwr_STATE = 3 ∧
      t.sup = { s.sup with gate := true, gated := g } ∧ State.frame [.regs, .sup, .access] s t) ∧
    (s.f F.supPwr_STATE ≠ 2 → ∃ t, exec (.standbyExit a v) s = .next t ∧ t.f F.supPwr_STATE = s.f F.supPwr_STATE ∧
      t.sup = { s.sup with gated := g } ∧ State.frame [.regs, .sup, .access] s t)) ∧
  (∀ s : State, s.standbySettled = true →
    ∃ t, exec .standbySettled s = .next t ∧ t.f F.supPwr_STATE = 2 ∧ t.f F.supPwr_RESULT = 1 ∧ t.sup.standby = none ∧ t.maint = [] ∧
      t.units = [] ∧ t.stn = [] ∧ t.clMem = [] ∧ t.time = s.time ∧ t.ledger = s.ledger ∧ t.pending = s.pending) ∧
  (∀ s : State, s.abandonDue = true →
    ∃ t, exec .standbyAbandon s = .next t ∧ t.f F.supPwr_STATE = 0 ∧ t.f F.supPwr_RESULT = 2 ∧ t.f F.supPwr_REASON = 2 ∧
      t.f F.supCtl_ADMIT = 1 ∧ t.sup = { s.sup with standby := none } ∧ (∀ m, m ∈ t.maint ↔ m ∈ s.maint ∧ m ≠ 0x63) ∧
      State.frame [.regs, .maint, .sup] s t) ∧
  (∀ (s : State) (c : Fin 16), c.val ∈ s.sup.gated → s.clusterIdle c = false →
    ∃ t, exec (.clusterWake c) s = .next t ∧ (∀ d, d ∈ t.sup.gated ↔ d ∈ s.sup.gated ∧ d ≠ c.val) ∧
      State.regsBut s t [Reg.key .supPwr 0 0 0] ∧ State.frame [.regs, .sup] s t)

/-- R421-R423, R426-R429, R446: a life-cycle request that does not come through the house's session is refused, and every request spends
the nonce; a legal one moves the fuses on and resets the device; RETURN wants a token, and eight bad ones are the end of it; VOID
follows every state; ROLLBACK only rises; boot takes copy A where it passes, else copy B, fails where neither does, waits for DRAM,
lets channels that failed after power-on train once more, and releases house thread 0. -/
def Obligations.BootAndLifecycle : Prop :=
  (∀ (s : State) (a : Accessor) (v : Word32), s.permits a .supLcReq 0 0 (withField v 3 1 1) → (∀ x : Target, a = .session x → x.val ≠ 16) →
    ∃ t, exec (.lifecycle a v) s = .next t ∧ t.f F.supLcReq_RESULT = 2 ∧ t.f F.supLcReq_REASON = 2 ∧
      t.sup = { s.sup with nonce := s.sup.nonce + 1 } ∧ State.frame [.regs, .sup, .access] s t) ∧
  (∀ (s : State) (v : Word32), s.permits (.session 16) .supLcReq 0 0 (withField v 3 1 1) →
    (s.fuses.lcState = 0 → bits v.toNat 0 3 = 1 → s.sup.hkeys.length = 8 → s.sup.roots.length = 12 →
      ∃ t, exec (.lifecycle (.session 16) v) s = .next t ∧ t.fuses.lcState = 1 ∧
        t.fuses.ownerKey = some ((List.range 8).map fun i => BitVec.ofNat 32 (s.rd .supHkey i)) ∧
        t.fuses.root = some ((List.range 12).map fun i => BitVec.ofNat 32 (s.rd .supRoot i)) ∧
        t.f F.supStatus_CAUSE = 2 ∧ t.threads = [] ∧ t.time = s.time ∧ t.pending = s.pending) ∧
    (s.fuses.lcState = 0 → bits v.toNat 0 3 = 1 → s.sup.hkeys.length ≠ 8 ∨ s.sup.roots.length ≠ 12 →
      ∃ t, exec (.lifecycle (.session 16) v) s = .next t ∧ t.f F.supLcReq_RESULT = 2 ∧ t.f F.supLcReq_REASON = 1 ∧
        t.sup = { s.sup with nonce := s.sup.nonce + 1 } ∧ State.frame [.regs, .sup, .access] s t) ∧
    (s.fuses.lcState = 1 → bits v.toNat 0 3 = 2 →
      ∃ t, exec (.lifecycle (.session 16) v) s = .next t ∧
        t.fuses = { s.fuses with lcState := 2, transitions := (s.fuses.transitions + 1) % 8 } ∧
        t.f F.supStatus_CAUSE = 2 ∧ t.threads = [] ∧ t.time = s.time ∧ t.pending = s.pending) ∧
    (s.fuses.lcState = 2 → bits v.toNat 0 3 = 3 → s.f F.supLc_BAD_TOKENS < 8 →
      ∃ t, exec (.lifecycle (.session 16) v) s = .next t ∧
        (if s.tokenOk = true then t.fuses.lcState = 3 ∧ t.fuses.ownerKey = none ∧ t.fuses.root = none ∧ t.fuses.makerBlown = true ∧
            t.sup.wipe = true ∧ t.keyCache = [] ∧ t.f F.supStatus_CAUSE = 2
          else t.f F.supLc_BAD_TOKENS = s.f F.supLc_BAD_TOKENS + 1 ∧ t.f F.supLcReq_RESULT = 2 ∧ t.f F.supLcReq_REASON = 3 ∧
            t.sup = { s.sup with nonce := s.sup.nonce + 1 } ∧ State.frame [.regs, .sup, .access] s t) ∧
        t.time = s.time ∧ t.pending = s.pending) ∧
    (s.fuses.lcState = 2 → bits v.toNat 0 3 = 3 → 8 ≤ s.f F.supLc_BAD_TOKENS →
      ∃ t, exec (.lifecycle (.session 16) v) s = .next t ∧ t.f F.supLc_BAD_TOKENS = s.f F.supLc_BAD_TOKENS ∧
        t.f F.supLcReq_RESULT = 2 ∧ t.f F.supLcReq_REASON = 3 ∧ t.sup = { s.sup with nonce := s.sup.nonce + 1 } ∧
        State.frame [.regs, .sup, .access] s t) ∧
    (s.fuses.lcState ≠ 4 → bits v.toNat 0 3 = 4 →
      ∃ t, exec (.lifecycle (.session 16) v) s = .next t ∧
        t.fuses = { s.fuses with lcState := 4, transitions := (s.fuses.transitions + 1) % 8 } ∧
        t.f F.supStatus_CAUSE = 2 ∧ t.threads = [] ∧ t.time = s.time ∧ t.pending = s.pending)) ∧
  (∀ (s : State) (a : Accessor) (v : Word32), s.permits a .supRollback 0 0 v.toNat →
    ∃ t, exec (.rollbackRaise a v) s = .next t ∧ t.fuses = { s.fuses with rollback := max s.fuses.rollback (bits v.toNat 0 6) } ∧
      State.frame [.fuses, .access] s t) ∧
  (∀ (s s1 : State) (a b : Option (List Byte)), s.bootOwed = true → s.sup.booting = none →
    (s.bootTry (s.readCopy a) false = (true, s1) →
      ∃ t, exec (.boot a b) s = .next t ∧ t.sup.booting = some ⟨s.readCopy a, s.readCopy b, false, false⟩ ∧ t.f F.supBoot_COPY = 0 ∧
        t.pending = s.pending) ∧
    (∀ s2, s.bootTry (s.readCopy a) false = (false, s1) → s1.bootTry (s.readCopy b) true = (true, s2) →
      ∃ t, exec (.boot a b) s = .next t ∧ t.sup.booting = some ⟨s.readCopy a, s.readCopy b, true, false⟩ ∧ t.f F.supBoot_COPY = 1 ∧
        t.pending = s.pending) ∧
    (a = none → (s.readCopy b).readOk = true → (s.readCopy b).magicOk = false →
      ∃ t, exec (.boot a b) s = .next t ∧ t.sup.failed = true ∧ t.sup.bootDue = false ∧ t.f F.supBoot_A_FAILED = 1 ∧
        t.f F.supBoot_A_CODE = 2 ∧ t.f F.supBoot_CODE = 1 ∧ t.emits.head? = some (.alive false) ∧ t.pending = s.pending)) ∧
  (∀ (s s2 : State) (a b : Option (List Byte)) (r : BootRun), s.bootOwed = true → s.sup.booting = some r →
    (s.dramSettled = false → exec (.boot a b) s = .next s) ∧
    (s.dramSettled = true → s.dramFailed ≠ [] → s.sup.fromPower = true → r.retried = false →
      ∃ t, exec (.boot a b) s = .next t ∧ t.sup = { s.sup with booting := some { r with retried := true } } ∧
        (∀ ch ∈ s.dramFailed, t.f F.drcStatus_STATE ch = 1) ∧ State.frame [.regs, .sup] s t) ∧
    (s.dramSettled = true → s.dramFailed = [] → s.bootLoad (if r.onB then r.b else r.a) = (true, s2) →
      ∃ t, exec (.boot a b) s = .next t ∧ (t.th 1024).st = .running ∧ (t.th 1024).pc = (if r.onB then r.b else r.a).entry % 131072 ∧
        t.sup.ready = true ∧ t.sup.booting = none ∧ t.f F.schHthread_CLASS 0 = 1 ∧ t.f F.schHthread_PRIO 0 = 4 ∧ t.f F.supBoot_CODE = 0 ∧
        t.pending = s.pending))

/-! ### Registers (R10-R15, R435) -/

/-- R10, R11, R32, R435: a write that the accessor may make takes each field by its behaviour code and touches no other word, and changes
nothing where it may write no field; a write that breaches a restriction, or of an instance the accessor does not reach, stores nothing
and is refused. -/
def Obligations.RegisterWrites : Prop :=
  ∀ (s : State) (a : Accessor) (off : Fin 16777216) (v : Word32) (r : Reg) (i j : Nat), capWord (off.val / 4 * 4) = none →
    Reg.find (off.val / 4 * 4) = some (r, i, j) →
    (s.permits a r i j v.toNat → s.powerless a r i = false → r.plainWrite = true →
      ∃ t, exec (.registerWrite a off v) s = .next t ∧ t.rdA a.num r i j = r.written i (s.rdA a.num r i j) v.toNat % 2 ^ 32 ∧
        (t.resp.get Resp.reset a.num).refused = false ∧ State.frame [.regs, .access] s t ∧ State.regsBut s t [Reg.key r a.num i j]) ∧
    (s.permits a r i j v.toNat → s.powerless a r i = true →
      ∃ t, exec (.registerWrite a off v) s = .next t ∧ (t.resp.get Resp.reset a.num).refused = false ∧ State.frame [.access] s t) ∧
    ((s.mayReach (s.accOwner a) r i = false ∨ s.breach a r i j v.toNat = true) →
      ∃ t, exec (.registerWrite a off v) s = .next t ∧ (t.resp.get Resp.reset a.num).refused = true ∧ t.captures = s.captures ∧
        State.frame [.access] s t)

/-- R13, R15, R435: a read gives the register's value and clears its RC fields; a read of a pair's low half captures the others, which the
next read of each gives; an offset where no register lies reads 0 and is noted. -/
def Obligations.RegisterReads : Prop :=
  (∀ (s : State) (a : Accessor) (off : Fin 16777216) (r : Reg) (i j : Nat), capWord (off.val / 4 * 4) = none →
    Reg.find (off.val / 4 * 4) = some (r, i, j) →
    (s.mayReach (s.accOwner a) r i = true → r.plainRead = true → s.capturedHalf a.num (off.val / 4 * 4) = none →
      (r.captured = [] →
        ∃ t, exec (.rcRead a off) s = .next t ∧ t.answered a (s.peekReg a.num r i j) ∧
          (∀ d ∈ r.fields, bits (t.rdA a.num r i j) d.lo d.width = (if d.access = .rc then 0 else bits (s.rdA a.num r i j) d.lo d.width)) ∧
          t.captures = s.captures ∧ State.frame [.regs, .access] s t ∧ State.regsBut s t [Reg.key r a.num i j]) ∧
      ∃ t, exec (.pairLowRead a off) s = .next t ∧ t.answered a (s.peekReg a.num r i j) ∧
        (∀ h ∈ r.captured, t.capturedHalf a.num (h.off i j) = some (s.peekReg a.num h i j)) ∧ State.frame [.regs, .access] s t) ∧
    (∀ v, s.mayReach (s.accOwner a) r i = true → s.capturedHalf a.num (off.val / 4 * 4) = some v →
      ∃ t, exec (.rcRead a off) s = .next t ∧ t.answered a v ∧ t.capturedHalf a.num (off.val / 4 * 4) = none ∧
        State.frame [.regs, .access] s t) ∧
    (s.mayReach (s.accOwner a) r i = true → r ∈ Reg.cycleCounters → s.capturedHalf a.num (off.val / 4 * 4) = none →
      ∃ t, exec (.rcRead a off) s = .next t ∧ t.answered a (s.peekReg a.num r i j) ∧ t.captures = s.captures ∧
        State.frame [.regs, .access, .free] s t) ∧
    (s.mayReach (s.accOwner a) r i = false →
      ∃ t, exec (.rcRead a off) s = .next t ∧ (t.resp.get Resp.reset a.num).refused = true ∧ State.frame [.access] s t)) ∧
  (∀ (s : State) (a : Accessor) (off : Fin 16777216) (write : Bool), capWord (off.val / 4 * 4) = none → Reg.find (off.val / 4 * 4) = none →
    ∃ t, exec (.unmappedAccess a off write) s = .next t ∧ t.answered a 0 ∧ t.f F.crsUnmapped_OFFSET = off.val / 4 * 4 ∧
      t.f F.crsUnmapped_COUNT = (s.count F.crsUnmapped_COUNT).f F.crsUnmapped_COUNT ∧ State.frame [.regs, .access] s t ∧
      State.regsBut s t [Reg.key .crsUnmapped 0 0 0])

/-! ### The whole device -/

/-- The queue (the model's own, log entry 2): a step performs the command at the front with the rest left waiting, and idles on an empty
queue. -/
def Obligations.StepRunsFront : Prop :=
  (∀ (s : State) (c : Instr) (rest : List Instr), step (s.fronted c rest) = exec c { s with pending := rest }) ∧
  (∀ s : State, s.pending = [] → step s = .next s)

/-- Every command in every state answers a next state, and leaves the queue of the commands after it as it is. -/
def Obligations.EveryCommandCompletes : Prop :=
  ∀ (c : Instr) (s : State), ∃ t, exec c s = .next t ∧ t.pending = s.pending

/-- R39, R47-R61: only the time base's own commands, writes that can reach its registers, boot and a POWER reset change the time base. -/
def Obligations.TimeBaseIsolated : Prop :=
  ∀ (c : Instr) (s t : State), c.actsOnTime = false → exec c s = .next t → t.time = s.time

/-- R47-R49: what the time base keeps to (Time.Inv) every step keeps. -/
def Obligations.TimeBaseInvariant : Prop :=
  ∀ s t : State, s.time.Inv → step s = .next t → t.time.Inv

/-- Time.Inv holds after a POWER reset. -/
def Obligations.TimeBaseInvariantAtReset : Prop :=
  State.reset.time.Inv

/-- R16-R20, R39, R338, R410: right after a POWER reset every register has the Reset value of its table, the time base is OFF with the
timeline at 0, the settlement unit is OFF, nothing is held, and boot is to come. -/
def Obligations.ResetState : Prop :=
  (∀ (r : Reg) (a i j : Nat), State.reset.rdA a r i j = (r.resetWord i).toNat) ∧ State.reset.time.st = .off ∧ State.reset.time.timeline = 0 ∧
    State.reset.time.course = 0 ∧ State.reset.stlState = 0 ∧ State.reset.threads = [] ∧ State.reset.cells = [] ∧ State.reset.chans = [] ∧
    State.reset.banks = [] ∧ State.reset.ledger = [] ∧ State.reset.evRecs = [] ∧ State.reset.maint = [] ∧ State.reset.dram = [] ∧
    (∀ x, x < 17 → State.reset.stallState x = 0 ∧ State.reset.sessionOpen x = false) ∧ (∀ ch, ch < 4 → State.reset.dstate ch = 0) ∧
    State.reset.sup.bootDue = true ∧ State.reset.pending = []
end

