-- ==== Sys2Proof/Laws/RegKeys.lean ====
section
/-! SUPPORT. Where each register lies in the register file (R431): offsets written out, one by one, from the register map. -/

namespace Sys2Proof.Machine.Reg

set_option Elab.async false

theorem key_tmbStatus (a i j : Nat) : key .tmbStatus a i j = 0x20000 + i * 0x0 + j * 0x0 := rfl
theorem key_tmbCtl (a i j : Nat) : key .tmbCtl a i j = 0x20004 + i * 0x0 + j * 0x0 := rfl
theorem key_tmbFreqAdj (a i j : Nat) : key .tmbFreqAdj a i j = 0x20008 + i * 0x0 + j * 0x0 := rfl
theorem key_tmbPhaseAdj (a i j : Nat) : key .tmbPhaseAdj a i j = 0x2000C + i * 0x0 + j * 0x0 := rfl
theorem key_tmbSlew (a i j : Nat) : key .tmbSlew a i j = 0x20010 + i * 0x0 + j * 0x0 := rfl
theorem key_tmbHold (a i j : Nat) : key .tmbHold a i j = 0x20014 + i * 0x0 + j * 0x0 := rfl
theorem key_tmbStab (a i j : Nat) : key .tmbStab a i j = 0x20018 + i * 0x0 + j * 0x0 := rfl
theorem key_tmbTickCtl (a i j : Nat) : key .tmbTickCtl a i j = 0x2001C + i * 0x0 + j * 0x0 := rfl
theorem key_tmbTickOffset (a i j : Nat) : key .tmbTickOffset a i j = 0x20020 + i * 0x0 + j * 0x0 := rfl
theorem key_tmbPpsCtl (a i j : Nat) : key .tmbPpsCtl a i j = 0x20024 + i * 0x0 + j * 0x0 := rfl
theorem key_tmbPpsOffset (a i j : Nat) : key .tmbPpsOffset a i j = 0x20028 + i * 0x0 + j * 0x0 := rfl
theorem key_tmbNow0 (a i j : Nat) : key .tmbNow0 a i j = 0x20030 + i * 0x0 + j * 0x0 := rfl
theorem key_tmbNow1 (a i j : Nat) : key .tmbNow1 a i j = 0x20034 + i * 0x0 + j * 0x0 := rfl
theorem key_tmbNow2 (a i j : Nat) : key .tmbNow2 a i j = 0x20038 + i * 0x0 + j * 0x0 := rfl
theorem key_tmbNow3 (a i j : Nat) : key .tmbNow3 a i j = 0x2003C + i * 0x0 + j * 0x0 := rfl
theorem key_tmbEpoch0 (a i j : Nat) : key .tmbEpoch0 a i j = 0x20040 + i * 0x0 + j * 0x0 := rfl
theorem key_tmbEpoch1 (a i j : Nat) : key .tmbEpoch1 a i j = 0x20044 + i * 0x0 + j * 0x0 := rfl
theorem key_tmbEpoch2 (a i j : Nat) : key .tmbEpoch2 a i j = 0x20048 + i * 0x0 + j * 0x0 := rfl
theorem key_tmbEpoch3 (a i j : Nat) : key .tmbEpoch3 a i j = 0x2004C + i * 0x0 + j * 0x0 := rfl
theorem key_tmbStampLo (a i j : Nat) : key .tmbStampLo a i j = 0x20050 + i * 0x0 + j * 0x0 := rfl
theorem key_tmbStampHi (a i j : Nat) : key .tmbStampHi a i j = 0x20054 + i * 0x0 + j * 0x0 := rfl
theorem key_tmbStepSec (a i j : Nat) : key .tmbStepSec a i j = 0x20058 + i * 0x0 + j * 0x0 := rfl
theorem key_tmbStepNs (a i j : Nat) : key .tmbStepNs a i j = 0x2005C + i * 0x0 + j * 0x0 := rfl
theorem key_tmbPortAdj (a i j : Nat) : key .tmbPortAdj a i j = 0x20100 + i * 0x4 + j * 0x0 := rfl
theorem key_tmbTxtsStat (a i j : Nat) : key .tmbTxtsStat a i j = 0x20200 + i * 0x10 + j * 0x0 := rfl
theorem key_tmbTxtsTag (a i j : Nat) : key .tmbTxtsTag a i j = 0x20204 + i * 0x10 + j * 0x0 := rfl
theorem key_tmbTxtsTsLo (a i j : Nat) : key .tmbTxtsTsLo a i j = 0x20208 + i * 0x10 + j * 0x0 + 0x1000000 * (a + 1) := rfl
theorem key_tmbTxtsTsHi (a i j : Nat) : key .tmbTxtsTsHi a i j = 0x2020C + i * 0x10 + j * 0x0 + 0x1000000 * (a + 1) := rfl
theorem key_crsNowLo (a i j : Nat) : key .crsNowLo a i j = 0x20800 + i * 0x0 + j * 0x0 := rfl
theorem key_crsNowHi (a i j : Nat) : key .crsNowHi a i j = 0x20804 + i * 0x0 + j * 0x0 := rfl
theorem key_crsPos (a i j : Nat) : key .crsPos a i j = 0x20808 + i * 0x0 + j * 0x0 := rfl
theorem key_crsLenChg (a i j : Nat) : key .crsLenChg a i j = 0x2080C + i * 0x0 + j * 0x0 := rfl
theorem key_crsFrameLo (a i j : Nat) : key .crsFrameLo a i j = 0x20810 + i * 0x0 + j * 0x0 := rfl
theorem key_crsFrameHi (a i j : Nat) : key .crsFrameHi a i j = 0x20814 + i * 0x0 + j * 0x0 := rfl
theorem key_prtCfg (a i j : Nat) : key .prtCfg a i j = 0x30000 + i * 0x1000 + j * 0x0 := rfl
theorem key_prtStatus (a i j : Nat) : key .prtStatus a i j = 0x30004 + i * 0x1000 + j * 0x0 := rfl
theorem key_prtFc (a i j : Nat) : key .prtFc a i j = 0x30008 + i * 0x1000 + j * 0x0 := rfl
theorem key_prtFec (a i j : Nat) : key .prtFec a i j = 0x3000C + i * 0x1000 + j * 0x0 := rfl
theorem key_prtSeq (a i j : Nat) : key .prtSeq a i j = 0x30010 + i * 0x1000 + j * 0x0 := rfl
theorem key_prtEq (a i j : Nat) : key .prtEq a i j = 0x30014 + i * 0x1000 + j * 0x0 := rfl
theorem key_prtRxFramesLo (a i j : Nat) : key .prtRxFramesLo a i j = 0x30100 + i * 0x1000 + j * 0x0 := rfl
theorem key_prtRxFramesHi (a i j : Nat) : key .prtRxFramesHi a i j = 0x30104 + i * 0x1000 + j * 0x0 := rfl
theorem key_prtRxBytesLo (a i j : Nat) : key .prtRxBytesLo a i j = 0x30108 + i * 0x1000 + j * 0x0 := rfl
theorem key_prtRxBytesHi (a i j : Nat) : key .prtRxBytesHi a i j = 0x3010C + i * 0x1000 + j * 0x0 := rfl
theorem key_prtTxFramesLo (a i j : Nat) : key .prtTxFramesLo a i j = 0x30110 + i * 0x1000 + j * 0x0 := rfl
theorem key_prtTxFramesHi (a i j : Nat) : key .prtTxFramesHi a i j = 0x30114 + i * 0x1000 + j * 0x0 := rfl
theorem key_prtTxBytesLo (a i j : Nat) : key .prtTxBytesLo a i j = 0x30118 + i * 0x1000 + j * 0x0 := rfl
theorem key_prtTxBytesHi (a i j : Nat) : key .prtTxBytesHi a i j = 0x3011C + i * 0x1000 + j * 0x0 := rfl
theorem key_prtFecCorrLo (a i j : Nat) : key .prtFecCorrLo a i j = 0x30120 + i * 0x1000 + j * 0x0 := rfl
theorem key_prtFecCorrHi (a i j : Nat) : key .prtFecCorrHi a i j = 0x30124 + i * 0x1000 + j * 0x0 := rfl
theorem key_prtRxFcs (a i j : Nat) : key .prtRxFcs a i j = 0x30130 + i * 0x1000 + j * 0x0 := rfl
theorem key_prtRxRunt (a i j : Nat) : key .prtRxRunt a i j = 0x30134 + i * 0x1000 + j * 0x0 := rfl
theorem key_prtRxOversize (a i j : Nat) : key .prtRxOversize a i j = 0x30138 + i * 0x1000 + j * 0x0 := rfl
theorem key_prtRxTrunc (a i j : Nat) : key .prtRxTrunc a i j = 0x3013C + i * 0x1000 + j * 0x0 := rfl
theorem key_prtRxNobuf (a i j : Nat) : key .prtRxNobuf a i j = 0x30140 + i * 0x1000 + j * 0x0 := rfl
theorem key_prtRxPause (a i j : Nat) : key .prtRxPause a i j = 0x30144 + i * 0x1000 + j * 0x0 := rfl
theorem key_prtTxPause (a i j : Nat) : key .prtTxPause a i j = 0x30148 + i * 0x1000 + j * 0x0 := rfl
theorem key_prtTxFlushed (a i j : Nat) : key .prtTxFlushed a i j = 0x3014C + i * 0x1000 + j * 0x0 := rfl
theorem key_prtTxSilent (a i j : Nat) : key .prtTxSilent a i j = 0x30150 + i * 0x1000 + j * 0x0 := rfl
theorem key_prtFecUncorr (a i j : Nat) : key .prtFecUncorr a i j = 0x30154 + i * 0x1000 + j * 0x0 := rfl
theorem key_prtPauseWd (a i j : Nat) : key .prtPauseWd a i j = 0x30158 + i * 0x1000 + j * 0x0 := rfl
theorem key_prtRxForeign (a i j : Nat) : key .prtRxForeign a i j = 0x3015C + i * 0x1000 + j * 0x0 := rfl
theorem key_pgrGraphCfg (a i j : Nat) : key .pgrGraphCfg a i j = 0x40000 + i * 0x4 + j * 0x0 := rfl
theorem key_pgrPortCfg (a i j : Nat) : key .pgrPortCfg a i j = 0x40040 + i * 0x4 + j * 0x0 := rfl
theorem key_pgrStallEntry (a i j : Nat) : key .pgrStallEntry a i j = 0x40080 + i * 0x4 + j * 0x0 := rfl
theorem key_pgrLoadPtr (a i j : Nat) : key .pgrLoadPtr a i j = 0x40100 + i * 0x10 + j * 0x0 := rfl
theorem key_pgrLoadData (a i j : Nat) : key .pgrLoadData a i j = 0x40104 + i * 0x10 + j * 0x0 := rfl
theorem key_pgrLoadStat (a i j : Nat) : key .pgrLoadStat a i j = 0x40108 + i * 0x10 + j * 0x0 := rfl
theorem key_pgrPortStatFail (a i j : Nat) : key .pgrPortStatFail a i j = 0x40220 + i * 0x10 + j * 0x0 := rfl
theorem key_pgrPortStatSteer (a i j : Nat) : key .pgrPortStatSteer a i j = 0x40224 + i * 0x10 + j * 0x0 := rfl
theorem key_pgrKindFail (a i j : Nat) : key .pgrKindFail a i j = 0x40304 + i * 0x4 + j * 0x0 := rfl
theorem key_pgrStallFail (a i j : Nat) : key .pgrStallFail a i j = 0x40340 + i * 0x4 + j * 0x0 := rfl
theorem key_pgrLastFail (a i j : Nat) : key .pgrLastFail a i j = 0x40380 + i * 0x0 + j * 0x0 := rfl
theorem key_pgrHouseLimit (a i j : Nat) : key .pgrHouseLimit a i j = 0x40384 + i * 0x0 + j * 0x0 := rfl
theorem key_clsCfg (a i j : Nat) : key .clsCfg a i j = 0x50000 + i * 0x0 + j * 0x0 := rfl
theorem key_clsSeed (a i j : Nat) : key .clsSeed a i j = 0x50040 + i * 0x4 + j * 0x0 := rfl
theorem key_clsQuota (a i j : Nat) : key .clsQuota a i j = 0x50080 + i * 0x4 + j * 0x0 := rfl
theorem key_clsBound (a i j : Nat) : key .clsBound a i j = 0x500C0 + i * 0x4 + j * 0x0 := rfl
theorem key_clsBank (a i j : Nat) : key .clsBank a i j = 0x50380 + i * 0x4 + j * 0x0 := rfl
theorem key_clsBindCmd (a i j : Nat) : key .clsBindCmd a i j = 0x50100 + i * 0x8 + j * 0x0 := rfl
theorem key_clsBindStatus (a i j : Nat) : key .clsBindStatus a i j = 0x50104 + i * 0x8 + j * 0x0 + 0x1000000 * (a + 1) := rfl
theorem key_clsLoadPtr (a i j : Nat) : key .clsLoadPtr a i j = 0x50200 + i * 0x10 + j * 0x0 := rfl
theorem key_clsLoadData (a i j : Nat) : key .clsLoadData a i j = 0x50204 + i * 0x10 + j * 0x0 := rfl
theorem key_clsLoadStat (a i j : Nat) : key .clsLoadStat a i j = 0x50208 + i * 0x10 + j * 0x0 := rfl
theorem key_clsStatHit (a i j : Nat) : key .clsStatHit a i j = 0x50400 + i * 0x10 + j * 0x0 := rfl
theorem key_clsStatMiss (a i j : Nat) : key .clsStatMiss a i j = 0x50404 + i * 0x10 + j * 0x0 := rfl
theorem key_clsStatKey (a i j : Nat) : key .clsStatKey a i j = 0x50408 + i * 0x10 + j * 0x0 := rfl
theorem key_clsStatDropped (a i j : Nat) : key .clsStatDropped a i j = 0x5040C + i * 0x10 + j * 0x0 := rfl
theorem key_clsHotHit (a i j : Nat) : key .clsHotHit a i j = 0x50500 + i * 0x0 + j * 0x0 := rfl
theorem key_clsHotMiss (a i j : Nat) : key .clsHotMiss a i j = 0x50504 + i * 0x0 + j * 0x0 := rfl
theorem key_stnCfg (a i j : Nat) : key .stnCfg a i j = 0x60000 + i * 0x0 + j * 0x0 := rfl
theorem key_stnRange (a i j : Nat) : key .stnRange a i j = 0x60040 + i * 0x4 + j * 0x0 := rfl
theorem key_stnStatHit (a i j : Nat) : key .stnStatHit a i j = 0x60800 + i * 0x0 + j * 0x0 := rfl
theorem key_stnStatMiss (a i j : Nat) : key .stnStatMiss a i j = 0x60804 + i * 0x0 + j * 0x0 := rfl
theorem key_stnStatWriteback (a i j : Nat) : key .stnStatWriteback a i j = 0x60808 + i * 0x0 + j * 0x0 := rfl
theorem key_stnStatSetWait (a i j : Nat) : key .stnStatSetWait a i j = 0x6080C + i * 0x0 + j * 0x0 := rfl
theorem key_stnCmdCmd (a i j : Nat) : key .stnCmdCmd a i j = 0x60100 + i * 0x20 + j * 0x0 := rfl
theorem key_stnCmdStart (a i j : Nat) : key .stnCmdStart a i j = 0x60104 + i * 0x20 + j * 0x0 := rfl
theorem key_stnCmdMatch (a i j : Nat) : key .stnCmdMatch a i j = 0x60108 + i * 0x20 + j * 0x0 := rfl
theorem key_stnCmdAge (a i j : Nat) : key .stnCmdAge a i j = 0x6010C + i * 0x20 + j * 0x0 := rfl
theorem key_stnCmdResult (a i j : Nat) : key .stnCmdResult a i j = 0x60110 + i * 0x20 + j * 0x0 := rfl
theorem key_espCfg (a i j : Nat) : key .espCfg a i j = 0x70000 + i * 0x0 + j * 0x0 := rfl
theorem key_espPrefix (a i j : Nat) : key .espPrefix a i j = 0x70040 + i * 0x4 + j * 0x0 := rfl
theorem key_espRekey (a i j : Nat) : key .espRekey a i j = 0x70080 + i * 0x4 + j * 0x0 := rfl
theorem key_espNoprefix (a i j : Nat) : key .espNoprefix a i j = 0x700C0 + i * 0x0 + j * 0x0 := rfl
theorem key_espStatOk (a i j : Nat) : key .espStatOk a i j = 0x70100 + i * 0x20 + j * 0x0 := rfl
theorem key_espStatAuth (a i j : Nat) : key .espStatAuth a i j = 0x70104 + i * 0x20 + j * 0x0 := rfl
theorem key_espStatNoSa (a i j : Nat) : key .espStatNoSa a i j = 0x70108 + i * 0x20 + j * 0x0 := rfl
theorem key_espStatMalformed (a i j : Nat) : key .espStatMalformed a i j = 0x7010C + i * 0x20 + j * 0x0 := rfl
theorem key_espStatNocell (a i j : Nat) : key .espStatNocell a i j = 0x70110 + i * 0x20 + j * 0x0 := rfl
theorem key_espStatOutOk (a i j : Nat) : key .espStatOutOk a i j = 0x70114 + i * 0x20 + j * 0x0 := rfl
theorem key_espLast (a i j : Nat) : key .espLast a i j = 0x70300 + i * 0x4 + j * 0x0 := rfl
theorem key_stnLearnCtl (a i j : Nat) : key .stnLearnCtl a i j = 0x60400 + i * 0x20 + j * 0x0 := rfl
theorem key_stnLearnAge (a i j : Nat) : key .stnLearnAge a i j = 0x60404 + i * 0x20 + j * 0x0 := rfl
theorem key_stnLearnSweep (a i j : Nat) : key .stnLearnSweep a i j = 0x60408 + i * 0x20 + j * 0x0 := rfl
theorem key_stnLearnSweepStat (a i j : Nat) : key .stnLearnSweepStat a i j = 0x6040C + i * 0x20 + j * 0x0 := rfl
theorem key_stnLstatLearns (a i j : Nat) : key .stnLstatLearns a i j = 0x60600 + i * 0x20 + j * 0x0 := rfl
theorem key_stnLstatMoves (a i j : Nat) : key .stnLstatMoves a i j = 0x60604 + i * 0x20 + j * 0x0 := rfl
theorem key_stnLstatContests (a i j : Nat) : key .stnLstatContests a i j = 0x60608 + i * 0x20 + j * 0x0 := rfl
theorem key_stnLstatNoPath (a i j : Nat) : key .stnLstatNoPath a i j = 0x6060C + i * 0x20 + j * 0x0 := rfl
theorem key_stnLstatAged (a i j : Nat) : key .stnLstatAged a i j = 0x60610 + i * 0x20 + j * 0x0 := rfl
theorem key_pkmEcc (a i j : Nat) : key .pkmEcc a i j = 0x80000 + i * 0x0 + j * 0x0 := rfl
theorem key_pkmLastErr (a i j : Nat) : key .pkmLastErr a i j = 0x80004 + i * 0x0 + j * 0x0 := rfl
theorem key_pkmSlice (a i j : Nat) : key .pkmSlice a i j = 0x80040 + i * 0x4 + j * 0x0 := rfl
theorem key_pkmPoolLimit (a i j : Nat) : key .pkmPoolLimit a i j = 0x80100 + i * 0x20 + j * 0x0 := rfl
theorem key_pkmPoolGreen (a i j : Nat) : key .pkmPoolGreen a i j = 0x80104 + i * 0x20 + j * 0x0 := rfl
theorem key_pkmPoolYellow (a i j : Nat) : key .pkmPoolYellow a i j = 0x80108 + i * 0x20 + j * 0x0 := rfl
theorem key_pkmPoolRed (a i j : Nat) : key .pkmPoolRed a i j = 0x8010C + i * 0x20 + j * 0x0 := rfl
theorem key_pkmPoolCtl (a i j : Nat) : key .pkmPoolCtl a i j = 0x80110 + i * 0x20 + j * 0x0 := rfl
theorem key_pkmPoolStatus (a i j : Nat) : key .pkmPoolStatus a i j = 0x80114 + i * 0x20 + j * 0x0 := rfl
theorem key_pkmPoolStat (a i j : Nat) : key .pkmPoolStat a i j = 0x80118 + i * 0x20 + j * 0x0 := rfl
theorem key_pkmPoolErr (a i j : Nat) : key .pkmPoolErr a i j = 0x8011C + i * 0x20 + j * 0x0 := rfl
theorem key_pkmCellHandle (a i j : Nat) : key .pkmCellHandle a i j = 0x80800 + i * 0x10 + j * 0x0 + 0x1000000 * (a + 1) := rfl
theorem key_pkmCellCmd (a i j : Nat) : key .pkmCellCmd a i j = 0x80804 + i * 0x10 + j * 0x0 := rfl
theorem key_pkmCellResult (a i j : Nat) : key .pkmCellResult a i j = 0x80808 + i * 0x10 + j * 0x0 + 0x1000000 * (a + 1) := rfl
theorem key_pkmCellLink (a i j : Nat) : key .pkmCellLink a i j = 0x8080C + i * 0x10 + j * 0x0 + 0x1000000 * (a + 1) := rfl
theorem key_dspStallCtl (a i j : Nat) : key .dspStallCtl a i j = 0x90000 + i * 0x20 + j * 0x0 := rfl
theorem key_dspStallBudget (a i j : Nat) : key .dspStallBudget a i j = 0x90004 + i * 0x20 + j * 0x0 := rfl
theorem key_dspStallMap (a i j : Nat) : key .dspStallMap a i j = 0x90008 + i * 0x20 + j * 0x0 := rfl
theorem key_dspMaploadPtr (a i j : Nat) : key .dspMaploadPtr a i j = 0x90200 + i * 0x10 + j * 0x0 := rfl
theorem key_dspMaploadData (a i j : Nat) : key .dspMaploadData a i j = 0x90204 + i * 0x10 + j * 0x0 := rfl
theorem key_dspMaploadStat (a i j : Nat) : key .dspMaploadStat a i j = 0x90208 + i * 0x10 + j * 0x0 := rfl
theorem key_dspCluster (a i j : Nat) : key .dspCluster a i j = 0x90400 + i * 0x20 + j * 0x0 := rfl
theorem key_dspClusterPackets (a i j : Nat) : key .dspClusterPackets a i j = 0x90404 + i * 0x20 + j * 0x0 := rfl
theorem key_dspClusterIssuedLo (a i j : Nat) : key .dspClusterIssuedLo a i j = 0x90408 + i * 0x20 + j * 0x0 := rfl
theorem key_dspClusterIssuedHi (a i j : Nat) : key .dspClusterIssuedHi a i j = 0x9040C + i * 0x20 + j * 0x0 := rfl
theorem key_dspClusterMaxCycles (a i j : Nat) : key .dspClusterMaxCycles a i j = 0x90410 + i * 0x20 + j * 0x0 := rfl
theorem key_dspClusterTurnWaits (a i j : Nat) : key .dspClusterTurnWaits a i j = 0x90414 + i * 0x20 + j * 0x0 := rfl
theorem key_dspClusterQueue (a i j : Nat) : key .dspClusterQueue a i j = 0x90418 + i * 0x20 + j * 0x0 := rfl
theorem key_dspOos (a i j : Nat) : key .dspOos a i j = 0x90800 + i * 0x0 + j * 0x0 := rfl
theorem key_dspGateBanks (a i j : Nat) : key .dspGateBanks a i j = 0x90804 + i * 0x0 + j * 0x0 := rfl
theorem key_dspGateFull (a i j : Nat) : key .dspGateFull a i j = 0x90808 + i * 0x0 + j * 0x0 := rfl
theorem key_dspStatAdmitted (a i j : Nat) : key .dspStatAdmitted a i j = 0x90900 + i * 0x20 + j * 0x0 := rfl
theorem key_dspStatOverrun (a i j : Nat) : key .dspStatOverrun a i j = 0x90904 + i * 0x20 + j * 0x0 := rfl
theorem key_dspStatLate (a i j : Nat) : key .dspStatLate a i j = 0x90908 + i * 0x20 + j * 0x0 := rfl
theorem key_dspStatQueueFull (a i j : Nat) : key .dspStatQueueFull a i j = 0x9090C + i * 0x20 + j * 0x0 := rfl
theorem key_dspStatDefers (a i j : Nat) : key .dspStatDefers a i j = 0x90910 + i * 0x20 + j * 0x0 := rfl
theorem key_dspStatDeferFull (a i j : Nat) : key .dspStatDeferFull a i j = 0x90914 + i * 0x20 + j * 0x0 := rfl
theorem key_dspStatNoCluster (a i j : Nat) : key .dspStatNoCluster a i j = 0x90918 + i * 0x20 + j * 0x0 := rfl
theorem key_cluCoreCtl (a i j : Nat) : key .cluCoreCtl a i j = 0xA0100 + i * 0x1000 + j * 0x40 := rfl
theorem key_cluCoreIssue (a i j : Nat) : key .cluCoreIssue a i j = 0xA0104 + i * 0x1000 + j * 0x40 := rfl
theorem key_cluCoreEmpty (a i j : Nat) : key .cluCoreEmpty a i j = 0xA0108 + i * 0x1000 + j * 0x40 := rfl
theorem key_cluCoreMispredict (a i j : Nat) : key .cluCoreMispredict a i j = 0xA010C + i * 0x1000 + j * 0x40 := rfl
theorem key_cluCoreRefill (a i j : Nat) : key .cluCoreRefill a i j = 0xA0110 + i * 0x1000 + j * 0x40 := rfl
theorem key_cluCoreRefillWait (a i j : Nat) : key .cluCoreRefillWait a i j = 0xA0114 + i * 0x1000 + j * 0x40 := rfl
theorem key_cluCoreSbWait (a i j : Nat) : key .cluCoreSbWait a i j = 0xA0118 + i * 0x1000 + j * 0x40 := rfl
theorem key_cluCoreSbFull (a i j : Nat) : key .cluCoreSbFull a i j = 0xA011C + i * 0x1000 + j * 0x40 := rfl
theorem key_cluCorePairSplit (a i j : Nat) : key .cluCorePairSplit a i j = 0xA0120 + i * 0x1000 + j * 0x40 := rfl
theorem key_cluCoreTallySquash (a i j : Nat) : key .cluCoreTallySquash a i j = 0xA0124 + i * 0x1000 + j * 0x40 := rfl
theorem key_cluTrap (a i j : Nat) : key .cluTrap a i j = 0xA0000 + i * 0x1000 + j * 0x0 := rfl
theorem key_cluSram (a i j : Nat) : key .cluSram a i j = 0xA0004 + i * 0x1000 + j * 0x0 := rfl
theorem key_scpSegLo (a i j : Nat) : key .scpSegLo a i j = 0x121000 + i * 0x80 + j * 0x8 := rfl
theorem key_scpSegHi (a i j : Nat) : key .scpSegHi a i j = 0x121004 + i * 0x80 + j * 0x8 := rfl
theorem key_tlyUnitOwner (a i j : Nat) : key .tlyUnitOwner a i j = 0xB0000 + i * 0x20 + j * 0x0 := rfl
theorem key_tlyUnitCommands (a i j : Nat) : key .tlyUnitCommands a i j = 0xB0004 + i * 0x20 + j * 0x0 := rfl
theorem key_tlyUnitBusyCycles (a i j : Nat) : key .tlyUnitBusyCycles a i j = 0xB0008 + i * 0x20 + j * 0x0 := rfl
theorem key_tlyUnitQfull (a i j : Nat) : key .tlyUnitQfull a i j = 0xB000C + i * 0x20 + j * 0x0 := rfl
theorem key_tlyUnitMchk (a i j : Nat) : key .tlyUnitMchk a i j = 0xB0010 + i * 0x20 + j * 0x0 := rfl
theorem key_tlyUnitErrors (a i j : Nat) : key .tlyUnitErrors a i j = 0xB0014 + i * 0x20 + j * 0x0 := rfl
theorem key_tlyPloadAddr (a i j : Nat) : key .tlyPloadAddr a i j = 0xB8000 + i * 0x0 + j * 0x0 := rfl
theorem key_tlyPloadD0 (a i j : Nat) : key .tlyPloadD0 a i j = 0xB8004 + i * 0x0 + j * 0x0 := rfl
theorem key_tlyPloadD1 (a i j : Nat) : key .tlyPloadD1 a i j = 0xB8008 + i * 0x0 + j * 0x0 := rfl
theorem key_tlyPloadD2 (a i j : Nat) : key .tlyPloadD2 a i j = 0xB800C + i * 0x0 + j * 0x0 := rfl
theorem key_tlyPloadStat (a i j : Nat) : key .tlyPloadStat a i j = 0xB8010 + i * 0x0 + j * 0x0 := rfl
theorem key_tlyPatch (a i j : Nat) : key .tlyPatch a i j = 0xB8020 + i * 0x0 + j * 0x0 := rfl
theorem key_tlyTver (a i j : Nat) : key .tlyTver a i j = 0xB8024 + i * 0x0 + j * 0x0 := rfl
theorem key_schThread (a i j : Nat) : key .schThread a i j = 0xC0000 + i * 0x4 + j * 0x0 := rfl
theorem key_schHthread (a i j : Nat) : key .schHthread a i j = 0xC1000 + i * 0x4 + j * 0x0 := rfl
theorem key_schChanPtr (a i j : Nat) : key .schChanPtr a i j = 0xC2000 + i * 0x10 + j * 0x0 := rfl
theorem key_schChanCfg (a i j : Nat) : key .schChanCfg a i j = 0xC2004 + i * 0x10 + j * 0x0 := rfl
theorem key_schChanStat (a i j : Nat) : key .schChanStat a i j = 0xC2008 + i * 0x10 + j * 0x0 := rfl
theorem key_schClusterStoreFree (a i j : Nat) : key .schClusterStoreFree a i j = 0xC3000 + i * 0x20 + j * 0x0 := rfl
theorem key_schClusterForkFail (a i j : Nat) : key .schClusterForkFail a i j = 0xC3004 + i * 0x20 + j * 0x0 := rfl
theorem key_schClusterTimerLate (a i j : Nat) : key .schClusterTimerLate a i j = 0xC3008 + i * 0x20 + j * 0x0 := rfl
theorem key_schClusterCheBlock (a i j : Nat) : key .schClusterCheBlock a i j = 0xC300C + i * 0x20 + j * 0x0 := rfl
theorem key_schClusterDiscard (a i j : Nat) : key .schClusterDiscard a i j = 0xC3010 + i * 0x20 + j * 0x0 := rfl
theorem key_schStillCtl (a i j : Nat) : key .schStillCtl a i j = 0xC3400 + i * 0x8 + j * 0x0 := rfl
theorem key_schStillStat (a i j : Nat) : key .schStillStat a i j = 0xC3404 + i * 0x8 + j * 0x0 := rfl
theorem key_atmCfg (a i j : Nat) : key .atmCfg a i j = 0xD0000 + i * 0x0 + j * 0x0 := rfl
theorem key_atmStatAcquired (a i j : Nat) : key .atmStatAcquired a i j = 0xD0100 + i * 0x10 + j * 0x0 := rfl
theorem key_atmStatContended (a i j : Nat) : key .atmStatContended a i j = 0xD0104 + i * 0x10 + j * 0x0 := rfl
theorem key_atmStatAbandoned (a i j : Nat) : key .atmStatAbandoned a i j = 0xD0108 + i * 0x10 + j * 0x0 := rfl
theorem key_atmStatLimit (a i j : Nat) : key .atmStatLimit a i j = 0xD010C + i * 0x10 + j * 0x0 := rfl
theorem key_atmQuerySel (a i j : Nat) : key .atmQuerySel a i j = 0xD0200 + i * 0x10 + j * 0x0 := rfl
theorem key_atmQueryLo (a i j : Nat) : key .atmQueryLo a i j = 0xD0204 + i * 0x10 + j * 0x0 := rfl
theorem key_atmQueryHi (a i j : Nat) : key .atmQueryHi a i j = 0xD0208 + i * 0x10 + j * 0x0 := rfl
theorem key_swcPortCfg (a i j : Nat) : key .swcPortCfg a i j = 0xE0000 + i * 0x100 + j * 0x0 := rfl
theorem key_swcPortPrioMap (a i j : Nat) : key .swcPortPrioMap a i j = 0xE0004 + i * 0x100 + j * 0x0 := rfl
theorem key_swcPortQuanta0 (a i j : Nat) : key .swcPortQuanta0 a i j = 0xE0008 + i * 0x100 + j * 0x0 := rfl
theorem key_swcPortQuanta1 (a i j : Nat) : key .swcPortQuanta1 a i j = 0xE000C + i * 0x100 + j * 0x0 := rfl
theorem key_swcPortCells (a i j : Nat) : key .swcPortCells a i j = 0xE0010 + i * 0x100 + j * 0x0 := rfl
theorem key_swcPortUnmatched (a i j : Nat) : key .swcPortUnmatched a i j = 0xE0014 + i * 0x100 + j * 0x0 := rfl
theorem key_swcOutReq0 (a i j : Nat) : key .swcOutReq0 a i j = 0xE4000 + i * 0x40 + j * 0x0 + 0x1000000 * (a + 1) := rfl
theorem key_swcOutReq1 (a i j : Nat) : key .swcOutReq1 a i j = 0xE4004 + i * 0x40 + j * 0x0 + 0x1000000 * (a + 1) := rfl
theorem key_swcOutReq2 (a i j : Nat) : key .swcOutReq2 a i j = 0xE4008 + i * 0x40 + j * 0x0 + 0x1000000 * (a + 1) := rfl
theorem key_swcOutReq3 (a i j : Nat) : key .swcOutReq3 a i j = 0xE400C + i * 0x40 + j * 0x0 + 0x1000000 * (a + 1) := rfl
theorem key_swcOutReq4 (a i j : Nat) : key .swcOutReq4 a i j = 0xE4010 + i * 0x40 + j * 0x0 + 0x1000000 * (a + 1) := rfl
theorem key_swcOutReq5 (a i j : Nat) : key .swcOutReq5 a i j = 0xE4014 + i * 0x40 + j * 0x0 + 0x1000000 * (a + 1) := rfl
theorem key_swcOutCmd (a i j : Nat) : key .swcOutCmd a i j = 0xE4018 + i * 0x40 + j * 0x0 := rfl
theorem key_swcOutResult (a i j : Nat) : key .swcOutResult a i j = 0xE401C + i * 0x40 + j * 0x0 + 0x1000000 * (a + 1) := rfl
theorem key_swcLoadPtr (a i j : Nat) : key .swcLoadPtr a i j = 0xE6000 + i * 0x10 + j * 0x0 := rfl
theorem key_swcLoadData (a i j : Nat) : key .swcLoadData a i j = 0xE6004 + i * 0x10 + j * 0x0 := rfl
theorem key_swcLoadStat (a i j : Nat) : key .swcLoadStat a i j = 0xE6008 + i * 0x10 + j * 0x0 := rfl
theorem key_swcQstatSel (a i j : Nat) : key .swcQstatSel a i j = 0xE7000 + i * 0x20 + j * 0x0 := rfl
theorem key_swcQstatEnq (a i j : Nat) : key .swcQstatEnq a i j = 0xE7004 + i * 0x20 + j * 0x0 := rfl
theorem key_swcQstatEarly (a i j : Nat) : key .swcQstatEarly a i j = 0xE7008 + i * 0x20 + j * 0x0 := rfl
theorem key_swcQstatCap (a i j : Nat) : key .swcQstatCap a i j = 0xE700C + i * 0x20 + j * 0x0 := rfl
theorem key_swcQstatMark (a i j : Nat) : key .swcQstatMark a i j = 0xE7010 + i * 0x20 + j * 0x0 := rfl
theorem key_swcQstatUnmark (a i j : Nat) : key .swcQstatUnmark a i j = 0xE7014 + i * 0x20 + j * 0x0 := rfl
theorem key_swcQstatFlush (a i j : Nat) : key .swcQstatFlush a i j = 0xE7018 + i * 0x20 + j * 0x0 := rfl
theorem key_swcRecircSeq (a i j : Nat) : key .swcRecircSeq a i j = 0xE7800 + i * 0x10 + j * 0x0 := rfl
theorem key_swcRecircForeign (a i j : Nat) : key .swcRecircForeign a i j = 0xE7804 + i * 0x10 + j * 0x0 := rfl
theorem key_swcRecircDropped (a i j : Nat) : key .swcRecircDropped a i j = 0xE7808 + i * 0x10 + j * 0x0 := rfl
theorem key_stlCfg (a i j : Nat) : key .stlCfg a i j = 0xF0000 + i * 0x0 + j * 0x0 := rfl
theorem key_stlPair (a i j : Nat) : key .stlPair a i j = 0xF0004 + i * 0x0 + j * 0x0 := rfl
theorem key_stlCtl (a i j : Nat) : key .stlCtl a i j = 0xF0008 + i * 0x0 + j * 0x0 := rfl
theorem key_stlStatus (a i j : Nat) : key .stlStatus a i j = 0xF000C + i * 0x0 + j * 0x0 := rfl
theorem key_stlAcceptedLo (a i j : Nat) : key .stlAcceptedLo a i j = 0xF0010 + i * 0x0 + j * 0x0 := rfl
theorem key_stlAcceptedHi (a i j : Nat) : key .stlAcceptedHi a i j = 0xF0014 + i * 0x0 + j * 0x0 := rfl
theorem key_stlCal (a i j : Nat) : key .stlCal a i j = 0xF0040 + i * 0x4 + j * 0x0 := rfl
theorem key_stlJournalBase (a i j : Nat) : key .stlJournalBase a i j = 0xF0080 + i * 0x0 + j * 0x0 := rfl
theorem key_stlJournalSize (a i j : Nat) : key .stlJournalSize a i j = 0xF0084 + i * 0x0 + j * 0x0 := rfl
theorem key_stlJournalFree (a i j : Nat) : key .stlJournalFree a i j = 0xF0088 + i * 0x0 + j * 0x0 := rfl
theorem key_stlStatMatched (a i j : Nat) : key .stlStatMatched a i j = 0xF0100 + i * 0x0 + j * 0x0 := rfl
theorem key_stlStatFills (a i j : Nat) : key .stlStatFills a i j = 0xF0104 + i * 0x0 + j * 0x0 := rfl
theorem key_stlStatShadowOnly (a i j : Nat) : key .stlStatShadowOnly a i j = 0xF0108 + i * 0x0 + j * 0x0 := rfl
theorem key_stlStatShadowHost (a i j : Nat) : key .stlStatShadowHost a i j = 0xF010C + i * 0x0 + j * 0x0 := rfl
theorem key_stlStatUnsettled (a i j : Nat) : key .stlStatUnsettled a i j = 0xF0110 + i * 0x0 + j * 0x0 := rfl
theorem key_stlStatRetx (a i j : Nat) : key .stlStatRetx a i j = 0xF0114 + i * 0x0 + j * 0x0 := rfl
theorem key_stlStatAckTimeout (a i j : Nat) : key .stlStatAckTimeout a i j = 0xF0118 + i * 0x0 + j * 0x0 := rfl
theorem key_stlStatForeign (a i j : Nat) : key .stlStatForeign a i j = 0xF011C + i * 0x0 + j * 0x0 := rfl
theorem key_stlStatVolumeMax (a i j : Nat) : key .stlStatVolumeMax a i j = 0xF0120 + i * 0x0 + j * 0x0 := rfl
theorem key_stlLedgerBase (a i j : Nat) : key .stlLedgerBase a i j = 0xF0400 + i * 0x20 + j * 0x0 := rfl
theorem key_stlLedgerSize (a i j : Nat) : key .stlLedgerSize a i j = 0xF0404 + i * 0x20 + j * 0x0 := rfl
theorem key_stlLedgerNextLo (a i j : Nat) : key .stlLedgerNextLo a i j = 0xF0408 + i * 0x20 + j * 0x0 := rfl
theorem key_stlLedgerNextHi (a i j : Nat) : key .stlLedgerNextHi a i j = 0xF040C + i * 0x20 + j * 0x0 := rfl
theorem key_stlLedgerRetiredLo (a i j : Nat) : key .stlLedgerRetiredLo a i j = 0xF0410 + i * 0x20 + j * 0x0 := rfl
theorem key_stlLedgerRetiredHi (a i j : Nat) : key .stlLedgerRetiredHi a i j = 0xF0414 + i * 0x20 + j * 0x0 := rfl
theorem key_stlLedgerFree (a i j : Nat) : key .stlLedgerFree a i j = 0xF0418 + i * 0x20 + j * 0x0 := rfl
theorem key_stlLedgerFull (a i j : Nat) : key .stlLedgerFull a i j = 0xF041C + i * 0x20 + j * 0x0 := rfl
theorem key_stlAppendHandle (a i j : Nat) : key .stlAppendHandle a i j = 0xF0800 + i * 0x20 + j * 0x0 + 0x1000000 * (a + 1) := rfl
theorem key_stlAppendLen (a i j : Nat) : key .stlAppendLen a i j = 0xF0804 + i * 0x20 + j * 0x0 + 0x1000000 * (a + 1) := rfl
theorem key_stlAppendTag (a i j : Nat) : key .stlAppendTag a i j = 0xF0808 + i * 0x20 + j * 0x0 + 0x1000000 * (a + 1) := rfl
theorem key_stlAppendCmd (a i j : Nat) : key .stlAppendCmd a i j = 0xF080C + i * 0x20 + j * 0x0 := rfl
theorem key_stlAppendResult (a i j : Nat) : key .stlAppendResult a i j = 0xF0810 + i * 0x20 + j * 0x0 + 0x1000000 * (a + 1) := rfl
theorem key_drcCfg (a i j : Nat) : key .drcCfg a i j = 0x100000 + i * 0x4000 + j * 0x0 := rfl
theorem key_drcStatus (a i j : Nat) : key .drcStatus a i j = 0x100040 + i * 0x4000 + j * 0x0 := rfl
theorem key_drcRef (a i j : Nat) : key .drcRef a i j = 0x100044 + i * 0x4000 + j * 0x0 := rfl
theorem key_drcTrain (a i j : Nat) : key .drcTrain a i j = 0x100048 + i * 0x4000 + j * 0x0 := rfl
theorem key_drcHot (a i j : Nat) : key .drcHot a i j = 0x10004C + i * 0x4000 + j * 0x0 := rfl
theorem key_drcHot2 (a i j : Nat) : key .drcHot2 a i j = 0x100050 + i * 0x4000 + j * 0x0 := rfl
theorem key_drcScrub (a i j : Nat) : key .drcScrub a i j = 0x100054 + i * 0x4000 + j * 0x0 := rfl
theorem key_drcScrubPos (a i j : Nat) : key .drcScrubPos a i j = 0x100058 + i * 0x4000 + j * 0x0 := rfl
theorem key_drcEcc (a i j : Nat) : key .drcEcc a i j = 0x100060 + i * 0x4000 + j * 0x0 := rfl
theorem key_drcErr (a i j : Nat) : key .drcErr a i j = 0x100064 + i * 0x4000 + j * 0x0 := rfl
theorem key_drcRfm (a i j : Nat) : key .drcRfm a i j = 0x100068 + i * 0x4000 + j * 0x0 := rfl
theorem key_drcLogSel (a i j : Nat) : key .drcLogSel a i j = 0x100070 + i * 0x4000 + j * 0x0 := rfl
theorem key_drcLogLo (a i j : Nat) : key .drcLogLo a i j = 0x100074 + i * 0x4000 + j * 0x0 := rfl
theorem key_drcLogHi (a i j : Nat) : key .drcLogHi a i j = 0x100078 + i * 0x4000 + j * 0x0 := rfl
theorem key_drcTim (a i j : Nat) : key .drcTim a i j = 0x100010 + i * 0x4000 + j * 0x4 := rfl
theorem key_arbMapLo (a i j : Nat) : key .arbMapLo a i j = 0x110000 + i * 0x8 + j * 0x0 := rfl
theorem key_arbMapHi (a i j : Nat) : key .arbMapHi a i j = 0x110004 + i * 0x8 + j * 0x0 := rfl
theorem key_arbCap (a i j : Nat) : key .arbCap a i j = 0x110048 + i * 0x0 + j * 0x0 := rfl
theorem key_arbReqCtl (a i j : Nat) : key .arbReqCtl a i j = 0x110100 + i * 0x20 + j * 0x0 := rfl
theorem key_arbReqGrants (a i j : Nat) : key .arbReqGrants a i j = 0x110104 + i * 0x20 + j * 0x0 := rfl
theorem key_arbReqWaits (a i j : Nat) : key .arbReqWaits a i j = 0x110108 + i * 0x20 + j * 0x0 := rfl
theorem key_arbReqLongest (a i j : Nat) : key .arbReqLongest a i j = 0x11010C + i * 0x20 + j * 0x0 := rfl
theorem key_arbReqMissed (a i j : Nat) : key .arbReqMissed a i j = 0x110110 + i * 0x20 + j * 0x0 := rfl
theorem key_arbMoveSrc (a i j : Nat) : key .arbMoveSrc a i j = 0x111000 + i * 0x20 + j * 0x0 := rfl
theorem key_arbMoveDst (a i j : Nat) : key .arbMoveDst a i j = 0x111004 + i * 0x20 + j * 0x0 := rfl
theorem key_arbMoveLen (a i j : Nat) : key .arbMoveLen a i j = 0x111008 + i * 0x20 + j * 0x0 := rfl
theorem key_arbMoveCtl (a i j : Nat) : key .arbMoveCtl a i j = 0x11100C + i * 0x20 + j * 0x0 := rfl
theorem key_arbMoveStatus (a i j : Nat) : key .arbMoveStatus a i j = 0x111010 + i * 0x20 + j * 0x0 := rfl
theorem key_arbMoveProgress (a i j : Nat) : key .arbMoveProgress a i j = 0x111014 + i * 0x20 + j * 0x0 := rfl
theorem key_scpCfg (a i j : Nat) : key .scpCfg a i j = 0x120000 + i * 0x0 + j * 0x0 := rfl
theorem key_scpDrop (a i j : Nat) : key .scpDrop a i j = 0x120004 + i * 0x0 + j * 0x0 := rfl
theorem key_scpStallCtl (a i j : Nat) : key .scpStallCtl a i j = 0x120100 + i * 0x20 + j * 0x0 := rfl
theorem key_scpStallState (a i j : Nat) : key .scpStallState a i j = 0x120104 + i * 0x20 + j * 0x0 := rfl
theorem key_scpStallLimit (a i j : Nat) : key .scpStallLimit a i j = 0x120108 + i * 0x20 + j * 0x0 := rfl
theorem key_scpStallSession (a i j : Nat) : key .scpStallSession a i j = 0x12010C + i * 0x20 + j * 0x0 := rfl
theorem key_scpStallLast (a i j : Nat) : key .scpStallLast a i j = 0x120110 + i * 0x20 + j * 0x0 := rfl
theorem key_scpStallDseq (a i j : Nat) : key .scpStallDseq a i j = 0x120114 + i * 0x20 + j * 0x0 := rfl
theorem key_scpStallRto (a i j : Nat) : key .scpStallRto a i j = 0x120118 + i * 0x20 + j * 0x0 := rfl
theorem key_scpKey (a i j : Nat) : key .scpKey a i j = 0x120400 + i * 0x20 + j * 0x4 := rfl
theorem key_scpStatCmds (a i j : Nat) : key .scpStatCmds a i j = 0x120800 + i * 0x20 + j * 0x0 := rfl
theorem key_scpStatAuth (a i j : Nat) : key .scpStatAuth a i j = 0x120804 + i * 0x20 + j * 0x0 := rfl
theorem key_scpStatSeq (a i j : Nat) : key .scpStatSeq a i j = 0x120808 + i * 0x20 + j * 0x0 := rfl
theorem key_scpStatRate (a i j : Nat) : key .scpStatRate a i j = 0x12080C + i * 0x20 + j * 0x0 := rfl
theorem key_scpStatBadAck (a i j : Nat) : key .scpStatBadAck a i j = 0x120810 + i * 0x20 + j * 0x0 := rfl
theorem key_scpStatRetxDeliver (a i j : Nat) : key .scpStatRetxDeliver a i j = 0x120814 + i * 0x20 + j * 0x0 := rfl
theorem key_scpStatNoticeDrop (a i j : Nat) : key .scpStatNoticeDrop a i j = 0x120818 + i * 0x20 + j * 0x0 := rfl
theorem key_scpStatSilentAck (a i j : Nat) : key .scpStatSilentAck a i j = 0x12081C + i * 0x20 + j * 0x0 := rfl
theorem key_evcSrc (a i j : Nat) : key .evcSrc a i j = 0x130000 + i * 0x4 + j * 0x0 := rfl
theorem key_evcRaise (a i j : Nat) : key .evcRaise a i j = 0x132000 + i * 0x10 + j * 0x0 := rfl
theorem key_evcOwnerPending (a i j : Nat) : key .evcOwnerPending a i j = 0x132200 + i * 0x10 + j * 0x0 := rfl
theorem key_evcOwnerLost (a i j : Nat) : key .evcOwnerLost a i j = 0x132204 + i * 0x10 + j * 0x0 := rfl
theorem key_evcOwnerDelivered (a i j : Nat) : key .evcOwnerDelivered a i j = 0x132208 + i * 0x10 + j * 0x0 := rfl
theorem key_ldgCfg (a i j : Nat) : key .ldgCfg a i j = 0x140000 + i * 0x40 + j * 0x0 := rfl
theorem key_ldgTrig (a i j : Nat) : key .ldgTrig a i j = 0x140004 + i * 0x40 + j * 0x0 := rfl
theorem key_ldgHbase (a i j : Nat) : key .ldgHbase a i j = 0x140008 + i * 0x40 + j * 0x0 := rfl
theorem key_ldgHwidth (a i j : Nat) : key .ldgHwidth a i j = 0x14000C + i * 0x40 + j * 0x0 := rfl
theorem key_ldgCtl (a i j : Nat) : key .ldgCtl a i j = 0x140010 + i * 0x40 + j * 0x0 := rfl
theorem key_ldgStat (a i j : Nat) : key .ldgStat a i j = 0x140014 + i * 0x40 + j * 0x0 := rfl
theorem key_ldgCur (a i j : Nat) : key .ldgCur a i j = 0x140018 + i * 0x40 + j * 0x0 + 0x1000000 * (a + 1) := rfl
theorem key_ldgWin (a i j : Nat) : key .ldgWin a i j = 0x140020 + i * 0x40 + j * 0x4 := rfl
theorem key_ldgSel (a i j : Nat) : key .ldgSel a i j = 0x141000 + i * 0x40 + j * 0x4 := rfl
theorem key_supCtl (a i j : Nat) : key .supCtl a i j = 0x10000 + i * 0x0 + j * 0x0 := rfl
theorem key_supStatus (a i j : Nat) : key .supStatus a i j = 0x10004 + i * 0x0 + j * 0x0 := rfl
theorem key_supWdog (a i j : Nat) : key .supWdog a i j = 0x10008 + i * 0x0 + j * 0x0 := rfl
theorem key_supTemp (a i j : Nat) : key .supTemp a i j = 0x1000C + i * 0x0 + j * 0x0 := rfl
theorem key_supRstCmd (a i j : Nat) : key .supRstCmd a i j = 0x10400 + i * 0x10 + j * 0x0 := rfl
theorem key_supRstStatus (a i j : Nat) : key .supRstStatus a i j = 0x10404 + i * 0x10 + j * 0x0 := rfl
theorem key_supPwr (a i j : Nat) : key .supPwr a i j = 0x10080 + i * 0x0 + j * 0x0 := rfl
theorem key_supBoot (a i j : Nat) : key .supBoot a i j = 0x10084 + i * 0x0 + j * 0x0 := rfl
theorem key_supImgver (a i j : Nat) : key .supImgver a i j = 0x10088 + i * 0x0 + j * 0x0 := rfl
theorem key_supMaint (a i j : Nat) : key .supMaint a i j = 0x100C0 + i * 0x0 + j * 0x0 := rfl
theorem key_supLc (a i j : Nat) : key .supLc a i j = 0x10100 + i * 0x0 + j * 0x0 := rfl
theorem key_supLcReq (a i j : Nat) : key .supLcReq a i j = 0x10104 + i * 0x0 + j * 0x0 := rfl
theorem key_supRollback (a i j : Nat) : key .supRollback a i j = 0x10108 + i * 0x0 + j * 0x0 := rfl
theorem key_supLcNonce (a i j : Nat) : key .supLcNonce a i j = 0x10110 + i * 0x4 + j * 0x0 := rfl
theorem key_supLcToken (a i j : Nat) : key .supLcToken a i j = 0x10140 + i * 0x4 + j * 0x0 := rfl
theorem key_supHkey (a i j : Nat) : key .supHkey a i j = 0x10200 + i * 0x4 + j * 0x0 := rfl
theorem key_supRoot (a i j : Nat) : key .supRoot a i j = 0x10220 + i * 0x4 + j * 0x0 := rfl
theorem key_crsCapHead (a i j : Nat) : key .crsCapHead a i j = 0x0 + i * 0x0 + j * 0x0 := rfl
theorem key_crsPart (a i j : Nat) : key .crsPart a i j = 0x4 + i * 0x0 + j * 0x0 := rfl
theorem key_crsSerialLo (a i j : Nat) : key .crsSerialLo a i j = 0x8 + i * 0x0 + j * 0x0 := rfl
theorem key_crsSerialHi (a i j : Nat) : key .crsSerialHi a i j = 0xC + i * 0x0 + j * 0x0 := rfl
theorem key_crsUnmapped (a i j : Nat) : key .crsUnmapped a i j = 0x10 + i * 0x0 + j * 0x0 := rfl

end Sys2Proof.Machine.Reg
end

