-- ==== Sys2Proof/Laws/State.lean ====
section
/-! SUPPORT. What each small update of the state does to each field: the field it changes, and every other field as before. -/

namespace Sys2Proof.Machine.State
set_option Elab.async false

/-! `wrA` -/

@[simp] theorem wrA_regs (s : State) (a : Nat) (r : Reg) (i j v : Nat) : (s.wrA a r i j v).regs = s.regs.set (r.resetWord i) (r.key a i j) (BitVec.ofNat 32 v) := rfl
@[simp] theorem wrA_time (s : State) (a : Nat) (r : Reg) (i j v : Nat) : (s.wrA a r i j v).time = s.time := rfl
@[simp] theorem wrA_captures (s : State) (a : Nat) (r : Reg) (i j v : Nat) : (s.wrA a r i j v).captures = s.captures := rfl
@[simp] theorem wrA_resp (s : State) (a : Nat) (r : Reg) (i j v : Nat) : (s.wrA a r i j v).resp = s.resp := rfl
@[simp] theorem wrA_freeCtr (s : State) (a : Nat) (r : Reg) (i j v : Nat) : (s.wrA a r i j v).freeCtr = s.freeCtr := rfl
@[simp] theorem wrA_maint (s : State) (a : Nat) (r : Reg) (i j v : Nat) : (s.wrA a r i j v).maint = s.maint := rfl
@[simp] theorem wrA_fuses (s : State) (a : Nat) (r : Reg) (i j v : Nat) : (s.wrA a r i j v).fuses = s.fuses := rfl
@[simp] theorem wrA_evRecs (s : State) (a : Nat) (r : Reg) (i j v : Nat) : (s.wrA a r i j v).evRecs = s.evRecs := rfl
@[simp] theorem wrA_evLost (s : State) (a : Nat) (r : Reg) (i j v : Nat) : (s.wrA a r i j v).evLost = s.evLost := rfl
@[simp] theorem wrA_ldg (s : State) (a : Nat) (r : Reg) (i j v : Nat) : (s.wrA a r i j v).ldg = s.ldg := rfl
@[simp] theorem wrA_emits (s : State) (a : Nat) (r : Reg) (i j v : Nat) : (s.wrA a r i j v).emits = s.emits := rfl
@[simp] theorem wrA_txts (s : State) (a : Nat) (r : Reg) (i j v : Nat) : (s.wrA a r i j v).txts = s.txts := rfl
@[simp] theorem wrA_ports (s : State) (a : Nat) (r : Reg) (i j v : Nat) : (s.wrA a r i j v).ports = s.ports := rfl
@[simp] theorem wrA_cells (s : State) (a : Nat) (r : Reg) (i j v : Nat) : (s.wrA a r i j v).cells = s.cells := rfl
@[simp] theorem wrA_cellData (s : State) (a : Nat) (r : Reg) (i j v : Nat) : (s.wrA a r i j v).cellData = s.cellData := rfl
@[simp] theorem wrA_rotors (s : State) (a : Nat) (r : Reg) (i j v : Nat) : (s.wrA a r i j v).rotors = s.rotors := rfl
@[simp] theorem wrA_redLath (s : State) (a : Nat) (r : Reg) (i j v : Nat) : (s.wrA a r i j v).redLath = s.redLath := rfl
@[simp] theorem wrA_graphs (s : State) (a : Nat) (r : Reg) (i j v : Nat) : (s.wrA a r i j v).graphs = s.graphs := rfl
@[simp] theorem wrA_houseFrames (s : State) (a : Nat) (r : Reg) (i j v : Nat) : (s.wrA a r i j v).houseFrames = s.houseFrames := rfl
@[simp] theorem wrA_drain (s : State) (a : Nat) (r : Reg) (i j v : Nat) : (s.wrA a r i j v).drain = s.drain := rfl
@[simp] theorem wrA_staged (s : State) (a : Nat) (r : Reg) (i j v : Nat) : (s.wrA a r i j v).staged = s.staged := rfl
@[simp] theorem wrA_clsBanks (s : State) (a : Nat) (r : Reg) (i j v : Nat) : (s.wrA a r i j v).clsBanks = s.clsBanks := rfl
@[simp] theorem wrA_cipherQ (s : State) (a : Nat) (r : Reg) (i j v : Nat) : (s.wrA a r i j v).cipherQ = s.cipherQ := rfl
@[simp] theorem wrA_reparseQ (s : State) (a : Nat) (r : Reg) (i j v : Nat) : (s.wrA a r i j v).reparseQ = s.reparseQ := rfl
@[simp] theorem wrA_classQ (s : State) (a : Nat) (r : Reg) (i j v : Nat) : (s.wrA a r i j v).classQ = s.classQ := rfl
@[simp] theorem wrA_learnQ (s : State) (a : Nat) (r : Reg) (i j v : Nat) : (s.wrA a r i j v).learnQ = s.learnQ := rfl
@[simp] theorem wrA_dispQ (s : State) (a : Nat) (r : Reg) (i j v : Nat) : (s.wrA a r i j v).dispQ = s.dispQ := rfl
@[simp] theorem wrA_dram (s : State) (a : Nat) (r : Reg) (i j v : Nat) : (s.wrA a r i j v).dram = s.dram := rfl
@[simp] theorem wrA_hot (s : State) (a : Nat) (r : Reg) (i j v : Nat) : (s.wrA a r i j v).hot = s.hot := rfl
@[simp] theorem wrA_stn (s : State) (a : Nat) (r : Reg) (i j v : Nat) : (s.wrA a r i j v).stn = s.stn := rfl
@[simp] theorem wrA_stnWait (s : State) (a : Nat) (r : Reg) (i j v : Nat) : (s.wrA a r i j v).stnWait = s.stnWait := rfl
@[simp] theorem wrA_useCtr (s : State) (a : Nat) (r : Reg) (i j v : Nat) : (s.wrA a r i j v).useCtr = s.useCtr := rfl
@[simp] theorem wrA_reconciling (s : State) (a : Nat) (r : Reg) (i j v : Nat) : (s.wrA a r i j v).reconciling = s.reconciling := rfl
@[simp] theorem wrA_needReconcile (s : State) (a : Nat) (r : Reg) (i j v : Nat) : (s.wrA a r i j v).needReconcile = s.needReconcile := rfl
@[simp] theorem wrA_scans (s : State) (a : Nat) (r : Reg) (i j v : Nat) : (s.wrA a r i j v).scans = s.scans := rfl
@[simp] theorem wrA_sweeps (s : State) (a : Nat) (r : Reg) (i j v : Nat) : (s.wrA a r i j v).sweeps = s.sweeps := rfl
@[simp] theorem wrA_lastFound (s : State) (a : Nat) (r : Reg) (i j v : Nat) : (s.wrA a r i j v).lastFound = s.lastFound := rfl
@[simp] theorem wrA_guards (s : State) (a : Nat) (r : Reg) (i j v : Nat) : (s.wrA a r i j v).guards = s.guards := rfl
@[simp] theorem wrA_sweepAt (s : State) (a : Nat) (r : Reg) (i j v : Nat) : (s.wrA a r i j v).sweepAt = s.sweepAt := rfl
@[simp] theorem wrA_keyCache (s : State) (a : Nat) (r : Reg) (i j v : Nat) : (s.wrA a r i j v).keyCache = s.keyCache := rfl
@[simp] theorem wrA_rangeZero (s : State) (a : Nat) (r : Reg) (i j v : Nat) : (s.wrA a r i j v).rangeZero = s.rangeZero := rfl
@[simp] theorem wrA_freeAfter (s : State) (a : Nat) (r : Reg) (i j v : Nat) : (s.wrA a r i j v).freeAfter = s.freeAfter := rfl
@[simp] theorem wrA_chains (s : State) (a : Nat) (r : Reg) (i j v : Nat) : (s.wrA a r i j v).chains = s.chains := rfl
@[simp] theorem wrA_chans (s : State) (a : Nat) (r : Reg) (i j v : Nat) : (s.wrA a r i j v).chans = s.chans := rfl
@[simp] theorem wrA_deltas (s : State) (a : Nat) (r : Reg) (i j v : Nat) : (s.wrA a r i j v).deltas = s.deltas := rfl
@[simp] theorem wrA_idents (s : State) (a : Nat) (r : Reg) (i j v : Nat) : (s.wrA a r i j v).idents = s.idents := rfl
@[simp] theorem wrA_acceptedPlus (s : State) (a : Nat) (r : Reg) (i j v : Nat) : (s.wrA a r i j v).acceptedPlus = s.acceptedPlus := rfl
@[simp] theorem wrA_threads (s : State) (a : Nat) (r : Reg) (i j v : Nat) : (s.wrA a r i j v).threads = s.threads := rfl
@[simp] theorem wrA_cores (s : State) (a : Nat) (r : Reg) (i j v : Nat) : (s.wrA a r i j v).cores = s.cores := rfl
@[simp] theorem wrA_units (s : State) (a : Nat) (r : Reg) (i j v : Nat) : (s.wrA a r i j v).units = s.units := rfl
@[simp] theorem wrA_patches (s : State) (a : Nat) (r : Reg) (i j v : Nat) : (s.wrA a r i j v).patches = s.patches := rfl
@[simp] theorem wrA_patchFrom (s : State) (a : Nat) (r : Reg) (i j v : Nat) : (s.wrA a r i j v).patchFrom = s.patchFrom := rfl
@[simp] theorem wrA_sram (s : State) (a : Nat) (r : Reg) (i j v : Nat) : (s.wrA a r i j v).sram = s.sram := rfl
@[simp] theorem wrA_code (s : State) (a : Nat) (r : Reg) (i j v : Nat) : (s.wrA a r i j v).code = s.code := rfl
@[simp] theorem wrA_clMem (s : State) (a : Nat) (r : Reg) (i j v : Nat) : (s.wrA a r i j v).clMem = s.clMem := rfl
@[simp] theorem wrA_lockQ (s : State) (a : Nat) (r : Reg) (i j v : Nat) : (s.wrA a r i j v).lockQ = s.lockQ := rfl
@[simp] theorem wrA_gateFrom (s : State) (a : Nat) (r : Reg) (i j v : Nat) : (s.wrA a r i j v).gateFrom = s.gateFrom := rfl
@[simp] theorem wrA_banks (s : State) (a : Nat) (r : Reg) (i j v : Nat) : (s.wrA a r i j v).banks = s.banks := rfl
@[simp] theorem wrA_released (s : State) (a : Nat) (r : Reg) (i j v : Nat) : (s.wrA a r i j v).released = s.released := rfl
@[simp] theorem wrA_clusterQ (s : State) (a : Nat) (r : Reg) (i j v : Nat) : (s.wrA a r i j v).clusterQ = s.clusterQ := rfl
@[simp] theorem wrA_clusterRotor (s : State) (a : Nat) (r : Reg) (i j v : Nat) : (s.wrA a r i j v).clusterRotor = s.clusterRotor := rfl
@[simp] theorem wrA_defers (s : State) (a : Nat) (r : Reg) (i j v : Nat) : (s.wrA a r i j v).defers = s.defers := rfl
@[simp] theorem wrA_admitted (s : State) (a : Nat) (r : Reg) (i j v : Nat) : (s.wrA a r i j v).admitted = s.admitted := rfl
@[simp] theorem wrA_maps (s : State) (a : Nat) (r : Reg) (i j v : Nat) : (s.wrA a r i j v).maps = s.maps := rfl
@[simp] theorem wrA_moves (s : State) (a : Nat) (r : Reg) (i j v : Nat) : (s.wrA a r i j v).moves = s.moves := rfl
@[simp] theorem wrA_fences (s : State) (a : Nat) (r : Reg) (i j v : Nat) : (s.wrA a r i j v).fences = s.fences := rfl
@[simp] theorem wrA_oldMaps (s : State) (a : Nat) (r : Reg) (i j v : Nat) : (s.wrA a r i j v).oldMaps = s.oldMaps := rfl
@[simp] theorem wrA_gifts (s : State) (a : Nat) (r : Reg) (i j v : Nat) : (s.wrA a r i j v).gifts = s.gifts := rfl
@[simp] theorem wrA_roles (s : State) (a : Nat) (r : Reg) (i j v : Nat) : (s.wrA a r i j v).roles = s.roles := rfl
@[simp] theorem wrA_outPorts (s : State) (a : Nat) (r : Reg) (i j v : Nat) : (s.wrA a r i j v).outPorts = s.outPorts := rfl
@[simp] theorem wrA_planes (s : State) (a : Nat) (r : Reg) (i j v : Nat) : (s.wrA a r i j v).planes = s.planes := rfl
@[simp] theorem wrA_xbar (s : State) (a : Nat) (r : Reg) (i j v : Nat) : (s.wrA a r i j v).xbar = s.xbar := rfl
@[simp] theorem wrA_geom (s : State) (a : Nat) (r : Reg) (i j v : Nat) : (s.wrA a r i j v).geom = s.geom := rfl
@[simp] theorem wrA_qstat (s : State) (a : Nat) (r : Reg) (i j v : Nat) : (s.wrA a r i j v).qstat = s.qstat := rfl
@[simp] theorem wrA_restless (s : State) (a : Nat) (r : Reg) (i j v : Nat) : (s.wrA a r i j v).restless = s.restless := rfl
@[simp] theorem wrA_chanCfg (s : State) (a : Nat) (r : Reg) (i j v : Nat) : (s.wrA a r i j v).chanCfg = s.chanCfg := rfl
@[simp] theorem wrA_heldFrames (s : State) (a : Nat) (r : Reg) (i j v : Nat) : (s.wrA a r i j v).heldFrames = s.heldFrames := rfl
@[simp] theorem wrA_appends (s : State) (a : Nat) (r : Reg) (i j v : Nat) : (s.wrA a r i j v).appends = s.appends := rfl
@[simp] theorem wrA_ledger (s : State) (a : Nat) (r : Reg) (i j v : Nat) : (s.wrA a r i j v).ledger = s.ledger := rfl
@[simp] theorem wrA_unretired (s : State) (a : Nat) (r : Reg) (i j v : Nat) : (s.wrA a r i j v).unretired = s.unretired := rfl
@[simp] theorem wrA_journal (s : State) (a : Nat) (r : Reg) (i j v : Nat) : (s.wrA a r i j v).journal = s.journal := rfl
@[simp] theorem wrA_stl (s : State) (a : Nat) (r : Reg) (i j v : Nat) : (s.wrA a r i j v).stl = s.stl := rfl
@[simp] theorem wrA_ctl (s : State) (a : Nat) (r : Reg) (i j v : Nat) : (s.wrA a r i j v).ctl = s.ctl := rfl
@[simp] theorem wrA_sessions (s : State) (a : Nat) (r : Reg) (i j v : Nat) : (s.wrA a r i j v).sessions = s.sessions := rfl
@[simp] theorem wrA_starts (s : State) (a : Nat) (r : Reg) (i j v : Nat) : (s.wrA a r i j v).starts = s.starts := rfl
@[simp] theorem wrA_stops (s : State) (a : Nat) (r : Reg) (i j v : Nat) : (s.wrA a r i j v).stops = s.stops := rfl
@[simp] theorem wrA_sup (s : State) (a : Nat) (r : Reg) (i j v : Nat) : (s.wrA a r i j v).sup = s.sup := rfl
@[simp] theorem wrA_pending (s : State) (a : Nat) (r : Reg) (i j v : Nat) : (s.wrA a r i j v).pending = s.pending := rfl

/-! `wr` -/

@[simp] theorem wr_regs (s : State) (r : Reg) (i j v : Nat) : (s.wr r i j v).regs = s.regs.set (r.resetWord i) (r.key 0 i j) (BitVec.ofNat 32 v) := rfl
@[simp] theorem wr_time (s : State) (r : Reg) (i j v : Nat) : (s.wr r i j v).time = s.time := rfl
@[simp] theorem wr_captures (s : State) (r : Reg) (i j v : Nat) : (s.wr r i j v).captures = s.captures := rfl
@[simp] theorem wr_resp (s : State) (r : Reg) (i j v : Nat) : (s.wr r i j v).resp = s.resp := rfl
@[simp] theorem wr_freeCtr (s : State) (r : Reg) (i j v : Nat) : (s.wr r i j v).freeCtr = s.freeCtr := rfl
@[simp] theorem wr_maint (s : State) (r : Reg) (i j v : Nat) : (s.wr r i j v).maint = s.maint := rfl
@[simp] theorem wr_fuses (s : State) (r : Reg) (i j v : Nat) : (s.wr r i j v).fuses = s.fuses := rfl
@[simp] theorem wr_evRecs (s : State) (r : Reg) (i j v : Nat) : (s.wr r i j v).evRecs = s.evRecs := rfl
@[simp] theorem wr_evLost (s : State) (r : Reg) (i j v : Nat) : (s.wr r i j v).evLost = s.evLost := rfl
@[simp] theorem wr_ldg (s : State) (r : Reg) (i j v : Nat) : (s.wr r i j v).ldg = s.ldg := rfl
@[simp] theorem wr_emits (s : State) (r : Reg) (i j v : Nat) : (s.wr r i j v).emits = s.emits := rfl
@[simp] theorem wr_txts (s : State) (r : Reg) (i j v : Nat) : (s.wr r i j v).txts = s.txts := rfl
@[simp] theorem wr_ports (s : State) (r : Reg) (i j v : Nat) : (s.wr r i j v).ports = s.ports := rfl
@[simp] theorem wr_cells (s : State) (r : Reg) (i j v : Nat) : (s.wr r i j v).cells = s.cells := rfl
@[simp] theorem wr_cellData (s : State) (r : Reg) (i j v : Nat) : (s.wr r i j v).cellData = s.cellData := rfl
@[simp] theorem wr_rotors (s : State) (r : Reg) (i j v : Nat) : (s.wr r i j v).rotors = s.rotors := rfl
@[simp] theorem wr_redLath (s : State) (r : Reg) (i j v : Nat) : (s.wr r i j v).redLath = s.redLath := rfl
@[simp] theorem wr_graphs (s : State) (r : Reg) (i j v : Nat) : (s.wr r i j v).graphs = s.graphs := rfl
@[simp] theorem wr_houseFrames (s : State) (r : Reg) (i j v : Nat) : (s.wr r i j v).houseFrames = s.houseFrames := rfl
@[simp] theorem wr_drain (s : State) (r : Reg) (i j v : Nat) : (s.wr r i j v).drain = s.drain := rfl
@[simp] theorem wr_staged (s : State) (r : Reg) (i j v : Nat) : (s.wr r i j v).staged = s.staged := rfl
@[simp] theorem wr_clsBanks (s : State) (r : Reg) (i j v : Nat) : (s.wr r i j v).clsBanks = s.clsBanks := rfl
@[simp] theorem wr_cipherQ (s : State) (r : Reg) (i j v : Nat) : (s.wr r i j v).cipherQ = s.cipherQ := rfl
@[simp] theorem wr_reparseQ (s : State) (r : Reg) (i j v : Nat) : (s.wr r i j v).reparseQ = s.reparseQ := rfl
@[simp] theorem wr_classQ (s : State) (r : Reg) (i j v : Nat) : (s.wr r i j v).classQ = s.classQ := rfl
@[simp] theorem wr_learnQ (s : State) (r : Reg) (i j v : Nat) : (s.wr r i j v).learnQ = s.learnQ := rfl
@[simp] theorem wr_dispQ (s : State) (r : Reg) (i j v : Nat) : (s.wr r i j v).dispQ = s.dispQ := rfl
@[simp] theorem wr_dram (s : State) (r : Reg) (i j v : Nat) : (s.wr r i j v).dram = s.dram := rfl
@[simp] theorem wr_hot (s : State) (r : Reg) (i j v : Nat) : (s.wr r i j v).hot = s.hot := rfl
@[simp] theorem wr_stn (s : State) (r : Reg) (i j v : Nat) : (s.wr r i j v).stn = s.stn := rfl
@[simp] theorem wr_stnWait (s : State) (r : Reg) (i j v : Nat) : (s.wr r i j v).stnWait = s.stnWait := rfl
@[simp] theorem wr_useCtr (s : State) (r : Reg) (i j v : Nat) : (s.wr r i j v).useCtr = s.useCtr := rfl
@[simp] theorem wr_reconciling (s : State) (r : Reg) (i j v : Nat) : (s.wr r i j v).reconciling = s.reconciling := rfl
@[simp] theorem wr_needReconcile (s : State) (r : Reg) (i j v : Nat) : (s.wr r i j v).needReconcile = s.needReconcile := rfl
@[simp] theorem wr_scans (s : State) (r : Reg) (i j v : Nat) : (s.wr r i j v).scans = s.scans := rfl
@[simp] theorem wr_sweeps (s : State) (r : Reg) (i j v : Nat) : (s.wr r i j v).sweeps = s.sweeps := rfl
@[simp] theorem wr_lastFound (s : State) (r : Reg) (i j v : Nat) : (s.wr r i j v).lastFound = s.lastFound := rfl
@[simp] theorem wr_guards (s : State) (r : Reg) (i j v : Nat) : (s.wr r i j v).guards = s.guards := rfl
@[simp] theorem wr_sweepAt (s : State) (r : Reg) (i j v : Nat) : (s.wr r i j v).sweepAt = s.sweepAt := rfl
@[simp] theorem wr_keyCache (s : State) (r : Reg) (i j v : Nat) : (s.wr r i j v).keyCache = s.keyCache := rfl
@[simp] theorem wr_rangeZero (s : State) (r : Reg) (i j v : Nat) : (s.wr r i j v).rangeZero = s.rangeZero := rfl
@[simp] theorem wr_freeAfter (s : State) (r : Reg) (i j v : Nat) : (s.wr r i j v).freeAfter = s.freeAfter := rfl
@[simp] theorem wr_chains (s : State) (r : Reg) (i j v : Nat) : (s.wr r i j v).chains = s.chains := rfl
@[simp] theorem wr_chans (s : State) (r : Reg) (i j v : Nat) : (s.wr r i j v).chans = s.chans := rfl
@[simp] theorem wr_deltas (s : State) (r : Reg) (i j v : Nat) : (s.wr r i j v).deltas = s.deltas := rfl
@[simp] theorem wr_idents (s : State) (r : Reg) (i j v : Nat) : (s.wr r i j v).idents = s.idents := rfl
@[simp] theorem wr_acceptedPlus (s : State) (r : Reg) (i j v : Nat) : (s.wr r i j v).acceptedPlus = s.acceptedPlus := rfl
@[simp] theorem wr_threads (s : State) (r : Reg) (i j v : Nat) : (s.wr r i j v).threads = s.threads := rfl
@[simp] theorem wr_cores (s : State) (r : Reg) (i j v : Nat) : (s.wr r i j v).cores = s.cores := rfl
@[simp] theorem wr_units (s : State) (r : Reg) (i j v : Nat) : (s.wr r i j v).units = s.units := rfl
@[simp] theorem wr_patches (s : State) (r : Reg) (i j v : Nat) : (s.wr r i j v).patches = s.patches := rfl
@[simp] theorem wr_patchFrom (s : State) (r : Reg) (i j v : Nat) : (s.wr r i j v).patchFrom = s.patchFrom := rfl
@[simp] theorem wr_sram (s : State) (r : Reg) (i j v : Nat) : (s.wr r i j v).sram = s.sram := rfl
@[simp] theorem wr_code (s : State) (r : Reg) (i j v : Nat) : (s.wr r i j v).code = s.code := rfl
@[simp] theorem wr_clMem (s : State) (r : Reg) (i j v : Nat) : (s.wr r i j v).clMem = s.clMem := rfl
@[simp] theorem wr_lockQ (s : State) (r : Reg) (i j v : Nat) : (s.wr r i j v).lockQ = s.lockQ := rfl
@[simp] theorem wr_gateFrom (s : State) (r : Reg) (i j v : Nat) : (s.wr r i j v).gateFrom = s.gateFrom := rfl
@[simp] theorem wr_banks (s : State) (r : Reg) (i j v : Nat) : (s.wr r i j v).banks = s.banks := rfl
@[simp] theorem wr_released (s : State) (r : Reg) (i j v : Nat) : (s.wr r i j v).released = s.released := rfl
@[simp] theorem wr_clusterQ (s : State) (r : Reg) (i j v : Nat) : (s.wr r i j v).clusterQ = s.clusterQ := rfl
@[simp] theorem wr_clusterRotor (s : State) (r : Reg) (i j v : Nat) : (s.wr r i j v).clusterRotor = s.clusterRotor := rfl
@[simp] theorem wr_defers (s : State) (r : Reg) (i j v : Nat) : (s.wr r i j v).defers = s.defers := rfl
@[simp] theorem wr_admitted (s : State) (r : Reg) (i j v : Nat) : (s.wr r i j v).admitted = s.admitted := rfl
@[simp] theorem wr_maps (s : State) (r : Reg) (i j v : Nat) : (s.wr r i j v).maps = s.maps := rfl
@[simp] theorem wr_moves (s : State) (r : Reg) (i j v : Nat) : (s.wr r i j v).moves = s.moves := rfl
@[simp] theorem wr_fences (s : State) (r : Reg) (i j v : Nat) : (s.wr r i j v).fences = s.fences := rfl
@[simp] theorem wr_oldMaps (s : State) (r : Reg) (i j v : Nat) : (s.wr r i j v).oldMaps = s.oldMaps := rfl
@[simp] theorem wr_gifts (s : State) (r : Reg) (i j v : Nat) : (s.wr r i j v).gifts = s.gifts := rfl
@[simp] theorem wr_roles (s : State) (r : Reg) (i j v : Nat) : (s.wr r i j v).roles = s.roles := rfl
@[simp] theorem wr_outPorts (s : State) (r : Reg) (i j v : Nat) : (s.wr r i j v).outPorts = s.outPorts := rfl
@[simp] theorem wr_planes (s : State) (r : Reg) (i j v : Nat) : (s.wr r i j v).planes = s.planes := rfl
@[simp] theorem wr_xbar (s : State) (r : Reg) (i j v : Nat) : (s.wr r i j v).xbar = s.xbar := rfl
@[simp] theorem wr_geom (s : State) (r : Reg) (i j v : Nat) : (s.wr r i j v).geom = s.geom := rfl
@[simp] theorem wr_qstat (s : State) (r : Reg) (i j v : Nat) : (s.wr r i j v).qstat = s.qstat := rfl
@[simp] theorem wr_restless (s : State) (r : Reg) (i j v : Nat) : (s.wr r i j v).restless = s.restless := rfl
@[simp] theorem wr_chanCfg (s : State) (r : Reg) (i j v : Nat) : (s.wr r i j v).chanCfg = s.chanCfg := rfl
@[simp] theorem wr_heldFrames (s : State) (r : Reg) (i j v : Nat) : (s.wr r i j v).heldFrames = s.heldFrames := rfl
@[simp] theorem wr_appends (s : State) (r : Reg) (i j v : Nat) : (s.wr r i j v).appends = s.appends := rfl
@[simp] theorem wr_ledger (s : State) (r : Reg) (i j v : Nat) : (s.wr r i j v).ledger = s.ledger := rfl
@[simp] theorem wr_unretired (s : State) (r : Reg) (i j v : Nat) : (s.wr r i j v).unretired = s.unretired := rfl
@[simp] theorem wr_journal (s : State) (r : Reg) (i j v : Nat) : (s.wr r i j v).journal = s.journal := rfl
@[simp] theorem wr_stl (s : State) (r : Reg) (i j v : Nat) : (s.wr r i j v).stl = s.stl := rfl
@[simp] theorem wr_ctl (s : State) (r : Reg) (i j v : Nat) : (s.wr r i j v).ctl = s.ctl := rfl
@[simp] theorem wr_sessions (s : State) (r : Reg) (i j v : Nat) : (s.wr r i j v).sessions = s.sessions := rfl
@[simp] theorem wr_starts (s : State) (r : Reg) (i j v : Nat) : (s.wr r i j v).starts = s.starts := rfl
@[simp] theorem wr_stops (s : State) (r : Reg) (i j v : Nat) : (s.wr r i j v).stops = s.stops := rfl
@[simp] theorem wr_sup (s : State) (r : Reg) (i j v : Nat) : (s.wr r i j v).sup = s.sup := rfl
@[simp] theorem wr_pending (s : State) (r : Reg) (i j v : Nat) : (s.wr r i j v).pending = s.pending := rfl

/-! `setF` -/

@[simp] theorem setF_time (s : State) (fl : Fld) (i v j : Nat) : (s.setF fl i v j).time = s.time := rfl
@[simp] theorem setF_captures (s : State) (fl : Fld) (i v j : Nat) : (s.setF fl i v j).captures = s.captures := rfl
@[simp] theorem setF_resp (s : State) (fl : Fld) (i v j : Nat) : (s.setF fl i v j).resp = s.resp := rfl
@[simp] theorem setF_freeCtr (s : State) (fl : Fld) (i v j : Nat) : (s.setF fl i v j).freeCtr = s.freeCtr := rfl
@[simp] theorem setF_maint (s : State) (fl : Fld) (i v j : Nat) : (s.setF fl i v j).maint = s.maint := rfl
@[simp] theorem setF_fuses (s : State) (fl : Fld) (i v j : Nat) : (s.setF fl i v j).fuses = s.fuses := rfl
@[simp] theorem setF_evRecs (s : State) (fl : Fld) (i v j : Nat) : (s.setF fl i v j).evRecs = s.evRecs := rfl
@[simp] theorem setF_evLost (s : State) (fl : Fld) (i v j : Nat) : (s.setF fl i v j).evLost = s.evLost := rfl
@[simp] theorem setF_ldg (s : State) (fl : Fld) (i v j : Nat) : (s.setF fl i v j).ldg = s.ldg := rfl
@[simp] theorem setF_emits (s : State) (fl : Fld) (i v j : Nat) : (s.setF fl i v j).emits = s.emits := rfl
@[simp] theorem setF_txts (s : State) (fl : Fld) (i v j : Nat) : (s.setF fl i v j).txts = s.txts := rfl
@[simp] theorem setF_ports (s : State) (fl : Fld) (i v j : Nat) : (s.setF fl i v j).ports = s.ports := rfl
@[simp] theorem setF_cells (s : State) (fl : Fld) (i v j : Nat) : (s.setF fl i v j).cells = s.cells := rfl
@[simp] theorem setF_cellData (s : State) (fl : Fld) (i v j : Nat) : (s.setF fl i v j).cellData = s.cellData := rfl
@[simp] theorem setF_rotors (s : State) (fl : Fld) (i v j : Nat) : (s.setF fl i v j).rotors = s.rotors := rfl
@[simp] theorem setF_redLath (s : State) (fl : Fld) (i v j : Nat) : (s.setF fl i v j).redLath = s.redLath := rfl
@[simp] theorem setF_graphs (s : State) (fl : Fld) (i v j : Nat) : (s.setF fl i v j).graphs = s.graphs := rfl
@[simp] theorem setF_houseFrames (s : State) (fl : Fld) (i v j : Nat) : (s.setF fl i v j).houseFrames = s.houseFrames := rfl
@[simp] theorem setF_drain (s : State) (fl : Fld) (i v j : Nat) : (s.setF fl i v j).drain = s.drain := rfl
@[simp] theorem setF_staged (s : State) (fl : Fld) (i v j : Nat) : (s.setF fl i v j).staged = s.staged := rfl
@[simp] theorem setF_clsBanks (s : State) (fl : Fld) (i v j : Nat) : (s.setF fl i v j).clsBanks = s.clsBanks := rfl
@[simp] theorem setF_cipherQ (s : State) (fl : Fld) (i v j : Nat) : (s.setF fl i v j).cipherQ = s.cipherQ := rfl
@[simp] theorem setF_reparseQ (s : State) (fl : Fld) (i v j : Nat) : (s.setF fl i v j).reparseQ = s.reparseQ := rfl
@[simp] theorem setF_classQ (s : State) (fl : Fld) (i v j : Nat) : (s.setF fl i v j).classQ = s.classQ := rfl
@[simp] theorem setF_learnQ (s : State) (fl : Fld) (i v j : Nat) : (s.setF fl i v j).learnQ = s.learnQ := rfl
@[simp] theorem setF_dispQ (s : State) (fl : Fld) (i v j : Nat) : (s.setF fl i v j).dispQ = s.dispQ := rfl
@[simp] theorem setF_dram (s : State) (fl : Fld) (i v j : Nat) : (s.setF fl i v j).dram = s.dram := rfl
@[simp] theorem setF_hot (s : State) (fl : Fld) (i v j : Nat) : (s.setF fl i v j).hot = s.hot := rfl
@[simp] theorem setF_stn (s : State) (fl : Fld) (i v j : Nat) : (s.setF fl i v j).stn = s.stn := rfl
@[simp] theorem setF_stnWait (s : State) (fl : Fld) (i v j : Nat) : (s.setF fl i v j).stnWait = s.stnWait := rfl
@[simp] theorem setF_useCtr (s : State) (fl : Fld) (i v j : Nat) : (s.setF fl i v j).useCtr = s.useCtr := rfl
@[simp] theorem setF_reconciling (s : State) (fl : Fld) (i v j : Nat) : (s.setF fl i v j).reconciling = s.reconciling := rfl
@[simp] theorem setF_needReconcile (s : State) (fl : Fld) (i v j : Nat) : (s.setF fl i v j).needReconcile = s.needReconcile := rfl
@[simp] theorem setF_scans (s : State) (fl : Fld) (i v j : Nat) : (s.setF fl i v j).scans = s.scans := rfl
@[simp] theorem setF_sweeps (s : State) (fl : Fld) (i v j : Nat) : (s.setF fl i v j).sweeps = s.sweeps := rfl
@[simp] theorem setF_lastFound (s : State) (fl : Fld) (i v j : Nat) : (s.setF fl i v j).lastFound = s.lastFound := rfl
@[simp] theorem setF_guards (s : State) (fl : Fld) (i v j : Nat) : (s.setF fl i v j).guards = s.guards := rfl
@[simp] theorem setF_sweepAt (s : State) (fl : Fld) (i v j : Nat) : (s.setF fl i v j).sweepAt = s.sweepAt := rfl
@[simp] theorem setF_keyCache (s : State) (fl : Fld) (i v j : Nat) : (s.setF fl i v j).keyCache = s.keyCache := rfl
@[simp] theorem setF_rangeZero (s : State) (fl : Fld) (i v j : Nat) : (s.setF fl i v j).rangeZero = s.rangeZero := rfl
@[simp] theorem setF_freeAfter (s : State) (fl : Fld) (i v j : Nat) : (s.setF fl i v j).freeAfter = s.freeAfter := rfl
@[simp] theorem setF_chains (s : State) (fl : Fld) (i v j : Nat) : (s.setF fl i v j).chains = s.chains := rfl
@[simp] theorem setF_chans (s : State) (fl : Fld) (i v j : Nat) : (s.setF fl i v j).chans = s.chans := rfl
@[simp] theorem setF_deltas (s : State) (fl : Fld) (i v j : Nat) : (s.setF fl i v j).deltas = s.deltas := rfl
@[simp] theorem setF_idents (s : State) (fl : Fld) (i v j : Nat) : (s.setF fl i v j).idents = s.idents := rfl
@[simp] theorem setF_acceptedPlus (s : State) (fl : Fld) (i v j : Nat) : (s.setF fl i v j).acceptedPlus = s.acceptedPlus := rfl
@[simp] theorem setF_threads (s : State) (fl : Fld) (i v j : Nat) : (s.setF fl i v j).threads = s.threads := rfl
@[simp] theorem setF_cores (s : State) (fl : Fld) (i v j : Nat) : (s.setF fl i v j).cores = s.cores := rfl
@[simp] theorem setF_units (s : State) (fl : Fld) (i v j : Nat) : (s.setF fl i v j).units = s.units := rfl
@[simp] theorem setF_patches (s : State) (fl : Fld) (i v j : Nat) : (s.setF fl i v j).patches = s.patches := rfl
@[simp] theorem setF_patchFrom (s : State) (fl : Fld) (i v j : Nat) : (s.setF fl i v j).patchFrom = s.patchFrom := rfl
@[simp] theorem setF_sram (s : State) (fl : Fld) (i v j : Nat) : (s.setF fl i v j).sram = s.sram := rfl
@[simp] theorem setF_code (s : State) (fl : Fld) (i v j : Nat) : (s.setF fl i v j).code = s.code := rfl
@[simp] theorem setF_clMem (s : State) (fl : Fld) (i v j : Nat) : (s.setF fl i v j).clMem = s.clMem := rfl
@[simp] theorem setF_lockQ (s : State) (fl : Fld) (i v j : Nat) : (s.setF fl i v j).lockQ = s.lockQ := rfl
@[simp] theorem setF_gateFrom (s : State) (fl : Fld) (i v j : Nat) : (s.setF fl i v j).gateFrom = s.gateFrom := rfl
@[simp] theorem setF_banks (s : State) (fl : Fld) (i v j : Nat) : (s.setF fl i v j).banks = s.banks := rfl
@[simp] theorem setF_released (s : State) (fl : Fld) (i v j : Nat) : (s.setF fl i v j).released = s.released := rfl
@[simp] theorem setF_clusterQ (s : State) (fl : Fld) (i v j : Nat) : (s.setF fl i v j).clusterQ = s.clusterQ := rfl
@[simp] theorem setF_clusterRotor (s : State) (fl : Fld) (i v j : Nat) : (s.setF fl i v j).clusterRotor = s.clusterRotor := rfl
@[simp] theorem setF_defers (s : State) (fl : Fld) (i v j : Nat) : (s.setF fl i v j).defers = s.defers := rfl
@[simp] theorem setF_admitted (s : State) (fl : Fld) (i v j : Nat) : (s.setF fl i v j).admitted = s.admitted := rfl
@[simp] theorem setF_maps (s : State) (fl : Fld) (i v j : Nat) : (s.setF fl i v j).maps = s.maps := rfl
@[simp] theorem setF_moves (s : State) (fl : Fld) (i v j : Nat) : (s.setF fl i v j).moves = s.moves := rfl
@[simp] theorem setF_fences (s : State) (fl : Fld) (i v j : Nat) : (s.setF fl i v j).fences = s.fences := rfl
@[simp] theorem setF_oldMaps (s : State) (fl : Fld) (i v j : Nat) : (s.setF fl i v j).oldMaps = s.oldMaps := rfl
@[simp] theorem setF_gifts (s : State) (fl : Fld) (i v j : Nat) : (s.setF fl i v j).gifts = s.gifts := rfl
@[simp] theorem setF_roles (s : State) (fl : Fld) (i v j : Nat) : (s.setF fl i v j).roles = s.roles := rfl
@[simp] theorem setF_outPorts (s : State) (fl : Fld) (i v j : Nat) : (s.setF fl i v j).outPorts = s.outPorts := rfl
@[simp] theorem setF_planes (s : State) (fl : Fld) (i v j : Nat) : (s.setF fl i v j).planes = s.planes := rfl
@[simp] theorem setF_xbar (s : State) (fl : Fld) (i v j : Nat) : (s.setF fl i v j).xbar = s.xbar := rfl
@[simp] theorem setF_geom (s : State) (fl : Fld) (i v j : Nat) : (s.setF fl i v j).geom = s.geom := rfl
@[simp] theorem setF_qstat (s : State) (fl : Fld) (i v j : Nat) : (s.setF fl i v j).qstat = s.qstat := rfl
@[simp] theorem setF_restless (s : State) (fl : Fld) (i v j : Nat) : (s.setF fl i v j).restless = s.restless := rfl
@[simp] theorem setF_chanCfg (s : State) (fl : Fld) (i v j : Nat) : (s.setF fl i v j).chanCfg = s.chanCfg := rfl
@[simp] theorem setF_heldFrames (s : State) (fl : Fld) (i v j : Nat) : (s.setF fl i v j).heldFrames = s.heldFrames := rfl
@[simp] theorem setF_appends (s : State) (fl : Fld) (i v j : Nat) : (s.setF fl i v j).appends = s.appends := rfl
@[simp] theorem setF_ledger (s : State) (fl : Fld) (i v j : Nat) : (s.setF fl i v j).ledger = s.ledger := rfl
@[simp] theorem setF_unretired (s : State) (fl : Fld) (i v j : Nat) : (s.setF fl i v j).unretired = s.unretired := rfl
@[simp] theorem setF_journal (s : State) (fl : Fld) (i v j : Nat) : (s.setF fl i v j).journal = s.journal := rfl
@[simp] theorem setF_stl (s : State) (fl : Fld) (i v j : Nat) : (s.setF fl i v j).stl = s.stl := rfl
@[simp] theorem setF_ctl (s : State) (fl : Fld) (i v j : Nat) : (s.setF fl i v j).ctl = s.ctl := rfl
@[simp] theorem setF_sessions (s : State) (fl : Fld) (i v j : Nat) : (s.setF fl i v j).sessions = s.sessions := rfl
@[simp] theorem setF_starts (s : State) (fl : Fld) (i v j : Nat) : (s.setF fl i v j).starts = s.starts := rfl
@[simp] theorem setF_stops (s : State) (fl : Fld) (i v j : Nat) : (s.setF fl i v j).stops = s.stops := rfl
@[simp] theorem setF_sup (s : State) (fl : Fld) (i v j : Nat) : (s.setF fl i v j).sup = s.sup := rfl
@[simp] theorem setF_pending (s : State) (fl : Fld) (i v j : Nat) : (s.setF fl i v j).pending = s.pending := rfl

/-! `setFA` -/

@[simp] theorem setFA_time (s : State) (a : Nat) (fl : Fld) (i v j : Nat) : (s.setFA a fl i v j).time = s.time := rfl
@[simp] theorem setFA_captures (s : State) (a : Nat) (fl : Fld) (i v j : Nat) : (s.setFA a fl i v j).captures = s.captures := rfl
@[simp] theorem setFA_resp (s : State) (a : Nat) (fl : Fld) (i v j : Nat) : (s.setFA a fl i v j).resp = s.resp := rfl
@[simp] theorem setFA_freeCtr (s : State) (a : Nat) (fl : Fld) (i v j : Nat) : (s.setFA a fl i v j).freeCtr = s.freeCtr := rfl
@[simp] theorem setFA_maint (s : State) (a : Nat) (fl : Fld) (i v j : Nat) : (s.setFA a fl i v j).maint = s.maint := rfl
@[simp] theorem setFA_fuses (s : State) (a : Nat) (fl : Fld) (i v j : Nat) : (s.setFA a fl i v j).fuses = s.fuses := rfl
@[simp] theorem setFA_evRecs (s : State) (a : Nat) (fl : Fld) (i v j : Nat) : (s.setFA a fl i v j).evRecs = s.evRecs := rfl
@[simp] theorem setFA_evLost (s : State) (a : Nat) (fl : Fld) (i v j : Nat) : (s.setFA a fl i v j).evLost = s.evLost := rfl
@[simp] theorem setFA_ldg (s : State) (a : Nat) (fl : Fld) (i v j : Nat) : (s.setFA a fl i v j).ldg = s.ldg := rfl
@[simp] theorem setFA_emits (s : State) (a : Nat) (fl : Fld) (i v j : Nat) : (s.setFA a fl i v j).emits = s.emits := rfl
@[simp] theorem setFA_txts (s : State) (a : Nat) (fl : Fld) (i v j : Nat) : (s.setFA a fl i v j).txts = s.txts := rfl
@[simp] theorem setFA_ports (s : State) (a : Nat) (fl : Fld) (i v j : Nat) : (s.setFA a fl i v j).ports = s.ports := rfl
@[simp] theorem setFA_cells (s : State) (a : Nat) (fl : Fld) (i v j : Nat) : (s.setFA a fl i v j).cells = s.cells := rfl
@[simp] theorem setFA_cellData (s : State) (a : Nat) (fl : Fld) (i v j : Nat) : (s.setFA a fl i v j).cellData = s.cellData := rfl
@[simp] theorem setFA_rotors (s : State) (a : Nat) (fl : Fld) (i v j : Nat) : (s.setFA a fl i v j).rotors = s.rotors := rfl
@[simp] theorem setFA_redLath (s : State) (a : Nat) (fl : Fld) (i v j : Nat) : (s.setFA a fl i v j).redLath = s.redLath := rfl
@[simp] theorem setFA_graphs (s : State) (a : Nat) (fl : Fld) (i v j : Nat) : (s.setFA a fl i v j).graphs = s.graphs := rfl
@[simp] theorem setFA_houseFrames (s : State) (a : Nat) (fl : Fld) (i v j : Nat) : (s.setFA a fl i v j).houseFrames = s.houseFrames := rfl
@[simp] theorem setFA_drain (s : State) (a : Nat) (fl : Fld) (i v j : Nat) : (s.setFA a fl i v j).drain = s.drain := rfl
@[simp] theorem setFA_staged (s : State) (a : Nat) (fl : Fld) (i v j : Nat) : (s.setFA a fl i v j).staged = s.staged := rfl
@[simp] theorem setFA_clsBanks (s : State) (a : Nat) (fl : Fld) (i v j : Nat) : (s.setFA a fl i v j).clsBanks = s.clsBanks := rfl
@[simp] theorem setFA_cipherQ (s : State) (a : Nat) (fl : Fld) (i v j : Nat) : (s.setFA a fl i v j).cipherQ = s.cipherQ := rfl
@[simp] theorem setFA_reparseQ (s : State) (a : Nat) (fl : Fld) (i v j : Nat) : (s.setFA a fl i v j).reparseQ = s.reparseQ := rfl
@[simp] theorem setFA_classQ (s : State) (a : Nat) (fl : Fld) (i v j : Nat) : (s.setFA a fl i v j).classQ = s.classQ := rfl
@[simp] theorem setFA_learnQ (s : State) (a : Nat) (fl : Fld) (i v j : Nat) : (s.setFA a fl i v j).learnQ = s.learnQ := rfl
@[simp] theorem setFA_dispQ (s : State) (a : Nat) (fl : Fld) (i v j : Nat) : (s.setFA a fl i v j).dispQ = s.dispQ := rfl
@[simp] theorem setFA_dram (s : State) (a : Nat) (fl : Fld) (i v j : Nat) : (s.setFA a fl i v j).dram = s.dram := rfl
@[simp] theorem setFA_hot (s : State) (a : Nat) (fl : Fld) (i v j : Nat) : (s.setFA a fl i v j).hot = s.hot := rfl
@[simp] theorem setFA_stn (s : State) (a : Nat) (fl : Fld) (i v j : Nat) : (s.setFA a fl i v j).stn = s.stn := rfl
@[simp] theorem setFA_stnWait (s : State) (a : Nat) (fl : Fld) (i v j : Nat) : (s.setFA a fl i v j).stnWait = s.stnWait := rfl
@[simp] theorem setFA_useCtr (s : State) (a : Nat) (fl : Fld) (i v j : Nat) : (s.setFA a fl i v j).useCtr = s.useCtr := rfl
@[simp] theorem setFA_reconciling (s : State) (a : Nat) (fl : Fld) (i v j : Nat) : (s.setFA a fl i v j).reconciling = s.reconciling := rfl
@[simp] theorem setFA_needReconcile (s : State) (a : Nat) (fl : Fld) (i v j : Nat) : (s.setFA a fl i v j).needReconcile = s.needReconcile := rfl
@[simp] theorem setFA_scans (s : State) (a : Nat) (fl : Fld) (i v j : Nat) : (s.setFA a fl i v j).scans = s.scans := rfl
@[simp] theorem setFA_sweeps (s : State) (a : Nat) (fl : Fld) (i v j : Nat) : (s.setFA a fl i v j).sweeps = s.sweeps := rfl
@[simp] theorem setFA_lastFound (s : State) (a : Nat) (fl : Fld) (i v j : Nat) : (s.setFA a fl i v j).lastFound = s.lastFound := rfl
@[simp] theorem setFA_guards (s : State) (a : Nat) (fl : Fld) (i v j : Nat) : (s.setFA a fl i v j).guards = s.guards := rfl
@[simp] theorem setFA_sweepAt (s : State) (a : Nat) (fl : Fld) (i v j : Nat) : (s.setFA a fl i v j).sweepAt = s.sweepAt := rfl
@[simp] theorem setFA_keyCache (s : State) (a : Nat) (fl : Fld) (i v j : Nat) : (s.setFA a fl i v j).keyCache = s.keyCache := rfl
@[simp] theorem setFA_rangeZero (s : State) (a : Nat) (fl : Fld) (i v j : Nat) : (s.setFA a fl i v j).rangeZero = s.rangeZero := rfl
@[simp] theorem setFA_freeAfter (s : State) (a : Nat) (fl : Fld) (i v j : Nat) : (s.setFA a fl i v j).freeAfter = s.freeAfter := rfl
@[simp] theorem setFA_chains (s : State) (a : Nat) (fl : Fld) (i v j : Nat) : (s.setFA a fl i v j).chains = s.chains := rfl
@[simp] theorem setFA_chans (s : State) (a : Nat) (fl : Fld) (i v j : Nat) : (s.setFA a fl i v j).chans = s.chans := rfl
@[simp] theorem setFA_deltas (s : State) (a : Nat) (fl : Fld) (i v j : Nat) : (s.setFA a fl i v j).deltas = s.deltas := rfl
@[simp] theorem setFA_idents (s : State) (a : Nat) (fl : Fld) (i v j : Nat) : (s.setFA a fl i v j).idents = s.idents := rfl
@[simp] theorem setFA_acceptedPlus (s : State) (a : Nat) (fl : Fld) (i v j : Nat) : (s.setFA a fl i v j).acceptedPlus = s.acceptedPlus := rfl
@[simp] theorem setFA_threads (s : State) (a : Nat) (fl : Fld) (i v j : Nat) : (s.setFA a fl i v j).threads = s.threads := rfl
@[simp] theorem setFA_cores (s : State) (a : Nat) (fl : Fld) (i v j : Nat) : (s.setFA a fl i v j).cores = s.cores := rfl
@[simp] theorem setFA_units (s : State) (a : Nat) (fl : Fld) (i v j : Nat) : (s.setFA a fl i v j).units = s.units := rfl
@[simp] theorem setFA_patches (s : State) (a : Nat) (fl : Fld) (i v j : Nat) : (s.setFA a fl i v j).patches = s.patches := rfl
@[simp] theorem setFA_patchFrom (s : State) (a : Nat) (fl : Fld) (i v j : Nat) : (s.setFA a fl i v j).patchFrom = s.patchFrom := rfl
@[simp] theorem setFA_sram (s : State) (a : Nat) (fl : Fld) (i v j : Nat) : (s.setFA a fl i v j).sram = s.sram := rfl
@[simp] theorem setFA_code (s : State) (a : Nat) (fl : Fld) (i v j : Nat) : (s.setFA a fl i v j).code = s.code := rfl
@[simp] theorem setFA_clMem (s : State) (a : Nat) (fl : Fld) (i v j : Nat) : (s.setFA a fl i v j).clMem = s.clMem := rfl
@[simp] theorem setFA_lockQ (s : State) (a : Nat) (fl : Fld) (i v j : Nat) : (s.setFA a fl i v j).lockQ = s.lockQ := rfl
@[simp] theorem setFA_gateFrom (s : State) (a : Nat) (fl : Fld) (i v j : Nat) : (s.setFA a fl i v j).gateFrom = s.gateFrom := rfl
@[simp] theorem setFA_banks (s : State) (a : Nat) (fl : Fld) (i v j : Nat) : (s.setFA a fl i v j).banks = s.banks := rfl
@[simp] theorem setFA_released (s : State) (a : Nat) (fl : Fld) (i v j : Nat) : (s.setFA a fl i v j).released = s.released := rfl
@[simp] theorem setFA_clusterQ (s : State) (a : Nat) (fl : Fld) (i v j : Nat) : (s.setFA a fl i v j).clusterQ = s.clusterQ := rfl
@[simp] theorem setFA_clusterRotor (s : State) (a : Nat) (fl : Fld) (i v j : Nat) : (s.setFA a fl i v j).clusterRotor = s.clusterRotor := rfl
@[simp] theorem setFA_defers (s : State) (a : Nat) (fl : Fld) (i v j : Nat) : (s.setFA a fl i v j).defers = s.defers := rfl
@[simp] theorem setFA_admitted (s : State) (a : Nat) (fl : Fld) (i v j : Nat) : (s.setFA a fl i v j).admitted = s.admitted := rfl
@[simp] theorem setFA_maps (s : State) (a : Nat) (fl : Fld) (i v j : Nat) : (s.setFA a fl i v j).maps = s.maps := rfl
@[simp] theorem setFA_moves (s : State) (a : Nat) (fl : Fld) (i v j : Nat) : (s.setFA a fl i v j).moves = s.moves := rfl
@[simp] theorem setFA_fences (s : State) (a : Nat) (fl : Fld) (i v j : Nat) : (s.setFA a fl i v j).fences = s.fences := rfl
@[simp] theorem setFA_oldMaps (s : State) (a : Nat) (fl : Fld) (i v j : Nat) : (s.setFA a fl i v j).oldMaps = s.oldMaps := rfl
@[simp] theorem setFA_gifts (s : State) (a : Nat) (fl : Fld) (i v j : Nat) : (s.setFA a fl i v j).gifts = s.gifts := rfl
@[simp] theorem setFA_roles (s : State) (a : Nat) (fl : Fld) (i v j : Nat) : (s.setFA a fl i v j).roles = s.roles := rfl
@[simp] theorem setFA_outPorts (s : State) (a : Nat) (fl : Fld) (i v j : Nat) : (s.setFA a fl i v j).outPorts = s.outPorts := rfl
@[simp] theorem setFA_planes (s : State) (a : Nat) (fl : Fld) (i v j : Nat) : (s.setFA a fl i v j).planes = s.planes := rfl
@[simp] theorem setFA_xbar (s : State) (a : Nat) (fl : Fld) (i v j : Nat) : (s.setFA a fl i v j).xbar = s.xbar := rfl
@[simp] theorem setFA_geom (s : State) (a : Nat) (fl : Fld) (i v j : Nat) : (s.setFA a fl i v j).geom = s.geom := rfl
@[simp] theorem setFA_qstat (s : State) (a : Nat) (fl : Fld) (i v j : Nat) : (s.setFA a fl i v j).qstat = s.qstat := rfl
@[simp] theorem setFA_restless (s : State) (a : Nat) (fl : Fld) (i v j : Nat) : (s.setFA a fl i v j).restless = s.restless := rfl
@[simp] theorem setFA_chanCfg (s : State) (a : Nat) (fl : Fld) (i v j : Nat) : (s.setFA a fl i v j).chanCfg = s.chanCfg := rfl
@[simp] theorem setFA_heldFrames (s : State) (a : Nat) (fl : Fld) (i v j : Nat) : (s.setFA a fl i v j).heldFrames = s.heldFrames := rfl
@[simp] theorem setFA_appends (s : State) (a : Nat) (fl : Fld) (i v j : Nat) : (s.setFA a fl i v j).appends = s.appends := rfl
@[simp] theorem setFA_ledger (s : State) (a : Nat) (fl : Fld) (i v j : Nat) : (s.setFA a fl i v j).ledger = s.ledger := rfl
@[simp] theorem setFA_unretired (s : State) (a : Nat) (fl : Fld) (i v j : Nat) : (s.setFA a fl i v j).unretired = s.unretired := rfl
@[simp] theorem setFA_journal (s : State) (a : Nat) (fl : Fld) (i v j : Nat) : (s.setFA a fl i v j).journal = s.journal := rfl
@[simp] theorem setFA_stl (s : State) (a : Nat) (fl : Fld) (i v j : Nat) : (s.setFA a fl i v j).stl = s.stl := rfl
@[simp] theorem setFA_ctl (s : State) (a : Nat) (fl : Fld) (i v j : Nat) : (s.setFA a fl i v j).ctl = s.ctl := rfl
@[simp] theorem setFA_sessions (s : State) (a : Nat) (fl : Fld) (i v j : Nat) : (s.setFA a fl i v j).sessions = s.sessions := rfl
@[simp] theorem setFA_starts (s : State) (a : Nat) (fl : Fld) (i v j : Nat) : (s.setFA a fl i v j).starts = s.starts := rfl
@[simp] theorem setFA_stops (s : State) (a : Nat) (fl : Fld) (i v j : Nat) : (s.setFA a fl i v j).stops = s.stops := rfl
@[simp] theorem setFA_sup (s : State) (a : Nat) (fl : Fld) (i v j : Nat) : (s.setFA a fl i v j).sup = s.sup := rfl
@[simp] theorem setFA_pending (s : State) (a : Nat) (fl : Fld) (i v j : Nat) : (s.setFA a fl i v j).pending = s.pending := rfl

/-! `count` -/

@[simp] theorem count_time (s : State) (fl : Fld) (i n : Nat) : (s.count fl i n).time = s.time := rfl
@[simp] theorem count_captures (s : State) (fl : Fld) (i n : Nat) : (s.count fl i n).captures = s.captures := rfl
@[simp] theorem count_resp (s : State) (fl : Fld) (i n : Nat) : (s.count fl i n).resp = s.resp := rfl
@[simp] theorem count_freeCtr (s : State) (fl : Fld) (i n : Nat) : (s.count fl i n).freeCtr = s.freeCtr := rfl
@[simp] theorem count_maint (s : State) (fl : Fld) (i n : Nat) : (s.count fl i n).maint = s.maint := rfl
@[simp] theorem count_fuses (s : State) (fl : Fld) (i n : Nat) : (s.count fl i n).fuses = s.fuses := rfl
@[simp] theorem count_evRecs (s : State) (fl : Fld) (i n : Nat) : (s.count fl i n).evRecs = s.evRecs := rfl
@[simp] theorem count_evLost (s : State) (fl : Fld) (i n : Nat) : (s.count fl i n).evLost = s.evLost := rfl
@[simp] theorem count_ldg (s : State) (fl : Fld) (i n : Nat) : (s.count fl i n).ldg = s.ldg := rfl
@[simp] theorem count_emits (s : State) (fl : Fld) (i n : Nat) : (s.count fl i n).emits = s.emits := rfl
@[simp] theorem count_txts (s : State) (fl : Fld) (i n : Nat) : (s.count fl i n).txts = s.txts := rfl
@[simp] theorem count_ports (s : State) (fl : Fld) (i n : Nat) : (s.count fl i n).ports = s.ports := rfl
@[simp] theorem count_cells (s : State) (fl : Fld) (i n : Nat) : (s.count fl i n).cells = s.cells := rfl
@[simp] theorem count_cellData (s : State) (fl : Fld) (i n : Nat) : (s.count fl i n).cellData = s.cellData := rfl
@[simp] theorem count_rotors (s : State) (fl : Fld) (i n : Nat) : (s.count fl i n).rotors = s.rotors := rfl
@[simp] theorem count_redLath (s : State) (fl : Fld) (i n : Nat) : (s.count fl i n).redLath = s.redLath := rfl
@[simp] theorem count_graphs (s : State) (fl : Fld) (i n : Nat) : (s.count fl i n).graphs = s.graphs := rfl
@[simp] theorem count_houseFrames (s : State) (fl : Fld) (i n : Nat) : (s.count fl i n).houseFrames = s.houseFrames := rfl
@[simp] theorem count_drain (s : State) (fl : Fld) (i n : Nat) : (s.count fl i n).drain = s.drain := rfl
@[simp] theorem count_staged (s : State) (fl : Fld) (i n : Nat) : (s.count fl i n).staged = s.staged := rfl
@[simp] theorem count_clsBanks (s : State) (fl : Fld) (i n : Nat) : (s.count fl i n).clsBanks = s.clsBanks := rfl
@[simp] theorem count_cipherQ (s : State) (fl : Fld) (i n : Nat) : (s.count fl i n).cipherQ = s.cipherQ := rfl
@[simp] theorem count_reparseQ (s : State) (fl : Fld) (i n : Nat) : (s.count fl i n).reparseQ = s.reparseQ := rfl
@[simp] theorem count_classQ (s : State) (fl : Fld) (i n : Nat) : (s.count fl i n).classQ = s.classQ := rfl
@[simp] theorem count_learnQ (s : State) (fl : Fld) (i n : Nat) : (s.count fl i n).learnQ = s.learnQ := rfl
@[simp] theorem count_dispQ (s : State) (fl : Fld) (i n : Nat) : (s.count fl i n).dispQ = s.dispQ := rfl
@[simp] theorem count_dram (s : State) (fl : Fld) (i n : Nat) : (s.count fl i n).dram = s.dram := rfl
@[simp] theorem count_hot (s : State) (fl : Fld) (i n : Nat) : (s.count fl i n).hot = s.hot := rfl
@[simp] theorem count_stn (s : State) (fl : Fld) (i n : Nat) : (s.count fl i n).stn = s.stn := rfl
@[simp] theorem count_stnWait (s : State) (fl : Fld) (i n : Nat) : (s.count fl i n).stnWait = s.stnWait := rfl
@[simp] theorem count_useCtr (s : State) (fl : Fld) (i n : Nat) : (s.count fl i n).useCtr = s.useCtr := rfl
@[simp] theorem count_reconciling (s : State) (fl : Fld) (i n : Nat) : (s.count fl i n).reconciling = s.reconciling := rfl
@[simp] theorem count_needReconcile (s : State) (fl : Fld) (i n : Nat) : (s.count fl i n).needReconcile = s.needReconcile := rfl
@[simp] theorem count_scans (s : State) (fl : Fld) (i n : Nat) : (s.count fl i n).scans = s.scans := rfl
@[simp] theorem count_sweeps (s : State) (fl : Fld) (i n : Nat) : (s.count fl i n).sweeps = s.sweeps := rfl
@[simp] theorem count_lastFound (s : State) (fl : Fld) (i n : Nat) : (s.count fl i n).lastFound = s.lastFound := rfl
@[simp] theorem count_guards (s : State) (fl : Fld) (i n : Nat) : (s.count fl i n).guards = s.guards := rfl
@[simp] theorem count_sweepAt (s : State) (fl : Fld) (i n : Nat) : (s.count fl i n).sweepAt = s.sweepAt := rfl
@[simp] theorem count_keyCache (s : State) (fl : Fld) (i n : Nat) : (s.count fl i n).keyCache = s.keyCache := rfl
@[simp] theorem count_rangeZero (s : State) (fl : Fld) (i n : Nat) : (s.count fl i n).rangeZero = s.rangeZero := rfl
@[simp] theorem count_freeAfter (s : State) (fl : Fld) (i n : Nat) : (s.count fl i n).freeAfter = s.freeAfter := rfl
@[simp] theorem count_chains (s : State) (fl : Fld) (i n : Nat) : (s.count fl i n).chains = s.chains := rfl
@[simp] theorem count_chans (s : State) (fl : Fld) (i n : Nat) : (s.count fl i n).chans = s.chans := rfl
@[simp] theorem count_deltas (s : State) (fl : Fld) (i n : Nat) : (s.count fl i n).deltas = s.deltas := rfl
@[simp] theorem count_idents (s : State) (fl : Fld) (i n : Nat) : (s.count fl i n).idents = s.idents := rfl
@[simp] theorem count_acceptedPlus (s : State) (fl : Fld) (i n : Nat) : (s.count fl i n).acceptedPlus = s.acceptedPlus := rfl
@[simp] theorem count_threads (s : State) (fl : Fld) (i n : Nat) : (s.count fl i n).threads = s.threads := rfl
@[simp] theorem count_cores (s : State) (fl : Fld) (i n : Nat) : (s.count fl i n).cores = s.cores := rfl
@[simp] theorem count_units (s : State) (fl : Fld) (i n : Nat) : (s.count fl i n).units = s.units := rfl
@[simp] theorem count_patches (s : State) (fl : Fld) (i n : Nat) : (s.count fl i n).patches = s.patches := rfl
@[simp] theorem count_patchFrom (s : State) (fl : Fld) (i n : Nat) : (s.count fl i n).patchFrom = s.patchFrom := rfl
@[simp] theorem count_sram (s : State) (fl : Fld) (i n : Nat) : (s.count fl i n).sram = s.sram := rfl
@[simp] theorem count_code (s : State) (fl : Fld) (i n : Nat) : (s.count fl i n).code = s.code := rfl
@[simp] theorem count_clMem (s : State) (fl : Fld) (i n : Nat) : (s.count fl i n).clMem = s.clMem := rfl
@[simp] theorem count_lockQ (s : State) (fl : Fld) (i n : Nat) : (s.count fl i n).lockQ = s.lockQ := rfl
@[simp] theorem count_gateFrom (s : State) (fl : Fld) (i n : Nat) : (s.count fl i n).gateFrom = s.gateFrom := rfl
@[simp] theorem count_banks (s : State) (fl : Fld) (i n : Nat) : (s.count fl i n).banks = s.banks := rfl
@[simp] theorem count_released (s : State) (fl : Fld) (i n : Nat) : (s.count fl i n).released = s.released := rfl
@[simp] theorem count_clusterQ (s : State) (fl : Fld) (i n : Nat) : (s.count fl i n).clusterQ = s.clusterQ := rfl
@[simp] theorem count_clusterRotor (s : State) (fl : Fld) (i n : Nat) : (s.count fl i n).clusterRotor = s.clusterRotor := rfl
@[simp] theorem count_defers (s : State) (fl : Fld) (i n : Nat) : (s.count fl i n).defers = s.defers := rfl
@[simp] theorem count_admitted (s : State) (fl : Fld) (i n : Nat) : (s.count fl i n).admitted = s.admitted := rfl
@[simp] theorem count_maps (s : State) (fl : Fld) (i n : Nat) : (s.count fl i n).maps = s.maps := rfl
@[simp] theorem count_moves (s : State) (fl : Fld) (i n : Nat) : (s.count fl i n).moves = s.moves := rfl
@[simp] theorem count_fences (s : State) (fl : Fld) (i n : Nat) : (s.count fl i n).fences = s.fences := rfl
@[simp] theorem count_oldMaps (s : State) (fl : Fld) (i n : Nat) : (s.count fl i n).oldMaps = s.oldMaps := rfl
@[simp] theorem count_gifts (s : State) (fl : Fld) (i n : Nat) : (s.count fl i n).gifts = s.gifts := rfl
@[simp] theorem count_roles (s : State) (fl : Fld) (i n : Nat) : (s.count fl i n).roles = s.roles := rfl
@[simp] theorem count_outPorts (s : State) (fl : Fld) (i n : Nat) : (s.count fl i n).outPorts = s.outPorts := rfl
@[simp] theorem count_planes (s : State) (fl : Fld) (i n : Nat) : (s.count fl i n).planes = s.planes := rfl
@[simp] theorem count_xbar (s : State) (fl : Fld) (i n : Nat) : (s.count fl i n).xbar = s.xbar := rfl
@[simp] theorem count_geom (s : State) (fl : Fld) (i n : Nat) : (s.count fl i n).geom = s.geom := rfl
@[simp] theorem count_qstat (s : State) (fl : Fld) (i n : Nat) : (s.count fl i n).qstat = s.qstat := rfl
@[simp] theorem count_restless (s : State) (fl : Fld) (i n : Nat) : (s.count fl i n).restless = s.restless := rfl
@[simp] theorem count_chanCfg (s : State) (fl : Fld) (i n : Nat) : (s.count fl i n).chanCfg = s.chanCfg := rfl
@[simp] theorem count_heldFrames (s : State) (fl : Fld) (i n : Nat) : (s.count fl i n).heldFrames = s.heldFrames := rfl
@[simp] theorem count_appends (s : State) (fl : Fld) (i n : Nat) : (s.count fl i n).appends = s.appends := rfl
@[simp] theorem count_ledger (s : State) (fl : Fld) (i n : Nat) : (s.count fl i n).ledger = s.ledger := rfl
@[simp] theorem count_unretired (s : State) (fl : Fld) (i n : Nat) : (s.count fl i n).unretired = s.unretired := rfl
@[simp] theorem count_journal (s : State) (fl : Fld) (i n : Nat) : (s.count fl i n).journal = s.journal := rfl
@[simp] theorem count_stl (s : State) (fl : Fld) (i n : Nat) : (s.count fl i n).stl = s.stl := rfl
@[simp] theorem count_ctl (s : State) (fl : Fld) (i n : Nat) : (s.count fl i n).ctl = s.ctl := rfl
@[simp] theorem count_sessions (s : State) (fl : Fld) (i n : Nat) : (s.count fl i n).sessions = s.sessions := rfl
@[simp] theorem count_starts (s : State) (fl : Fld) (i n : Nat) : (s.count fl i n).starts = s.starts := rfl
@[simp] theorem count_stops (s : State) (fl : Fld) (i n : Nat) : (s.count fl i n).stops = s.stops := rfl
@[simp] theorem count_sup (s : State) (fl : Fld) (i n : Nat) : (s.count fl i n).sup = s.sup := rfl
@[simp] theorem count_pending (s : State) (fl : Fld) (i n : Nat) : (s.count fl i n).pending = s.pending := rfl

/-! `count64` -/

@[simp] theorem count64_time (s : State) (lo hi : Fld) (i n : Nat) : (s.count64 lo hi i n).time = s.time := rfl
@[simp] theorem count64_captures (s : State) (lo hi : Fld) (i n : Nat) : (s.count64 lo hi i n).captures = s.captures := rfl
@[simp] theorem count64_resp (s : State) (lo hi : Fld) (i n : Nat) : (s.count64 lo hi i n).resp = s.resp := rfl
@[simp] theorem count64_freeCtr (s : State) (lo hi : Fld) (i n : Nat) : (s.count64 lo hi i n).freeCtr = s.freeCtr := rfl
@[simp] theorem count64_maint (s : State) (lo hi : Fld) (i n : Nat) : (s.count64 lo hi i n).maint = s.maint := rfl
@[simp] theorem count64_fuses (s : State) (lo hi : Fld) (i n : Nat) : (s.count64 lo hi i n).fuses = s.fuses := rfl
@[simp] theorem count64_evRecs (s : State) (lo hi : Fld) (i n : Nat) : (s.count64 lo hi i n).evRecs = s.evRecs := rfl
@[simp] theorem count64_evLost (s : State) (lo hi : Fld) (i n : Nat) : (s.count64 lo hi i n).evLost = s.evLost := rfl
@[simp] theorem count64_ldg (s : State) (lo hi : Fld) (i n : Nat) : (s.count64 lo hi i n).ldg = s.ldg := rfl
@[simp] theorem count64_emits (s : State) (lo hi : Fld) (i n : Nat) : (s.count64 lo hi i n).emits = s.emits := rfl
@[simp] theorem count64_txts (s : State) (lo hi : Fld) (i n : Nat) : (s.count64 lo hi i n).txts = s.txts := rfl
@[simp] theorem count64_ports (s : State) (lo hi : Fld) (i n : Nat) : (s.count64 lo hi i n).ports = s.ports := rfl
@[simp] theorem count64_cells (s : State) (lo hi : Fld) (i n : Nat) : (s.count64 lo hi i n).cells = s.cells := rfl
@[simp] theorem count64_cellData (s : State) (lo hi : Fld) (i n : Nat) : (s.count64 lo hi i n).cellData = s.cellData := rfl
@[simp] theorem count64_rotors (s : State) (lo hi : Fld) (i n : Nat) : (s.count64 lo hi i n).rotors = s.rotors := rfl
@[simp] theorem count64_redLath (s : State) (lo hi : Fld) (i n : Nat) : (s.count64 lo hi i n).redLath = s.redLath := rfl
@[simp] theorem count64_graphs (s : State) (lo hi : Fld) (i n : Nat) : (s.count64 lo hi i n).graphs = s.graphs := rfl
@[simp] theorem count64_houseFrames (s : State) (lo hi : Fld) (i n : Nat) : (s.count64 lo hi i n).houseFrames = s.houseFrames := rfl
@[simp] theorem count64_drain (s : State) (lo hi : Fld) (i n : Nat) : (s.count64 lo hi i n).drain = s.drain := rfl
@[simp] theorem count64_staged (s : State) (lo hi : Fld) (i n : Nat) : (s.count64 lo hi i n).staged = s.staged := rfl
@[simp] theorem count64_clsBanks (s : State) (lo hi : Fld) (i n : Nat) : (s.count64 lo hi i n).clsBanks = s.clsBanks := rfl
@[simp] theorem count64_cipherQ (s : State) (lo hi : Fld) (i n : Nat) : (s.count64 lo hi i n).cipherQ = s.cipherQ := rfl
@[simp] theorem count64_reparseQ (s : State) (lo hi : Fld) (i n : Nat) : (s.count64 lo hi i n).reparseQ = s.reparseQ := rfl
@[simp] theorem count64_classQ (s : State) (lo hi : Fld) (i n : Nat) : (s.count64 lo hi i n).classQ = s.classQ := rfl
@[simp] theorem count64_learnQ (s : State) (lo hi : Fld) (i n : Nat) : (s.count64 lo hi i n).learnQ = s.learnQ := rfl
@[simp] theorem count64_dispQ (s : State) (lo hi : Fld) (i n : Nat) : (s.count64 lo hi i n).dispQ = s.dispQ := rfl
@[simp] theorem count64_dram (s : State) (lo hi : Fld) (i n : Nat) : (s.count64 lo hi i n).dram = s.dram := rfl
@[simp] theorem count64_hot (s : State) (lo hi : Fld) (i n : Nat) : (s.count64 lo hi i n).hot = s.hot := rfl
@[simp] theorem count64_stn (s : State) (lo hi : Fld) (i n : Nat) : (s.count64 lo hi i n).stn = s.stn := rfl
@[simp] theorem count64_stnWait (s : State) (lo hi : Fld) (i n : Nat) : (s.count64 lo hi i n).stnWait = s.stnWait := rfl
@[simp] theorem count64_useCtr (s : State) (lo hi : Fld) (i n : Nat) : (s.count64 lo hi i n).useCtr = s.useCtr := rfl
@[simp] theorem count64_reconciling (s : State) (lo hi : Fld) (i n : Nat) : (s.count64 lo hi i n).reconciling = s.reconciling := rfl
@[simp] theorem count64_needReconcile (s : State) (lo hi : Fld) (i n : Nat) : (s.count64 lo hi i n).needReconcile = s.needReconcile := rfl
@[simp] theorem count64_scans (s : State) (lo hi : Fld) (i n : Nat) : (s.count64 lo hi i n).scans = s.scans := rfl
@[simp] theorem count64_sweeps (s : State) (lo hi : Fld) (i n : Nat) : (s.count64 lo hi i n).sweeps = s.sweeps := rfl
@[simp] theorem count64_lastFound (s : State) (lo hi : Fld) (i n : Nat) : (s.count64 lo hi i n).lastFound = s.lastFound := rfl
@[simp] theorem count64_guards (s : State) (lo hi : Fld) (i n : Nat) : (s.count64 lo hi i n).guards = s.guards := rfl
@[simp] theorem count64_sweepAt (s : State) (lo hi : Fld) (i n : Nat) : (s.count64 lo hi i n).sweepAt = s.sweepAt := rfl
@[simp] theorem count64_keyCache (s : State) (lo hi : Fld) (i n : Nat) : (s.count64 lo hi i n).keyCache = s.keyCache := rfl
@[simp] theorem count64_rangeZero (s : State) (lo hi : Fld) (i n : Nat) : (s.count64 lo hi i n).rangeZero = s.rangeZero := rfl
@[simp] theorem count64_freeAfter (s : State) (lo hi : Fld) (i n : Nat) : (s.count64 lo hi i n).freeAfter = s.freeAfter := rfl
@[simp] theorem count64_chains (s : State) (lo hi : Fld) (i n : Nat) : (s.count64 lo hi i n).chains = s.chains := rfl
@[simp] theorem count64_chans (s : State) (lo hi : Fld) (i n : Nat) : (s.count64 lo hi i n).chans = s.chans := rfl
@[simp] theorem count64_deltas (s : State) (lo hi : Fld) (i n : Nat) : (s.count64 lo hi i n).deltas = s.deltas := rfl
@[simp] theorem count64_idents (s : State) (lo hi : Fld) (i n : Nat) : (s.count64 lo hi i n).idents = s.idents := rfl
@[simp] theorem count64_acceptedPlus (s : State) (lo hi : Fld) (i n : Nat) : (s.count64 lo hi i n).acceptedPlus = s.acceptedPlus := rfl
@[simp] theorem count64_threads (s : State) (lo hi : Fld) (i n : Nat) : (s.count64 lo hi i n).threads = s.threads := rfl
@[simp] theorem count64_cores (s : State) (lo hi : Fld) (i n : Nat) : (s.count64 lo hi i n).cores = s.cores := rfl
@[simp] theorem count64_units (s : State) (lo hi : Fld) (i n : Nat) : (s.count64 lo hi i n).units = s.units := rfl
@[simp] theorem count64_patches (s : State) (lo hi : Fld) (i n : Nat) : (s.count64 lo hi i n).patches = s.patches := rfl
@[simp] theorem count64_patchFrom (s : State) (lo hi : Fld) (i n : Nat) : (s.count64 lo hi i n).patchFrom = s.patchFrom := rfl
@[simp] theorem count64_sram (s : State) (lo hi : Fld) (i n : Nat) : (s.count64 lo hi i n).sram = s.sram := rfl
@[simp] theorem count64_code (s : State) (lo hi : Fld) (i n : Nat) : (s.count64 lo hi i n).code = s.code := rfl
@[simp] theorem count64_clMem (s : State) (lo hi : Fld) (i n : Nat) : (s.count64 lo hi i n).clMem = s.clMem := rfl
@[simp] theorem count64_lockQ (s : State) (lo hi : Fld) (i n : Nat) : (s.count64 lo hi i n).lockQ = s.lockQ := rfl
@[simp] theorem count64_gateFrom (s : State) (lo hi : Fld) (i n : Nat) : (s.count64 lo hi i n).gateFrom = s.gateFrom := rfl
@[simp] theorem count64_banks (s : State) (lo hi : Fld) (i n : Nat) : (s.count64 lo hi i n).banks = s.banks := rfl
@[simp] theorem count64_released (s : State) (lo hi : Fld) (i n : Nat) : (s.count64 lo hi i n).released = s.released := rfl
@[simp] theorem count64_clusterQ (s : State) (lo hi : Fld) (i n : Nat) : (s.count64 lo hi i n).clusterQ = s.clusterQ := rfl
@[simp] theorem count64_clusterRotor (s : State) (lo hi : Fld) (i n : Nat) : (s.count64 lo hi i n).clusterRotor = s.clusterRotor := rfl
@[simp] theorem count64_defers (s : State) (lo hi : Fld) (i n : Nat) : (s.count64 lo hi i n).defers = s.defers := rfl
@[simp] theorem count64_admitted (s : State) (lo hi : Fld) (i n : Nat) : (s.count64 lo hi i n).admitted = s.admitted := rfl
@[simp] theorem count64_maps (s : State) (lo hi : Fld) (i n : Nat) : (s.count64 lo hi i n).maps = s.maps := rfl
@[simp] theorem count64_moves (s : State) (lo hi : Fld) (i n : Nat) : (s.count64 lo hi i n).moves = s.moves := rfl
@[simp] theorem count64_fences (s : State) (lo hi : Fld) (i n : Nat) : (s.count64 lo hi i n).fences = s.fences := rfl
@[simp] theorem count64_oldMaps (s : State) (lo hi : Fld) (i n : Nat) : (s.count64 lo hi i n).oldMaps = s.oldMaps := rfl
@[simp] theorem count64_gifts (s : State) (lo hi : Fld) (i n : Nat) : (s.count64 lo hi i n).gifts = s.gifts := rfl
@[simp] theorem count64_roles (s : State) (lo hi : Fld) (i n : Nat) : (s.count64 lo hi i n).roles = s.roles := rfl
@[simp] theorem count64_outPorts (s : State) (lo hi : Fld) (i n : Nat) : (s.count64 lo hi i n).outPorts = s.outPorts := rfl
@[simp] theorem count64_planes (s : State) (lo hi : Fld) (i n : Nat) : (s.count64 lo hi i n).planes = s.planes := rfl
@[simp] theorem count64_xbar (s : State) (lo hi : Fld) (i n : Nat) : (s.count64 lo hi i n).xbar = s.xbar := rfl
@[simp] theorem count64_geom (s : State) (lo hi : Fld) (i n : Nat) : (s.count64 lo hi i n).geom = s.geom := rfl
@[simp] theorem count64_qstat (s : State) (lo hi : Fld) (i n : Nat) : (s.count64 lo hi i n).qstat = s.qstat := rfl
@[simp] theorem count64_restless (s : State) (lo hi : Fld) (i n : Nat) : (s.count64 lo hi i n).restless = s.restless := rfl
@[simp] theorem count64_chanCfg (s : State) (lo hi : Fld) (i n : Nat) : (s.count64 lo hi i n).chanCfg = s.chanCfg := rfl
@[simp] theorem count64_heldFrames (s : State) (lo hi : Fld) (i n : Nat) : (s.count64 lo hi i n).heldFrames = s.heldFrames := rfl
@[simp] theorem count64_appends (s : State) (lo hi : Fld) (i n : Nat) : (s.count64 lo hi i n).appends = s.appends := rfl
@[simp] theorem count64_ledger (s : State) (lo hi : Fld) (i n : Nat) : (s.count64 lo hi i n).ledger = s.ledger := rfl
@[simp] theorem count64_unretired (s : State) (lo hi : Fld) (i n : Nat) : (s.count64 lo hi i n).unretired = s.unretired := rfl
@[simp] theorem count64_journal (s : State) (lo hi : Fld) (i n : Nat) : (s.count64 lo hi i n).journal = s.journal := rfl
@[simp] theorem count64_stl (s : State) (lo hi : Fld) (i n : Nat) : (s.count64 lo hi i n).stl = s.stl := rfl
@[simp] theorem count64_ctl (s : State) (lo hi : Fld) (i n : Nat) : (s.count64 lo hi i n).ctl = s.ctl := rfl
@[simp] theorem count64_sessions (s : State) (lo hi : Fld) (i n : Nat) : (s.count64 lo hi i n).sessions = s.sessions := rfl
@[simp] theorem count64_starts (s : State) (lo hi : Fld) (i n : Nat) : (s.count64 lo hi i n).starts = s.starts := rfl
@[simp] theorem count64_stops (s : State) (lo hi : Fld) (i n : Nat) : (s.count64 lo hi i n).stops = s.stops := rfl
@[simp] theorem count64_sup (s : State) (lo hi : Fld) (i n : Nat) : (s.count64 lo hi i n).sup = s.sup := rfl
@[simp] theorem count64_pending (s : State) (lo hi : Fld) (i n : Nat) : (s.count64 lo hi i n).pending = s.pending := rfl

/-! `set64` -/

@[simp] theorem set64_time (s : State) (lo hi : Fld) (i v : Nat) : (s.set64 lo hi i v).time = s.time := rfl
@[simp] theorem set64_captures (s : State) (lo hi : Fld) (i v : Nat) : (s.set64 lo hi i v).captures = s.captures := rfl
@[simp] theorem set64_resp (s : State) (lo hi : Fld) (i v : Nat) : (s.set64 lo hi i v).resp = s.resp := rfl
@[simp] theorem set64_freeCtr (s : State) (lo hi : Fld) (i v : Nat) : (s.set64 lo hi i v).freeCtr = s.freeCtr := rfl
@[simp] theorem set64_maint (s : State) (lo hi : Fld) (i v : Nat) : (s.set64 lo hi i v).maint = s.maint := rfl
@[simp] theorem set64_fuses (s : State) (lo hi : Fld) (i v : Nat) : (s.set64 lo hi i v).fuses = s.fuses := rfl
@[simp] theorem set64_evRecs (s : State) (lo hi : Fld) (i v : Nat) : (s.set64 lo hi i v).evRecs = s.evRecs := rfl
@[simp] theorem set64_evLost (s : State) (lo hi : Fld) (i v : Nat) : (s.set64 lo hi i v).evLost = s.evLost := rfl
@[simp] theorem set64_ldg (s : State) (lo hi : Fld) (i v : Nat) : (s.set64 lo hi i v).ldg = s.ldg := rfl
@[simp] theorem set64_emits (s : State) (lo hi : Fld) (i v : Nat) : (s.set64 lo hi i v).emits = s.emits := rfl
@[simp] theorem set64_txts (s : State) (lo hi : Fld) (i v : Nat) : (s.set64 lo hi i v).txts = s.txts := rfl
@[simp] theorem set64_ports (s : State) (lo hi : Fld) (i v : Nat) : (s.set64 lo hi i v).ports = s.ports := rfl
@[simp] theorem set64_cells (s : State) (lo hi : Fld) (i v : Nat) : (s.set64 lo hi i v).cells = s.cells := rfl
@[simp] theorem set64_cellData (s : State) (lo hi : Fld) (i v : Nat) : (s.set64 lo hi i v).cellData = s.cellData := rfl
@[simp] theorem set64_rotors (s : State) (lo hi : Fld) (i v : Nat) : (s.set64 lo hi i v).rotors = s.rotors := rfl
@[simp] theorem set64_redLath (s : State) (lo hi : Fld) (i v : Nat) : (s.set64 lo hi i v).redLath = s.redLath := rfl
@[simp] theorem set64_graphs (s : State) (lo hi : Fld) (i v : Nat) : (s.set64 lo hi i v).graphs = s.graphs := rfl
@[simp] theorem set64_houseFrames (s : State) (lo hi : Fld) (i v : Nat) : (s.set64 lo hi i v).houseFrames = s.houseFrames := rfl
@[simp] theorem set64_drain (s : State) (lo hi : Fld) (i v : Nat) : (s.set64 lo hi i v).drain = s.drain := rfl
@[simp] theorem set64_staged (s : State) (lo hi : Fld) (i v : Nat) : (s.set64 lo hi i v).staged = s.staged := rfl
@[simp] theorem set64_clsBanks (s : State) (lo hi : Fld) (i v : Nat) : (s.set64 lo hi i v).clsBanks = s.clsBanks := rfl
@[simp] theorem set64_cipherQ (s : State) (lo hi : Fld) (i v : Nat) : (s.set64 lo hi i v).cipherQ = s.cipherQ := rfl
@[simp] theorem set64_reparseQ (s : State) (lo hi : Fld) (i v : Nat) : (s.set64 lo hi i v).reparseQ = s.reparseQ := rfl
@[simp] theorem set64_classQ (s : State) (lo hi : Fld) (i v : Nat) : (s.set64 lo hi i v).classQ = s.classQ := rfl
@[simp] theorem set64_learnQ (s : State) (lo hi : Fld) (i v : Nat) : (s.set64 lo hi i v).learnQ = s.learnQ := rfl
@[simp] theorem set64_dispQ (s : State) (lo hi : Fld) (i v : Nat) : (s.set64 lo hi i v).dispQ = s.dispQ := rfl
@[simp] theorem set64_dram (s : State) (lo hi : Fld) (i v : Nat) : (s.set64 lo hi i v).dram = s.dram := rfl
@[simp] theorem set64_hot (s : State) (lo hi : Fld) (i v : Nat) : (s.set64 lo hi i v).hot = s.hot := rfl
@[simp] theorem set64_stn (s : State) (lo hi : Fld) (i v : Nat) : (s.set64 lo hi i v).stn = s.stn := rfl
@[simp] theorem set64_stnWait (s : State) (lo hi : Fld) (i v : Nat) : (s.set64 lo hi i v).stnWait = s.stnWait := rfl
@[simp] theorem set64_useCtr (s : State) (lo hi : Fld) (i v : Nat) : (s.set64 lo hi i v).useCtr = s.useCtr := rfl
@[simp] theorem set64_reconciling (s : State) (lo hi : Fld) (i v : Nat) : (s.set64 lo hi i v).reconciling = s.reconciling := rfl
@[simp] theorem set64_needReconcile (s : State) (lo hi : Fld) (i v : Nat) : (s.set64 lo hi i v).needReconcile = s.needReconcile := rfl
@[simp] theorem set64_scans (s : State) (lo hi : Fld) (i v : Nat) : (s.set64 lo hi i v).scans = s.scans := rfl
@[simp] theorem set64_sweeps (s : State) (lo hi : Fld) (i v : Nat) : (s.set64 lo hi i v).sweeps = s.sweeps := rfl
@[simp] theorem set64_lastFound (s : State) (lo hi : Fld) (i v : Nat) : (s.set64 lo hi i v).lastFound = s.lastFound := rfl
@[simp] theorem set64_guards (s : State) (lo hi : Fld) (i v : Nat) : (s.set64 lo hi i v).guards = s.guards := rfl
@[simp] theorem set64_sweepAt (s : State) (lo hi : Fld) (i v : Nat) : (s.set64 lo hi i v).sweepAt = s.sweepAt := rfl
@[simp] theorem set64_keyCache (s : State) (lo hi : Fld) (i v : Nat) : (s.set64 lo hi i v).keyCache = s.keyCache := rfl
@[simp] theorem set64_rangeZero (s : State) (lo hi : Fld) (i v : Nat) : (s.set64 lo hi i v).rangeZero = s.rangeZero := rfl
@[simp] theorem set64_freeAfter (s : State) (lo hi : Fld) (i v : Nat) : (s.set64 lo hi i v).freeAfter = s.freeAfter := rfl
@[simp] theorem set64_chains (s : State) (lo hi : Fld) (i v : Nat) : (s.set64 lo hi i v).chains = s.chains := rfl
@[simp] theorem set64_chans (s : State) (lo hi : Fld) (i v : Nat) : (s.set64 lo hi i v).chans = s.chans := rfl
@[simp] theorem set64_deltas (s : State) (lo hi : Fld) (i v : Nat) : (s.set64 lo hi i v).deltas = s.deltas := rfl
@[simp] theorem set64_idents (s : State) (lo hi : Fld) (i v : Nat) : (s.set64 lo hi i v).idents = s.idents := rfl
@[simp] theorem set64_acceptedPlus (s : State) (lo hi : Fld) (i v : Nat) : (s.set64 lo hi i v).acceptedPlus = s.acceptedPlus := rfl
@[simp] theorem set64_threads (s : State) (lo hi : Fld) (i v : Nat) : (s.set64 lo hi i v).threads = s.threads := rfl
@[simp] theorem set64_cores (s : State) (lo hi : Fld) (i v : Nat) : (s.set64 lo hi i v).cores = s.cores := rfl
@[simp] theorem set64_units (s : State) (lo hi : Fld) (i v : Nat) : (s.set64 lo hi i v).units = s.units := rfl
@[simp] theorem set64_patches (s : State) (lo hi : Fld) (i v : Nat) : (s.set64 lo hi i v).patches = s.patches := rfl
@[simp] theorem set64_patchFrom (s : State) (lo hi : Fld) (i v : Nat) : (s.set64 lo hi i v).patchFrom = s.patchFrom := rfl
@[simp] theorem set64_sram (s : State) (lo hi : Fld) (i v : Nat) : (s.set64 lo hi i v).sram = s.sram := rfl
@[simp] theorem set64_code (s : State) (lo hi : Fld) (i v : Nat) : (s.set64 lo hi i v).code = s.code := rfl
@[simp] theorem set64_clMem (s : State) (lo hi : Fld) (i v : Nat) : (s.set64 lo hi i v).clMem = s.clMem := rfl
@[simp] theorem set64_lockQ (s : State) (lo hi : Fld) (i v : Nat) : (s.set64 lo hi i v).lockQ = s.lockQ := rfl
@[simp] theorem set64_gateFrom (s : State) (lo hi : Fld) (i v : Nat) : (s.set64 lo hi i v).gateFrom = s.gateFrom := rfl
@[simp] theorem set64_banks (s : State) (lo hi : Fld) (i v : Nat) : (s.set64 lo hi i v).banks = s.banks := rfl
@[simp] theorem set64_released (s : State) (lo hi : Fld) (i v : Nat) : (s.set64 lo hi i v).released = s.released := rfl
@[simp] theorem set64_clusterQ (s : State) (lo hi : Fld) (i v : Nat) : (s.set64 lo hi i v).clusterQ = s.clusterQ := rfl
@[simp] theorem set64_clusterRotor (s : State) (lo hi : Fld) (i v : Nat) : (s.set64 lo hi i v).clusterRotor = s.clusterRotor := rfl
@[simp] theorem set64_defers (s : State) (lo hi : Fld) (i v : Nat) : (s.set64 lo hi i v).defers = s.defers := rfl
@[simp] theorem set64_admitted (s : State) (lo hi : Fld) (i v : Nat) : (s.set64 lo hi i v).admitted = s.admitted := rfl
@[simp] theorem set64_maps (s : State) (lo hi : Fld) (i v : Nat) : (s.set64 lo hi i v).maps = s.maps := rfl
@[simp] theorem set64_moves (s : State) (lo hi : Fld) (i v : Nat) : (s.set64 lo hi i v).moves = s.moves := rfl
@[simp] theorem set64_fences (s : State) (lo hi : Fld) (i v : Nat) : (s.set64 lo hi i v).fences = s.fences := rfl
@[simp] theorem set64_oldMaps (s : State) (lo hi : Fld) (i v : Nat) : (s.set64 lo hi i v).oldMaps = s.oldMaps := rfl
@[simp] theorem set64_gifts (s : State) (lo hi : Fld) (i v : Nat) : (s.set64 lo hi i v).gifts = s.gifts := rfl
@[simp] theorem set64_roles (s : State) (lo hi : Fld) (i v : Nat) : (s.set64 lo hi i v).roles = s.roles := rfl
@[simp] theorem set64_outPorts (s : State) (lo hi : Fld) (i v : Nat) : (s.set64 lo hi i v).outPorts = s.outPorts := rfl
@[simp] theorem set64_planes (s : State) (lo hi : Fld) (i v : Nat) : (s.set64 lo hi i v).planes = s.planes := rfl
@[simp] theorem set64_xbar (s : State) (lo hi : Fld) (i v : Nat) : (s.set64 lo hi i v).xbar = s.xbar := rfl
@[simp] theorem set64_geom (s : State) (lo hi : Fld) (i v : Nat) : (s.set64 lo hi i v).geom = s.geom := rfl
@[simp] theorem set64_qstat (s : State) (lo hi : Fld) (i v : Nat) : (s.set64 lo hi i v).qstat = s.qstat := rfl
@[simp] theorem set64_restless (s : State) (lo hi : Fld) (i v : Nat) : (s.set64 lo hi i v).restless = s.restless := rfl
@[simp] theorem set64_chanCfg (s : State) (lo hi : Fld) (i v : Nat) : (s.set64 lo hi i v).chanCfg = s.chanCfg := rfl
@[simp] theorem set64_heldFrames (s : State) (lo hi : Fld) (i v : Nat) : (s.set64 lo hi i v).heldFrames = s.heldFrames := rfl
@[simp] theorem set64_appends (s : State) (lo hi : Fld) (i v : Nat) : (s.set64 lo hi i v).appends = s.appends := rfl
@[simp] theorem set64_ledger (s : State) (lo hi : Fld) (i v : Nat) : (s.set64 lo hi i v).ledger = s.ledger := rfl
@[simp] theorem set64_unretired (s : State) (lo hi : Fld) (i v : Nat) : (s.set64 lo hi i v).unretired = s.unretired := rfl
@[simp] theorem set64_journal (s : State) (lo hi : Fld) (i v : Nat) : (s.set64 lo hi i v).journal = s.journal := rfl
@[simp] theorem set64_stl (s : State) (lo hi : Fld) (i v : Nat) : (s.set64 lo hi i v).stl = s.stl := rfl
@[simp] theorem set64_ctl (s : State) (lo hi : Fld) (i v : Nat) : (s.set64 lo hi i v).ctl = s.ctl := rfl
@[simp] theorem set64_sessions (s : State) (lo hi : Fld) (i v : Nat) : (s.set64 lo hi i v).sessions = s.sessions := rfl
@[simp] theorem set64_starts (s : State) (lo hi : Fld) (i v : Nat) : (s.set64 lo hi i v).starts = s.starts := rfl
@[simp] theorem set64_stops (s : State) (lo hi : Fld) (i v : Nat) : (s.set64 lo hi i v).stops = s.stops := rfl
@[simp] theorem set64_sup (s : State) (lo hi : Fld) (i v : Nat) : (s.set64 lo hi i v).sup = s.sup := rfl
@[simp] theorem set64_pending (s : State) (lo hi : Fld) (i v : Nat) : (s.set64 lo hi i v).pending = s.pending := rfl

/-! `emit` -/

@[simp] theorem emit_emits (s : State) (e : Emit) : (s.emit e).emits = e :: s.emits := rfl
@[simp] theorem emit_time (s : State) (e : Emit) : (s.emit e).time = s.time := rfl
@[simp] theorem emit_regs (s : State) (e : Emit) : (s.emit e).regs = s.regs := rfl
@[simp] theorem emit_captures (s : State) (e : Emit) : (s.emit e).captures = s.captures := rfl
@[simp] theorem emit_resp (s : State) (e : Emit) : (s.emit e).resp = s.resp := rfl
@[simp] theorem emit_freeCtr (s : State) (e : Emit) : (s.emit e).freeCtr = s.freeCtr := rfl
@[simp] theorem emit_maint (s : State) (e : Emit) : (s.emit e).maint = s.maint := rfl
@[simp] theorem emit_fuses (s : State) (e : Emit) : (s.emit e).fuses = s.fuses := rfl
@[simp] theorem emit_evRecs (s : State) (e : Emit) : (s.emit e).evRecs = s.evRecs := rfl
@[simp] theorem emit_evLost (s : State) (e : Emit) : (s.emit e).evLost = s.evLost := rfl
@[simp] theorem emit_ldg (s : State) (e : Emit) : (s.emit e).ldg = s.ldg := rfl
@[simp] theorem emit_txts (s : State) (e : Emit) : (s.emit e).txts = s.txts := rfl
@[simp] theorem emit_ports (s : State) (e : Emit) : (s.emit e).ports = s.ports := rfl
@[simp] theorem emit_cells (s : State) (e : Emit) : (s.emit e).cells = s.cells := rfl
@[simp] theorem emit_cellData (s : State) (e : Emit) : (s.emit e).cellData = s.cellData := rfl
@[simp] theorem emit_rotors (s : State) (e : Emit) : (s.emit e).rotors = s.rotors := rfl
@[simp] theorem emit_redLath (s : State) (e : Emit) : (s.emit e).redLath = s.redLath := rfl
@[simp] theorem emit_graphs (s : State) (e : Emit) : (s.emit e).graphs = s.graphs := rfl
@[simp] theorem emit_houseFrames (s : State) (e : Emit) : (s.emit e).houseFrames = s.houseFrames := rfl
@[simp] theorem emit_drain (s : State) (e : Emit) : (s.emit e).drain = s.drain := rfl
@[simp] theorem emit_staged (s : State) (e : Emit) : (s.emit e).staged = s.staged := rfl
@[simp] theorem emit_clsBanks (s : State) (e : Emit) : (s.emit e).clsBanks = s.clsBanks := rfl
@[simp] theorem emit_cipherQ (s : State) (e : Emit) : (s.emit e).cipherQ = s.cipherQ := rfl
@[simp] theorem emit_reparseQ (s : State) (e : Emit) : (s.emit e).reparseQ = s.reparseQ := rfl
@[simp] theorem emit_classQ (s : State) (e : Emit) : (s.emit e).classQ = s.classQ := rfl
@[simp] theorem emit_learnQ (s : State) (e : Emit) : (s.emit e).learnQ = s.learnQ := rfl
@[simp] theorem emit_dispQ (s : State) (e : Emit) : (s.emit e).dispQ = s.dispQ := rfl
@[simp] theorem emit_dram (s : State) (e : Emit) : (s.emit e).dram = s.dram := rfl
@[simp] theorem emit_hot (s : State) (e : Emit) : (s.emit e).hot = s.hot := rfl
@[simp] theorem emit_stn (s : State) (e : Emit) : (s.emit e).stn = s.stn := rfl
@[simp] theorem emit_stnWait (s : State) (e : Emit) : (s.emit e).stnWait = s.stnWait := rfl
@[simp] theorem emit_useCtr (s : State) (e : Emit) : (s.emit e).useCtr = s.useCtr := rfl
@[simp] theorem emit_reconciling (s : State) (e : Emit) : (s.emit e).reconciling = s.reconciling := rfl
@[simp] theorem emit_needReconcile (s : State) (e : Emit) : (s.emit e).needReconcile = s.needReconcile := rfl
@[simp] theorem emit_scans (s : State) (e : Emit) : (s.emit e).scans = s.scans := rfl
@[simp] theorem emit_sweeps (s : State) (e : Emit) : (s.emit e).sweeps = s.sweeps := rfl
@[simp] theorem emit_lastFound (s : State) (e : Emit) : (s.emit e).lastFound = s.lastFound := rfl
@[simp] theorem emit_guards (s : State) (e : Emit) : (s.emit e).guards = s.guards := rfl
@[simp] theorem emit_sweepAt (s : State) (e : Emit) : (s.emit e).sweepAt = s.sweepAt := rfl
@[simp] theorem emit_keyCache (s : State) (e : Emit) : (s.emit e).keyCache = s.keyCache := rfl
@[simp] theorem emit_rangeZero (s : State) (e : Emit) : (s.emit e).rangeZero = s.rangeZero := rfl
@[simp] theorem emit_freeAfter (s : State) (e : Emit) : (s.emit e).freeAfter = s.freeAfter := rfl
@[simp] theorem emit_chains (s : State) (e : Emit) : (s.emit e).chains = s.chains := rfl
@[simp] theorem emit_chans (s : State) (e : Emit) : (s.emit e).chans = s.chans := rfl
@[simp] theorem emit_deltas (s : State) (e : Emit) : (s.emit e).deltas = s.deltas := rfl
@[simp] theorem emit_idents (s : State) (e : Emit) : (s.emit e).idents = s.idents := rfl
@[simp] theorem emit_acceptedPlus (s : State) (e : Emit) : (s.emit e).acceptedPlus = s.acceptedPlus := rfl
@[simp] theorem emit_threads (s : State) (e : Emit) : (s.emit e).threads = s.threads := rfl
@[simp] theorem emit_cores (s : State) (e : Emit) : (s.emit e).cores = s.cores := rfl
@[simp] theorem emit_units (s : State) (e : Emit) : (s.emit e).units = s.units := rfl
@[simp] theorem emit_patches (s : State) (e : Emit) : (s.emit e).patches = s.patches := rfl
@[simp] theorem emit_patchFrom (s : State) (e : Emit) : (s.emit e).patchFrom = s.patchFrom := rfl
@[simp] theorem emit_sram (s : State) (e : Emit) : (s.emit e).sram = s.sram := rfl
@[simp] theorem emit_code (s : State) (e : Emit) : (s.emit e).code = s.code := rfl
@[simp] theorem emit_clMem (s : State) (e : Emit) : (s.emit e).clMem = s.clMem := rfl
@[simp] theorem emit_lockQ (s : State) (e : Emit) : (s.emit e).lockQ = s.lockQ := rfl
@[simp] theorem emit_gateFrom (s : State) (e : Emit) : (s.emit e).gateFrom = s.gateFrom := rfl
@[simp] theorem emit_banks (s : State) (e : Emit) : (s.emit e).banks = s.banks := rfl
@[simp] theorem emit_released (s : State) (e : Emit) : (s.emit e).released = s.released := rfl
@[simp] theorem emit_clusterQ (s : State) (e : Emit) : (s.emit e).clusterQ = s.clusterQ := rfl
@[simp] theorem emit_clusterRotor (s : State) (e : Emit) : (s.emit e).clusterRotor = s.clusterRotor := rfl
@[simp] theorem emit_defers (s : State) (e : Emit) : (s.emit e).defers = s.defers := rfl
@[simp] theorem emit_admitted (s : State) (e : Emit) : (s.emit e).admitted = s.admitted := rfl
@[simp] theorem emit_maps (s : State) (e : Emit) : (s.emit e).maps = s.maps := rfl
@[simp] theorem emit_moves (s : State) (e : Emit) : (s.emit e).moves = s.moves := rfl
@[simp] theorem emit_fences (s : State) (e : Emit) : (s.emit e).fences = s.fences := rfl
@[simp] theorem emit_oldMaps (s : State) (e : Emit) : (s.emit e).oldMaps = s.oldMaps := rfl
@[simp] theorem emit_gifts (s : State) (e : Emit) : (s.emit e).gifts = s.gifts := rfl
@[simp] theorem emit_roles (s : State) (e : Emit) : (s.emit e).roles = s.roles := rfl
@[simp] theorem emit_outPorts (s : State) (e : Emit) : (s.emit e).outPorts = s.outPorts := rfl
@[simp] theorem emit_planes (s : State) (e : Emit) : (s.emit e).planes = s.planes := rfl
@[simp] theorem emit_xbar (s : State) (e : Emit) : (s.emit e).xbar = s.xbar := rfl
@[simp] theorem emit_geom (s : State) (e : Emit) : (s.emit e).geom = s.geom := rfl
@[simp] theorem emit_qstat (s : State) (e : Emit) : (s.emit e).qstat = s.qstat := rfl
@[simp] theorem emit_restless (s : State) (e : Emit) : (s.emit e).restless = s.restless := rfl
@[simp] theorem emit_chanCfg (s : State) (e : Emit) : (s.emit e).chanCfg = s.chanCfg := rfl
@[simp] theorem emit_heldFrames (s : State) (e : Emit) : (s.emit e).heldFrames = s.heldFrames := rfl
@[simp] theorem emit_appends (s : State) (e : Emit) : (s.emit e).appends = s.appends := rfl
@[simp] theorem emit_ledger (s : State) (e : Emit) : (s.emit e).ledger = s.ledger := rfl
@[simp] theorem emit_unretired (s : State) (e : Emit) : (s.emit e).unretired = s.unretired := rfl
@[simp] theorem emit_journal (s : State) (e : Emit) : (s.emit e).journal = s.journal := rfl
@[simp] theorem emit_stl (s : State) (e : Emit) : (s.emit e).stl = s.stl := rfl
@[simp] theorem emit_ctl (s : State) (e : Emit) : (s.emit e).ctl = s.ctl := rfl
@[simp] theorem emit_sessions (s : State) (e : Emit) : (s.emit e).sessions = s.sessions := rfl
@[simp] theorem emit_starts (s : State) (e : Emit) : (s.emit e).starts = s.starts := rfl
@[simp] theorem emit_stops (s : State) (e : Emit) : (s.emit e).stops = s.stops := rfl
@[simp] theorem emit_sup (s : State) (e : Emit) : (s.emit e).sup = s.sup := rfl
@[simp] theorem emit_pending (s : State) (e : Emit) : (s.emit e).pending = s.pending := rfl

/-! `setTime` -/

@[simp] theorem setTime_time (s : State) (f : Time → Time) : (s.setTime f).time = f s.time := rfl
@[simp] theorem setTime_regs (s : State) (f : Time → Time) : (s.setTime f).regs = s.regs := rfl
@[simp] theorem setTime_captures (s : State) (f : Time → Time) : (s.setTime f).captures = s.captures := rfl
@[simp] theorem setTime_resp (s : State) (f : Time → Time) : (s.setTime f).resp = s.resp := rfl
@[simp] theorem setTime_freeCtr (s : State) (f : Time → Time) : (s.setTime f).freeCtr = s.freeCtr := rfl
@[simp] theorem setTime_maint (s : State) (f : Time → Time) : (s.setTime f).maint = s.maint := rfl
@[simp] theorem setTime_fuses (s : State) (f : Time → Time) : (s.setTime f).fuses = s.fuses := rfl
@[simp] theorem setTime_evRecs (s : State) (f : Time → Time) : (s.setTime f).evRecs = s.evRecs := rfl
@[simp] theorem setTime_evLost (s : State) (f : Time → Time) : (s.setTime f).evLost = s.evLost := rfl
@[simp] theorem setTime_ldg (s : State) (f : Time → Time) : (s.setTime f).ldg = s.ldg := rfl
@[simp] theorem setTime_emits (s : State) (f : Time → Time) : (s.setTime f).emits = s.emits := rfl
@[simp] theorem setTime_txts (s : State) (f : Time → Time) : (s.setTime f).txts = s.txts := rfl
@[simp] theorem setTime_ports (s : State) (f : Time → Time) : (s.setTime f).ports = s.ports := rfl
@[simp] theorem setTime_cells (s : State) (f : Time → Time) : (s.setTime f).cells = s.cells := rfl
@[simp] theorem setTime_cellData (s : State) (f : Time → Time) : (s.setTime f).cellData = s.cellData := rfl
@[simp] theorem setTime_rotors (s : State) (f : Time → Time) : (s.setTime f).rotors = s.rotors := rfl
@[simp] theorem setTime_redLath (s : State) (f : Time → Time) : (s.setTime f).redLath = s.redLath := rfl
@[simp] theorem setTime_graphs (s : State) (f : Time → Time) : (s.setTime f).graphs = s.graphs := rfl
@[simp] theorem setTime_houseFrames (s : State) (f : Time → Time) : (s.setTime f).houseFrames = s.houseFrames := rfl
@[simp] theorem setTime_drain (s : State) (f : Time → Time) : (s.setTime f).drain = s.drain := rfl
@[simp] theorem setTime_staged (s : State) (f : Time → Time) : (s.setTime f).staged = s.staged := rfl
@[simp] theorem setTime_clsBanks (s : State) (f : Time → Time) : (s.setTime f).clsBanks = s.clsBanks := rfl
@[simp] theorem setTime_cipherQ (s : State) (f : Time → Time) : (s.setTime f).cipherQ = s.cipherQ := rfl
@[simp] theorem setTime_reparseQ (s : State) (f : Time → Time) : (s.setTime f).reparseQ = s.reparseQ := rfl
@[simp] theorem setTime_classQ (s : State) (f : Time → Time) : (s.setTime f).classQ = s.classQ := rfl
@[simp] theorem setTime_learnQ (s : State) (f : Time → Time) : (s.setTime f).learnQ = s.learnQ := rfl
@[simp] theorem setTime_dispQ (s : State) (f : Time → Time) : (s.setTime f).dispQ = s.dispQ := rfl
@[simp] theorem setTime_dram (s : State) (f : Time → Time) : (s.setTime f).dram = s.dram := rfl
@[simp] theorem setTime_hot (s : State) (f : Time → Time) : (s.setTime f).hot = s.hot := rfl
@[simp] theorem setTime_stn (s : State) (f : Time → Time) : (s.setTime f).stn = s.stn := rfl
@[simp] theorem setTime_stnWait (s : State) (f : Time → Time) : (s.setTime f).stnWait = s.stnWait := rfl
@[simp] theorem setTime_useCtr (s : State) (f : Time → Time) : (s.setTime f).useCtr = s.useCtr := rfl
@[simp] theorem setTime_reconciling (s : State) (f : Time → Time) : (s.setTime f).reconciling = s.reconciling := rfl
@[simp] theorem setTime_needReconcile (s : State) (f : Time → Time) : (s.setTime f).needReconcile = s.needReconcile := rfl
@[simp] theorem setTime_scans (s : State) (f : Time → Time) : (s.setTime f).scans = s.scans := rfl
@[simp] theorem setTime_sweeps (s : State) (f : Time → Time) : (s.setTime f).sweeps = s.sweeps := rfl
@[simp] theorem setTime_lastFound (s : State) (f : Time → Time) : (s.setTime f).lastFound = s.lastFound := rfl
@[simp] theorem setTime_guards (s : State) (f : Time → Time) : (s.setTime f).guards = s.guards := rfl
@[simp] theorem setTime_sweepAt (s : State) (f : Time → Time) : (s.setTime f).sweepAt = s.sweepAt := rfl
@[simp] theorem setTime_keyCache (s : State) (f : Time → Time) : (s.setTime f).keyCache = s.keyCache := rfl
@[simp] theorem setTime_rangeZero (s : State) (f : Time → Time) : (s.setTime f).rangeZero = s.rangeZero := rfl
@[simp] theorem setTime_freeAfter (s : State) (f : Time → Time) : (s.setTime f).freeAfter = s.freeAfter := rfl
@[simp] theorem setTime_chains (s : State) (f : Time → Time) : (s.setTime f).chains = s.chains := rfl
@[simp] theorem setTime_chans (s : State) (f : Time → Time) : (s.setTime f).chans = s.chans := rfl
@[simp] theorem setTime_deltas (s : State) (f : Time → Time) : (s.setTime f).deltas = s.deltas := rfl
@[simp] theorem setTime_idents (s : State) (f : Time → Time) : (s.setTime f).idents = s.idents := rfl
@[simp] theorem setTime_acceptedPlus (s : State) (f : Time → Time) : (s.setTime f).acceptedPlus = s.acceptedPlus := rfl
@[simp] theorem setTime_threads (s : State) (f : Time → Time) : (s.setTime f).threads = s.threads := rfl
@[simp] theorem setTime_cores (s : State) (f : Time → Time) : (s.setTime f).cores = s.cores := rfl
@[simp] theorem setTime_units (s : State) (f : Time → Time) : (s.setTime f).units = s.units := rfl
@[simp] theorem setTime_patches (s : State) (f : Time → Time) : (s.setTime f).patches = s.patches := rfl
@[simp] theorem setTime_patchFrom (s : State) (f : Time → Time) : (s.setTime f).patchFrom = s.patchFrom := rfl
@[simp] theorem setTime_sram (s : State) (f : Time → Time) : (s.setTime f).sram = s.sram := rfl
@[simp] theorem setTime_code (s : State) (f : Time → Time) : (s.setTime f).code = s.code := rfl
@[simp] theorem setTime_clMem (s : State) (f : Time → Time) : (s.setTime f).clMem = s.clMem := rfl
@[simp] theorem setTime_lockQ (s : State) (f : Time → Time) : (s.setTime f).lockQ = s.lockQ := rfl
@[simp] theorem setTime_gateFrom (s : State) (f : Time → Time) : (s.setTime f).gateFrom = s.gateFrom := rfl
@[simp] theorem setTime_banks (s : State) (f : Time → Time) : (s.setTime f).banks = s.banks := rfl
@[simp] theorem setTime_released (s : State) (f : Time → Time) : (s.setTime f).released = s.released := rfl
@[simp] theorem setTime_clusterQ (s : State) (f : Time → Time) : (s.setTime f).clusterQ = s.clusterQ := rfl
@[simp] theorem setTime_clusterRotor (s : State) (f : Time → Time) : (s.setTime f).clusterRotor = s.clusterRotor := rfl
@[simp] theorem setTime_defers (s : State) (f : Time → Time) : (s.setTime f).defers = s.defers := rfl
@[simp] theorem setTime_admitted (s : State) (f : Time → Time) : (s.setTime f).admitted = s.admitted := rfl
@[simp] theorem setTime_maps (s : State) (f : Time → Time) : (s.setTime f).maps = s.maps := rfl
@[simp] theorem setTime_moves (s : State) (f : Time → Time) : (s.setTime f).moves = s.moves := rfl
@[simp] theorem setTime_fences (s : State) (f : Time → Time) : (s.setTime f).fences = s.fences := rfl
@[simp] theorem setTime_oldMaps (s : State) (f : Time → Time) : (s.setTime f).oldMaps = s.oldMaps := rfl
@[simp] theorem setTime_gifts (s : State) (f : Time → Time) : (s.setTime f).gifts = s.gifts := rfl
@[simp] theorem setTime_roles (s : State) (f : Time → Time) : (s.setTime f).roles = s.roles := rfl
@[simp] theorem setTime_outPorts (s : State) (f : Time → Time) : (s.setTime f).outPorts = s.outPorts := rfl
@[simp] theorem setTime_planes (s : State) (f : Time → Time) : (s.setTime f).planes = s.planes := rfl
@[simp] theorem setTime_xbar (s : State) (f : Time → Time) : (s.setTime f).xbar = s.xbar := rfl
@[simp] theorem setTime_geom (s : State) (f : Time → Time) : (s.setTime f).geom = s.geom := rfl
@[simp] theorem setTime_qstat (s : State) (f : Time → Time) : (s.setTime f).qstat = s.qstat := rfl
@[simp] theorem setTime_restless (s : State) (f : Time → Time) : (s.setTime f).restless = s.restless := rfl
@[simp] theorem setTime_chanCfg (s : State) (f : Time → Time) : (s.setTime f).chanCfg = s.chanCfg := rfl
@[simp] theorem setTime_heldFrames (s : State) (f : Time → Time) : (s.setTime f).heldFrames = s.heldFrames := rfl
@[simp] theorem setTime_appends (s : State) (f : Time → Time) : (s.setTime f).appends = s.appends := rfl
@[simp] theorem setTime_ledger (s : State) (f : Time → Time) : (s.setTime f).ledger = s.ledger := rfl
@[simp] theorem setTime_unretired (s : State) (f : Time → Time) : (s.setTime f).unretired = s.unretired := rfl
@[simp] theorem setTime_journal (s : State) (f : Time → Time) : (s.setTime f).journal = s.journal := rfl
@[simp] theorem setTime_stl (s : State) (f : Time → Time) : (s.setTime f).stl = s.stl := rfl
@[simp] theorem setTime_ctl (s : State) (f : Time → Time) : (s.setTime f).ctl = s.ctl := rfl
@[simp] theorem setTime_sessions (s : State) (f : Time → Time) : (s.setTime f).sessions = s.sessions := rfl
@[simp] theorem setTime_starts (s : State) (f : Time → Time) : (s.setTime f).starts = s.starts := rfl
@[simp] theorem setTime_stops (s : State) (f : Time → Time) : (s.setTime f).stops = s.stops := rfl
@[simp] theorem setTime_sup (s : State) (f : Time → Time) : (s.setTime f).sup = s.sup := rfl
@[simp] theorem setTime_pending (s : State) (f : Time → Time) : (s.setTime f).pending = s.pending := rfl

/-! `setTh` -/

@[simp] theorem setTh_threads (s : State) (t : Nat) (f : Thread → Thread) : (s.setTh t f).threads = s.threads.set Thread.reset t (f (s.th t)) := rfl
@[simp] theorem setTh_time (s : State) (t : Nat) (f : Thread → Thread) : (s.setTh t f).time = s.time := rfl
@[simp] theorem setTh_regs (s : State) (t : Nat) (f : Thread → Thread) : (s.setTh t f).regs = s.regs := rfl
@[simp] theorem setTh_captures (s : State) (t : Nat) (f : Thread → Thread) : (s.setTh t f).captures = s.captures := rfl
@[simp] theorem setTh_resp (s : State) (t : Nat) (f : Thread → Thread) : (s.setTh t f).resp = s.resp := rfl
@[simp] theorem setTh_freeCtr (s : State) (t : Nat) (f : Thread → Thread) : (s.setTh t f).freeCtr = s.freeCtr := rfl
@[simp] theorem setTh_maint (s : State) (t : Nat) (f : Thread → Thread) : (s.setTh t f).maint = s.maint := rfl
@[simp] theorem setTh_fuses (s : State) (t : Nat) (f : Thread → Thread) : (s.setTh t f).fuses = s.fuses := rfl
@[simp] theorem setTh_evRecs (s : State) (t : Nat) (f : Thread → Thread) : (s.setTh t f).evRecs = s.evRecs := rfl
@[simp] theorem setTh_evLost (s : State) (t : Nat) (f : Thread → Thread) : (s.setTh t f).evLost = s.evLost := rfl
@[simp] theorem setTh_ldg (s : State) (t : Nat) (f : Thread → Thread) : (s.setTh t f).ldg = s.ldg := rfl
@[simp] theorem setTh_emits (s : State) (t : Nat) (f : Thread → Thread) : (s.setTh t f).emits = s.emits := rfl
@[simp] theorem setTh_txts (s : State) (t : Nat) (f : Thread → Thread) : (s.setTh t f).txts = s.txts := rfl
@[simp] theorem setTh_ports (s : State) (t : Nat) (f : Thread → Thread) : (s.setTh t f).ports = s.ports := rfl
@[simp] theorem setTh_cells (s : State) (t : Nat) (f : Thread → Thread) : (s.setTh t f).cells = s.cells := rfl
@[simp] theorem setTh_cellData (s : State) (t : Nat) (f : Thread → Thread) : (s.setTh t f).cellData = s.cellData := rfl
@[simp] theorem setTh_rotors (s : State) (t : Nat) (f : Thread → Thread) : (s.setTh t f).rotors = s.rotors := rfl
@[simp] theorem setTh_redLath (s : State) (t : Nat) (f : Thread → Thread) : (s.setTh t f).redLath = s.redLath := rfl
@[simp] theorem setTh_graphs (s : State) (t : Nat) (f : Thread → Thread) : (s.setTh t f).graphs = s.graphs := rfl
@[simp] theorem setTh_houseFrames (s : State) (t : Nat) (f : Thread → Thread) : (s.setTh t f).houseFrames = s.houseFrames := rfl
@[simp] theorem setTh_drain (s : State) (t : Nat) (f : Thread → Thread) : (s.setTh t f).drain = s.drain := rfl
@[simp] theorem setTh_staged (s : State) (t : Nat) (f : Thread → Thread) : (s.setTh t f).staged = s.staged := rfl
@[simp] theorem setTh_clsBanks (s : State) (t : Nat) (f : Thread → Thread) : (s.setTh t f).clsBanks = s.clsBanks := rfl
@[simp] theorem setTh_cipherQ (s : State) (t : Nat) (f : Thread → Thread) : (s.setTh t f).cipherQ = s.cipherQ := rfl
@[simp] theorem setTh_reparseQ (s : State) (t : Nat) (f : Thread → Thread) : (s.setTh t f).reparseQ = s.reparseQ := rfl
@[simp] theorem setTh_classQ (s : State) (t : Nat) (f : Thread → Thread) : (s.setTh t f).classQ = s.classQ := rfl
@[simp] theorem setTh_learnQ (s : State) (t : Nat) (f : Thread → Thread) : (s.setTh t f).learnQ = s.learnQ := rfl
@[simp] theorem setTh_dispQ (s : State) (t : Nat) (f : Thread → Thread) : (s.setTh t f).dispQ = s.dispQ := rfl
@[simp] theorem setTh_dram (s : State) (t : Nat) (f : Thread → Thread) : (s.setTh t f).dram = s.dram := rfl
@[simp] theorem setTh_hot (s : State) (t : Nat) (f : Thread → Thread) : (s.setTh t f).hot = s.hot := rfl
@[simp] theorem setTh_stn (s : State) (t : Nat) (f : Thread → Thread) : (s.setTh t f).stn = s.stn := rfl
@[simp] theorem setTh_stnWait (s : State) (t : Nat) (f : Thread → Thread) : (s.setTh t f).stnWait = s.stnWait := rfl
@[simp] theorem setTh_useCtr (s : State) (t : Nat) (f : Thread → Thread) : (s.setTh t f).useCtr = s.useCtr := rfl
@[simp] theorem setTh_reconciling (s : State) (t : Nat) (f : Thread → Thread) : (s.setTh t f).reconciling = s.reconciling := rfl
@[simp] theorem setTh_needReconcile (s : State) (t : Nat) (f : Thread → Thread) : (s.setTh t f).needReconcile = s.needReconcile := rfl
@[simp] theorem setTh_scans (s : State) (t : Nat) (f : Thread → Thread) : (s.setTh t f).scans = s.scans := rfl
@[simp] theorem setTh_sweeps (s : State) (t : Nat) (f : Thread → Thread) : (s.setTh t f).sweeps = s.sweeps := rfl
@[simp] theorem setTh_lastFound (s : State) (t : Nat) (f : Thread → Thread) : (s.setTh t f).lastFound = s.lastFound := rfl
@[simp] theorem setTh_guards (s : State) (t : Nat) (f : Thread → Thread) : (s.setTh t f).guards = s.guards := rfl
@[simp] theorem setTh_sweepAt (s : State) (t : Nat) (f : Thread → Thread) : (s.setTh t f).sweepAt = s.sweepAt := rfl
@[simp] theorem setTh_keyCache (s : State) (t : Nat) (f : Thread → Thread) : (s.setTh t f).keyCache = s.keyCache := rfl
@[simp] theorem setTh_rangeZero (s : State) (t : Nat) (f : Thread → Thread) : (s.setTh t f).rangeZero = s.rangeZero := rfl
@[simp] theorem setTh_freeAfter (s : State) (t : Nat) (f : Thread → Thread) : (s.setTh t f).freeAfter = s.freeAfter := rfl
@[simp] theorem setTh_chains (s : State) (t : Nat) (f : Thread → Thread) : (s.setTh t f).chains = s.chains := rfl
@[simp] theorem setTh_chans (s : State) (t : Nat) (f : Thread → Thread) : (s.setTh t f).chans = s.chans := rfl
@[simp] theorem setTh_deltas (s : State) (t : Nat) (f : Thread → Thread) : (s.setTh t f).deltas = s.deltas := rfl
@[simp] theorem setTh_idents (s : State) (t : Nat) (f : Thread → Thread) : (s.setTh t f).idents = s.idents := rfl
@[simp] theorem setTh_acceptedPlus (s : State) (t : Nat) (f : Thread → Thread) : (s.setTh t f).acceptedPlus = s.acceptedPlus := rfl
@[simp] theorem setTh_cores (s : State) (t : Nat) (f : Thread → Thread) : (s.setTh t f).cores = s.cores := rfl
@[simp] theorem setTh_units (s : State) (t : Nat) (f : Thread → Thread) : (s.setTh t f).units = s.units := rfl
@[simp] theorem setTh_patches (s : State) (t : Nat) (f : Thread → Thread) : (s.setTh t f).patches = s.patches := rfl
@[simp] theorem setTh_patchFrom (s : State) (t : Nat) (f : Thread → Thread) : (s.setTh t f).patchFrom = s.patchFrom := rfl
@[simp] theorem setTh_sram (s : State) (t : Nat) (f : Thread → Thread) : (s.setTh t f).sram = s.sram := rfl
@[simp] theorem setTh_code (s : State) (t : Nat) (f : Thread → Thread) : (s.setTh t f).code = s.code := rfl
@[simp] theorem setTh_clMem (s : State) (t : Nat) (f : Thread → Thread) : (s.setTh t f).clMem = s.clMem := rfl
@[simp] theorem setTh_lockQ (s : State) (t : Nat) (f : Thread → Thread) : (s.setTh t f).lockQ = s.lockQ := rfl
@[simp] theorem setTh_gateFrom (s : State) (t : Nat) (f : Thread → Thread) : (s.setTh t f).gateFrom = s.gateFrom := rfl
@[simp] theorem setTh_banks (s : State) (t : Nat) (f : Thread → Thread) : (s.setTh t f).banks = s.banks := rfl
@[simp] theorem setTh_released (s : State) (t : Nat) (f : Thread → Thread) : (s.setTh t f).released = s.released := rfl
@[simp] theorem setTh_clusterQ (s : State) (t : Nat) (f : Thread → Thread) : (s.setTh t f).clusterQ = s.clusterQ := rfl
@[simp] theorem setTh_clusterRotor (s : State) (t : Nat) (f : Thread → Thread) : (s.setTh t f).clusterRotor = s.clusterRotor := rfl
@[simp] theorem setTh_defers (s : State) (t : Nat) (f : Thread → Thread) : (s.setTh t f).defers = s.defers := rfl
@[simp] theorem setTh_admitted (s : State) (t : Nat) (f : Thread → Thread) : (s.setTh t f).admitted = s.admitted := rfl
@[simp] theorem setTh_maps (s : State) (t : Nat) (f : Thread → Thread) : (s.setTh t f).maps = s.maps := rfl
@[simp] theorem setTh_moves (s : State) (t : Nat) (f : Thread → Thread) : (s.setTh t f).moves = s.moves := rfl
@[simp] theorem setTh_fences (s : State) (t : Nat) (f : Thread → Thread) : (s.setTh t f).fences = s.fences := rfl
@[simp] theorem setTh_oldMaps (s : State) (t : Nat) (f : Thread → Thread) : (s.setTh t f).oldMaps = s.oldMaps := rfl
@[simp] theorem setTh_gifts (s : State) (t : Nat) (f : Thread → Thread) : (s.setTh t f).gifts = s.gifts := rfl
@[simp] theorem setTh_roles (s : State) (t : Nat) (f : Thread → Thread) : (s.setTh t f).roles = s.roles := rfl
@[simp] theorem setTh_outPorts (s : State) (t : Nat) (f : Thread → Thread) : (s.setTh t f).outPorts = s.outPorts := rfl
@[simp] theorem setTh_planes (s : State) (t : Nat) (f : Thread → Thread) : (s.setTh t f).planes = s.planes := rfl
@[simp] theorem setTh_xbar (s : State) (t : Nat) (f : Thread → Thread) : (s.setTh t f).xbar = s.xbar := rfl
@[simp] theorem setTh_geom (s : State) (t : Nat) (f : Thread → Thread) : (s.setTh t f).geom = s.geom := rfl
@[simp] theorem setTh_qstat (s : State) (t : Nat) (f : Thread → Thread) : (s.setTh t f).qstat = s.qstat := rfl
@[simp] theorem setTh_restless (s : State) (t : Nat) (f : Thread → Thread) : (s.setTh t f).restless = s.restless := rfl
@[simp] theorem setTh_chanCfg (s : State) (t : Nat) (f : Thread → Thread) : (s.setTh t f).chanCfg = s.chanCfg := rfl
@[simp] theorem setTh_heldFrames (s : State) (t : Nat) (f : Thread → Thread) : (s.setTh t f).heldFrames = s.heldFrames := rfl
@[simp] theorem setTh_appends (s : State) (t : Nat) (f : Thread → Thread) : (s.setTh t f).appends = s.appends := rfl
@[simp] theorem setTh_ledger (s : State) (t : Nat) (f : Thread → Thread) : (s.setTh t f).ledger = s.ledger := rfl
@[simp] theorem setTh_unretired (s : State) (t : Nat) (f : Thread → Thread) : (s.setTh t f).unretired = s.unretired := rfl
@[simp] theorem setTh_journal (s : State) (t : Nat) (f : Thread → Thread) : (s.setTh t f).journal = s.journal := rfl
@[simp] theorem setTh_stl (s : State) (t : Nat) (f : Thread → Thread) : (s.setTh t f).stl = s.stl := rfl
@[simp] theorem setTh_ctl (s : State) (t : Nat) (f : Thread → Thread) : (s.setTh t f).ctl = s.ctl := rfl
@[simp] theorem setTh_sessions (s : State) (t : Nat) (f : Thread → Thread) : (s.setTh t f).sessions = s.sessions := rfl
@[simp] theorem setTh_starts (s : State) (t : Nat) (f : Thread → Thread) : (s.setTh t f).starts = s.starts := rfl
@[simp] theorem setTh_stops (s : State) (t : Nat) (f : Thread → Thread) : (s.setTh t f).stops = s.stops := rfl
@[simp] theorem setTh_sup (s : State) (t : Nat) (f : Thread → Thread) : (s.setTh t f).sup = s.sup := rfl
@[simp] theorem setTh_pending (s : State) (t : Nat) (f : Thread → Thread) : (s.setTh t f).pending = s.pending := rfl

/-! `setCore` -/

@[simp] theorem setCore_cores (s : State) (k : Nat) (f : Core → Core) : (s.setCore k f).cores = s.cores.set Core.reset k (f (s.core k)) := rfl
@[simp] theorem setCore_time (s : State) (k : Nat) (f : Core → Core) : (s.setCore k f).time = s.time := rfl
@[simp] theorem setCore_regs (s : State) (k : Nat) (f : Core → Core) : (s.setCore k f).regs = s.regs := rfl
@[simp] theorem setCore_captures (s : State) (k : Nat) (f : Core → Core) : (s.setCore k f).captures = s.captures := rfl
@[simp] theorem setCore_resp (s : State) (k : Nat) (f : Core → Core) : (s.setCore k f).resp = s.resp := rfl
@[simp] theorem setCore_freeCtr (s : State) (k : Nat) (f : Core → Core) : (s.setCore k f).freeCtr = s.freeCtr := rfl
@[simp] theorem setCore_maint (s : State) (k : Nat) (f : Core → Core) : (s.setCore k f).maint = s.maint := rfl
@[simp] theorem setCore_fuses (s : State) (k : Nat) (f : Core → Core) : (s.setCore k f).fuses = s.fuses := rfl
@[simp] theorem setCore_evRecs (s : State) (k : Nat) (f : Core → Core) : (s.setCore k f).evRecs = s.evRecs := rfl
@[simp] theorem setCore_evLost (s : State) (k : Nat) (f : Core → Core) : (s.setCore k f).evLost = s.evLost := rfl
@[simp] theorem setCore_ldg (s : State) (k : Nat) (f : Core → Core) : (s.setCore k f).ldg = s.ldg := rfl
@[simp] theorem setCore_emits (s : State) (k : Nat) (f : Core → Core) : (s.setCore k f).emits = s.emits := rfl
@[simp] theorem setCore_txts (s : State) (k : Nat) (f : Core → Core) : (s.setCore k f).txts = s.txts := rfl
@[simp] theorem setCore_ports (s : State) (k : Nat) (f : Core → Core) : (s.setCore k f).ports = s.ports := rfl
@[simp] theorem setCore_cells (s : State) (k : Nat) (f : Core → Core) : (s.setCore k f).cells = s.cells := rfl
@[simp] theorem setCore_cellData (s : State) (k : Nat) (f : Core → Core) : (s.setCore k f).cellData = s.cellData := rfl
@[simp] theorem setCore_rotors (s : State) (k : Nat) (f : Core → Core) : (s.setCore k f).rotors = s.rotors := rfl
@[simp] theorem setCore_redLath (s : State) (k : Nat) (f : Core → Core) : (s.setCore k f).redLath = s.redLath := rfl
@[simp] theorem setCore_graphs (s : State) (k : Nat) (f : Core → Core) : (s.setCore k f).graphs = s.graphs := rfl
@[simp] theorem setCore_houseFrames (s : State) (k : Nat) (f : Core → Core) : (s.setCore k f).houseFrames = s.houseFrames := rfl
@[simp] theorem setCore_drain (s : State) (k : Nat) (f : Core → Core) : (s.setCore k f).drain = s.drain := rfl
@[simp] theorem setCore_staged (s : State) (k : Nat) (f : Core → Core) : (s.setCore k f).staged = s.staged := rfl
@[simp] theorem setCore_clsBanks (s : State) (k : Nat) (f : Core → Core) : (s.setCore k f).clsBanks = s.clsBanks := rfl
@[simp] theorem setCore_cipherQ (s : State) (k : Nat) (f : Core → Core) : (s.setCore k f).cipherQ = s.cipherQ := rfl
@[simp] theorem setCore_reparseQ (s : State) (k : Nat) (f : Core → Core) : (s.setCore k f).reparseQ = s.reparseQ := rfl
@[simp] theorem setCore_classQ (s : State) (k : Nat) (f : Core → Core) : (s.setCore k f).classQ = s.classQ := rfl
@[simp] theorem setCore_learnQ (s : State) (k : Nat) (f : Core → Core) : (s.setCore k f).learnQ = s.learnQ := rfl
@[simp] theorem setCore_dispQ (s : State) (k : Nat) (f : Core → Core) : (s.setCore k f).dispQ = s.dispQ := rfl
@[simp] theorem setCore_dram (s : State) (k : Nat) (f : Core → Core) : (s.setCore k f).dram = s.dram := rfl
@[simp] theorem setCore_hot (s : State) (k : Nat) (f : Core → Core) : (s.setCore k f).hot = s.hot := rfl
@[simp] theorem setCore_stn (s : State) (k : Nat) (f : Core → Core) : (s.setCore k f).stn = s.stn := rfl
@[simp] theorem setCore_stnWait (s : State) (k : Nat) (f : Core → Core) : (s.setCore k f).stnWait = s.stnWait := rfl
@[simp] theorem setCore_useCtr (s : State) (k : Nat) (f : Core → Core) : (s.setCore k f).useCtr = s.useCtr := rfl
@[simp] theorem setCore_reconciling (s : State) (k : Nat) (f : Core → Core) : (s.setCore k f).reconciling = s.reconciling := rfl
@[simp] theorem setCore_needReconcile (s : State) (k : Nat) (f : Core → Core) : (s.setCore k f).needReconcile = s.needReconcile := rfl
@[simp] theorem setCore_scans (s : State) (k : Nat) (f : Core → Core) : (s.setCore k f).scans = s.scans := rfl
@[simp] theorem setCore_sweeps (s : State) (k : Nat) (f : Core → Core) : (s.setCore k f).sweeps = s.sweeps := rfl
@[simp] theorem setCore_lastFound (s : State) (k : Nat) (f : Core → Core) : (s.setCore k f).lastFound = s.lastFound := rfl
@[simp] theorem setCore_guards (s : State) (k : Nat) (f : Core → Core) : (s.setCore k f).guards = s.guards := rfl
@[simp] theorem setCore_sweepAt (s : State) (k : Nat) (f : Core → Core) : (s.setCore k f).sweepAt = s.sweepAt := rfl
@[simp] theorem setCore_keyCache (s : State) (k : Nat) (f : Core → Core) : (s.setCore k f).keyCache = s.keyCache := rfl
@[simp] theorem setCore_rangeZero (s : State) (k : Nat) (f : Core → Core) : (s.setCore k f).rangeZero = s.rangeZero := rfl
@[simp] theorem setCore_freeAfter (s : State) (k : Nat) (f : Core → Core) : (s.setCore k f).freeAfter = s.freeAfter := rfl
@[simp] theorem setCore_chains (s : State) (k : Nat) (f : Core → Core) : (s.setCore k f).chains = s.chains := rfl
@[simp] theorem setCore_chans (s : State) (k : Nat) (f : Core → Core) : (s.setCore k f).chans = s.chans := rfl
@[simp] theorem setCore_deltas (s : State) (k : Nat) (f : Core → Core) : (s.setCore k f).deltas = s.deltas := rfl
@[simp] theorem setCore_idents (s : State) (k : Nat) (f : Core → Core) : (s.setCore k f).idents = s.idents := rfl
@[simp] theorem setCore_acceptedPlus (s : State) (k : Nat) (f : Core → Core) : (s.setCore k f).acceptedPlus = s.acceptedPlus := rfl
@[simp] theorem setCore_threads (s : State) (k : Nat) (f : Core → Core) : (s.setCore k f).threads = s.threads := rfl
@[simp] theorem setCore_units (s : State) (k : Nat) (f : Core → Core) : (s.setCore k f).units = s.units := rfl
@[simp] theorem setCore_patches (s : State) (k : Nat) (f : Core → Core) : (s.setCore k f).patches = s.patches := rfl
@[simp] theorem setCore_patchFrom (s : State) (k : Nat) (f : Core → Core) : (s.setCore k f).patchFrom = s.patchFrom := rfl
@[simp] theorem setCore_sram (s : State) (k : Nat) (f : Core → Core) : (s.setCore k f).sram = s.sram := rfl
@[simp] theorem setCore_code (s : State) (k : Nat) (f : Core → Core) : (s.setCore k f).code = s.code := rfl
@[simp] theorem setCore_clMem (s : State) (k : Nat) (f : Core → Core) : (s.setCore k f).clMem = s.clMem := rfl
@[simp] theorem setCore_lockQ (s : State) (k : Nat) (f : Core → Core) : (s.setCore k f).lockQ = s.lockQ := rfl
@[simp] theorem setCore_gateFrom (s : State) (k : Nat) (f : Core → Core) : (s.setCore k f).gateFrom = s.gateFrom := rfl
@[simp] theorem setCore_banks (s : State) (k : Nat) (f : Core → Core) : (s.setCore k f).banks = s.banks := rfl
@[simp] theorem setCore_released (s : State) (k : Nat) (f : Core → Core) : (s.setCore k f).released = s.released := rfl
@[simp] theorem setCore_clusterQ (s : State) (k : Nat) (f : Core → Core) : (s.setCore k f).clusterQ = s.clusterQ := rfl
@[simp] theorem setCore_clusterRotor (s : State) (k : Nat) (f : Core → Core) : (s.setCore k f).clusterRotor = s.clusterRotor := rfl
@[simp] theorem setCore_defers (s : State) (k : Nat) (f : Core → Core) : (s.setCore k f).defers = s.defers := rfl
@[simp] theorem setCore_admitted (s : State) (k : Nat) (f : Core → Core) : (s.setCore k f).admitted = s.admitted := rfl
@[simp] theorem setCore_maps (s : State) (k : Nat) (f : Core → Core) : (s.setCore k f).maps = s.maps := rfl
@[simp] theorem setCore_moves (s : State) (k : Nat) (f : Core → Core) : (s.setCore k f).moves = s.moves := rfl
@[simp] theorem setCore_fences (s : State) (k : Nat) (f : Core → Core) : (s.setCore k f).fences = s.fences := rfl
@[simp] theorem setCore_oldMaps (s : State) (k : Nat) (f : Core → Core) : (s.setCore k f).oldMaps = s.oldMaps := rfl
@[simp] theorem setCore_gifts (s : State) (k : Nat) (f : Core → Core) : (s.setCore k f).gifts = s.gifts := rfl
@[simp] theorem setCore_roles (s : State) (k : Nat) (f : Core → Core) : (s.setCore k f).roles = s.roles := rfl
@[simp] theorem setCore_outPorts (s : State) (k : Nat) (f : Core → Core) : (s.setCore k f).outPorts = s.outPorts := rfl
@[simp] theorem setCore_planes (s : State) (k : Nat) (f : Core → Core) : (s.setCore k f).planes = s.planes := rfl
@[simp] theorem setCore_xbar (s : State) (k : Nat) (f : Core → Core) : (s.setCore k f).xbar = s.xbar := rfl
@[simp] theorem setCore_geom (s : State) (k : Nat) (f : Core → Core) : (s.setCore k f).geom = s.geom := rfl
@[simp] theorem setCore_qstat (s : State) (k : Nat) (f : Core → Core) : (s.setCore k f).qstat = s.qstat := rfl
@[simp] theorem setCore_restless (s : State) (k : Nat) (f : Core → Core) : (s.setCore k f).restless = s.restless := rfl
@[simp] theorem setCore_chanCfg (s : State) (k : Nat) (f : Core → Core) : (s.setCore k f).chanCfg = s.chanCfg := rfl
@[simp] theorem setCore_heldFrames (s : State) (k : Nat) (f : Core → Core) : (s.setCore k f).heldFrames = s.heldFrames := rfl
@[simp] theorem setCore_appends (s : State) (k : Nat) (f : Core → Core) : (s.setCore k f).appends = s.appends := rfl
@[simp] theorem setCore_ledger (s : State) (k : Nat) (f : Core → Core) : (s.setCore k f).ledger = s.ledger := rfl
@[simp] theorem setCore_unretired (s : State) (k : Nat) (f : Core → Core) : (s.setCore k f).unretired = s.unretired := rfl
@[simp] theorem setCore_journal (s : State) (k : Nat) (f : Core → Core) : (s.setCore k f).journal = s.journal := rfl
@[simp] theorem setCore_stl (s : State) (k : Nat) (f : Core → Core) : (s.setCore k f).stl = s.stl := rfl
@[simp] theorem setCore_ctl (s : State) (k : Nat) (f : Core → Core) : (s.setCore k f).ctl = s.ctl := rfl
@[simp] theorem setCore_sessions (s : State) (k : Nat) (f : Core → Core) : (s.setCore k f).sessions = s.sessions := rfl
@[simp] theorem setCore_starts (s : State) (k : Nat) (f : Core → Core) : (s.setCore k f).starts = s.starts := rfl
@[simp] theorem setCore_stops (s : State) (k : Nat) (f : Core → Core) : (s.setCore k f).stops = s.stops := rfl
@[simp] theorem setCore_sup (s : State) (k : Nat) (f : Core → Core) : (s.setCore k f).sup = s.sup := rfl
@[simp] theorem setCore_pending (s : State) (k : Nat) (f : Core → Core) : (s.setCore k f).pending = s.pending := rfl

/-! `setUnit` -/

@[simp] theorem setUnit_units (s : State) (u : Nat) (f : Tally → Tally) : (s.setUnit u f).units = s.units.set Tally.reset u (f (s.unit u)) := rfl
@[simp] theorem setUnit_time (s : State) (u : Nat) (f : Tally → Tally) : (s.setUnit u f).time = s.time := rfl
@[simp] theorem setUnit_regs (s : State) (u : Nat) (f : Tally → Tally) : (s.setUnit u f).regs = s.regs := rfl
@[simp] theorem setUnit_captures (s : State) (u : Nat) (f : Tally → Tally) : (s.setUnit u f).captures = s.captures := rfl
@[simp] theorem setUnit_resp (s : State) (u : Nat) (f : Tally → Tally) : (s.setUnit u f).resp = s.resp := rfl
@[simp] theorem setUnit_freeCtr (s : State) (u : Nat) (f : Tally → Tally) : (s.setUnit u f).freeCtr = s.freeCtr := rfl
@[simp] theorem setUnit_maint (s : State) (u : Nat) (f : Tally → Tally) : (s.setUnit u f).maint = s.maint := rfl
@[simp] theorem setUnit_fuses (s : State) (u : Nat) (f : Tally → Tally) : (s.setUnit u f).fuses = s.fuses := rfl
@[simp] theorem setUnit_evRecs (s : State) (u : Nat) (f : Tally → Tally) : (s.setUnit u f).evRecs = s.evRecs := rfl
@[simp] theorem setUnit_evLost (s : State) (u : Nat) (f : Tally → Tally) : (s.setUnit u f).evLost = s.evLost := rfl
@[simp] theorem setUnit_ldg (s : State) (u : Nat) (f : Tally → Tally) : (s.setUnit u f).ldg = s.ldg := rfl
@[simp] theorem setUnit_emits (s : State) (u : Nat) (f : Tally → Tally) : (s.setUnit u f).emits = s.emits := rfl
@[simp] theorem setUnit_txts (s : State) (u : Nat) (f : Tally → Tally) : (s.setUnit u f).txts = s.txts := rfl
@[simp] theorem setUnit_ports (s : State) (u : Nat) (f : Tally → Tally) : (s.setUnit u f).ports = s.ports := rfl
@[simp] theorem setUnit_cells (s : State) (u : Nat) (f : Tally → Tally) : (s.setUnit u f).cells = s.cells := rfl
@[simp] theorem setUnit_cellData (s : State) (u : Nat) (f : Tally → Tally) : (s.setUnit u f).cellData = s.cellData := rfl
@[simp] theorem setUnit_rotors (s : State) (u : Nat) (f : Tally → Tally) : (s.setUnit u f).rotors = s.rotors := rfl
@[simp] theorem setUnit_redLath (s : State) (u : Nat) (f : Tally → Tally) : (s.setUnit u f).redLath = s.redLath := rfl
@[simp] theorem setUnit_graphs (s : State) (u : Nat) (f : Tally → Tally) : (s.setUnit u f).graphs = s.graphs := rfl
@[simp] theorem setUnit_houseFrames (s : State) (u : Nat) (f : Tally → Tally) : (s.setUnit u f).houseFrames = s.houseFrames := rfl
@[simp] theorem setUnit_drain (s : State) (u : Nat) (f : Tally → Tally) : (s.setUnit u f).drain = s.drain := rfl
@[simp] theorem setUnit_staged (s : State) (u : Nat) (f : Tally → Tally) : (s.setUnit u f).staged = s.staged := rfl
@[simp] theorem setUnit_clsBanks (s : State) (u : Nat) (f : Tally → Tally) : (s.setUnit u f).clsBanks = s.clsBanks := rfl
@[simp] theorem setUnit_cipherQ (s : State) (u : Nat) (f : Tally → Tally) : (s.setUnit u f).cipherQ = s.cipherQ := rfl
@[simp] theorem setUnit_reparseQ (s : State) (u : Nat) (f : Tally → Tally) : (s.setUnit u f).reparseQ = s.reparseQ := rfl
@[simp] theorem setUnit_classQ (s : State) (u : Nat) (f : Tally → Tally) : (s.setUnit u f).classQ = s.classQ := rfl
@[simp] theorem setUnit_learnQ (s : State) (u : Nat) (f : Tally → Tally) : (s.setUnit u f).learnQ = s.learnQ := rfl
@[simp] theorem setUnit_dispQ (s : State) (u : Nat) (f : Tally → Tally) : (s.setUnit u f).dispQ = s.dispQ := rfl
@[simp] theorem setUnit_dram (s : State) (u : Nat) (f : Tally → Tally) : (s.setUnit u f).dram = s.dram := rfl
@[simp] theorem setUnit_hot (s : State) (u : Nat) (f : Tally → Tally) : (s.setUnit u f).hot = s.hot := rfl
@[simp] theorem setUnit_stn (s : State) (u : Nat) (f : Tally → Tally) : (s.setUnit u f).stn = s.stn := rfl
@[simp] theorem setUnit_stnWait (s : State) (u : Nat) (f : Tally → Tally) : (s.setUnit u f).stnWait = s.stnWait := rfl
@[simp] theorem setUnit_useCtr (s : State) (u : Nat) (f : Tally → Tally) : (s.setUnit u f).useCtr = s.useCtr := rfl
@[simp] theorem setUnit_reconciling (s : State) (u : Nat) (f : Tally → Tally) : (s.setUnit u f).reconciling = s.reconciling := rfl
@[simp] theorem setUnit_needReconcile (s : State) (u : Nat) (f : Tally → Tally) : (s.setUnit u f).needReconcile = s.needReconcile := rfl
@[simp] theorem setUnit_scans (s : State) (u : Nat) (f : Tally → Tally) : (s.setUnit u f).scans = s.scans := rfl
@[simp] theorem setUnit_sweeps (s : State) (u : Nat) (f : Tally → Tally) : (s.setUnit u f).sweeps = s.sweeps := rfl
@[simp] theorem setUnit_lastFound (s : State) (u : Nat) (f : Tally → Tally) : (s.setUnit u f).lastFound = s.lastFound := rfl
@[simp] theorem setUnit_guards (s : State) (u : Nat) (f : Tally → Tally) : (s.setUnit u f).guards = s.guards := rfl
@[simp] theorem setUnit_sweepAt (s : State) (u : Nat) (f : Tally → Tally) : (s.setUnit u f).sweepAt = s.sweepAt := rfl
@[simp] theorem setUnit_keyCache (s : State) (u : Nat) (f : Tally → Tally) : (s.setUnit u f).keyCache = s.keyCache := rfl
@[simp] theorem setUnit_rangeZero (s : State) (u : Nat) (f : Tally → Tally) : (s.setUnit u f).rangeZero = s.rangeZero := rfl
@[simp] theorem setUnit_freeAfter (s : State) (u : Nat) (f : Tally → Tally) : (s.setUnit u f).freeAfter = s.freeAfter := rfl
@[simp] theorem setUnit_chains (s : State) (u : Nat) (f : Tally → Tally) : (s.setUnit u f).chains = s.chains := rfl
@[simp] theorem setUnit_chans (s : State) (u : Nat) (f : Tally → Tally) : (s.setUnit u f).chans = s.chans := rfl
@[simp] theorem setUnit_deltas (s : State) (u : Nat) (f : Tally → Tally) : (s.setUnit u f).deltas = s.deltas := rfl
@[simp] theorem setUnit_idents (s : State) (u : Nat) (f : Tally → Tally) : (s.setUnit u f).idents = s.idents := rfl
@[simp] theorem setUnit_acceptedPlus (s : State) (u : Nat) (f : Tally → Tally) : (s.setUnit u f).acceptedPlus = s.acceptedPlus := rfl
@[simp] theorem setUnit_threads (s : State) (u : Nat) (f : Tally → Tally) : (s.setUnit u f).threads = s.threads := rfl
@[simp] theorem setUnit_cores (s : State) (u : Nat) (f : Tally → Tally) : (s.setUnit u f).cores = s.cores := rfl
@[simp] theorem setUnit_patches (s : State) (u : Nat) (f : Tally → Tally) : (s.setUnit u f).patches = s.patches := rfl
@[simp] theorem setUnit_patchFrom (s : State) (u : Nat) (f : Tally → Tally) : (s.setUnit u f).patchFrom = s.patchFrom := rfl
@[simp] theorem setUnit_sram (s : State) (u : Nat) (f : Tally → Tally) : (s.setUnit u f).sram = s.sram := rfl
@[simp] theorem setUnit_code (s : State) (u : Nat) (f : Tally → Tally) : (s.setUnit u f).code = s.code := rfl
@[simp] theorem setUnit_clMem (s : State) (u : Nat) (f : Tally → Tally) : (s.setUnit u f).clMem = s.clMem := rfl
@[simp] theorem setUnit_lockQ (s : State) (u : Nat) (f : Tally → Tally) : (s.setUnit u f).lockQ = s.lockQ := rfl
@[simp] theorem setUnit_gateFrom (s : State) (u : Nat) (f : Tally → Tally) : (s.setUnit u f).gateFrom = s.gateFrom := rfl
@[simp] theorem setUnit_banks (s : State) (u : Nat) (f : Tally → Tally) : (s.setUnit u f).banks = s.banks := rfl
@[simp] theorem setUnit_released (s : State) (u : Nat) (f : Tally → Tally) : (s.setUnit u f).released = s.released := rfl
@[simp] theorem setUnit_clusterQ (s : State) (u : Nat) (f : Tally → Tally) : (s.setUnit u f).clusterQ = s.clusterQ := rfl
@[simp] theorem setUnit_clusterRotor (s : State) (u : Nat) (f : Tally → Tally) : (s.setUnit u f).clusterRotor = s.clusterRotor := rfl
@[simp] theorem setUnit_defers (s : State) (u : Nat) (f : Tally → Tally) : (s.setUnit u f).defers = s.defers := rfl
@[simp] theorem setUnit_admitted (s : State) (u : Nat) (f : Tally → Tally) : (s.setUnit u f).admitted = s.admitted := rfl
@[simp] theorem setUnit_maps (s : State) (u : Nat) (f : Tally → Tally) : (s.setUnit u f).maps = s.maps := rfl
@[simp] theorem setUnit_moves (s : State) (u : Nat) (f : Tally → Tally) : (s.setUnit u f).moves = s.moves := rfl
@[simp] theorem setUnit_fences (s : State) (u : Nat) (f : Tally → Tally) : (s.setUnit u f).fences = s.fences := rfl
@[simp] theorem setUnit_oldMaps (s : State) (u : Nat) (f : Tally → Tally) : (s.setUnit u f).oldMaps = s.oldMaps := rfl
@[simp] theorem setUnit_gifts (s : State) (u : Nat) (f : Tally → Tally) : (s.setUnit u f).gifts = s.gifts := rfl
@[simp] theorem setUnit_roles (s : State) (u : Nat) (f : Tally → Tally) : (s.setUnit u f).roles = s.roles := rfl
@[simp] theorem setUnit_outPorts (s : State) (u : Nat) (f : Tally → Tally) : (s.setUnit u f).outPorts = s.outPorts := rfl
@[simp] theorem setUnit_planes (s : State) (u : Nat) (f : Tally → Tally) : (s.setUnit u f).planes = s.planes := rfl
@[simp] theorem setUnit_xbar (s : State) (u : Nat) (f : Tally → Tally) : (s.setUnit u f).xbar = s.xbar := rfl
@[simp] theorem setUnit_geom (s : State) (u : Nat) (f : Tally → Tally) : (s.setUnit u f).geom = s.geom := rfl
@[simp] theorem setUnit_qstat (s : State) (u : Nat) (f : Tally → Tally) : (s.setUnit u f).qstat = s.qstat := rfl
@[simp] theorem setUnit_restless (s : State) (u : Nat) (f : Tally → Tally) : (s.setUnit u f).restless = s.restless := rfl
@[simp] theorem setUnit_chanCfg (s : State) (u : Nat) (f : Tally → Tally) : (s.setUnit u f).chanCfg = s.chanCfg := rfl
@[simp] theorem setUnit_heldFrames (s : State) (u : Nat) (f : Tally → Tally) : (s.setUnit u f).heldFrames = s.heldFrames := rfl
@[simp] theorem setUnit_appends (s : State) (u : Nat) (f : Tally → Tally) : (s.setUnit u f).appends = s.appends := rfl
@[simp] theorem setUnit_ledger (s : State) (u : Nat) (f : Tally → Tally) : (s.setUnit u f).ledger = s.ledger := rfl
@[simp] theorem setUnit_unretired (s : State) (u : Nat) (f : Tally → Tally) : (s.setUnit u f).unretired = s.unretired := rfl
@[simp] theorem setUnit_journal (s : State) (u : Nat) (f : Tally → Tally) : (s.setUnit u f).journal = s.journal := rfl
@[simp] theorem setUnit_stl (s : State) (u : Nat) (f : Tally → Tally) : (s.setUnit u f).stl = s.stl := rfl
@[simp] theorem setUnit_ctl (s : State) (u : Nat) (f : Tally → Tally) : (s.setUnit u f).ctl = s.ctl := rfl
@[simp] theorem setUnit_sessions (s : State) (u : Nat) (f : Tally → Tally) : (s.setUnit u f).sessions = s.sessions := rfl
@[simp] theorem setUnit_starts (s : State) (u : Nat) (f : Tally → Tally) : (s.setUnit u f).starts = s.starts := rfl
@[simp] theorem setUnit_stops (s : State) (u : Nat) (f : Tally → Tally) : (s.setUnit u f).stops = s.stops := rfl
@[simp] theorem setUnit_sup (s : State) (u : Nat) (f : Tally → Tally) : (s.setUnit u f).sup = s.sup := rfl
@[simp] theorem setUnit_pending (s : State) (u : Nat) (f : Tally → Tally) : (s.setUnit u f).pending = s.pending := rfl

/-! `setPort` -/

@[simp] theorem setPort_ports (s : State) (n : Nat) (f : Port → Port) : (s.setPort n f).ports = s.ports.set Port.reset n (f (s.port n)) := rfl
@[simp] theorem setPort_time (s : State) (n : Nat) (f : Port → Port) : (s.setPort n f).time = s.time := rfl
@[simp] theorem setPort_regs (s : State) (n : Nat) (f : Port → Port) : (s.setPort n f).regs = s.regs := rfl
@[simp] theorem setPort_captures (s : State) (n : Nat) (f : Port → Port) : (s.setPort n f).captures = s.captures := rfl
@[simp] theorem setPort_resp (s : State) (n : Nat) (f : Port → Port) : (s.setPort n f).resp = s.resp := rfl
@[simp] theorem setPort_freeCtr (s : State) (n : Nat) (f : Port → Port) : (s.setPort n f).freeCtr = s.freeCtr := rfl
@[simp] theorem setPort_maint (s : State) (n : Nat) (f : Port → Port) : (s.setPort n f).maint = s.maint := rfl
@[simp] theorem setPort_fuses (s : State) (n : Nat) (f : Port → Port) : (s.setPort n f).fuses = s.fuses := rfl
@[simp] theorem setPort_evRecs (s : State) (n : Nat) (f : Port → Port) : (s.setPort n f).evRecs = s.evRecs := rfl
@[simp] theorem setPort_evLost (s : State) (n : Nat) (f : Port → Port) : (s.setPort n f).evLost = s.evLost := rfl
@[simp] theorem setPort_ldg (s : State) (n : Nat) (f : Port → Port) : (s.setPort n f).ldg = s.ldg := rfl
@[simp] theorem setPort_emits (s : State) (n : Nat) (f : Port → Port) : (s.setPort n f).emits = s.emits := rfl
@[simp] theorem setPort_txts (s : State) (n : Nat) (f : Port → Port) : (s.setPort n f).txts = s.txts := rfl
@[simp] theorem setPort_cells (s : State) (n : Nat) (f : Port → Port) : (s.setPort n f).cells = s.cells := rfl
@[simp] theorem setPort_cellData (s : State) (n : Nat) (f : Port → Port) : (s.setPort n f).cellData = s.cellData := rfl
@[simp] theorem setPort_rotors (s : State) (n : Nat) (f : Port → Port) : (s.setPort n f).rotors = s.rotors := rfl
@[simp] theorem setPort_redLath (s : State) (n : Nat) (f : Port → Port) : (s.setPort n f).redLath = s.redLath := rfl
@[simp] theorem setPort_graphs (s : State) (n : Nat) (f : Port → Port) : (s.setPort n f).graphs = s.graphs := rfl
@[simp] theorem setPort_houseFrames (s : State) (n : Nat) (f : Port → Port) : (s.setPort n f).houseFrames = s.houseFrames := rfl
@[simp] theorem setPort_drain (s : State) (n : Nat) (f : Port → Port) : (s.setPort n f).drain = s.drain := rfl
@[simp] theorem setPort_staged (s : State) (n : Nat) (f : Port → Port) : (s.setPort n f).staged = s.staged := rfl
@[simp] theorem setPort_clsBanks (s : State) (n : Nat) (f : Port → Port) : (s.setPort n f).clsBanks = s.clsBanks := rfl
@[simp] theorem setPort_cipherQ (s : State) (n : Nat) (f : Port → Port) : (s.setPort n f).cipherQ = s.cipherQ := rfl
@[simp] theorem setPort_reparseQ (s : State) (n : Nat) (f : Port → Port) : (s.setPort n f).reparseQ = s.reparseQ := rfl
@[simp] theorem setPort_classQ (s : State) (n : Nat) (f : Port → Port) : (s.setPort n f).classQ = s.classQ := rfl
@[simp] theorem setPort_learnQ (s : State) (n : Nat) (f : Port → Port) : (s.setPort n f).learnQ = s.learnQ := rfl
@[simp] theorem setPort_dispQ (s : State) (n : Nat) (f : Port → Port) : (s.setPort n f).dispQ = s.dispQ := rfl
@[simp] theorem setPort_dram (s : State) (n : Nat) (f : Port → Port) : (s.setPort n f).dram = s.dram := rfl
@[simp] theorem setPort_hot (s : State) (n : Nat) (f : Port → Port) : (s.setPort n f).hot = s.hot := rfl
@[simp] theorem setPort_stn (s : State) (n : Nat) (f : Port → Port) : (s.setPort n f).stn = s.stn := rfl
@[simp] theorem setPort_stnWait (s : State) (n : Nat) (f : Port → Port) : (s.setPort n f).stnWait = s.stnWait := rfl
@[simp] theorem setPort_useCtr (s : State) (n : Nat) (f : Port → Port) : (s.setPort n f).useCtr = s.useCtr := rfl
@[simp] theorem setPort_reconciling (s : State) (n : Nat) (f : Port → Port) : (s.setPort n f).reconciling = s.reconciling := rfl
@[simp] theorem setPort_needReconcile (s : State) (n : Nat) (f : Port → Port) : (s.setPort n f).needReconcile = s.needReconcile := rfl
@[simp] theorem setPort_scans (s : State) (n : Nat) (f : Port → Port) : (s.setPort n f).scans = s.scans := rfl
@[simp] theorem setPort_sweeps (s : State) (n : Nat) (f : Port → Port) : (s.setPort n f).sweeps = s.sweeps := rfl
@[simp] theorem setPort_lastFound (s : State) (n : Nat) (f : Port → Port) : (s.setPort n f).lastFound = s.lastFound := rfl
@[simp] theorem setPort_guards (s : State) (n : Nat) (f : Port → Port) : (s.setPort n f).guards = s.guards := rfl
@[simp] theorem setPort_sweepAt (s : State) (n : Nat) (f : Port → Port) : (s.setPort n f).sweepAt = s.sweepAt := rfl
@[simp] theorem setPort_keyCache (s : State) (n : Nat) (f : Port → Port) : (s.setPort n f).keyCache = s.keyCache := rfl
@[simp] theorem setPort_rangeZero (s : State) (n : Nat) (f : Port → Port) : (s.setPort n f).rangeZero = s.rangeZero := rfl
@[simp] theorem setPort_freeAfter (s : State) (n : Nat) (f : Port → Port) : (s.setPort n f).freeAfter = s.freeAfter := rfl
@[simp] theorem setPort_chains (s : State) (n : Nat) (f : Port → Port) : (s.setPort n f).chains = s.chains := rfl
@[simp] theorem setPort_chans (s : State) (n : Nat) (f : Port → Port) : (s.setPort n f).chans = s.chans := rfl
@[simp] theorem setPort_deltas (s : State) (n : Nat) (f : Port → Port) : (s.setPort n f).deltas = s.deltas := rfl
@[simp] theorem setPort_idents (s : State) (n : Nat) (f : Port → Port) : (s.setPort n f).idents = s.idents := rfl
@[simp] theorem setPort_acceptedPlus (s : State) (n : Nat) (f : Port → Port) : (s.setPort n f).acceptedPlus = s.acceptedPlus := rfl
@[simp] theorem setPort_threads (s : State) (n : Nat) (f : Port → Port) : (s.setPort n f).threads = s.threads := rfl
@[simp] theorem setPort_cores (s : State) (n : Nat) (f : Port → Port) : (s.setPort n f).cores = s.cores := rfl
@[simp] theorem setPort_units (s : State) (n : Nat) (f : Port → Port) : (s.setPort n f).units = s.units := rfl
@[simp] theorem setPort_patches (s : State) (n : Nat) (f : Port → Port) : (s.setPort n f).patches = s.patches := rfl
@[simp] theorem setPort_patchFrom (s : State) (n : Nat) (f : Port → Port) : (s.setPort n f).patchFrom = s.patchFrom := rfl
@[simp] theorem setPort_sram (s : State) (n : Nat) (f : Port → Port) : (s.setPort n f).sram = s.sram := rfl
@[simp] theorem setPort_code (s : State) (n : Nat) (f : Port → Port) : (s.setPort n f).code = s.code := rfl
@[simp] theorem setPort_clMem (s : State) (n : Nat) (f : Port → Port) : (s.setPort n f).clMem = s.clMem := rfl
@[simp] theorem setPort_lockQ (s : State) (n : Nat) (f : Port → Port) : (s.setPort n f).lockQ = s.lockQ := rfl
@[simp] theorem setPort_gateFrom (s : State) (n : Nat) (f : Port → Port) : (s.setPort n f).gateFrom = s.gateFrom := rfl
@[simp] theorem setPort_banks (s : State) (n : Nat) (f : Port → Port) : (s.setPort n f).banks = s.banks := rfl
@[simp] theorem setPort_released (s : State) (n : Nat) (f : Port → Port) : (s.setPort n f).released = s.released := rfl
@[simp] theorem setPort_clusterQ (s : State) (n : Nat) (f : Port → Port) : (s.setPort n f).clusterQ = s.clusterQ := rfl
@[simp] theorem setPort_clusterRotor (s : State) (n : Nat) (f : Port → Port) : (s.setPort n f).clusterRotor = s.clusterRotor := rfl
@[simp] theorem setPort_defers (s : State) (n : Nat) (f : Port → Port) : (s.setPort n f).defers = s.defers := rfl
@[simp] theorem setPort_admitted (s : State) (n : Nat) (f : Port → Port) : (s.setPort n f).admitted = s.admitted := rfl
@[simp] theorem setPort_maps (s : State) (n : Nat) (f : Port → Port) : (s.setPort n f).maps = s.maps := rfl
@[simp] theorem setPort_moves (s : State) (n : Nat) (f : Port → Port) : (s.setPort n f).moves = s.moves := rfl
@[simp] theorem setPort_fences (s : State) (n : Nat) (f : Port → Port) : (s.setPort n f).fences = s.fences := rfl
@[simp] theorem setPort_oldMaps (s : State) (n : Nat) (f : Port → Port) : (s.setPort n f).oldMaps = s.oldMaps := rfl
@[simp] theorem setPort_gifts (s : State) (n : Nat) (f : Port → Port) : (s.setPort n f).gifts = s.gifts := rfl
@[simp] theorem setPort_roles (s : State) (n : Nat) (f : Port → Port) : (s.setPort n f).roles = s.roles := rfl
@[simp] theorem setPort_outPorts (s : State) (n : Nat) (f : Port → Port) : (s.setPort n f).outPorts = s.outPorts := rfl
@[simp] theorem setPort_planes (s : State) (n : Nat) (f : Port → Port) : (s.setPort n f).planes = s.planes := rfl
@[simp] theorem setPort_xbar (s : State) (n : Nat) (f : Port → Port) : (s.setPort n f).xbar = s.xbar := rfl
@[simp] theorem setPort_geom (s : State) (n : Nat) (f : Port → Port) : (s.setPort n f).geom = s.geom := rfl
@[simp] theorem setPort_qstat (s : State) (n : Nat) (f : Port → Port) : (s.setPort n f).qstat = s.qstat := rfl
@[simp] theorem setPort_restless (s : State) (n : Nat) (f : Port → Port) : (s.setPort n f).restless = s.restless := rfl
@[simp] theorem setPort_chanCfg (s : State) (n : Nat) (f : Port → Port) : (s.setPort n f).chanCfg = s.chanCfg := rfl
@[simp] theorem setPort_heldFrames (s : State) (n : Nat) (f : Port → Port) : (s.setPort n f).heldFrames = s.heldFrames := rfl
@[simp] theorem setPort_appends (s : State) (n : Nat) (f : Port → Port) : (s.setPort n f).appends = s.appends := rfl
@[simp] theorem setPort_ledger (s : State) (n : Nat) (f : Port → Port) : (s.setPort n f).ledger = s.ledger := rfl
@[simp] theorem setPort_unretired (s : State) (n : Nat) (f : Port → Port) : (s.setPort n f).unretired = s.unretired := rfl
@[simp] theorem setPort_journal (s : State) (n : Nat) (f : Port → Port) : (s.setPort n f).journal = s.journal := rfl
@[simp] theorem setPort_stl (s : State) (n : Nat) (f : Port → Port) : (s.setPort n f).stl = s.stl := rfl
@[simp] theorem setPort_ctl (s : State) (n : Nat) (f : Port → Port) : (s.setPort n f).ctl = s.ctl := rfl
@[simp] theorem setPort_sessions (s : State) (n : Nat) (f : Port → Port) : (s.setPort n f).sessions = s.sessions := rfl
@[simp] theorem setPort_starts (s : State) (n : Nat) (f : Port → Port) : (s.setPort n f).starts = s.starts := rfl
@[simp] theorem setPort_stops (s : State) (n : Nat) (f : Port → Port) : (s.setPort n f).stops = s.stops := rfl
@[simp] theorem setPort_sup (s : State) (n : Nat) (f : Port → Port) : (s.setPort n f).sup = s.sup := rfl
@[simp] theorem setPort_pending (s : State) (n : Nat) (f : Port → Port) : (s.setPort n f).pending = s.pending := rfl

/-! `setOut` -/

@[simp] theorem setOut_outPorts (s : State) (o : Nat) (f : OutPort → OutPort) : (s.setOut o f).outPorts = s.outPorts.set OutPort.reset o (f (s.outPort o)) := rfl
@[simp] theorem setOut_time (s : State) (o : Nat) (f : OutPort → OutPort) : (s.setOut o f).time = s.time := rfl
@[simp] theorem setOut_regs (s : State) (o : Nat) (f : OutPort → OutPort) : (s.setOut o f).regs = s.regs := rfl
@[simp] theorem setOut_captures (s : State) (o : Nat) (f : OutPort → OutPort) : (s.setOut o f).captures = s.captures := rfl
@[simp] theorem setOut_resp (s : State) (o : Nat) (f : OutPort → OutPort) : (s.setOut o f).resp = s.resp := rfl
@[simp] theorem setOut_freeCtr (s : State) (o : Nat) (f : OutPort → OutPort) : (s.setOut o f).freeCtr = s.freeCtr := rfl
@[simp] theorem setOut_maint (s : State) (o : Nat) (f : OutPort → OutPort) : (s.setOut o f).maint = s.maint := rfl
@[simp] theorem setOut_fuses (s : State) (o : Nat) (f : OutPort → OutPort) : (s.setOut o f).fuses = s.fuses := rfl
@[simp] theorem setOut_evRecs (s : State) (o : Nat) (f : OutPort → OutPort) : (s.setOut o f).evRecs = s.evRecs := rfl
@[simp] theorem setOut_evLost (s : State) (o : Nat) (f : OutPort → OutPort) : (s.setOut o f).evLost = s.evLost := rfl
@[simp] theorem setOut_ldg (s : State) (o : Nat) (f : OutPort → OutPort) : (s.setOut o f).ldg = s.ldg := rfl
@[simp] theorem setOut_emits (s : State) (o : Nat) (f : OutPort → OutPort) : (s.setOut o f).emits = s.emits := rfl
@[simp] theorem setOut_txts (s : State) (o : Nat) (f : OutPort → OutPort) : (s.setOut o f).txts = s.txts := rfl
@[simp] theorem setOut_ports (s : State) (o : Nat) (f : OutPort → OutPort) : (s.setOut o f).ports = s.ports := rfl
@[simp] theorem setOut_cells (s : State) (o : Nat) (f : OutPort → OutPort) : (s.setOut o f).cells = s.cells := rfl
@[simp] theorem setOut_cellData (s : State) (o : Nat) (f : OutPort → OutPort) : (s.setOut o f).cellData = s.cellData := rfl
@[simp] theorem setOut_rotors (s : State) (o : Nat) (f : OutPort → OutPort) : (s.setOut o f).rotors = s.rotors := rfl
@[simp] theorem setOut_redLath (s : State) (o : Nat) (f : OutPort → OutPort) : (s.setOut o f).redLath = s.redLath := rfl
@[simp] theorem setOut_graphs (s : State) (o : Nat) (f : OutPort → OutPort) : (s.setOut o f).graphs = s.graphs := rfl
@[simp] theorem setOut_houseFrames (s : State) (o : Nat) (f : OutPort → OutPort) : (s.setOut o f).houseFrames = s.houseFrames := rfl
@[simp] theorem setOut_drain (s : State) (o : Nat) (f : OutPort → OutPort) : (s.setOut o f).drain = s.drain := rfl
@[simp] theorem setOut_staged (s : State) (o : Nat) (f : OutPort → OutPort) : (s.setOut o f).staged = s.staged := rfl
@[simp] theorem setOut_clsBanks (s : State) (o : Nat) (f : OutPort → OutPort) : (s.setOut o f).clsBanks = s.clsBanks := rfl
@[simp] theorem setOut_cipherQ (s : State) (o : Nat) (f : OutPort → OutPort) : (s.setOut o f).cipherQ = s.cipherQ := rfl
@[simp] theorem setOut_reparseQ (s : State) (o : Nat) (f : OutPort → OutPort) : (s.setOut o f).reparseQ = s.reparseQ := rfl
@[simp] theorem setOut_classQ (s : State) (o : Nat) (f : OutPort → OutPort) : (s.setOut o f).classQ = s.classQ := rfl
@[simp] theorem setOut_learnQ (s : State) (o : Nat) (f : OutPort → OutPort) : (s.setOut o f).learnQ = s.learnQ := rfl
@[simp] theorem setOut_dispQ (s : State) (o : Nat) (f : OutPort → OutPort) : (s.setOut o f).dispQ = s.dispQ := rfl
@[simp] theorem setOut_dram (s : State) (o : Nat) (f : OutPort → OutPort) : (s.setOut o f).dram = s.dram := rfl
@[simp] theorem setOut_hot (s : State) (o : Nat) (f : OutPort → OutPort) : (s.setOut o f).hot = s.hot := rfl
@[simp] theorem setOut_stn (s : State) (o : Nat) (f : OutPort → OutPort) : (s.setOut o f).stn = s.stn := rfl
@[simp] theorem setOut_stnWait (s : State) (o : Nat) (f : OutPort → OutPort) : (s.setOut o f).stnWait = s.stnWait := rfl
@[simp] theorem setOut_useCtr (s : State) (o : Nat) (f : OutPort → OutPort) : (s.setOut o f).useCtr = s.useCtr := rfl
@[simp] theorem setOut_reconciling (s : State) (o : Nat) (f : OutPort → OutPort) : (s.setOut o f).reconciling = s.reconciling := rfl
@[simp] theorem setOut_needReconcile (s : State) (o : Nat) (f : OutPort → OutPort) : (s.setOut o f).needReconcile = s.needReconcile := rfl
@[simp] theorem setOut_scans (s : State) (o : Nat) (f : OutPort → OutPort) : (s.setOut o f).scans = s.scans := rfl
@[simp] theorem setOut_sweeps (s : State) (o : Nat) (f : OutPort → OutPort) : (s.setOut o f).sweeps = s.sweeps := rfl
@[simp] theorem setOut_lastFound (s : State) (o : Nat) (f : OutPort → OutPort) : (s.setOut o f).lastFound = s.lastFound := rfl
@[simp] theorem setOut_guards (s : State) (o : Nat) (f : OutPort → OutPort) : (s.setOut o f).guards = s.guards := rfl
@[simp] theorem setOut_sweepAt (s : State) (o : Nat) (f : OutPort → OutPort) : (s.setOut o f).sweepAt = s.sweepAt := rfl
@[simp] theorem setOut_keyCache (s : State) (o : Nat) (f : OutPort → OutPort) : (s.setOut o f).keyCache = s.keyCache := rfl
@[simp] theorem setOut_rangeZero (s : State) (o : Nat) (f : OutPort → OutPort) : (s.setOut o f).rangeZero = s.rangeZero := rfl
@[simp] theorem setOut_freeAfter (s : State) (o : Nat) (f : OutPort → OutPort) : (s.setOut o f).freeAfter = s.freeAfter := rfl
@[simp] theorem setOut_chains (s : State) (o : Nat) (f : OutPort → OutPort) : (s.setOut o f).chains = s.chains := rfl
@[simp] theorem setOut_chans (s : State) (o : Nat) (f : OutPort → OutPort) : (s.setOut o f).chans = s.chans := rfl
@[simp] theorem setOut_deltas (s : State) (o : Nat) (f : OutPort → OutPort) : (s.setOut o f).deltas = s.deltas := rfl
@[simp] theorem setOut_idents (s : State) (o : Nat) (f : OutPort → OutPort) : (s.setOut o f).idents = s.idents := rfl
@[simp] theorem setOut_acceptedPlus (s : State) (o : Nat) (f : OutPort → OutPort) : (s.setOut o f).acceptedPlus = s.acceptedPlus := rfl
@[simp] theorem setOut_threads (s : State) (o : Nat) (f : OutPort → OutPort) : (s.setOut o f).threads = s.threads := rfl
@[simp] theorem setOut_cores (s : State) (o : Nat) (f : OutPort → OutPort) : (s.setOut o f).cores = s.cores := rfl
@[simp] theorem setOut_units (s : State) (o : Nat) (f : OutPort → OutPort) : (s.setOut o f).units = s.units := rfl
@[simp] theorem setOut_patches (s : State) (o : Nat) (f : OutPort → OutPort) : (s.setOut o f).patches = s.patches := rfl
@[simp] theorem setOut_patchFrom (s : State) (o : Nat) (f : OutPort → OutPort) : (s.setOut o f).patchFrom = s.patchFrom := rfl
@[simp] theorem setOut_sram (s : State) (o : Nat) (f : OutPort → OutPort) : (s.setOut o f).sram = s.sram := rfl
@[simp] theorem setOut_code (s : State) (o : Nat) (f : OutPort → OutPort) : (s.setOut o f).code = s.code := rfl
@[simp] theorem setOut_clMem (s : State) (o : Nat) (f : OutPort → OutPort) : (s.setOut o f).clMem = s.clMem := rfl
@[simp] theorem setOut_lockQ (s : State) (o : Nat) (f : OutPort → OutPort) : (s.setOut o f).lockQ = s.lockQ := rfl
@[simp] theorem setOut_gateFrom (s : State) (o : Nat) (f : OutPort → OutPort) : (s.setOut o f).gateFrom = s.gateFrom := rfl
@[simp] theorem setOut_banks (s : State) (o : Nat) (f : OutPort → OutPort) : (s.setOut o f).banks = s.banks := rfl
@[simp] theorem setOut_released (s : State) (o : Nat) (f : OutPort → OutPort) : (s.setOut o f).released = s.released := rfl
@[simp] theorem setOut_clusterQ (s : State) (o : Nat) (f : OutPort → OutPort) : (s.setOut o f).clusterQ = s.clusterQ := rfl
@[simp] theorem setOut_clusterRotor (s : State) (o : Nat) (f : OutPort → OutPort) : (s.setOut o f).clusterRotor = s.clusterRotor := rfl
@[simp] theorem setOut_defers (s : State) (o : Nat) (f : OutPort → OutPort) : (s.setOut o f).defers = s.defers := rfl
@[simp] theorem setOut_admitted (s : State) (o : Nat) (f : OutPort → OutPort) : (s.setOut o f).admitted = s.admitted := rfl
@[simp] theorem setOut_maps (s : State) (o : Nat) (f : OutPort → OutPort) : (s.setOut o f).maps = s.maps := rfl
@[simp] theorem setOut_moves (s : State) (o : Nat) (f : OutPort → OutPort) : (s.setOut o f).moves = s.moves := rfl
@[simp] theorem setOut_fences (s : State) (o : Nat) (f : OutPort → OutPort) : (s.setOut o f).fences = s.fences := rfl
@[simp] theorem setOut_oldMaps (s : State) (o : Nat) (f : OutPort → OutPort) : (s.setOut o f).oldMaps = s.oldMaps := rfl
@[simp] theorem setOut_gifts (s : State) (o : Nat) (f : OutPort → OutPort) : (s.setOut o f).gifts = s.gifts := rfl
@[simp] theorem setOut_roles (s : State) (o : Nat) (f : OutPort → OutPort) : (s.setOut o f).roles = s.roles := rfl
@[simp] theorem setOut_planes (s : State) (o : Nat) (f : OutPort → OutPort) : (s.setOut o f).planes = s.planes := rfl
@[simp] theorem setOut_xbar (s : State) (o : Nat) (f : OutPort → OutPort) : (s.setOut o f).xbar = s.xbar := rfl
@[simp] theorem setOut_geom (s : State) (o : Nat) (f : OutPort → OutPort) : (s.setOut o f).geom = s.geom := rfl
@[simp] theorem setOut_qstat (s : State) (o : Nat) (f : OutPort → OutPort) : (s.setOut o f).qstat = s.qstat := rfl
@[simp] theorem setOut_restless (s : State) (o : Nat) (f : OutPort → OutPort) : (s.setOut o f).restless = s.restless := rfl
@[simp] theorem setOut_chanCfg (s : State) (o : Nat) (f : OutPort → OutPort) : (s.setOut o f).chanCfg = s.chanCfg := rfl
@[simp] theorem setOut_heldFrames (s : State) (o : Nat) (f : OutPort → OutPort) : (s.setOut o f).heldFrames = s.heldFrames := rfl
@[simp] theorem setOut_appends (s : State) (o : Nat) (f : OutPort → OutPort) : (s.setOut o f).appends = s.appends := rfl
@[simp] theorem setOut_ledger (s : State) (o : Nat) (f : OutPort → OutPort) : (s.setOut o f).ledger = s.ledger := rfl
@[simp] theorem setOut_unretired (s : State) (o : Nat) (f : OutPort → OutPort) : (s.setOut o f).unretired = s.unretired := rfl
@[simp] theorem setOut_journal (s : State) (o : Nat) (f : OutPort → OutPort) : (s.setOut o f).journal = s.journal := rfl
@[simp] theorem setOut_stl (s : State) (o : Nat) (f : OutPort → OutPort) : (s.setOut o f).stl = s.stl := rfl
@[simp] theorem setOut_ctl (s : State) (o : Nat) (f : OutPort → OutPort) : (s.setOut o f).ctl = s.ctl := rfl
@[simp] theorem setOut_sessions (s : State) (o : Nat) (f : OutPort → OutPort) : (s.setOut o f).sessions = s.sessions := rfl
@[simp] theorem setOut_starts (s : State) (o : Nat) (f : OutPort → OutPort) : (s.setOut o f).starts = s.starts := rfl
@[simp] theorem setOut_stops (s : State) (o : Nat) (f : OutPort → OutPort) : (s.setOut o f).stops = s.stops := rfl
@[simp] theorem setOut_sup (s : State) (o : Nat) (f : OutPort → OutPort) : (s.setOut o f).sup = s.sup := rfl
@[simp] theorem setOut_pending (s : State) (o : Nat) (f : OutPort → OutPort) : (s.setOut o f).pending = s.pending := rfl

/-! `setStl` -/

@[simp] theorem setStl_stl (s : State) (f : Stl → Stl) : (s.setStl f).stl = f s.stl := rfl
@[simp] theorem setStl_time (s : State) (f : Stl → Stl) : (s.setStl f).time = s.time := rfl
@[simp] theorem setStl_regs (s : State) (f : Stl → Stl) : (s.setStl f).regs = s.regs := rfl
@[simp] theorem setStl_captures (s : State) (f : Stl → Stl) : (s.setStl f).captures = s.captures := rfl
@[simp] theorem setStl_resp (s : State) (f : Stl → Stl) : (s.setStl f).resp = s.resp := rfl
@[simp] theorem setStl_freeCtr (s : State) (f : Stl → Stl) : (s.setStl f).freeCtr = s.freeCtr := rfl
@[simp] theorem setStl_maint (s : State) (f : Stl → Stl) : (s.setStl f).maint = s.maint := rfl
@[simp] theorem setStl_fuses (s : State) (f : Stl → Stl) : (s.setStl f).fuses = s.fuses := rfl
@[simp] theorem setStl_evRecs (s : State) (f : Stl → Stl) : (s.setStl f).evRecs = s.evRecs := rfl
@[simp] theorem setStl_evLost (s : State) (f : Stl → Stl) : (s.setStl f).evLost = s.evLost := rfl
@[simp] theorem setStl_ldg (s : State) (f : Stl → Stl) : (s.setStl f).ldg = s.ldg := rfl
@[simp] theorem setStl_emits (s : State) (f : Stl → Stl) : (s.setStl f).emits = s.emits := rfl
@[simp] theorem setStl_txts (s : State) (f : Stl → Stl) : (s.setStl f).txts = s.txts := rfl
@[simp] theorem setStl_ports (s : State) (f : Stl → Stl) : (s.setStl f).ports = s.ports := rfl
@[simp] theorem setStl_cells (s : State) (f : Stl → Stl) : (s.setStl f).cells = s.cells := rfl
@[simp] theorem setStl_cellData (s : State) (f : Stl → Stl) : (s.setStl f).cellData = s.cellData := rfl
@[simp] theorem setStl_rotors (s : State) (f : Stl → Stl) : (s.setStl f).rotors = s.rotors := rfl
@[simp] theorem setStl_redLath (s : State) (f : Stl → Stl) : (s.setStl f).redLath = s.redLath := rfl
@[simp] theorem setStl_graphs (s : State) (f : Stl → Stl) : (s.setStl f).graphs = s.graphs := rfl
@[simp] theorem setStl_houseFrames (s : State) (f : Stl → Stl) : (s.setStl f).houseFrames = s.houseFrames := rfl
@[simp] theorem setStl_drain (s : State) (f : Stl → Stl) : (s.setStl f).drain = s.drain := rfl
@[simp] theorem setStl_staged (s : State) (f : Stl → Stl) : (s.setStl f).staged = s.staged := rfl
@[simp] theorem setStl_clsBanks (s : State) (f : Stl → Stl) : (s.setStl f).clsBanks = s.clsBanks := rfl
@[simp] theorem setStl_cipherQ (s : State) (f : Stl → Stl) : (s.setStl f).cipherQ = s.cipherQ := rfl
@[simp] theorem setStl_reparseQ (s : State) (f : Stl → Stl) : (s.setStl f).reparseQ = s.reparseQ := rfl
@[simp] theorem setStl_classQ (s : State) (f : Stl → Stl) : (s.setStl f).classQ = s.classQ := rfl
@[simp] theorem setStl_learnQ (s : State) (f : Stl → Stl) : (s.setStl f).learnQ = s.learnQ := rfl
@[simp] theorem setStl_dispQ (s : State) (f : Stl → Stl) : (s.setStl f).dispQ = s.dispQ := rfl
@[simp] theorem setStl_dram (s : State) (f : Stl → Stl) : (s.setStl f).dram = s.dram := rfl
@[simp] theorem setStl_hot (s : State) (f : Stl → Stl) : (s.setStl f).hot = s.hot := rfl
@[simp] theorem setStl_stn (s : State) (f : Stl → Stl) : (s.setStl f).stn = s.stn := rfl
@[simp] theorem setStl_stnWait (s : State) (f : Stl → Stl) : (s.setStl f).stnWait = s.stnWait := rfl
@[simp] theorem setStl_useCtr (s : State) (f : Stl → Stl) : (s.setStl f).useCtr = s.useCtr := rfl
@[simp] theorem setStl_reconciling (s : State) (f : Stl → Stl) : (s.setStl f).reconciling = s.reconciling := rfl
@[simp] theorem setStl_needReconcile (s : State) (f : Stl → Stl) : (s.setStl f).needReconcile = s.needReconcile := rfl
@[simp] theorem setStl_scans (s : State) (f : Stl → Stl) : (s.setStl f).scans = s.scans := rfl
@[simp] theorem setStl_sweeps (s : State) (f : Stl → Stl) : (s.setStl f).sweeps = s.sweeps := rfl
@[simp] theorem setStl_lastFound (s : State) (f : Stl → Stl) : (s.setStl f).lastFound = s.lastFound := rfl
@[simp] theorem setStl_guards (s : State) (f : Stl → Stl) : (s.setStl f).guards = s.guards := rfl
@[simp] theorem setStl_sweepAt (s : State) (f : Stl → Stl) : (s.setStl f).sweepAt = s.sweepAt := rfl
@[simp] theorem setStl_keyCache (s : State) (f : Stl → Stl) : (s.setStl f).keyCache = s.keyCache := rfl
@[simp] theorem setStl_rangeZero (s : State) (f : Stl → Stl) : (s.setStl f).rangeZero = s.rangeZero := rfl
@[simp] theorem setStl_freeAfter (s : State) (f : Stl → Stl) : (s.setStl f).freeAfter = s.freeAfter := rfl
@[simp] theorem setStl_chains (s : State) (f : Stl → Stl) : (s.setStl f).chains = s.chains := rfl
@[simp] theorem setStl_chans (s : State) (f : Stl → Stl) : (s.setStl f).chans = s.chans := rfl
@[simp] theorem setStl_deltas (s : State) (f : Stl → Stl) : (s.setStl f).deltas = s.deltas := rfl
@[simp] theorem setStl_idents (s : State) (f : Stl → Stl) : (s.setStl f).idents = s.idents := rfl
@[simp] theorem setStl_acceptedPlus (s : State) (f : Stl → Stl) : (s.setStl f).acceptedPlus = s.acceptedPlus := rfl
@[simp] theorem setStl_threads (s : State) (f : Stl → Stl) : (s.setStl f).threads = s.threads := rfl
@[simp] theorem setStl_cores (s : State) (f : Stl → Stl) : (s.setStl f).cores = s.cores := rfl
@[simp] theorem setStl_units (s : State) (f : Stl → Stl) : (s.setStl f).units = s.units := rfl
@[simp] theorem setStl_patches (s : State) (f : Stl → Stl) : (s.setStl f).patches = s.patches := rfl
@[simp] theorem setStl_patchFrom (s : State) (f : Stl → Stl) : (s.setStl f).patchFrom = s.patchFrom := rfl
@[simp] theorem setStl_sram (s : State) (f : Stl → Stl) : (s.setStl f).sram = s.sram := rfl
@[simp] theorem setStl_code (s : State) (f : Stl → Stl) : (s.setStl f).code = s.code := rfl
@[simp] theorem setStl_clMem (s : State) (f : Stl → Stl) : (s.setStl f).clMem = s.clMem := rfl
@[simp] theorem setStl_lockQ (s : State) (f : Stl → Stl) : (s.setStl f).lockQ = s.lockQ := rfl
@[simp] theorem setStl_gateFrom (s : State) (f : Stl → Stl) : (s.setStl f).gateFrom = s.gateFrom := rfl
@[simp] theorem setStl_banks (s : State) (f : Stl → Stl) : (s.setStl f).banks = s.banks := rfl
@[simp] theorem setStl_released (s : State) (f : Stl → Stl) : (s.setStl f).released = s.released := rfl
@[simp] theorem setStl_clusterQ (s : State) (f : Stl → Stl) : (s.setStl f).clusterQ = s.clusterQ := rfl
@[simp] theorem setStl_clusterRotor (s : State) (f : Stl → Stl) : (s.setStl f).clusterRotor = s.clusterRotor := rfl
@[simp] theorem setStl_defers (s : State) (f : Stl → Stl) : (s.setStl f).defers = s.defers := rfl
@[simp] theorem setStl_admitted (s : State) (f : Stl → Stl) : (s.setStl f).admitted = s.admitted := rfl
@[simp] theorem setStl_maps (s : State) (f : Stl → Stl) : (s.setStl f).maps = s.maps := rfl
@[simp] theorem setStl_moves (s : State) (f : Stl → Stl) : (s.setStl f).moves = s.moves := rfl
@[simp] theorem setStl_fences (s : State) (f : Stl → Stl) : (s.setStl f).fences = s.fences := rfl
@[simp] theorem setStl_oldMaps (s : State) (f : Stl → Stl) : (s.setStl f).oldMaps = s.oldMaps := rfl
@[simp] theorem setStl_gifts (s : State) (f : Stl → Stl) : (s.setStl f).gifts = s.gifts := rfl
@[simp] theorem setStl_roles (s : State) (f : Stl → Stl) : (s.setStl f).roles = s.roles := rfl
@[simp] theorem setStl_outPorts (s : State) (f : Stl → Stl) : (s.setStl f).outPorts = s.outPorts := rfl
@[simp] theorem setStl_planes (s : State) (f : Stl → Stl) : (s.setStl f).planes = s.planes := rfl
@[simp] theorem setStl_xbar (s : State) (f : Stl → Stl) : (s.setStl f).xbar = s.xbar := rfl
@[simp] theorem setStl_geom (s : State) (f : Stl → Stl) : (s.setStl f).geom = s.geom := rfl
@[simp] theorem setStl_qstat (s : State) (f : Stl → Stl) : (s.setStl f).qstat = s.qstat := rfl
@[simp] theorem setStl_restless (s : State) (f : Stl → Stl) : (s.setStl f).restless = s.restless := rfl
@[simp] theorem setStl_chanCfg (s : State) (f : Stl → Stl) : (s.setStl f).chanCfg = s.chanCfg := rfl
@[simp] theorem setStl_heldFrames (s : State) (f : Stl → Stl) : (s.setStl f).heldFrames = s.heldFrames := rfl
@[simp] theorem setStl_appends (s : State) (f : Stl → Stl) : (s.setStl f).appends = s.appends := rfl
@[simp] theorem setStl_ledger (s : State) (f : Stl → Stl) : (s.setStl f).ledger = s.ledger := rfl
@[simp] theorem setStl_unretired (s : State) (f : Stl → Stl) : (s.setStl f).unretired = s.unretired := rfl
@[simp] theorem setStl_journal (s : State) (f : Stl → Stl) : (s.setStl f).journal = s.journal := rfl
@[simp] theorem setStl_ctl (s : State) (f : Stl → Stl) : (s.setStl f).ctl = s.ctl := rfl
@[simp] theorem setStl_sessions (s : State) (f : Stl → Stl) : (s.setStl f).sessions = s.sessions := rfl
@[simp] theorem setStl_starts (s : State) (f : Stl → Stl) : (s.setStl f).starts = s.starts := rfl
@[simp] theorem setStl_stops (s : State) (f : Stl → Stl) : (s.setStl f).stops = s.stops := rfl
@[simp] theorem setStl_sup (s : State) (f : Stl → Stl) : (s.setStl f).sup = s.sup := rfl
@[simp] theorem setStl_pending (s : State) (f : Stl → Stl) : (s.setStl f).pending = s.pending := rfl

/-! `setSup` -/

@[simp] theorem setSup_sup (s : State) (f : Sup → Sup) : (s.setSup f).sup = f s.sup := rfl
@[simp] theorem setSup_time (s : State) (f : Sup → Sup) : (s.setSup f).time = s.time := rfl
@[simp] theorem setSup_regs (s : State) (f : Sup → Sup) : (s.setSup f).regs = s.regs := rfl
@[simp] theorem setSup_captures (s : State) (f : Sup → Sup) : (s.setSup f).captures = s.captures := rfl
@[simp] theorem setSup_resp (s : State) (f : Sup → Sup) : (s.setSup f).resp = s.resp := rfl
@[simp] theorem setSup_freeCtr (s : State) (f : Sup → Sup) : (s.setSup f).freeCtr = s.freeCtr := rfl
@[simp] theorem setSup_maint (s : State) (f : Sup → Sup) : (s.setSup f).maint = s.maint := rfl
@[simp] theorem setSup_fuses (s : State) (f : Sup → Sup) : (s.setSup f).fuses = s.fuses := rfl
@[simp] theorem setSup_evRecs (s : State) (f : Sup → Sup) : (s.setSup f).evRecs = s.evRecs := rfl
@[simp] theorem setSup_evLost (s : State) (f : Sup → Sup) : (s.setSup f).evLost = s.evLost := rfl
@[simp] theorem setSup_ldg (s : State) (f : Sup → Sup) : (s.setSup f).ldg = s.ldg := rfl
@[simp] theorem setSup_emits (s : State) (f : Sup → Sup) : (s.setSup f).emits = s.emits := rfl
@[simp] theorem setSup_txts (s : State) (f : Sup → Sup) : (s.setSup f).txts = s.txts := rfl
@[simp] theorem setSup_ports (s : State) (f : Sup → Sup) : (s.setSup f).ports = s.ports := rfl
@[simp] theorem setSup_cells (s : State) (f : Sup → Sup) : (s.setSup f).cells = s.cells := rfl
@[simp] theorem setSup_cellData (s : State) (f : Sup → Sup) : (s.setSup f).cellData = s.cellData := rfl
@[simp] theorem setSup_rotors (s : State) (f : Sup → Sup) : (s.setSup f).rotors = s.rotors := rfl
@[simp] theorem setSup_redLath (s : State) (f : Sup → Sup) : (s.setSup f).redLath = s.redLath := rfl
@[simp] theorem setSup_graphs (s : State) (f : Sup → Sup) : (s.setSup f).graphs = s.graphs := rfl
@[simp] theorem setSup_houseFrames (s : State) (f : Sup → Sup) : (s.setSup f).houseFrames = s.houseFrames := rfl
@[simp] theorem setSup_drain (s : State) (f : Sup → Sup) : (s.setSup f).drain = s.drain := rfl
@[simp] theorem setSup_staged (s : State) (f : Sup → Sup) : (s.setSup f).staged = s.staged := rfl
@[simp] theorem setSup_clsBanks (s : State) (f : Sup → Sup) : (s.setSup f).clsBanks = s.clsBanks := rfl
@[simp] theorem setSup_cipherQ (s : State) (f : Sup → Sup) : (s.setSup f).cipherQ = s.cipherQ := rfl
@[simp] theorem setSup_reparseQ (s : State) (f : Sup → Sup) : (s.setSup f).reparseQ = s.reparseQ := rfl
@[simp] theorem setSup_classQ (s : State) (f : Sup → Sup) : (s.setSup f).classQ = s.classQ := rfl
@[simp] theorem setSup_learnQ (s : State) (f : Sup → Sup) : (s.setSup f).learnQ = s.learnQ := rfl
@[simp] theorem setSup_dispQ (s : State) (f : Sup → Sup) : (s.setSup f).dispQ = s.dispQ := rfl
@[simp] theorem setSup_dram (s : State) (f : Sup → Sup) : (s.setSup f).dram = s.dram := rfl
@[simp] theorem setSup_hot (s : State) (f : Sup → Sup) : (s.setSup f).hot = s.hot := rfl
@[simp] theorem setSup_stn (s : State) (f : Sup → Sup) : (s.setSup f).stn = s.stn := rfl
@[simp] theorem setSup_stnWait (s : State) (f : Sup → Sup) : (s.setSup f).stnWait = s.stnWait := rfl
@[simp] theorem setSup_useCtr (s : State) (f : Sup → Sup) : (s.setSup f).useCtr = s.useCtr := rfl
@[simp] theorem setSup_reconciling (s : State) (f : Sup → Sup) : (s.setSup f).reconciling = s.reconciling := rfl
@[simp] theorem setSup_needReconcile (s : State) (f : Sup → Sup) : (s.setSup f).needReconcile = s.needReconcile := rfl
@[simp] theorem setSup_scans (s : State) (f : Sup → Sup) : (s.setSup f).scans = s.scans := rfl
@[simp] theorem setSup_sweeps (s : State) (f : Sup → Sup) : (s.setSup f).sweeps = s.sweeps := rfl
@[simp] theorem setSup_lastFound (s : State) (f : Sup → Sup) : (s.setSup f).lastFound = s.lastFound := rfl
@[simp] theorem setSup_guards (s : State) (f : Sup → Sup) : (s.setSup f).guards = s.guards := rfl
@[simp] theorem setSup_sweepAt (s : State) (f : Sup → Sup) : (s.setSup f).sweepAt = s.sweepAt := rfl
@[simp] theorem setSup_keyCache (s : State) (f : Sup → Sup) : (s.setSup f).keyCache = s.keyCache := rfl
@[simp] theorem setSup_rangeZero (s : State) (f : Sup → Sup) : (s.setSup f).rangeZero = s.rangeZero := rfl
@[simp] theorem setSup_freeAfter (s : State) (f : Sup → Sup) : (s.setSup f).freeAfter = s.freeAfter := rfl
@[simp] theorem setSup_chains (s : State) (f : Sup → Sup) : (s.setSup f).chains = s.chains := rfl
@[simp] theorem setSup_chans (s : State) (f : Sup → Sup) : (s.setSup f).chans = s.chans := rfl
@[simp] theorem setSup_deltas (s : State) (f : Sup → Sup) : (s.setSup f).deltas = s.deltas := rfl
@[simp] theorem setSup_idents (s : State) (f : Sup → Sup) : (s.setSup f).idents = s.idents := rfl
@[simp] theorem setSup_acceptedPlus (s : State) (f : Sup → Sup) : (s.setSup f).acceptedPlus = s.acceptedPlus := rfl
@[simp] theorem setSup_threads (s : State) (f : Sup → Sup) : (s.setSup f).threads = s.threads := rfl
@[simp] theorem setSup_cores (s : State) (f : Sup → Sup) : (s.setSup f).cores = s.cores := rfl
@[simp] theorem setSup_units (s : State) (f : Sup → Sup) : (s.setSup f).units = s.units := rfl
@[simp] theorem setSup_patches (s : State) (f : Sup → Sup) : (s.setSup f).patches = s.patches := rfl
@[simp] theorem setSup_patchFrom (s : State) (f : Sup → Sup) : (s.setSup f).patchFrom = s.patchFrom := rfl
@[simp] theorem setSup_sram (s : State) (f : Sup → Sup) : (s.setSup f).sram = s.sram := rfl
@[simp] theorem setSup_code (s : State) (f : Sup → Sup) : (s.setSup f).code = s.code := rfl
@[simp] theorem setSup_clMem (s : State) (f : Sup → Sup) : (s.setSup f).clMem = s.clMem := rfl
@[simp] theorem setSup_lockQ (s : State) (f : Sup → Sup) : (s.setSup f).lockQ = s.lockQ := rfl
@[simp] theorem setSup_gateFrom (s : State) (f : Sup → Sup) : (s.setSup f).gateFrom = s.gateFrom := rfl
@[simp] theorem setSup_banks (s : State) (f : Sup → Sup) : (s.setSup f).banks = s.banks := rfl
@[simp] theorem setSup_released (s : State) (f : Sup → Sup) : (s.setSup f).released = s.released := rfl
@[simp] theorem setSup_clusterQ (s : State) (f : Sup → Sup) : (s.setSup f).clusterQ = s.clusterQ := rfl
@[simp] theorem setSup_clusterRotor (s : State) (f : Sup → Sup) : (s.setSup f).clusterRotor = s.clusterRotor := rfl
@[simp] theorem setSup_defers (s : State) (f : Sup → Sup) : (s.setSup f).defers = s.defers := rfl
@[simp] theorem setSup_admitted (s : State) (f : Sup → Sup) : (s.setSup f).admitted = s.admitted := rfl
@[simp] theorem setSup_maps (s : State) (f : Sup → Sup) : (s.setSup f).maps = s.maps := rfl
@[simp] theorem setSup_moves (s : State) (f : Sup → Sup) : (s.setSup f).moves = s.moves := rfl
@[simp] theorem setSup_fences (s : State) (f : Sup → Sup) : (s.setSup f).fences = s.fences := rfl
@[simp] theorem setSup_oldMaps (s : State) (f : Sup → Sup) : (s.setSup f).oldMaps = s.oldMaps := rfl
@[simp] theorem setSup_gifts (s : State) (f : Sup → Sup) : (s.setSup f).gifts = s.gifts := rfl
@[simp] theorem setSup_roles (s : State) (f : Sup → Sup) : (s.setSup f).roles = s.roles := rfl
@[simp] theorem setSup_outPorts (s : State) (f : Sup → Sup) : (s.setSup f).outPorts = s.outPorts := rfl
@[simp] theorem setSup_planes (s : State) (f : Sup → Sup) : (s.setSup f).planes = s.planes := rfl
@[simp] theorem setSup_xbar (s : State) (f : Sup → Sup) : (s.setSup f).xbar = s.xbar := rfl
@[simp] theorem setSup_geom (s : State) (f : Sup → Sup) : (s.setSup f).geom = s.geom := rfl
@[simp] theorem setSup_qstat (s : State) (f : Sup → Sup) : (s.setSup f).qstat = s.qstat := rfl
@[simp] theorem setSup_restless (s : State) (f : Sup → Sup) : (s.setSup f).restless = s.restless := rfl
@[simp] theorem setSup_chanCfg (s : State) (f : Sup → Sup) : (s.setSup f).chanCfg = s.chanCfg := rfl
@[simp] theorem setSup_heldFrames (s : State) (f : Sup → Sup) : (s.setSup f).heldFrames = s.heldFrames := rfl
@[simp] theorem setSup_appends (s : State) (f : Sup → Sup) : (s.setSup f).appends = s.appends := rfl
@[simp] theorem setSup_ledger (s : State) (f : Sup → Sup) : (s.setSup f).ledger = s.ledger := rfl
@[simp] theorem setSup_unretired (s : State) (f : Sup → Sup) : (s.setSup f).unretired = s.unretired := rfl
@[simp] theorem setSup_journal (s : State) (f : Sup → Sup) : (s.setSup f).journal = s.journal := rfl
@[simp] theorem setSup_stl (s : State) (f : Sup → Sup) : (s.setSup f).stl = s.stl := rfl
@[simp] theorem setSup_ctl (s : State) (f : Sup → Sup) : (s.setSup f).ctl = s.ctl := rfl
@[simp] theorem setSup_sessions (s : State) (f : Sup → Sup) : (s.setSup f).sessions = s.sessions := rfl
@[simp] theorem setSup_starts (s : State) (f : Sup → Sup) : (s.setSup f).starts = s.starts := rfl
@[simp] theorem setSup_stops (s : State) (f : Sup → Sup) : (s.setSup f).stops = s.stops := rfl
@[simp] theorem setSup_pending (s : State) (f : Sup → Sup) : (s.setSup f).pending = s.pending := rfl

/-! `setCtl` -/

@[simp] theorem setCtl_ctl (s : State) (f : Dram → Dram) : (s.setCtl f).ctl = f s.ctl := rfl
@[simp] theorem setCtl_time (s : State) (f : Dram → Dram) : (s.setCtl f).time = s.time := rfl
@[simp] theorem setCtl_regs (s : State) (f : Dram → Dram) : (s.setCtl f).regs = s.regs := rfl
@[simp] theorem setCtl_captures (s : State) (f : Dram → Dram) : (s.setCtl f).captures = s.captures := rfl
@[simp] theorem setCtl_resp (s : State) (f : Dram → Dram) : (s.setCtl f).resp = s.resp := rfl
@[simp] theorem setCtl_freeCtr (s : State) (f : Dram → Dram) : (s.setCtl f).freeCtr = s.freeCtr := rfl
@[simp] theorem setCtl_maint (s : State) (f : Dram → Dram) : (s.setCtl f).maint = s.maint := rfl
@[simp] theorem setCtl_fuses (s : State) (f : Dram → Dram) : (s.setCtl f).fuses = s.fuses := rfl
@[simp] theorem setCtl_evRecs (s : State) (f : Dram → Dram) : (s.setCtl f).evRecs = s.evRecs := rfl
@[simp] theorem setCtl_evLost (s : State) (f : Dram → Dram) : (s.setCtl f).evLost = s.evLost := rfl
@[simp] theorem setCtl_ldg (s : State) (f : Dram → Dram) : (s.setCtl f).ldg = s.ldg := rfl
@[simp] theorem setCtl_emits (s : State) (f : Dram → Dram) : (s.setCtl f).emits = s.emits := rfl
@[simp] theorem setCtl_txts (s : State) (f : Dram → Dram) : (s.setCtl f).txts = s.txts := rfl
@[simp] theorem setCtl_ports (s : State) (f : Dram → Dram) : (s.setCtl f).ports = s.ports := rfl
@[simp] theorem setCtl_cells (s : State) (f : Dram → Dram) : (s.setCtl f).cells = s.cells := rfl
@[simp] theorem setCtl_cellData (s : State) (f : Dram → Dram) : (s.setCtl f).cellData = s.cellData := rfl
@[simp] theorem setCtl_rotors (s : State) (f : Dram → Dram) : (s.setCtl f).rotors = s.rotors := rfl
@[simp] theorem setCtl_redLath (s : State) (f : Dram → Dram) : (s.setCtl f).redLath = s.redLath := rfl
@[simp] theorem setCtl_graphs (s : State) (f : Dram → Dram) : (s.setCtl f).graphs = s.graphs := rfl
@[simp] theorem setCtl_houseFrames (s : State) (f : Dram → Dram) : (s.setCtl f).houseFrames = s.houseFrames := rfl
@[simp] theorem setCtl_drain (s : State) (f : Dram → Dram) : (s.setCtl f).drain = s.drain := rfl
@[simp] theorem setCtl_staged (s : State) (f : Dram → Dram) : (s.setCtl f).staged = s.staged := rfl
@[simp] theorem setCtl_clsBanks (s : State) (f : Dram → Dram) : (s.setCtl f).clsBanks = s.clsBanks := rfl
@[simp] theorem setCtl_cipherQ (s : State) (f : Dram → Dram) : (s.setCtl f).cipherQ = s.cipherQ := rfl
@[simp] theorem setCtl_reparseQ (s : State) (f : Dram → Dram) : (s.setCtl f).reparseQ = s.reparseQ := rfl
@[simp] theorem setCtl_classQ (s : State) (f : Dram → Dram) : (s.setCtl f).classQ = s.classQ := rfl
@[simp] theorem setCtl_learnQ (s : State) (f : Dram → Dram) : (s.setCtl f).learnQ = s.learnQ := rfl
@[simp] theorem setCtl_dispQ (s : State) (f : Dram → Dram) : (s.setCtl f).dispQ = s.dispQ := rfl
@[simp] theorem setCtl_dram (s : State) (f : Dram → Dram) : (s.setCtl f).dram = s.dram := rfl
@[simp] theorem setCtl_hot (s : State) (f : Dram → Dram) : (s.setCtl f).hot = s.hot := rfl
@[simp] theorem setCtl_stn (s : State) (f : Dram → Dram) : (s.setCtl f).stn = s.stn := rfl
@[simp] theorem setCtl_stnWait (s : State) (f : Dram → Dram) : (s.setCtl f).stnWait = s.stnWait := rfl
@[simp] theorem setCtl_useCtr (s : State) (f : Dram → Dram) : (s.setCtl f).useCtr = s.useCtr := rfl
@[simp] theorem setCtl_reconciling (s : State) (f : Dram → Dram) : (s.setCtl f).reconciling = s.reconciling := rfl
@[simp] theorem setCtl_needReconcile (s : State) (f : Dram → Dram) : (s.setCtl f).needReconcile = s.needReconcile := rfl
@[simp] theorem setCtl_scans (s : State) (f : Dram → Dram) : (s.setCtl f).scans = s.scans := rfl
@[simp] theorem setCtl_sweeps (s : State) (f : Dram → Dram) : (s.setCtl f).sweeps = s.sweeps := rfl
@[simp] theorem setCtl_lastFound (s : State) (f : Dram → Dram) : (s.setCtl f).lastFound = s.lastFound := rfl
@[simp] theorem setCtl_guards (s : State) (f : Dram → Dram) : (s.setCtl f).guards = s.guards := rfl
@[simp] theorem setCtl_sweepAt (s : State) (f : Dram → Dram) : (s.setCtl f).sweepAt = s.sweepAt := rfl
@[simp] theorem setCtl_keyCache (s : State) (f : Dram → Dram) : (s.setCtl f).keyCache = s.keyCache := rfl
@[simp] theorem setCtl_rangeZero (s : State) (f : Dram → Dram) : (s.setCtl f).rangeZero = s.rangeZero := rfl
@[simp] theorem setCtl_freeAfter (s : State) (f : Dram → Dram) : (s.setCtl f).freeAfter = s.freeAfter := rfl
@[simp] theorem setCtl_chains (s : State) (f : Dram → Dram) : (s.setCtl f).chains = s.chains := rfl
@[simp] theorem setCtl_chans (s : State) (f : Dram → Dram) : (s.setCtl f).chans = s.chans := rfl
@[simp] theorem setCtl_deltas (s : State) (f : Dram → Dram) : (s.setCtl f).deltas = s.deltas := rfl
@[simp] theorem setCtl_idents (s : State) (f : Dram → Dram) : (s.setCtl f).idents = s.idents := rfl
@[simp] theorem setCtl_acceptedPlus (s : State) (f : Dram → Dram) : (s.setCtl f).acceptedPlus = s.acceptedPlus := rfl
@[simp] theorem setCtl_threads (s : State) (f : Dram → Dram) : (s.setCtl f).threads = s.threads := rfl
@[simp] theorem setCtl_cores (s : State) (f : Dram → Dram) : (s.setCtl f).cores = s.cores := rfl
@[simp] theorem setCtl_units (s : State) (f : Dram → Dram) : (s.setCtl f).units = s.units := rfl
@[simp] theorem setCtl_patches (s : State) (f : Dram → Dram) : (s.setCtl f).patches = s.patches := rfl
@[simp] theorem setCtl_patchFrom (s : State) (f : Dram → Dram) : (s.setCtl f).patchFrom = s.patchFrom := rfl
@[simp] theorem setCtl_sram (s : State) (f : Dram → Dram) : (s.setCtl f).sram = s.sram := rfl
@[simp] theorem setCtl_code (s : State) (f : Dram → Dram) : (s.setCtl f).code = s.code := rfl
@[simp] theorem setCtl_clMem (s : State) (f : Dram → Dram) : (s.setCtl f).clMem = s.clMem := rfl
@[simp] theorem setCtl_lockQ (s : State) (f : Dram → Dram) : (s.setCtl f).lockQ = s.lockQ := rfl
@[simp] theorem setCtl_gateFrom (s : State) (f : Dram → Dram) : (s.setCtl f).gateFrom = s.gateFrom := rfl
@[simp] theorem setCtl_banks (s : State) (f : Dram → Dram) : (s.setCtl f).banks = s.banks := rfl
@[simp] theorem setCtl_released (s : State) (f : Dram → Dram) : (s.setCtl f).released = s.released := rfl
@[simp] theorem setCtl_clusterQ (s : State) (f : Dram → Dram) : (s.setCtl f).clusterQ = s.clusterQ := rfl
@[simp] theorem setCtl_clusterRotor (s : State) (f : Dram → Dram) : (s.setCtl f).clusterRotor = s.clusterRotor := rfl
@[simp] theorem setCtl_defers (s : State) (f : Dram → Dram) : (s.setCtl f).defers = s.defers := rfl
@[simp] theorem setCtl_admitted (s : State) (f : Dram → Dram) : (s.setCtl f).admitted = s.admitted := rfl
@[simp] theorem setCtl_maps (s : State) (f : Dram → Dram) : (s.setCtl f).maps = s.maps := rfl
@[simp] theorem setCtl_moves (s : State) (f : Dram → Dram) : (s.setCtl f).moves = s.moves := rfl
@[simp] theorem setCtl_fences (s : State) (f : Dram → Dram) : (s.setCtl f).fences = s.fences := rfl
@[simp] theorem setCtl_oldMaps (s : State) (f : Dram → Dram) : (s.setCtl f).oldMaps = s.oldMaps := rfl
@[simp] theorem setCtl_gifts (s : State) (f : Dram → Dram) : (s.setCtl f).gifts = s.gifts := rfl
@[simp] theorem setCtl_roles (s : State) (f : Dram → Dram) : (s.setCtl f).roles = s.roles := rfl
@[simp] theorem setCtl_outPorts (s : State) (f : Dram → Dram) : (s.setCtl f).outPorts = s.outPorts := rfl
@[simp] theorem setCtl_planes (s : State) (f : Dram → Dram) : (s.setCtl f).planes = s.planes := rfl
@[simp] theorem setCtl_xbar (s : State) (f : Dram → Dram) : (s.setCtl f).xbar = s.xbar := rfl
@[simp] theorem setCtl_geom (s : State) (f : Dram → Dram) : (s.setCtl f).geom = s.geom := rfl
@[simp] theorem setCtl_qstat (s : State) (f : Dram → Dram) : (s.setCtl f).qstat = s.qstat := rfl
@[simp] theorem setCtl_restless (s : State) (f : Dram → Dram) : (s.setCtl f).restless = s.restless := rfl
@[simp] theorem setCtl_chanCfg (s : State) (f : Dram → Dram) : (s.setCtl f).chanCfg = s.chanCfg := rfl
@[simp] theorem setCtl_heldFrames (s : State) (f : Dram → Dram) : (s.setCtl f).heldFrames = s.heldFrames := rfl
@[simp] theorem setCtl_appends (s : State) (f : Dram → Dram) : (s.setCtl f).appends = s.appends := rfl
@[simp] theorem setCtl_ledger (s : State) (f : Dram → Dram) : (s.setCtl f).ledger = s.ledger := rfl
@[simp] theorem setCtl_unretired (s : State) (f : Dram → Dram) : (s.setCtl f).unretired = s.unretired := rfl
@[simp] theorem setCtl_journal (s : State) (f : Dram → Dram) : (s.setCtl f).journal = s.journal := rfl
@[simp] theorem setCtl_stl (s : State) (f : Dram → Dram) : (s.setCtl f).stl = s.stl := rfl
@[simp] theorem setCtl_sessions (s : State) (f : Dram → Dram) : (s.setCtl f).sessions = s.sessions := rfl
@[simp] theorem setCtl_starts (s : State) (f : Dram → Dram) : (s.setCtl f).starts = s.starts := rfl
@[simp] theorem setCtl_stops (s : State) (f : Dram → Dram) : (s.setCtl f).stops = s.stops := rfl
@[simp] theorem setCtl_sup (s : State) (f : Dram → Dram) : (s.setCtl f).sup = s.sup := rfl
@[simp] theorem setCtl_pending (s : State) (f : Dram → Dram) : (s.setCtl f).pending = s.pending := rfl

/-! `setSess` -/

@[simp] theorem setSess_sessions (s : State) (x : Nat) (f : Session → Session) : (s.setSess x f).sessions = s.sessions.set Session.reset x (f (s.sess x)) := rfl
@[simp] theorem setSess_time (s : State) (x : Nat) (f : Session → Session) : (s.setSess x f).time = s.time := rfl
@[simp] theorem setSess_regs (s : State) (x : Nat) (f : Session → Session) : (s.setSess x f).regs = s.regs := rfl
@[simp] theorem setSess_captures (s : State) (x : Nat) (f : Session → Session) : (s.setSess x f).captures = s.captures := rfl
@[simp] theorem setSess_resp (s : State) (x : Nat) (f : Session → Session) : (s.setSess x f).resp = s.resp := rfl
@[simp] theorem setSess_freeCtr (s : State) (x : Nat) (f : Session → Session) : (s.setSess x f).freeCtr = s.freeCtr := rfl
@[simp] theorem setSess_maint (s : State) (x : Nat) (f : Session → Session) : (s.setSess x f).maint = s.maint := rfl
@[simp] theorem setSess_fuses (s : State) (x : Nat) (f : Session → Session) : (s.setSess x f).fuses = s.fuses := rfl
@[simp] theorem setSess_evRecs (s : State) (x : Nat) (f : Session → Session) : (s.setSess x f).evRecs = s.evRecs := rfl
@[simp] theorem setSess_evLost (s : State) (x : Nat) (f : Session → Session) : (s.setSess x f).evLost = s.evLost := rfl
@[simp] theorem setSess_ldg (s : State) (x : Nat) (f : Session → Session) : (s.setSess x f).ldg = s.ldg := rfl
@[simp] theorem setSess_emits (s : State) (x : Nat) (f : Session → Session) : (s.setSess x f).emits = s.emits := rfl
@[simp] theorem setSess_txts (s : State) (x : Nat) (f : Session → Session) : (s.setSess x f).txts = s.txts := rfl
@[simp] theorem setSess_ports (s : State) (x : Nat) (f : Session → Session) : (s.setSess x f).ports = s.ports := rfl
@[simp] theorem setSess_cells (s : State) (x : Nat) (f : Session → Session) : (s.setSess x f).cells = s.cells := rfl
@[simp] theorem setSess_cellData (s : State) (x : Nat) (f : Session → Session) : (s.setSess x f).cellData = s.cellData := rfl
@[simp] theorem setSess_rotors (s : State) (x : Nat) (f : Session → Session) : (s.setSess x f).rotors = s.rotors := rfl
@[simp] theorem setSess_redLath (s : State) (x : Nat) (f : Session → Session) : (s.setSess x f).redLath = s.redLath := rfl
@[simp] theorem setSess_graphs (s : State) (x : Nat) (f : Session → Session) : (s.setSess x f).graphs = s.graphs := rfl
@[simp] theorem setSess_houseFrames (s : State) (x : Nat) (f : Session → Session) : (s.setSess x f).houseFrames = s.houseFrames := rfl
@[simp] theorem setSess_drain (s : State) (x : Nat) (f : Session → Session) : (s.setSess x f).drain = s.drain := rfl
@[simp] theorem setSess_staged (s : State) (x : Nat) (f : Session → Session) : (s.setSess x f).staged = s.staged := rfl
@[simp] theorem setSess_clsBanks (s : State) (x : Nat) (f : Session → Session) : (s.setSess x f).clsBanks = s.clsBanks := rfl
@[simp] theorem setSess_cipherQ (s : State) (x : Nat) (f : Session → Session) : (s.setSess x f).cipherQ = s.cipherQ := rfl
@[simp] theorem setSess_reparseQ (s : State) (x : Nat) (f : Session → Session) : (s.setSess x f).reparseQ = s.reparseQ := rfl
@[simp] theorem setSess_classQ (s : State) (x : Nat) (f : Session → Session) : (s.setSess x f).classQ = s.classQ := rfl
@[simp] theorem setSess_learnQ (s : State) (x : Nat) (f : Session → Session) : (s.setSess x f).learnQ = s.learnQ := rfl
@[simp] theorem setSess_dispQ (s : State) (x : Nat) (f : Session → Session) : (s.setSess x f).dispQ = s.dispQ := rfl
@[simp] theorem setSess_dram (s : State) (x : Nat) (f : Session → Session) : (s.setSess x f).dram = s.dram := rfl
@[simp] theorem setSess_hot (s : State) (x : Nat) (f : Session → Session) : (s.setSess x f).hot = s.hot := rfl
@[simp] theorem setSess_stn (s : State) (x : Nat) (f : Session → Session) : (s.setSess x f).stn = s.stn := rfl
@[simp] theorem setSess_stnWait (s : State) (x : Nat) (f : Session → Session) : (s.setSess x f).stnWait = s.stnWait := rfl
@[simp] theorem setSess_useCtr (s : State) (x : Nat) (f : Session → Session) : (s.setSess x f).useCtr = s.useCtr := rfl
@[simp] theorem setSess_reconciling (s : State) (x : Nat) (f : Session → Session) : (s.setSess x f).reconciling = s.reconciling := rfl
@[simp] theorem setSess_needReconcile (s : State) (x : Nat) (f : Session → Session) : (s.setSess x f).needReconcile = s.needReconcile := rfl
@[simp] theorem setSess_scans (s : State) (x : Nat) (f : Session → Session) : (s.setSess x f).scans = s.scans := rfl
@[simp] theorem setSess_sweeps (s : State) (x : Nat) (f : Session → Session) : (s.setSess x f).sweeps = s.sweeps := rfl
@[simp] theorem setSess_lastFound (s : State) (x : Nat) (f : Session → Session) : (s.setSess x f).lastFound = s.lastFound := rfl
@[simp] theorem setSess_guards (s : State) (x : Nat) (f : Session → Session) : (s.setSess x f).guards = s.guards := rfl
@[simp] theorem setSess_sweepAt (s : State) (x : Nat) (f : Session → Session) : (s.setSess x f).sweepAt = s.sweepAt := rfl
@[simp] theorem setSess_keyCache (s : State) (x : Nat) (f : Session → Session) : (s.setSess x f).keyCache = s.keyCache := rfl
@[simp] theorem setSess_rangeZero (s : State) (x : Nat) (f : Session → Session) : (s.setSess x f).rangeZero = s.rangeZero := rfl
@[simp] theorem setSess_freeAfter (s : State) (x : Nat) (f : Session → Session) : (s.setSess x f).freeAfter = s.freeAfter := rfl
@[simp] theorem setSess_chains (s : State) (x : Nat) (f : Session → Session) : (s.setSess x f).chains = s.chains := rfl
@[simp] theorem setSess_chans (s : State) (x : Nat) (f : Session → Session) : (s.setSess x f).chans = s.chans := rfl
@[simp] theorem setSess_deltas (s : State) (x : Nat) (f : Session → Session) : (s.setSess x f).deltas = s.deltas := rfl
@[simp] theorem setSess_idents (s : State) (x : Nat) (f : Session → Session) : (s.setSess x f).idents = s.idents := rfl
@[simp] theorem setSess_acceptedPlus (s : State) (x : Nat) (f : Session → Session) : (s.setSess x f).acceptedPlus = s.acceptedPlus := rfl
@[simp] theorem setSess_threads (s : State) (x : Nat) (f : Session → Session) : (s.setSess x f).threads = s.threads := rfl
@[simp] theorem setSess_cores (s : State) (x : Nat) (f : Session → Session) : (s.setSess x f).cores = s.cores := rfl
@[simp] theorem setSess_units (s : State) (x : Nat) (f : Session → Session) : (s.setSess x f).units = s.units := rfl
@[simp] theorem setSess_patches (s : State) (x : Nat) (f : Session → Session) : (s.setSess x f).patches = s.patches := rfl
@[simp] theorem setSess_patchFrom (s : State) (x : Nat) (f : Session → Session) : (s.setSess x f).patchFrom = s.patchFrom := rfl
@[simp] theorem setSess_sram (s : State) (x : Nat) (f : Session → Session) : (s.setSess x f).sram = s.sram := rfl
@[simp] theorem setSess_code (s : State) (x : Nat) (f : Session → Session) : (s.setSess x f).code = s.code := rfl
@[simp] theorem setSess_clMem (s : State) (x : Nat) (f : Session → Session) : (s.setSess x f).clMem = s.clMem := rfl
@[simp] theorem setSess_lockQ (s : State) (x : Nat) (f : Session → Session) : (s.setSess x f).lockQ = s.lockQ := rfl
@[simp] theorem setSess_gateFrom (s : State) (x : Nat) (f : Session → Session) : (s.setSess x f).gateFrom = s.gateFrom := rfl
@[simp] theorem setSess_banks (s : State) (x : Nat) (f : Session → Session) : (s.setSess x f).banks = s.banks := rfl
@[simp] theorem setSess_released (s : State) (x : Nat) (f : Session → Session) : (s.setSess x f).released = s.released := rfl
@[simp] theorem setSess_clusterQ (s : State) (x : Nat) (f : Session → Session) : (s.setSess x f).clusterQ = s.clusterQ := rfl
@[simp] theorem setSess_clusterRotor (s : State) (x : Nat) (f : Session → Session) : (s.setSess x f).clusterRotor = s.clusterRotor := rfl
@[simp] theorem setSess_defers (s : State) (x : Nat) (f : Session → Session) : (s.setSess x f).defers = s.defers := rfl
@[simp] theorem setSess_admitted (s : State) (x : Nat) (f : Session → Session) : (s.setSess x f).admitted = s.admitted := rfl
@[simp] theorem setSess_maps (s : State) (x : Nat) (f : Session → Session) : (s.setSess x f).maps = s.maps := rfl
@[simp] theorem setSess_moves (s : State) (x : Nat) (f : Session → Session) : (s.setSess x f).moves = s.moves := rfl
@[simp] theorem setSess_fences (s : State) (x : Nat) (f : Session → Session) : (s.setSess x f).fences = s.fences := rfl
@[simp] theorem setSess_oldMaps (s : State) (x : Nat) (f : Session → Session) : (s.setSess x f).oldMaps = s.oldMaps := rfl
@[simp] theorem setSess_gifts (s : State) (x : Nat) (f : Session → Session) : (s.setSess x f).gifts = s.gifts := rfl
@[simp] theorem setSess_roles (s : State) (x : Nat) (f : Session → Session) : (s.setSess x f).roles = s.roles := rfl
@[simp] theorem setSess_outPorts (s : State) (x : Nat) (f : Session → Session) : (s.setSess x f).outPorts = s.outPorts := rfl
@[simp] theorem setSess_planes (s : State) (x : Nat) (f : Session → Session) : (s.setSess x f).planes = s.planes := rfl
@[simp] theorem setSess_xbar (s : State) (x : Nat) (f : Session → Session) : (s.setSess x f).xbar = s.xbar := rfl
@[simp] theorem setSess_geom (s : State) (x : Nat) (f : Session → Session) : (s.setSess x f).geom = s.geom := rfl
@[simp] theorem setSess_qstat (s : State) (x : Nat) (f : Session → Session) : (s.setSess x f).qstat = s.qstat := rfl
@[simp] theorem setSess_restless (s : State) (x : Nat) (f : Session → Session) : (s.setSess x f).restless = s.restless := rfl
@[simp] theorem setSess_chanCfg (s : State) (x : Nat) (f : Session → Session) : (s.setSess x f).chanCfg = s.chanCfg := rfl
@[simp] theorem setSess_heldFrames (s : State) (x : Nat) (f : Session → Session) : (s.setSess x f).heldFrames = s.heldFrames := rfl
@[simp] theorem setSess_appends (s : State) (x : Nat) (f : Session → Session) : (s.setSess x f).appends = s.appends := rfl
@[simp] theorem setSess_ledger (s : State) (x : Nat) (f : Session → Session) : (s.setSess x f).ledger = s.ledger := rfl
@[simp] theorem setSess_unretired (s : State) (x : Nat) (f : Session → Session) : (s.setSess x f).unretired = s.unretired := rfl
@[simp] theorem setSess_journal (s : State) (x : Nat) (f : Session → Session) : (s.setSess x f).journal = s.journal := rfl
@[simp] theorem setSess_stl (s : State) (x : Nat) (f : Session → Session) : (s.setSess x f).stl = s.stl := rfl
@[simp] theorem setSess_ctl (s : State) (x : Nat) (f : Session → Session) : (s.setSess x f).ctl = s.ctl := rfl
@[simp] theorem setSess_starts (s : State) (x : Nat) (f : Session → Session) : (s.setSess x f).starts = s.starts := rfl
@[simp] theorem setSess_stops (s : State) (x : Nat) (f : Session → Session) : (s.setSess x f).stops = s.stops := rfl
@[simp] theorem setSess_sup (s : State) (x : Nat) (f : Session → Session) : (s.setSess x f).sup = s.sup := rfl
@[simp] theorem setSess_pending (s : State) (x : Nat) (f : Session → Session) : (s.setSess x f).pending = s.pending := rfl

/-! `setChanQ` -/

@[simp] theorem setChanQ_chans (s : State) (k : Nat) (q : List Msg) : (s.setChanQ k q).chans = s.chans.set [] k q := rfl
@[simp] theorem setChanQ_time (s : State) (k : Nat) (q : List Msg) : (s.setChanQ k q).time = s.time := rfl
@[simp] theorem setChanQ_regs (s : State) (k : Nat) (q : List Msg) : (s.setChanQ k q).regs = s.regs := rfl
@[simp] theorem setChanQ_captures (s : State) (k : Nat) (q : List Msg) : (s.setChanQ k q).captures = s.captures := rfl
@[simp] theorem setChanQ_resp (s : State) (k : Nat) (q : List Msg) : (s.setChanQ k q).resp = s.resp := rfl
@[simp] theorem setChanQ_freeCtr (s : State) (k : Nat) (q : List Msg) : (s.setChanQ k q).freeCtr = s.freeCtr := rfl
@[simp] theorem setChanQ_maint (s : State) (k : Nat) (q : List Msg) : (s.setChanQ k q).maint = s.maint := rfl
@[simp] theorem setChanQ_fuses (s : State) (k : Nat) (q : List Msg) : (s.setChanQ k q).fuses = s.fuses := rfl
@[simp] theorem setChanQ_evRecs (s : State) (k : Nat) (q : List Msg) : (s.setChanQ k q).evRecs = s.evRecs := rfl
@[simp] theorem setChanQ_evLost (s : State) (k : Nat) (q : List Msg) : (s.setChanQ k q).evLost = s.evLost := rfl
@[simp] theorem setChanQ_ldg (s : State) (k : Nat) (q : List Msg) : (s.setChanQ k q).ldg = s.ldg := rfl
@[simp] theorem setChanQ_emits (s : State) (k : Nat) (q : List Msg) : (s.setChanQ k q).emits = s.emits := rfl
@[simp] theorem setChanQ_txts (s : State) (k : Nat) (q : List Msg) : (s.setChanQ k q).txts = s.txts := rfl
@[simp] theorem setChanQ_ports (s : State) (k : Nat) (q : List Msg) : (s.setChanQ k q).ports = s.ports := rfl
@[simp] theorem setChanQ_cells (s : State) (k : Nat) (q : List Msg) : (s.setChanQ k q).cells = s.cells := rfl
@[simp] theorem setChanQ_cellData (s : State) (k : Nat) (q : List Msg) : (s.setChanQ k q).cellData = s.cellData := rfl
@[simp] theorem setChanQ_rotors (s : State) (k : Nat) (q : List Msg) : (s.setChanQ k q).rotors = s.rotors := rfl
@[simp] theorem setChanQ_redLath (s : State) (k : Nat) (q : List Msg) : (s.setChanQ k q).redLath = s.redLath := rfl
@[simp] theorem setChanQ_graphs (s : State) (k : Nat) (q : List Msg) : (s.setChanQ k q).graphs = s.graphs := rfl
@[simp] theorem setChanQ_houseFrames (s : State) (k : Nat) (q : List Msg) : (s.setChanQ k q).houseFrames = s.houseFrames := rfl
@[simp] theorem setChanQ_drain (s : State) (k : Nat) (q : List Msg) : (s.setChanQ k q).drain = s.drain := rfl
@[simp] theorem setChanQ_staged (s : State) (k : Nat) (q : List Msg) : (s.setChanQ k q).staged = s.staged := rfl
@[simp] theorem setChanQ_clsBanks (s : State) (k : Nat) (q : List Msg) : (s.setChanQ k q).clsBanks = s.clsBanks := rfl
@[simp] theorem setChanQ_cipherQ (s : State) (k : Nat) (q : List Msg) : (s.setChanQ k q).cipherQ = s.cipherQ := rfl
@[simp] theorem setChanQ_reparseQ (s : State) (k : Nat) (q : List Msg) : (s.setChanQ k q).reparseQ = s.reparseQ := rfl
@[simp] theorem setChanQ_classQ (s : State) (k : Nat) (q : List Msg) : (s.setChanQ k q).classQ = s.classQ := rfl
@[simp] theorem setChanQ_learnQ (s : State) (k : Nat) (q : List Msg) : (s.setChanQ k q).learnQ = s.learnQ := rfl
@[simp] theorem setChanQ_dispQ (s : State) (k : Nat) (q : List Msg) : (s.setChanQ k q).dispQ = s.dispQ := rfl
@[simp] theorem setChanQ_dram (s : State) (k : Nat) (q : List Msg) : (s.setChanQ k q).dram = s.dram := rfl
@[simp] theorem setChanQ_hot (s : State) (k : Nat) (q : List Msg) : (s.setChanQ k q).hot = s.hot := rfl
@[simp] theorem setChanQ_stn (s : State) (k : Nat) (q : List Msg) : (s.setChanQ k q).stn = s.stn := rfl
@[simp] theorem setChanQ_stnWait (s : State) (k : Nat) (q : List Msg) : (s.setChanQ k q).stnWait = s.stnWait := rfl
@[simp] theorem setChanQ_useCtr (s : State) (k : Nat) (q : List Msg) : (s.setChanQ k q).useCtr = s.useCtr := rfl
@[simp] theorem setChanQ_reconciling (s : State) (k : Nat) (q : List Msg) : (s.setChanQ k q).reconciling = s.reconciling := rfl
@[simp] theorem setChanQ_needReconcile (s : State) (k : Nat) (q : List Msg) : (s.setChanQ k q).needReconcile = s.needReconcile := rfl
@[simp] theorem setChanQ_scans (s : State) (k : Nat) (q : List Msg) : (s.setChanQ k q).scans = s.scans := rfl
@[simp] theorem setChanQ_sweeps (s : State) (k : Nat) (q : List Msg) : (s.setChanQ k q).sweeps = s.sweeps := rfl
@[simp] theorem setChanQ_lastFound (s : State) (k : Nat) (q : List Msg) : (s.setChanQ k q).lastFound = s.lastFound := rfl
@[simp] theorem setChanQ_guards (s : State) (k : Nat) (q : List Msg) : (s.setChanQ k q).guards = s.guards := rfl
@[simp] theorem setChanQ_sweepAt (s : State) (k : Nat) (q : List Msg) : (s.setChanQ k q).sweepAt = s.sweepAt := rfl
@[simp] theorem setChanQ_keyCache (s : State) (k : Nat) (q : List Msg) : (s.setChanQ k q).keyCache = s.keyCache := rfl
@[simp] theorem setChanQ_rangeZero (s : State) (k : Nat) (q : List Msg) : (s.setChanQ k q).rangeZero = s.rangeZero := rfl
@[simp] theorem setChanQ_freeAfter (s : State) (k : Nat) (q : List Msg) : (s.setChanQ k q).freeAfter = s.freeAfter := rfl
@[simp] theorem setChanQ_chains (s : State) (k : Nat) (q : List Msg) : (s.setChanQ k q).chains = s.chains := rfl
@[simp] theorem setChanQ_deltas (s : State) (k : Nat) (q : List Msg) : (s.setChanQ k q).deltas = s.deltas := rfl
@[simp] theorem setChanQ_idents (s : State) (k : Nat) (q : List Msg) : (s.setChanQ k q).idents = s.idents := rfl
@[simp] theorem setChanQ_acceptedPlus (s : State) (k : Nat) (q : List Msg) : (s.setChanQ k q).acceptedPlus = s.acceptedPlus := rfl
@[simp] theorem setChanQ_threads (s : State) (k : Nat) (q : List Msg) : (s.setChanQ k q).threads = s.threads := rfl
@[simp] theorem setChanQ_cores (s : State) (k : Nat) (q : List Msg) : (s.setChanQ k q).cores = s.cores := rfl
@[simp] theorem setChanQ_units (s : State) (k : Nat) (q : List Msg) : (s.setChanQ k q).units = s.units := rfl
@[simp] theorem setChanQ_patches (s : State) (k : Nat) (q : List Msg) : (s.setChanQ k q).patches = s.patches := rfl
@[simp] theorem setChanQ_patchFrom (s : State) (k : Nat) (q : List Msg) : (s.setChanQ k q).patchFrom = s.patchFrom := rfl
@[simp] theorem setChanQ_sram (s : State) (k : Nat) (q : List Msg) : (s.setChanQ k q).sram = s.sram := rfl
@[simp] theorem setChanQ_code (s : State) (k : Nat) (q : List Msg) : (s.setChanQ k q).code = s.code := rfl
@[simp] theorem setChanQ_clMem (s : State) (k : Nat) (q : List Msg) : (s.setChanQ k q).clMem = s.clMem := rfl
@[simp] theorem setChanQ_lockQ (s : State) (k : Nat) (q : List Msg) : (s.setChanQ k q).lockQ = s.lockQ := rfl
@[simp] theorem setChanQ_gateFrom (s : State) (k : Nat) (q : List Msg) : (s.setChanQ k q).gateFrom = s.gateFrom := rfl
@[simp] theorem setChanQ_banks (s : State) (k : Nat) (q : List Msg) : (s.setChanQ k q).banks = s.banks := rfl
@[simp] theorem setChanQ_released (s : State) (k : Nat) (q : List Msg) : (s.setChanQ k q).released = s.released := rfl
@[simp] theorem setChanQ_clusterQ (s : State) (k : Nat) (q : List Msg) : (s.setChanQ k q).clusterQ = s.clusterQ := rfl
@[simp] theorem setChanQ_clusterRotor (s : State) (k : Nat) (q : List Msg) : (s.setChanQ k q).clusterRotor = s.clusterRotor := rfl
@[simp] theorem setChanQ_defers (s : State) (k : Nat) (q : List Msg) : (s.setChanQ k q).defers = s.defers := rfl
@[simp] theorem setChanQ_admitted (s : State) (k : Nat) (q : List Msg) : (s.setChanQ k q).admitted = s.admitted := rfl
@[simp] theorem setChanQ_maps (s : State) (k : Nat) (q : List Msg) : (s.setChanQ k q).maps = s.maps := rfl
@[simp] theorem setChanQ_moves (s : State) (k : Nat) (q : List Msg) : (s.setChanQ k q).moves = s.moves := rfl
@[simp] theorem setChanQ_fences (s : State) (k : Nat) (q : List Msg) : (s.setChanQ k q).fences = s.fences := rfl
@[simp] theorem setChanQ_oldMaps (s : State) (k : Nat) (q : List Msg) : (s.setChanQ k q).oldMaps = s.oldMaps := rfl
@[simp] theorem setChanQ_gifts (s : State) (k : Nat) (q : List Msg) : (s.setChanQ k q).gifts = s.gifts := rfl
@[simp] theorem setChanQ_roles (s : State) (k : Nat) (q : List Msg) : (s.setChanQ k q).roles = s.roles := rfl
@[simp] theorem setChanQ_outPorts (s : State) (k : Nat) (q : List Msg) : (s.setChanQ k q).outPorts = s.outPorts := rfl
@[simp] theorem setChanQ_planes (s : State) (k : Nat) (q : List Msg) : (s.setChanQ k q).planes = s.planes := rfl
@[simp] theorem setChanQ_xbar (s : State) (k : Nat) (q : List Msg) : (s.setChanQ k q).xbar = s.xbar := rfl
@[simp] theorem setChanQ_geom (s : State) (k : Nat) (q : List Msg) : (s.setChanQ k q).geom = s.geom := rfl
@[simp] theorem setChanQ_qstat (s : State) (k : Nat) (q : List Msg) : (s.setChanQ k q).qstat = s.qstat := rfl
@[simp] theorem setChanQ_restless (s : State) (k : Nat) (q : List Msg) : (s.setChanQ k q).restless = s.restless := rfl
@[simp] theorem setChanQ_chanCfg (s : State) (k : Nat) (q : List Msg) : (s.setChanQ k q).chanCfg = s.chanCfg := rfl
@[simp] theorem setChanQ_heldFrames (s : State) (k : Nat) (q : List Msg) : (s.setChanQ k q).heldFrames = s.heldFrames := rfl
@[simp] theorem setChanQ_appends (s : State) (k : Nat) (q : List Msg) : (s.setChanQ k q).appends = s.appends := rfl
@[simp] theorem setChanQ_ledger (s : State) (k : Nat) (q : List Msg) : (s.setChanQ k q).ledger = s.ledger := rfl
@[simp] theorem setChanQ_unretired (s : State) (k : Nat) (q : List Msg) : (s.setChanQ k q).unretired = s.unretired := rfl
@[simp] theorem setChanQ_journal (s : State) (k : Nat) (q : List Msg) : (s.setChanQ k q).journal = s.journal := rfl
@[simp] theorem setChanQ_stl (s : State) (k : Nat) (q : List Msg) : (s.setChanQ k q).stl = s.stl := rfl
@[simp] theorem setChanQ_ctl (s : State) (k : Nat) (q : List Msg) : (s.setChanQ k q).ctl = s.ctl := rfl
@[simp] theorem setChanQ_sessions (s : State) (k : Nat) (q : List Msg) : (s.setChanQ k q).sessions = s.sessions := rfl
@[simp] theorem setChanQ_starts (s : State) (k : Nat) (q : List Msg) : (s.setChanQ k q).starts = s.starts := rfl
@[simp] theorem setChanQ_stops (s : State) (k : Nat) (q : List Msg) : (s.setChanQ k q).stops = s.stops := rfl
@[simp] theorem setChanQ_sup (s : State) (k : Nat) (q : List Msg) : (s.setChanQ k q).sup = s.sup := rfl
@[simp] theorem setChanQ_pending (s : State) (k : Nat) (q : List Msg) : (s.setChanQ k q).pending = s.pending := rfl

/-! `setCell` -/

@[simp] theorem setCell_cells (s : State) (h : Nat) (c : CellLink) : (s.setCell h c).cells = s.cells.set CellLink.reset h c := rfl
@[simp] theorem setCell_time (s : State) (h : Nat) (c : CellLink) : (s.setCell h c).time = s.time := rfl
@[simp] theorem setCell_regs (s : State) (h : Nat) (c : CellLink) : (s.setCell h c).regs = s.regs := rfl
@[simp] theorem setCell_captures (s : State) (h : Nat) (c : CellLink) : (s.setCell h c).captures = s.captures := rfl
@[simp] theorem setCell_resp (s : State) (h : Nat) (c : CellLink) : (s.setCell h c).resp = s.resp := rfl
@[simp] theorem setCell_freeCtr (s : State) (h : Nat) (c : CellLink) : (s.setCell h c).freeCtr = s.freeCtr := rfl
@[simp] theorem setCell_maint (s : State) (h : Nat) (c : CellLink) : (s.setCell h c).maint = s.maint := rfl
@[simp] theorem setCell_fuses (s : State) (h : Nat) (c : CellLink) : (s.setCell h c).fuses = s.fuses := rfl
@[simp] theorem setCell_evRecs (s : State) (h : Nat) (c : CellLink) : (s.setCell h c).evRecs = s.evRecs := rfl
@[simp] theorem setCell_evLost (s : State) (h : Nat) (c : CellLink) : (s.setCell h c).evLost = s.evLost := rfl
@[simp] theorem setCell_ldg (s : State) (h : Nat) (c : CellLink) : (s.setCell h c).ldg = s.ldg := rfl
@[simp] theorem setCell_emits (s : State) (h : Nat) (c : CellLink) : (s.setCell h c).emits = s.emits := rfl
@[simp] theorem setCell_txts (s : State) (h : Nat) (c : CellLink) : (s.setCell h c).txts = s.txts := rfl
@[simp] theorem setCell_ports (s : State) (h : Nat) (c : CellLink) : (s.setCell h c).ports = s.ports := rfl
@[simp] theorem setCell_cellData (s : State) (h : Nat) (c : CellLink) : (s.setCell h c).cellData = s.cellData := rfl
@[simp] theorem setCell_rotors (s : State) (h : Nat) (c : CellLink) : (s.setCell h c).rotors = s.rotors := rfl
@[simp] theorem setCell_redLath (s : State) (h : Nat) (c : CellLink) : (s.setCell h c).redLath = s.redLath := rfl
@[simp] theorem setCell_graphs (s : State) (h : Nat) (c : CellLink) : (s.setCell h c).graphs = s.graphs := rfl
@[simp] theorem setCell_houseFrames (s : State) (h : Nat) (c : CellLink) : (s.setCell h c).houseFrames = s.houseFrames := rfl
@[simp] theorem setCell_drain (s : State) (h : Nat) (c : CellLink) : (s.setCell h c).drain = s.drain := rfl
@[simp] theorem setCell_staged (s : State) (h : Nat) (c : CellLink) : (s.setCell h c).staged = s.staged := rfl
@[simp] theorem setCell_clsBanks (s : State) (h : Nat) (c : CellLink) : (s.setCell h c).clsBanks = s.clsBanks := rfl
@[simp] theorem setCell_cipherQ (s : State) (h : Nat) (c : CellLink) : (s.setCell h c).cipherQ = s.cipherQ := rfl
@[simp] theorem setCell_reparseQ (s : State) (h : Nat) (c : CellLink) : (s.setCell h c).reparseQ = s.reparseQ := rfl
@[simp] theorem setCell_classQ (s : State) (h : Nat) (c : CellLink) : (s.setCell h c).classQ = s.classQ := rfl
@[simp] theorem setCell_learnQ (s : State) (h : Nat) (c : CellLink) : (s.setCell h c).learnQ = s.learnQ := rfl
@[simp] theorem setCell_dispQ (s : State) (h : Nat) (c : CellLink) : (s.setCell h c).dispQ = s.dispQ := rfl
@[simp] theorem setCell_dram (s : State) (h : Nat) (c : CellLink) : (s.setCell h c).dram = s.dram := rfl
@[simp] theorem setCell_hot (s : State) (h : Nat) (c : CellLink) : (s.setCell h c).hot = s.hot := rfl
@[simp] theorem setCell_stn (s : State) (h : Nat) (c : CellLink) : (s.setCell h c).stn = s.stn := rfl
@[simp] theorem setCell_stnWait (s : State) (h : Nat) (c : CellLink) : (s.setCell h c).stnWait = s.stnWait := rfl
@[simp] theorem setCell_useCtr (s : State) (h : Nat) (c : CellLink) : (s.setCell h c).useCtr = s.useCtr := rfl
@[simp] theorem setCell_reconciling (s : State) (h : Nat) (c : CellLink) : (s.setCell h c).reconciling = s.reconciling := rfl
@[simp] theorem setCell_needReconcile (s : State) (h : Nat) (c : CellLink) : (s.setCell h c).needReconcile = s.needReconcile := rfl
@[simp] theorem setCell_scans (s : State) (h : Nat) (c : CellLink) : (s.setCell h c).scans = s.scans := rfl
@[simp] theorem setCell_sweeps (s : State) (h : Nat) (c : CellLink) : (s.setCell h c).sweeps = s.sweeps := rfl
@[simp] theorem setCell_lastFound (s : State) (h : Nat) (c : CellLink) : (s.setCell h c).lastFound = s.lastFound := rfl
@[simp] theorem setCell_guards (s : State) (h : Nat) (c : CellLink) : (s.setCell h c).guards = s.guards := rfl
@[simp] theorem setCell_sweepAt (s : State) (h : Nat) (c : CellLink) : (s.setCell h c).sweepAt = s.sweepAt := rfl
@[simp] theorem setCell_keyCache (s : State) (h : Nat) (c : CellLink) : (s.setCell h c).keyCache = s.keyCache := rfl
@[simp] theorem setCell_rangeZero (s : State) (h : Nat) (c : CellLink) : (s.setCell h c).rangeZero = s.rangeZero := rfl
@[simp] theorem setCell_freeAfter (s : State) (h : Nat) (c : CellLink) : (s.setCell h c).freeAfter = s.freeAfter := rfl
@[simp] theorem setCell_chains (s : State) (h : Nat) (c : CellLink) : (s.setCell h c).chains = s.chains := rfl
@[simp] theorem setCell_chans (s : State) (h : Nat) (c : CellLink) : (s.setCell h c).chans = s.chans := rfl
@[simp] theorem setCell_deltas (s : State) (h : Nat) (c : CellLink) : (s.setCell h c).deltas = s.deltas := rfl
@[simp] theorem setCell_idents (s : State) (h : Nat) (c : CellLink) : (s.setCell h c).idents = s.idents := rfl
@[simp] theorem setCell_acceptedPlus (s : State) (h : Nat) (c : CellLink) : (s.setCell h c).acceptedPlus = s.acceptedPlus := rfl
@[simp] theorem setCell_threads (s : State) (h : Nat) (c : CellLink) : (s.setCell h c).threads = s.threads := rfl
@[simp] theorem setCell_cores (s : State) (h : Nat) (c : CellLink) : (s.setCell h c).cores = s.cores := rfl
@[simp] theorem setCell_units (s : State) (h : Nat) (c : CellLink) : (s.setCell h c).units = s.units := rfl
@[simp] theorem setCell_patches (s : State) (h : Nat) (c : CellLink) : (s.setCell h c).patches = s.patches := rfl
@[simp] theorem setCell_patchFrom (s : State) (h : Nat) (c : CellLink) : (s.setCell h c).patchFrom = s.patchFrom := rfl
@[simp] theorem setCell_sram (s : State) (h : Nat) (c : CellLink) : (s.setCell h c).sram = s.sram := rfl
@[simp] theorem setCell_code (s : State) (h : Nat) (c : CellLink) : (s.setCell h c).code = s.code := rfl
@[simp] theorem setCell_clMem (s : State) (h : Nat) (c : CellLink) : (s.setCell h c).clMem = s.clMem := rfl
@[simp] theorem setCell_lockQ (s : State) (h : Nat) (c : CellLink) : (s.setCell h c).lockQ = s.lockQ := rfl
@[simp] theorem setCell_gateFrom (s : State) (h : Nat) (c : CellLink) : (s.setCell h c).gateFrom = s.gateFrom := rfl
@[simp] theorem setCell_banks (s : State) (h : Nat) (c : CellLink) : (s.setCell h c).banks = s.banks := rfl
@[simp] theorem setCell_released (s : State) (h : Nat) (c : CellLink) : (s.setCell h c).released = s.released := rfl
@[simp] theorem setCell_clusterQ (s : State) (h : Nat) (c : CellLink) : (s.setCell h c).clusterQ = s.clusterQ := rfl
@[simp] theorem setCell_clusterRotor (s : State) (h : Nat) (c : CellLink) : (s.setCell h c).clusterRotor = s.clusterRotor := rfl
@[simp] theorem setCell_defers (s : State) (h : Nat) (c : CellLink) : (s.setCell h c).defers = s.defers := rfl
@[simp] theorem setCell_admitted (s : State) (h : Nat) (c : CellLink) : (s.setCell h c).admitted = s.admitted := rfl
@[simp] theorem setCell_maps (s : State) (h : Nat) (c : CellLink) : (s.setCell h c).maps = s.maps := rfl
@[simp] theorem setCell_moves (s : State) (h : Nat) (c : CellLink) : (s.setCell h c).moves = s.moves := rfl
@[simp] theorem setCell_fences (s : State) (h : Nat) (c : CellLink) : (s.setCell h c).fences = s.fences := rfl
@[simp] theorem setCell_oldMaps (s : State) (h : Nat) (c : CellLink) : (s.setCell h c).oldMaps = s.oldMaps := rfl
@[simp] theorem setCell_gifts (s : State) (h : Nat) (c : CellLink) : (s.setCell h c).gifts = s.gifts := rfl
@[simp] theorem setCell_roles (s : State) (h : Nat) (c : CellLink) : (s.setCell h c).roles = s.roles := rfl
@[simp] theorem setCell_outPorts (s : State) (h : Nat) (c : CellLink) : (s.setCell h c).outPorts = s.outPorts := rfl
@[simp] theorem setCell_planes (s : State) (h : Nat) (c : CellLink) : (s.setCell h c).planes = s.planes := rfl
@[simp] theorem setCell_xbar (s : State) (h : Nat) (c : CellLink) : (s.setCell h c).xbar = s.xbar := rfl
@[simp] theorem setCell_geom (s : State) (h : Nat) (c : CellLink) : (s.setCell h c).geom = s.geom := rfl
@[simp] theorem setCell_qstat (s : State) (h : Nat) (c : CellLink) : (s.setCell h c).qstat = s.qstat := rfl
@[simp] theorem setCell_restless (s : State) (h : Nat) (c : CellLink) : (s.setCell h c).restless = s.restless := rfl
@[simp] theorem setCell_chanCfg (s : State) (h : Nat) (c : CellLink) : (s.setCell h c).chanCfg = s.chanCfg := rfl
@[simp] theorem setCell_heldFrames (s : State) (h : Nat) (c : CellLink) : (s.setCell h c).heldFrames = s.heldFrames := rfl
@[simp] theorem setCell_appends (s : State) (h : Nat) (c : CellLink) : (s.setCell h c).appends = s.appends := rfl
@[simp] theorem setCell_ledger (s : State) (h : Nat) (c : CellLink) : (s.setCell h c).ledger = s.ledger := rfl
@[simp] theorem setCell_unretired (s : State) (h : Nat) (c : CellLink) : (s.setCell h c).unretired = s.unretired := rfl
@[simp] theorem setCell_journal (s : State) (h : Nat) (c : CellLink) : (s.setCell h c).journal = s.journal := rfl
@[simp] theorem setCell_stl (s : State) (h : Nat) (c : CellLink) : (s.setCell h c).stl = s.stl := rfl
@[simp] theorem setCell_ctl (s : State) (h : Nat) (c : CellLink) : (s.setCell h c).ctl = s.ctl := rfl
@[simp] theorem setCell_sessions (s : State) (h : Nat) (c : CellLink) : (s.setCell h c).sessions = s.sessions := rfl
@[simp] theorem setCell_starts (s : State) (h : Nat) (c : CellLink) : (s.setCell h c).starts = s.starts := rfl
@[simp] theorem setCell_stops (s : State) (h : Nat) (c : CellLink) : (s.setCell h c).stops = s.stops := rfl
@[simp] theorem setCell_sup (s : State) (h : Nat) (c : CellLink) : (s.setCell h c).sup = s.sup := rfl
@[simp] theorem setCell_pending (s : State) (h : Nat) (c : CellLink) : (s.setCell h c).pending = s.pending := rfl

/-! `setDramByte` -/

@[simp] theorem setDramByte_dram (s : State) (a : Nat) (b : Byte) : (s.setDramByte a b).dram = s.dram.set 0 a b := rfl
@[simp] theorem setDramByte_time (s : State) (a : Nat) (b : Byte) : (s.setDramByte a b).time = s.time := rfl
@[simp] theorem setDramByte_regs (s : State) (a : Nat) (b : Byte) : (s.setDramByte a b).regs = s.regs := rfl
@[simp] theorem setDramByte_captures (s : State) (a : Nat) (b : Byte) : (s.setDramByte a b).captures = s.captures := rfl
@[simp] theorem setDramByte_resp (s : State) (a : Nat) (b : Byte) : (s.setDramByte a b).resp = s.resp := rfl
@[simp] theorem setDramByte_freeCtr (s : State) (a : Nat) (b : Byte) : (s.setDramByte a b).freeCtr = s.freeCtr := rfl
@[simp] theorem setDramByte_maint (s : State) (a : Nat) (b : Byte) : (s.setDramByte a b).maint = s.maint := rfl
@[simp] theorem setDramByte_fuses (s : State) (a : Nat) (b : Byte) : (s.setDramByte a b).fuses = s.fuses := rfl
@[simp] theorem setDramByte_evRecs (s : State) (a : Nat) (b : Byte) : (s.setDramByte a b).evRecs = s.evRecs := rfl
@[simp] theorem setDramByte_evLost (s : State) (a : Nat) (b : Byte) : (s.setDramByte a b).evLost = s.evLost := rfl
@[simp] theorem setDramByte_ldg (s : State) (a : Nat) (b : Byte) : (s.setDramByte a b).ldg = s.ldg := rfl
@[simp] theorem setDramByte_emits (s : State) (a : Nat) (b : Byte) : (s.setDramByte a b).emits = s.emits := rfl
@[simp] theorem setDramByte_txts (s : State) (a : Nat) (b : Byte) : (s.setDramByte a b).txts = s.txts := rfl
@[simp] theorem setDramByte_ports (s : State) (a : Nat) (b : Byte) : (s.setDramByte a b).ports = s.ports := rfl
@[simp] theorem setDramByte_cells (s : State) (a : Nat) (b : Byte) : (s.setDramByte a b).cells = s.cells := rfl
@[simp] theorem setDramByte_cellData (s : State) (a : Nat) (b : Byte) : (s.setDramByte a b).cellData = s.cellData := rfl
@[simp] theorem setDramByte_rotors (s : State) (a : Nat) (b : Byte) : (s.setDramByte a b).rotors = s.rotors := rfl
@[simp] theorem setDramByte_redLath (s : State) (a : Nat) (b : Byte) : (s.setDramByte a b).redLath = s.redLath := rfl
@[simp] theorem setDramByte_graphs (s : State) (a : Nat) (b : Byte) : (s.setDramByte a b).graphs = s.graphs := rfl
@[simp] theorem setDramByte_houseFrames (s : State) (a : Nat) (b : Byte) : (s.setDramByte a b).houseFrames = s.houseFrames := rfl
@[simp] theorem setDramByte_drain (s : State) (a : Nat) (b : Byte) : (s.setDramByte a b).drain = s.drain := rfl
@[simp] theorem setDramByte_staged (s : State) (a : Nat) (b : Byte) : (s.setDramByte a b).staged = s.staged := rfl
@[simp] theorem setDramByte_clsBanks (s : State) (a : Nat) (b : Byte) : (s.setDramByte a b).clsBanks = s.clsBanks := rfl
@[simp] theorem setDramByte_cipherQ (s : State) (a : Nat) (b : Byte) : (s.setDramByte a b).cipherQ = s.cipherQ := rfl
@[simp] theorem setDramByte_reparseQ (s : State) (a : Nat) (b : Byte) : (s.setDramByte a b).reparseQ = s.reparseQ := rfl
@[simp] theorem setDramByte_classQ (s : State) (a : Nat) (b : Byte) : (s.setDramByte a b).classQ = s.classQ := rfl
@[simp] theorem setDramByte_learnQ (s : State) (a : Nat) (b : Byte) : (s.setDramByte a b).learnQ = s.learnQ := rfl
@[simp] theorem setDramByte_dispQ (s : State) (a : Nat) (b : Byte) : (s.setDramByte a b).dispQ = s.dispQ := rfl
@[simp] theorem setDramByte_hot (s : State) (a : Nat) (b : Byte) : (s.setDramByte a b).hot = s.hot := rfl
@[simp] theorem setDramByte_stn (s : State) (a : Nat) (b : Byte) : (s.setDramByte a b).stn = s.stn := rfl
@[simp] theorem setDramByte_stnWait (s : State) (a : Nat) (b : Byte) : (s.setDramByte a b).stnWait = s.stnWait := rfl
@[simp] theorem setDramByte_useCtr (s : State) (a : Nat) (b : Byte) : (s.setDramByte a b).useCtr = s.useCtr := rfl
@[simp] theorem setDramByte_reconciling (s : State) (a : Nat) (b : Byte) : (s.setDramByte a b).reconciling = s.reconciling := rfl
@[simp] theorem setDramByte_needReconcile (s : State) (a : Nat) (b : Byte) : (s.setDramByte a b).needReconcile = s.needReconcile := rfl
@[simp] theorem setDramByte_scans (s : State) (a : Nat) (b : Byte) : (s.setDramByte a b).scans = s.scans := rfl
@[simp] theorem setDramByte_sweeps (s : State) (a : Nat) (b : Byte) : (s.setDramByte a b).sweeps = s.sweeps := rfl
@[simp] theorem setDramByte_lastFound (s : State) (a : Nat) (b : Byte) : (s.setDramByte a b).lastFound = s.lastFound := rfl
@[simp] theorem setDramByte_guards (s : State) (a : Nat) (b : Byte) : (s.setDramByte a b).guards = s.guards := rfl
@[simp] theorem setDramByte_sweepAt (s : State) (a : Nat) (b : Byte) : (s.setDramByte a b).sweepAt = s.sweepAt := rfl
@[simp] theorem setDramByte_keyCache (s : State) (a : Nat) (b : Byte) : (s.setDramByte a b).keyCache = s.keyCache := rfl
@[simp] theorem setDramByte_rangeZero (s : State) (a : Nat) (b : Byte) : (s.setDramByte a b).rangeZero = s.rangeZero := rfl
@[simp] theorem setDramByte_freeAfter (s : State) (a : Nat) (b : Byte) : (s.setDramByte a b).freeAfter = s.freeAfter := rfl
@[simp] theorem setDramByte_chains (s : State) (a : Nat) (b : Byte) : (s.setDramByte a b).chains = s.chains := rfl
@[simp] theorem setDramByte_chans (s : State) (a : Nat) (b : Byte) : (s.setDramByte a b).chans = s.chans := rfl
@[simp] theorem setDramByte_deltas (s : State) (a : Nat) (b : Byte) : (s.setDramByte a b).deltas = s.deltas := rfl
@[simp] theorem setDramByte_idents (s : State) (a : Nat) (b : Byte) : (s.setDramByte a b).idents = s.idents := rfl
@[simp] theorem setDramByte_acceptedPlus (s : State) (a : Nat) (b : Byte) : (s.setDramByte a b).acceptedPlus = s.acceptedPlus := rfl
@[simp] theorem setDramByte_threads (s : State) (a : Nat) (b : Byte) : (s.setDramByte a b).threads = s.threads := rfl
@[simp] theorem setDramByte_cores (s : State) (a : Nat) (b : Byte) : (s.setDramByte a b).cores = s.cores := rfl
@[simp] theorem setDramByte_units (s : State) (a : Nat) (b : Byte) : (s.setDramByte a b).units = s.units := rfl
@[simp] theorem setDramByte_patches (s : State) (a : Nat) (b : Byte) : (s.setDramByte a b).patches = s.patches := rfl
@[simp] theorem setDramByte_patchFrom (s : State) (a : Nat) (b : Byte) : (s.setDramByte a b).patchFrom = s.patchFrom := rfl
@[simp] theorem setDramByte_sram (s : State) (a : Nat) (b : Byte) : (s.setDramByte a b).sram = s.sram := rfl
@[simp] theorem setDramByte_code (s : State) (a : Nat) (b : Byte) : (s.setDramByte a b).code = s.code := rfl
@[simp] theorem setDramByte_clMem (s : State) (a : Nat) (b : Byte) : (s.setDramByte a b).clMem = s.clMem := rfl
@[simp] theorem setDramByte_lockQ (s : State) (a : Nat) (b : Byte) : (s.setDramByte a b).lockQ = s.lockQ := rfl
@[simp] theorem setDramByte_gateFrom (s : State) (a : Nat) (b : Byte) : (s.setDramByte a b).gateFrom = s.gateFrom := rfl
@[simp] theorem setDramByte_banks (s : State) (a : Nat) (b : Byte) : (s.setDramByte a b).banks = s.banks := rfl
@[simp] theorem setDramByte_released (s : State) (a : Nat) (b : Byte) : (s.setDramByte a b).released = s.released := rfl
@[simp] theorem setDramByte_clusterQ (s : State) (a : Nat) (b : Byte) : (s.setDramByte a b).clusterQ = s.clusterQ := rfl
@[simp] theorem setDramByte_clusterRotor (s : State) (a : Nat) (b : Byte) : (s.setDramByte a b).clusterRotor = s.clusterRotor := rfl
@[simp] theorem setDramByte_defers (s : State) (a : Nat) (b : Byte) : (s.setDramByte a b).defers = s.defers := rfl
@[simp] theorem setDramByte_admitted (s : State) (a : Nat) (b : Byte) : (s.setDramByte a b).admitted = s.admitted := rfl
@[simp] theorem setDramByte_maps (s : State) (a : Nat) (b : Byte) : (s.setDramByte a b).maps = s.maps := rfl
@[simp] theorem setDramByte_moves (s : State) (a : Nat) (b : Byte) : (s.setDramByte a b).moves = s.moves := rfl
@[simp] theorem setDramByte_fences (s : State) (a : Nat) (b : Byte) : (s.setDramByte a b).fences = s.fences := rfl
@[simp] theorem setDramByte_oldMaps (s : State) (a : Nat) (b : Byte) : (s.setDramByte a b).oldMaps = s.oldMaps := rfl
@[simp] theorem setDramByte_gifts (s : State) (a : Nat) (b : Byte) : (s.setDramByte a b).gifts = s.gifts := rfl
@[simp] theorem setDramByte_roles (s : State) (a : Nat) (b : Byte) : (s.setDramByte a b).roles = s.roles := rfl
@[simp] theorem setDramByte_outPorts (s : State) (a : Nat) (b : Byte) : (s.setDramByte a b).outPorts = s.outPorts := rfl
@[simp] theorem setDramByte_planes (s : State) (a : Nat) (b : Byte) : (s.setDramByte a b).planes = s.planes := rfl
@[simp] theorem setDramByte_xbar (s : State) (a : Nat) (b : Byte) : (s.setDramByte a b).xbar = s.xbar := rfl
@[simp] theorem setDramByte_geom (s : State) (a : Nat) (b : Byte) : (s.setDramByte a b).geom = s.geom := rfl
@[simp] theorem setDramByte_qstat (s : State) (a : Nat) (b : Byte) : (s.setDramByte a b).qstat = s.qstat := rfl
@[simp] theorem setDramByte_restless (s : State) (a : Nat) (b : Byte) : (s.setDramByte a b).restless = s.restless := rfl
@[simp] theorem setDramByte_chanCfg (s : State) (a : Nat) (b : Byte) : (s.setDramByte a b).chanCfg = s.chanCfg := rfl
@[simp] theorem setDramByte_heldFrames (s : State) (a : Nat) (b : Byte) : (s.setDramByte a b).heldFrames = s.heldFrames := rfl
@[simp] theorem setDramByte_appends (s : State) (a : Nat) (b : Byte) : (s.setDramByte a b).appends = s.appends := rfl
@[simp] theorem setDramByte_ledger (s : State) (a : Nat) (b : Byte) : (s.setDramByte a b).ledger = s.ledger := rfl
@[simp] theorem setDramByte_unretired (s : State) (a : Nat) (b : Byte) : (s.setDramByte a b).unretired = s.unretired := rfl
@[simp] theorem setDramByte_journal (s : State) (a : Nat) (b : Byte) : (s.setDramByte a b).journal = s.journal := rfl
@[simp] theorem setDramByte_stl (s : State) (a : Nat) (b : Byte) : (s.setDramByte a b).stl = s.stl := rfl
@[simp] theorem setDramByte_ctl (s : State) (a : Nat) (b : Byte) : (s.setDramByte a b).ctl = s.ctl := rfl
@[simp] theorem setDramByte_sessions (s : State) (a : Nat) (b : Byte) : (s.setDramByte a b).sessions = s.sessions := rfl
@[simp] theorem setDramByte_starts (s : State) (a : Nat) (b : Byte) : (s.setDramByte a b).starts = s.starts := rfl
@[simp] theorem setDramByte_stops (s : State) (a : Nat) (b : Byte) : (s.setDramByte a b).stops = s.stops := rfl
@[simp] theorem setDramByte_sup (s : State) (a : Nat) (b : Byte) : (s.setDramByte a b).sup = s.sup := rfl
@[simp] theorem setDramByte_pending (s : State) (a : Nat) (b : Byte) : (s.setDramByte a b).pending = s.pending := rfl

/-! `setSram` -/

@[simp] theorem setSram_sram (s : State) (k a v : Nat) : (s.setSram k a v).sram = s.sram.set 0 (k * 32768 + a) (word v) := rfl
@[simp] theorem setSram_time (s : State) (k a v : Nat) : (s.setSram k a v).time = s.time := rfl
@[simp] theorem setSram_regs (s : State) (k a v : Nat) : (s.setSram k a v).regs = s.regs := rfl
@[simp] theorem setSram_captures (s : State) (k a v : Nat) : (s.setSram k a v).captures = s.captures := rfl
@[simp] theorem setSram_resp (s : State) (k a v : Nat) : (s.setSram k a v).resp = s.resp := rfl
@[simp] theorem setSram_freeCtr (s : State) (k a v : Nat) : (s.setSram k a v).freeCtr = s.freeCtr := rfl
@[simp] theorem setSram_maint (s : State) (k a v : Nat) : (s.setSram k a v).maint = s.maint := rfl
@[simp] theorem setSram_fuses (s : State) (k a v : Nat) : (s.setSram k a v).fuses = s.fuses := rfl
@[simp] theorem setSram_evRecs (s : State) (k a v : Nat) : (s.setSram k a v).evRecs = s.evRecs := rfl
@[simp] theorem setSram_evLost (s : State) (k a v : Nat) : (s.setSram k a v).evLost = s.evLost := rfl
@[simp] theorem setSram_ldg (s : State) (k a v : Nat) : (s.setSram k a v).ldg = s.ldg := rfl
@[simp] theorem setSram_emits (s : State) (k a v : Nat) : (s.setSram k a v).emits = s.emits := rfl
@[simp] theorem setSram_txts (s : State) (k a v : Nat) : (s.setSram k a v).txts = s.txts := rfl
@[simp] theorem setSram_ports (s : State) (k a v : Nat) : (s.setSram k a v).ports = s.ports := rfl
@[simp] theorem setSram_cells (s : State) (k a v : Nat) : (s.setSram k a v).cells = s.cells := rfl
@[simp] theorem setSram_cellData (s : State) (k a v : Nat) : (s.setSram k a v).cellData = s.cellData := rfl
@[simp] theorem setSram_rotors (s : State) (k a v : Nat) : (s.setSram k a v).rotors = s.rotors := rfl
@[simp] theorem setSram_redLath (s : State) (k a v : Nat) : (s.setSram k a v).redLath = s.redLath := rfl
@[simp] theorem setSram_graphs (s : State) (k a v : Nat) : (s.setSram k a v).graphs = s.graphs := rfl
@[simp] theorem setSram_houseFrames (s : State) (k a v : Nat) : (s.setSram k a v).houseFrames = s.houseFrames := rfl
@[simp] theorem setSram_drain (s : State) (k a v : Nat) : (s.setSram k a v).drain = s.drain := rfl
@[simp] theorem setSram_staged (s : State) (k a v : Nat) : (s.setSram k a v).staged = s.staged := rfl
@[simp] theorem setSram_clsBanks (s : State) (k a v : Nat) : (s.setSram k a v).clsBanks = s.clsBanks := rfl
@[simp] theorem setSram_cipherQ (s : State) (k a v : Nat) : (s.setSram k a v).cipherQ = s.cipherQ := rfl
@[simp] theorem setSram_reparseQ (s : State) (k a v : Nat) : (s.setSram k a v).reparseQ = s.reparseQ := rfl
@[simp] theorem setSram_classQ (s : State) (k a v : Nat) : (s.setSram k a v).classQ = s.classQ := rfl
@[simp] theorem setSram_learnQ (s : State) (k a v : Nat) : (s.setSram k a v).learnQ = s.learnQ := rfl
@[simp] theorem setSram_dispQ (s : State) (k a v : Nat) : (s.setSram k a v).dispQ = s.dispQ := rfl
@[simp] theorem setSram_dram (s : State) (k a v : Nat) : (s.setSram k a v).dram = s.dram := rfl
@[simp] theorem setSram_hot (s : State) (k a v : Nat) : (s.setSram k a v).hot = s.hot := rfl
@[simp] theorem setSram_stn (s : State) (k a v : Nat) : (s.setSram k a v).stn = s.stn := rfl
@[simp] theorem setSram_stnWait (s : State) (k a v : Nat) : (s.setSram k a v).stnWait = s.stnWait := rfl
@[simp] theorem setSram_useCtr (s : State) (k a v : Nat) : (s.setSram k a v).useCtr = s.useCtr := rfl
@[simp] theorem setSram_reconciling (s : State) (k a v : Nat) : (s.setSram k a v).reconciling = s.reconciling := rfl
@[simp] theorem setSram_needReconcile (s : State) (k a v : Nat) : (s.setSram k a v).needReconcile = s.needReconcile := rfl
@[simp] theorem setSram_scans (s : State) (k a v : Nat) : (s.setSram k a v).scans = s.scans := rfl
@[simp] theorem setSram_sweeps (s : State) (k a v : Nat) : (s.setSram k a v).sweeps = s.sweeps := rfl
@[simp] theorem setSram_lastFound (s : State) (k a v : Nat) : (s.setSram k a v).lastFound = s.lastFound := rfl
@[simp] theorem setSram_guards (s : State) (k a v : Nat) : (s.setSram k a v).guards = s.guards := rfl
@[simp] theorem setSram_sweepAt (s : State) (k a v : Nat) : (s.setSram k a v).sweepAt = s.sweepAt := rfl
@[simp] theorem setSram_keyCache (s : State) (k a v : Nat) : (s.setSram k a v).keyCache = s.keyCache := rfl
@[simp] theorem setSram_rangeZero (s : State) (k a v : Nat) : (s.setSram k a v).rangeZero = s.rangeZero := rfl
@[simp] theorem setSram_freeAfter (s : State) (k a v : Nat) : (s.setSram k a v).freeAfter = s.freeAfter := rfl
@[simp] theorem setSram_chains (s : State) (k a v : Nat) : (s.setSram k a v).chains = s.chains := rfl
@[simp] theorem setSram_chans (s : State) (k a v : Nat) : (s.setSram k a v).chans = s.chans := rfl
@[simp] theorem setSram_deltas (s : State) (k a v : Nat) : (s.setSram k a v).deltas = s.deltas := rfl
@[simp] theorem setSram_idents (s : State) (k a v : Nat) : (s.setSram k a v).idents = s.idents := rfl
@[simp] theorem setSram_acceptedPlus (s : State) (k a v : Nat) : (s.setSram k a v).acceptedPlus = s.acceptedPlus := rfl
@[simp] theorem setSram_threads (s : State) (k a v : Nat) : (s.setSram k a v).threads = s.threads := rfl
@[simp] theorem setSram_cores (s : State) (k a v : Nat) : (s.setSram k a v).cores = s.cores := rfl
@[simp] theorem setSram_units (s : State) (k a v : Nat) : (s.setSram k a v).units = s.units := rfl
@[simp] theorem setSram_patches (s : State) (k a v : Nat) : (s.setSram k a v).patches = s.patches := rfl
@[simp] theorem setSram_patchFrom (s : State) (k a v : Nat) : (s.setSram k a v).patchFrom = s.patchFrom := rfl
@[simp] theorem setSram_code (s : State) (k a v : Nat) : (s.setSram k a v).code = s.code := rfl
@[simp] theorem setSram_clMem (s : State) (k a v : Nat) : (s.setSram k a v).clMem = s.clMem := rfl
@[simp] theorem setSram_lockQ (s : State) (k a v : Nat) : (s.setSram k a v).lockQ = s.lockQ := rfl
@[simp] theorem setSram_gateFrom (s : State) (k a v : Nat) : (s.setSram k a v).gateFrom = s.gateFrom := rfl
@[simp] theorem setSram_banks (s : State) (k a v : Nat) : (s.setSram k a v).banks = s.banks := rfl
@[simp] theorem setSram_released (s : State) (k a v : Nat) : (s.setSram k a v).released = s.released := rfl
@[simp] theorem setSram_clusterQ (s : State) (k a v : Nat) : (s.setSram k a v).clusterQ = s.clusterQ := rfl
@[simp] theorem setSram_clusterRotor (s : State) (k a v : Nat) : (s.setSram k a v).clusterRotor = s.clusterRotor := rfl
@[simp] theorem setSram_defers (s : State) (k a v : Nat) : (s.setSram k a v).defers = s.defers := rfl
@[simp] theorem setSram_admitted (s : State) (k a v : Nat) : (s.setSram k a v).admitted = s.admitted := rfl
@[simp] theorem setSram_maps (s : State) (k a v : Nat) : (s.setSram k a v).maps = s.maps := rfl
@[simp] theorem setSram_moves (s : State) (k a v : Nat) : (s.setSram k a v).moves = s.moves := rfl
@[simp] theorem setSram_fences (s : State) (k a v : Nat) : (s.setSram k a v).fences = s.fences := rfl
@[simp] theorem setSram_oldMaps (s : State) (k a v : Nat) : (s.setSram k a v).oldMaps = s.oldMaps := rfl
@[simp] theorem setSram_gifts (s : State) (k a v : Nat) : (s.setSram k a v).gifts = s.gifts := rfl
@[simp] theorem setSram_roles (s : State) (k a v : Nat) : (s.setSram k a v).roles = s.roles := rfl
@[simp] theorem setSram_outPorts (s : State) (k a v : Nat) : (s.setSram k a v).outPorts = s.outPorts := rfl
@[simp] theorem setSram_planes (s : State) (k a v : Nat) : (s.setSram k a v).planes = s.planes := rfl
@[simp] theorem setSram_xbar (s : State) (k a v : Nat) : (s.setSram k a v).xbar = s.xbar := rfl
@[simp] theorem setSram_geom (s : State) (k a v : Nat) : (s.setSram k a v).geom = s.geom := rfl
@[simp] theorem setSram_qstat (s : State) (k a v : Nat) : (s.setSram k a v).qstat = s.qstat := rfl
@[simp] theorem setSram_restless (s : State) (k a v : Nat) : (s.setSram k a v).restless = s.restless := rfl
@[simp] theorem setSram_chanCfg (s : State) (k a v : Nat) : (s.setSram k a v).chanCfg = s.chanCfg := rfl
@[simp] theorem setSram_heldFrames (s : State) (k a v : Nat) : (s.setSram k a v).heldFrames = s.heldFrames := rfl
@[simp] theorem setSram_appends (s : State) (k a v : Nat) : (s.setSram k a v).appends = s.appends := rfl
@[simp] theorem setSram_ledger (s : State) (k a v : Nat) : (s.setSram k a v).ledger = s.ledger := rfl
@[simp] theorem setSram_unretired (s : State) (k a v : Nat) : (s.setSram k a v).unretired = s.unretired := rfl
@[simp] theorem setSram_journal (s : State) (k a v : Nat) : (s.setSram k a v).journal = s.journal := rfl
@[simp] theorem setSram_stl (s : State) (k a v : Nat) : (s.setSram k a v).stl = s.stl := rfl
@[simp] theorem setSram_ctl (s : State) (k a v : Nat) : (s.setSram k a v).ctl = s.ctl := rfl
@[simp] theorem setSram_sessions (s : State) (k a v : Nat) : (s.setSram k a v).sessions = s.sessions := rfl
@[simp] theorem setSram_starts (s : State) (k a v : Nat) : (s.setSram k a v).starts = s.starts := rfl
@[simp] theorem setSram_stops (s : State) (k a v : Nat) : (s.setSram k a v).stops = s.stops := rfl
@[simp] theorem setSram_sup (s : State) (k a v : Nat) : (s.setSram k a v).sup = s.sup := rfl
@[simp] theorem setSram_pending (s : State) (k a v : Nat) : (s.setSram k a v).pending = s.pending := rfl

/-! `setClWord` -/

@[simp] theorem setClWord_clMem (s : State) (c o v : Nat) : (s.setClWord c o v).clMem = s.clMem.set 0 (c * 524288 + o) (word v) := rfl
@[simp] theorem setClWord_time (s : State) (c o v : Nat) : (s.setClWord c o v).time = s.time := rfl
@[simp] theorem setClWord_regs (s : State) (c o v : Nat) : (s.setClWord c o v).regs = s.regs := rfl
@[simp] theorem setClWord_captures (s : State) (c o v : Nat) : (s.setClWord c o v).captures = s.captures := rfl
@[simp] theorem setClWord_resp (s : State) (c o v : Nat) : (s.setClWord c o v).resp = s.resp := rfl
@[simp] theorem setClWord_freeCtr (s : State) (c o v : Nat) : (s.setClWord c o v).freeCtr = s.freeCtr := rfl
@[simp] theorem setClWord_maint (s : State) (c o v : Nat) : (s.setClWord c o v).maint = s.maint := rfl
@[simp] theorem setClWord_fuses (s : State) (c o v : Nat) : (s.setClWord c o v).fuses = s.fuses := rfl
@[simp] theorem setClWord_evRecs (s : State) (c o v : Nat) : (s.setClWord c o v).evRecs = s.evRecs := rfl
@[simp] theorem setClWord_evLost (s : State) (c o v : Nat) : (s.setClWord c o v).evLost = s.evLost := rfl
@[simp] theorem setClWord_ldg (s : State) (c o v : Nat) : (s.setClWord c o v).ldg = s.ldg := rfl
@[simp] theorem setClWord_emits (s : State) (c o v : Nat) : (s.setClWord c o v).emits = s.emits := rfl
@[simp] theorem setClWord_txts (s : State) (c o v : Nat) : (s.setClWord c o v).txts = s.txts := rfl
@[simp] theorem setClWord_ports (s : State) (c o v : Nat) : (s.setClWord c o v).ports = s.ports := rfl
@[simp] theorem setClWord_cells (s : State) (c o v : Nat) : (s.setClWord c o v).cells = s.cells := rfl
@[simp] theorem setClWord_cellData (s : State) (c o v : Nat) : (s.setClWord c o v).cellData = s.cellData := rfl
@[simp] theorem setClWord_rotors (s : State) (c o v : Nat) : (s.setClWord c o v).rotors = s.rotors := rfl
@[simp] theorem setClWord_redLath (s : State) (c o v : Nat) : (s.setClWord c o v).redLath = s.redLath := rfl
@[simp] theorem setClWord_graphs (s : State) (c o v : Nat) : (s.setClWord c o v).graphs = s.graphs := rfl
@[simp] theorem setClWord_houseFrames (s : State) (c o v : Nat) : (s.setClWord c o v).houseFrames = s.houseFrames := rfl
@[simp] theorem setClWord_drain (s : State) (c o v : Nat) : (s.setClWord c o v).drain = s.drain := rfl
@[simp] theorem setClWord_staged (s : State) (c o v : Nat) : (s.setClWord c o v).staged = s.staged := rfl
@[simp] theorem setClWord_clsBanks (s : State) (c o v : Nat) : (s.setClWord c o v).clsBanks = s.clsBanks := rfl
@[simp] theorem setClWord_cipherQ (s : State) (c o v : Nat) : (s.setClWord c o v).cipherQ = s.cipherQ := rfl
@[simp] theorem setClWord_reparseQ (s : State) (c o v : Nat) : (s.setClWord c o v).reparseQ = s.reparseQ := rfl
@[simp] theorem setClWord_classQ (s : State) (c o v : Nat) : (s.setClWord c o v).classQ = s.classQ := rfl
@[simp] theorem setClWord_learnQ (s : State) (c o v : Nat) : (s.setClWord c o v).learnQ = s.learnQ := rfl
@[simp] theorem setClWord_dispQ (s : State) (c o v : Nat) : (s.setClWord c o v).dispQ = s.dispQ := rfl
@[simp] theorem setClWord_dram (s : State) (c o v : Nat) : (s.setClWord c o v).dram = s.dram := rfl
@[simp] theorem setClWord_hot (s : State) (c o v : Nat) : (s.setClWord c o v).hot = s.hot := rfl
@[simp] theorem setClWord_stn (s : State) (c o v : Nat) : (s.setClWord c o v).stn = s.stn := rfl
@[simp] theorem setClWord_stnWait (s : State) (c o v : Nat) : (s.setClWord c o v).stnWait = s.stnWait := rfl
@[simp] theorem setClWord_useCtr (s : State) (c o v : Nat) : (s.setClWord c o v).useCtr = s.useCtr := rfl
@[simp] theorem setClWord_reconciling (s : State) (c o v : Nat) : (s.setClWord c o v).reconciling = s.reconciling := rfl
@[simp] theorem setClWord_needReconcile (s : State) (c o v : Nat) : (s.setClWord c o v).needReconcile = s.needReconcile := rfl
@[simp] theorem setClWord_scans (s : State) (c o v : Nat) : (s.setClWord c o v).scans = s.scans := rfl
@[simp] theorem setClWord_sweeps (s : State) (c o v : Nat) : (s.setClWord c o v).sweeps = s.sweeps := rfl
@[simp] theorem setClWord_lastFound (s : State) (c o v : Nat) : (s.setClWord c o v).lastFound = s.lastFound := rfl
@[simp] theorem setClWord_guards (s : State) (c o v : Nat) : (s.setClWord c o v).guards = s.guards := rfl
@[simp] theorem setClWord_sweepAt (s : State) (c o v : Nat) : (s.setClWord c o v).sweepAt = s.sweepAt := rfl
@[simp] theorem setClWord_keyCache (s : State) (c o v : Nat) : (s.setClWord c o v).keyCache = s.keyCache := rfl
@[simp] theorem setClWord_rangeZero (s : State) (c o v : Nat) : (s.setClWord c o v).rangeZero = s.rangeZero := rfl
@[simp] theorem setClWord_freeAfter (s : State) (c o v : Nat) : (s.setClWord c o v).freeAfter = s.freeAfter := rfl
@[simp] theorem setClWord_chains (s : State) (c o v : Nat) : (s.setClWord c o v).chains = s.chains := rfl
@[simp] theorem setClWord_chans (s : State) (c o v : Nat) : (s.setClWord c o v).chans = s.chans := rfl
@[simp] theorem setClWord_deltas (s : State) (c o v : Nat) : (s.setClWord c o v).deltas = s.deltas := rfl
@[simp] theorem setClWord_idents (s : State) (c o v : Nat) : (s.setClWord c o v).idents = s.idents := rfl
@[simp] theorem setClWord_acceptedPlus (s : State) (c o v : Nat) : (s.setClWord c o v).acceptedPlus = s.acceptedPlus := rfl
@[simp] theorem setClWord_threads (s : State) (c o v : Nat) : (s.setClWord c o v).threads = s.threads := rfl
@[simp] theorem setClWord_cores (s : State) (c o v : Nat) : (s.setClWord c o v).cores = s.cores := rfl
@[simp] theorem setClWord_units (s : State) (c o v : Nat) : (s.setClWord c o v).units = s.units := rfl
@[simp] theorem setClWord_patches (s : State) (c o v : Nat) : (s.setClWord c o v).patches = s.patches := rfl
@[simp] theorem setClWord_patchFrom (s : State) (c o v : Nat) : (s.setClWord c o v).patchFrom = s.patchFrom := rfl
@[simp] theorem setClWord_sram (s : State) (c o v : Nat) : (s.setClWord c o v).sram = s.sram := rfl
@[simp] theorem setClWord_code (s : State) (c o v : Nat) : (s.setClWord c o v).code = s.code := rfl
@[simp] theorem setClWord_lockQ (s : State) (c o v : Nat) : (s.setClWord c o v).lockQ = s.lockQ := rfl
@[simp] theorem setClWord_gateFrom (s : State) (c o v : Nat) : (s.setClWord c o v).gateFrom = s.gateFrom := rfl
@[simp] theorem setClWord_banks (s : State) (c o v : Nat) : (s.setClWord c o v).banks = s.banks := rfl
@[simp] theorem setClWord_released (s : State) (c o v : Nat) : (s.setClWord c o v).released = s.released := rfl
@[simp] theorem setClWord_clusterQ (s : State) (c o v : Nat) : (s.setClWord c o v).clusterQ = s.clusterQ := rfl
@[simp] theorem setClWord_clusterRotor (s : State) (c o v : Nat) : (s.setClWord c o v).clusterRotor = s.clusterRotor := rfl
@[simp] theorem setClWord_defers (s : State) (c o v : Nat) : (s.setClWord c o v).defers = s.defers := rfl
@[simp] theorem setClWord_admitted (s : State) (c o v : Nat) : (s.setClWord c o v).admitted = s.admitted := rfl
@[simp] theorem setClWord_maps (s : State) (c o v : Nat) : (s.setClWord c o v).maps = s.maps := rfl
@[simp] theorem setClWord_moves (s : State) (c o v : Nat) : (s.setClWord c o v).moves = s.moves := rfl
@[simp] theorem setClWord_fences (s : State) (c o v : Nat) : (s.setClWord c o v).fences = s.fences := rfl
@[simp] theorem setClWord_oldMaps (s : State) (c o v : Nat) : (s.setClWord c o v).oldMaps = s.oldMaps := rfl
@[simp] theorem setClWord_gifts (s : State) (c o v : Nat) : (s.setClWord c o v).gifts = s.gifts := rfl
@[simp] theorem setClWord_roles (s : State) (c o v : Nat) : (s.setClWord c o v).roles = s.roles := rfl
@[simp] theorem setClWord_outPorts (s : State) (c o v : Nat) : (s.setClWord c o v).outPorts = s.outPorts := rfl
@[simp] theorem setClWord_planes (s : State) (c o v : Nat) : (s.setClWord c o v).planes = s.planes := rfl
@[simp] theorem setClWord_xbar (s : State) (c o v : Nat) : (s.setClWord c o v).xbar = s.xbar := rfl
@[simp] theorem setClWord_geom (s : State) (c o v : Nat) : (s.setClWord c o v).geom = s.geom := rfl
@[simp] theorem setClWord_qstat (s : State) (c o v : Nat) : (s.setClWord c o v).qstat = s.qstat := rfl
@[simp] theorem setClWord_restless (s : State) (c o v : Nat) : (s.setClWord c o v).restless = s.restless := rfl
@[simp] theorem setClWord_chanCfg (s : State) (c o v : Nat) : (s.setClWord c o v).chanCfg = s.chanCfg := rfl
@[simp] theorem setClWord_heldFrames (s : State) (c o v : Nat) : (s.setClWord c o v).heldFrames = s.heldFrames := rfl
@[simp] theorem setClWord_appends (s : State) (c o v : Nat) : (s.setClWord c o v).appends = s.appends := rfl
@[simp] theorem setClWord_ledger (s : State) (c o v : Nat) : (s.setClWord c o v).ledger = s.ledger := rfl
@[simp] theorem setClWord_unretired (s : State) (c o v : Nat) : (s.setClWord c o v).unretired = s.unretired := rfl
@[simp] theorem setClWord_journal (s : State) (c o v : Nat) : (s.setClWord c o v).journal = s.journal := rfl
@[simp] theorem setClWord_stl (s : State) (c o v : Nat) : (s.setClWord c o v).stl = s.stl := rfl
@[simp] theorem setClWord_ctl (s : State) (c o v : Nat) : (s.setClWord c o v).ctl = s.ctl := rfl
@[simp] theorem setClWord_sessions (s : State) (c o v : Nat) : (s.setClWord c o v).sessions = s.sessions := rfl
@[simp] theorem setClWord_starts (s : State) (c o v : Nat) : (s.setClWord c o v).starts = s.starts := rfl
@[simp] theorem setClWord_stops (s : State) (c o v : Nat) : (s.setClWord c o v).stops = s.stops := rfl
@[simp] theorem setClWord_sup (s : State) (c o v : Nat) : (s.setClWord c o v).sup = s.sup := rfl
@[simp] theorem setClWord_pending (s : State) (c o v : Nat) : (s.setClWord c o v).pending = s.pending := rfl

/-! `answer` -/

@[simp] theorem answer_resp (s : State) (a : Accessor) (v : Nat) (b : Bool) : (s.answer a v b).resp = s.resp.set Resp.reset a.num { value := BitVec.ofNat 32 v, refused := b } := rfl
@[simp] theorem answer_time (s : State) (a : Accessor) (v : Nat) (b : Bool) : (s.answer a v b).time = s.time := rfl
@[simp] theorem answer_regs (s : State) (a : Accessor) (v : Nat) (b : Bool) : (s.answer a v b).regs = s.regs := rfl
@[simp] theorem answer_captures (s : State) (a : Accessor) (v : Nat) (b : Bool) : (s.answer a v b).captures = s.captures := rfl
@[simp] theorem answer_freeCtr (s : State) (a : Accessor) (v : Nat) (b : Bool) : (s.answer a v b).freeCtr = s.freeCtr := rfl
@[simp] theorem answer_maint (s : State) (a : Accessor) (v : Nat) (b : Bool) : (s.answer a v b).maint = s.maint := rfl
@[simp] theorem answer_fuses (s : State) (a : Accessor) (v : Nat) (b : Bool) : (s.answer a v b).fuses = s.fuses := rfl
@[simp] theorem answer_evRecs (s : State) (a : Accessor) (v : Nat) (b : Bool) : (s.answer a v b).evRecs = s.evRecs := rfl
@[simp] theorem answer_evLost (s : State) (a : Accessor) (v : Nat) (b : Bool) : (s.answer a v b).evLost = s.evLost := rfl
@[simp] theorem answer_ldg (s : State) (a : Accessor) (v : Nat) (b : Bool) : (s.answer a v b).ldg = s.ldg := rfl
@[simp] theorem answer_emits (s : State) (a : Accessor) (v : Nat) (b : Bool) : (s.answer a v b).emits = s.emits := rfl
@[simp] theorem answer_txts (s : State) (a : Accessor) (v : Nat) (b : Bool) : (s.answer a v b).txts = s.txts := rfl
@[simp] theorem answer_ports (s : State) (a : Accessor) (v : Nat) (b : Bool) : (s.answer a v b).ports = s.ports := rfl
@[simp] theorem answer_cells (s : State) (a : Accessor) (v : Nat) (b : Bool) : (s.answer a v b).cells = s.cells := rfl
@[simp] theorem answer_cellData (s : State) (a : Accessor) (v : Nat) (b : Bool) : (s.answer a v b).cellData = s.cellData := rfl
@[simp] theorem answer_rotors (s : State) (a : Accessor) (v : Nat) (b : Bool) : (s.answer a v b).rotors = s.rotors := rfl
@[simp] theorem answer_redLath (s : State) (a : Accessor) (v : Nat) (b : Bool) : (s.answer a v b).redLath = s.redLath := rfl
@[simp] theorem answer_graphs (s : State) (a : Accessor) (v : Nat) (b : Bool) : (s.answer a v b).graphs = s.graphs := rfl
@[simp] theorem answer_houseFrames (s : State) (a : Accessor) (v : Nat) (b : Bool) : (s.answer a v b).houseFrames = s.houseFrames := rfl
@[simp] theorem answer_drain (s : State) (a : Accessor) (v : Nat) (b : Bool) : (s.answer a v b).drain = s.drain := rfl
@[simp] theorem answer_staged (s : State) (a : Accessor) (v : Nat) (b : Bool) : (s.answer a v b).staged = s.staged := rfl
@[simp] theorem answer_clsBanks (s : State) (a : Accessor) (v : Nat) (b : Bool) : (s.answer a v b).clsBanks = s.clsBanks := rfl
@[simp] theorem answer_cipherQ (s : State) (a : Accessor) (v : Nat) (b : Bool) : (s.answer a v b).cipherQ = s.cipherQ := rfl
@[simp] theorem answer_reparseQ (s : State) (a : Accessor) (v : Nat) (b : Bool) : (s.answer a v b).reparseQ = s.reparseQ := rfl
@[simp] theorem answer_classQ (s : State) (a : Accessor) (v : Nat) (b : Bool) : (s.answer a v b).classQ = s.classQ := rfl
@[simp] theorem answer_learnQ (s : State) (a : Accessor) (v : Nat) (b : Bool) : (s.answer a v b).learnQ = s.learnQ := rfl
@[simp] theorem answer_dispQ (s : State) (a : Accessor) (v : Nat) (b : Bool) : (s.answer a v b).dispQ = s.dispQ := rfl
@[simp] theorem answer_dram (s : State) (a : Accessor) (v : Nat) (b : Bool) : (s.answer a v b).dram = s.dram := rfl
@[simp] theorem answer_hot (s : State) (a : Accessor) (v : Nat) (b : Bool) : (s.answer a v b).hot = s.hot := rfl
@[simp] theorem answer_stn (s : State) (a : Accessor) (v : Nat) (b : Bool) : (s.answer a v b).stn = s.stn := rfl
@[simp] theorem answer_stnWait (s : State) (a : Accessor) (v : Nat) (b : Bool) : (s.answer a v b).stnWait = s.stnWait := rfl
@[simp] theorem answer_useCtr (s : State) (a : Accessor) (v : Nat) (b : Bool) : (s.answer a v b).useCtr = s.useCtr := rfl
@[simp] theorem answer_reconciling (s : State) (a : Accessor) (v : Nat) (b : Bool) : (s.answer a v b).reconciling = s.reconciling := rfl
@[simp] theorem answer_needReconcile (s : State) (a : Accessor) (v : Nat) (b : Bool) : (s.answer a v b).needReconcile = s.needReconcile := rfl
@[simp] theorem answer_scans (s : State) (a : Accessor) (v : Nat) (b : Bool) : (s.answer a v b).scans = s.scans := rfl
@[simp] theorem answer_sweeps (s : State) (a : Accessor) (v : Nat) (b : Bool) : (s.answer a v b).sweeps = s.sweeps := rfl
@[simp] theorem answer_lastFound (s : State) (a : Accessor) (v : Nat) (b : Bool) : (s.answer a v b).lastFound = s.lastFound := rfl
@[simp] theorem answer_guards (s : State) (a : Accessor) (v : Nat) (b : Bool) : (s.answer a v b).guards = s.guards := rfl
@[simp] theorem answer_sweepAt (s : State) (a : Accessor) (v : Nat) (b : Bool) : (s.answer a v b).sweepAt = s.sweepAt := rfl
@[simp] theorem answer_keyCache (s : State) (a : Accessor) (v : Nat) (b : Bool) : (s.answer a v b).keyCache = s.keyCache := rfl
@[simp] theorem answer_rangeZero (s : State) (a : Accessor) (v : Nat) (b : Bool) : (s.answer a v b).rangeZero = s.rangeZero := rfl
@[simp] theorem answer_freeAfter (s : State) (a : Accessor) (v : Nat) (b : Bool) : (s.answer a v b).freeAfter = s.freeAfter := rfl
@[simp] theorem answer_chains (s : State) (a : Accessor) (v : Nat) (b : Bool) : (s.answer a v b).chains = s.chains := rfl
@[simp] theorem answer_chans (s : State) (a : Accessor) (v : Nat) (b : Bool) : (s.answer a v b).chans = s.chans := rfl
@[simp] theorem answer_deltas (s : State) (a : Accessor) (v : Nat) (b : Bool) : (s.answer a v b).deltas = s.deltas := rfl
@[simp] theorem answer_idents (s : State) (a : Accessor) (v : Nat) (b : Bool) : (s.answer a v b).idents = s.idents := rfl
@[simp] theorem answer_acceptedPlus (s : State) (a : Accessor) (v : Nat) (b : Bool) : (s.answer a v b).acceptedPlus = s.acceptedPlus := rfl
@[simp] theorem answer_threads (s : State) (a : Accessor) (v : Nat) (b : Bool) : (s.answer a v b).threads = s.threads := rfl
@[simp] theorem answer_cores (s : State) (a : Accessor) (v : Nat) (b : Bool) : (s.answer a v b).cores = s.cores := rfl
@[simp] theorem answer_units (s : State) (a : Accessor) (v : Nat) (b : Bool) : (s.answer a v b).units = s.units := rfl
@[simp] theorem answer_patches (s : State) (a : Accessor) (v : Nat) (b : Bool) : (s.answer a v b).patches = s.patches := rfl
@[simp] theorem answer_patchFrom (s : State) (a : Accessor) (v : Nat) (b : Bool) : (s.answer a v b).patchFrom = s.patchFrom := rfl
@[simp] theorem answer_sram (s : State) (a : Accessor) (v : Nat) (b : Bool) : (s.answer a v b).sram = s.sram := rfl
@[simp] theorem answer_code (s : State) (a : Accessor) (v : Nat) (b : Bool) : (s.answer a v b).code = s.code := rfl
@[simp] theorem answer_clMem (s : State) (a : Accessor) (v : Nat) (b : Bool) : (s.answer a v b).clMem = s.clMem := rfl
@[simp] theorem answer_lockQ (s : State) (a : Accessor) (v : Nat) (b : Bool) : (s.answer a v b).lockQ = s.lockQ := rfl
@[simp] theorem answer_gateFrom (s : State) (a : Accessor) (v : Nat) (b : Bool) : (s.answer a v b).gateFrom = s.gateFrom := rfl
@[simp] theorem answer_banks (s : State) (a : Accessor) (v : Nat) (b : Bool) : (s.answer a v b).banks = s.banks := rfl
@[simp] theorem answer_released (s : State) (a : Accessor) (v : Nat) (b : Bool) : (s.answer a v b).released = s.released := rfl
@[simp] theorem answer_clusterQ (s : State) (a : Accessor) (v : Nat) (b : Bool) : (s.answer a v b).clusterQ = s.clusterQ := rfl
@[simp] theorem answer_clusterRotor (s : State) (a : Accessor) (v : Nat) (b : Bool) : (s.answer a v b).clusterRotor = s.clusterRotor := rfl
@[simp] theorem answer_defers (s : State) (a : Accessor) (v : Nat) (b : Bool) : (s.answer a v b).defers = s.defers := rfl
@[simp] theorem answer_admitted (s : State) (a : Accessor) (v : Nat) (b : Bool) : (s.answer a v b).admitted = s.admitted := rfl
@[simp] theorem answer_maps (s : State) (a : Accessor) (v : Nat) (b : Bool) : (s.answer a v b).maps = s.maps := rfl
@[simp] theorem answer_moves (s : State) (a : Accessor) (v : Nat) (b : Bool) : (s.answer a v b).moves = s.moves := rfl
@[simp] theorem answer_fences (s : State) (a : Accessor) (v : Nat) (b : Bool) : (s.answer a v b).fences = s.fences := rfl
@[simp] theorem answer_oldMaps (s : State) (a : Accessor) (v : Nat) (b : Bool) : (s.answer a v b).oldMaps = s.oldMaps := rfl
@[simp] theorem answer_gifts (s : State) (a : Accessor) (v : Nat) (b : Bool) : (s.answer a v b).gifts = s.gifts := rfl
@[simp] theorem answer_roles (s : State) (a : Accessor) (v : Nat) (b : Bool) : (s.answer a v b).roles = s.roles := rfl
@[simp] theorem answer_outPorts (s : State) (a : Accessor) (v : Nat) (b : Bool) : (s.answer a v b).outPorts = s.outPorts := rfl
@[simp] theorem answer_planes (s : State) (a : Accessor) (v : Nat) (b : Bool) : (s.answer a v b).planes = s.planes := rfl
@[simp] theorem answer_xbar (s : State) (a : Accessor) (v : Nat) (b : Bool) : (s.answer a v b).xbar = s.xbar := rfl
@[simp] theorem answer_geom (s : State) (a : Accessor) (v : Nat) (b : Bool) : (s.answer a v b).geom = s.geom := rfl
@[simp] theorem answer_qstat (s : State) (a : Accessor) (v : Nat) (b : Bool) : (s.answer a v b).qstat = s.qstat := rfl
@[simp] theorem answer_restless (s : State) (a : Accessor) (v : Nat) (b : Bool) : (s.answer a v b).restless = s.restless := rfl
@[simp] theorem answer_chanCfg (s : State) (a : Accessor) (v : Nat) (b : Bool) : (s.answer a v b).chanCfg = s.chanCfg := rfl
@[simp] theorem answer_heldFrames (s : State) (a : Accessor) (v : Nat) (b : Bool) : (s.answer a v b).heldFrames = s.heldFrames := rfl
@[simp] theorem answer_appends (s : State) (a : Accessor) (v : Nat) (b : Bool) : (s.answer a v b).appends = s.appends := rfl
@[simp] theorem answer_ledger (s : State) (a : Accessor) (v : Nat) (b : Bool) : (s.answer a v b).ledger = s.ledger := rfl
@[simp] theorem answer_unretired (s : State) (a : Accessor) (v : Nat) (b : Bool) : (s.answer a v b).unretired = s.unretired := rfl
@[simp] theorem answer_journal (s : State) (a : Accessor) (v : Nat) (b : Bool) : (s.answer a v b).journal = s.journal := rfl
@[simp] theorem answer_stl (s : State) (a : Accessor) (v : Nat) (b : Bool) : (s.answer a v b).stl = s.stl := rfl
@[simp] theorem answer_ctl (s : State) (a : Accessor) (v : Nat) (b : Bool) : (s.answer a v b).ctl = s.ctl := rfl
@[simp] theorem answer_sessions (s : State) (a : Accessor) (v : Nat) (b : Bool) : (s.answer a v b).sessions = s.sessions := rfl
@[simp] theorem answer_starts (s : State) (a : Accessor) (v : Nat) (b : Bool) : (s.answer a v b).starts = s.starts := rfl
@[simp] theorem answer_stops (s : State) (a : Accessor) (v : Nat) (b : Bool) : (s.answer a v b).stops = s.stops := rfl
@[simp] theorem answer_sup (s : State) (a : Accessor) (v : Nat) (b : Bool) : (s.answer a v b).sup = s.sup := rfl
@[simp] theorem answer_pending (s : State) (a : Accessor) (v : Nat) (b : Bool) : (s.answer a v b).pending = s.pending := rfl

/-! `stampUse` -/

@[simp] theorem stampUse_useCtr (s : State) : (s.stampUse).useCtr = s.useCtr + 1 := rfl
@[simp] theorem stampUse_time (s : State) : (s.stampUse).time = s.time := rfl
@[simp] theorem stampUse_regs (s : State) : (s.stampUse).regs = s.regs := rfl
@[simp] theorem stampUse_captures (s : State) : (s.stampUse).captures = s.captures := rfl
@[simp] theorem stampUse_resp (s : State) : (s.stampUse).resp = s.resp := rfl
@[simp] theorem stampUse_freeCtr (s : State) : (s.stampUse).freeCtr = s.freeCtr := rfl
@[simp] theorem stampUse_maint (s : State) : (s.stampUse).maint = s.maint := rfl
@[simp] theorem stampUse_fuses (s : State) : (s.stampUse).fuses = s.fuses := rfl
@[simp] theorem stampUse_evRecs (s : State) : (s.stampUse).evRecs = s.evRecs := rfl
@[simp] theorem stampUse_evLost (s : State) : (s.stampUse).evLost = s.evLost := rfl
@[simp] theorem stampUse_ldg (s : State) : (s.stampUse).ldg = s.ldg := rfl
@[simp] theorem stampUse_emits (s : State) : (s.stampUse).emits = s.emits := rfl
@[simp] theorem stampUse_txts (s : State) : (s.stampUse).txts = s.txts := rfl
@[simp] theorem stampUse_ports (s : State) : (s.stampUse).ports = s.ports := rfl
@[simp] theorem stampUse_cells (s : State) : (s.stampUse).cells = s.cells := rfl
@[simp] theorem stampUse_cellData (s : State) : (s.stampUse).cellData = s.cellData := rfl
@[simp] theorem stampUse_rotors (s : State) : (s.stampUse).rotors = s.rotors := rfl
@[simp] theorem stampUse_redLath (s : State) : (s.stampUse).redLath = s.redLath := rfl
@[simp] theorem stampUse_graphs (s : State) : (s.stampUse).graphs = s.graphs := rfl
@[simp] theorem stampUse_houseFrames (s : State) : (s.stampUse).houseFrames = s.houseFrames := rfl
@[simp] theorem stampUse_drain (s : State) : (s.stampUse).drain = s.drain := rfl
@[simp] theorem stampUse_staged (s : State) : (s.stampUse).staged = s.staged := rfl
@[simp] theorem stampUse_clsBanks (s : State) : (s.stampUse).clsBanks = s.clsBanks := rfl
@[simp] theorem stampUse_cipherQ (s : State) : (s.stampUse).cipherQ = s.cipherQ := rfl
@[simp] theorem stampUse_reparseQ (s : State) : (s.stampUse).reparseQ = s.reparseQ := rfl
@[simp] theorem stampUse_classQ (s : State) : (s.stampUse).classQ = s.classQ := rfl
@[simp] theorem stampUse_learnQ (s : State) : (s.stampUse).learnQ = s.learnQ := rfl
@[simp] theorem stampUse_dispQ (s : State) : (s.stampUse).dispQ = s.dispQ := rfl
@[simp] theorem stampUse_dram (s : State) : (s.stampUse).dram = s.dram := rfl
@[simp] theorem stampUse_hot (s : State) : (s.stampUse).hot = s.hot := rfl
@[simp] theorem stampUse_stn (s : State) : (s.stampUse).stn = s.stn := rfl
@[simp] theorem stampUse_stnWait (s : State) : (s.stampUse).stnWait = s.stnWait := rfl
@[simp] theorem stampUse_reconciling (s : State) : (s.stampUse).reconciling = s.reconciling := rfl
@[simp] theorem stampUse_needReconcile (s : State) : (s.stampUse).needReconcile = s.needReconcile := rfl
@[simp] theorem stampUse_scans (s : State) : (s.stampUse).scans = s.scans := rfl
@[simp] theorem stampUse_sweeps (s : State) : (s.stampUse).sweeps = s.sweeps := rfl
@[simp] theorem stampUse_lastFound (s : State) : (s.stampUse).lastFound = s.lastFound := rfl
@[simp] theorem stampUse_guards (s : State) : (s.stampUse).guards = s.guards := rfl
@[simp] theorem stampUse_sweepAt (s : State) : (s.stampUse).sweepAt = s.sweepAt := rfl
@[simp] theorem stampUse_keyCache (s : State) : (s.stampUse).keyCache = s.keyCache := rfl
@[simp] theorem stampUse_rangeZero (s : State) : (s.stampUse).rangeZero = s.rangeZero := rfl
@[simp] theorem stampUse_freeAfter (s : State) : (s.stampUse).freeAfter = s.freeAfter := rfl
@[simp] theorem stampUse_chains (s : State) : (s.stampUse).chains = s.chains := rfl
@[simp] theorem stampUse_chans (s : State) : (s.stampUse).chans = s.chans := rfl
@[simp] theorem stampUse_deltas (s : State) : (s.stampUse).deltas = s.deltas := rfl
@[simp] theorem stampUse_idents (s : State) : (s.stampUse).idents = s.idents := rfl
@[simp] theorem stampUse_acceptedPlus (s : State) : (s.stampUse).acceptedPlus = s.acceptedPlus := rfl
@[simp] theorem stampUse_threads (s : State) : (s.stampUse).threads = s.threads := rfl
@[simp] theorem stampUse_cores (s : State) : (s.stampUse).cores = s.cores := rfl
@[simp] theorem stampUse_units (s : State) : (s.stampUse).units = s.units := rfl
@[simp] theorem stampUse_patches (s : State) : (s.stampUse).patches = s.patches := rfl
@[simp] theorem stampUse_patchFrom (s : State) : (s.stampUse).patchFrom = s.patchFrom := rfl
@[simp] theorem stampUse_sram (s : State) : (s.stampUse).sram = s.sram := rfl
@[simp] theorem stampUse_code (s : State) : (s.stampUse).code = s.code := rfl
@[simp] theorem stampUse_clMem (s : State) : (s.stampUse).clMem = s.clMem := rfl
@[simp] theorem stampUse_lockQ (s : State) : (s.stampUse).lockQ = s.lockQ := rfl
@[simp] theorem stampUse_gateFrom (s : State) : (s.stampUse).gateFrom = s.gateFrom := rfl
@[simp] theorem stampUse_banks (s : State) : (s.stampUse).banks = s.banks := rfl
@[simp] theorem stampUse_released (s : State) : (s.stampUse).released = s.released := rfl
@[simp] theorem stampUse_clusterQ (s : State) : (s.stampUse).clusterQ = s.clusterQ := rfl
@[simp] theorem stampUse_clusterRotor (s : State) : (s.stampUse).clusterRotor = s.clusterRotor := rfl
@[simp] theorem stampUse_defers (s : State) : (s.stampUse).defers = s.defers := rfl
@[simp] theorem stampUse_admitted (s : State) : (s.stampUse).admitted = s.admitted := rfl
@[simp] theorem stampUse_maps (s : State) : (s.stampUse).maps = s.maps := rfl
@[simp] theorem stampUse_moves (s : State) : (s.stampUse).moves = s.moves := rfl
@[simp] theorem stampUse_fences (s : State) : (s.stampUse).fences = s.fences := rfl
@[simp] theorem stampUse_oldMaps (s : State) : (s.stampUse).oldMaps = s.oldMaps := rfl
@[simp] theorem stampUse_gifts (s : State) : (s.stampUse).gifts = s.gifts := rfl
@[simp] theorem stampUse_roles (s : State) : (s.stampUse).roles = s.roles := rfl
@[simp] theorem stampUse_outPorts (s : State) : (s.stampUse).outPorts = s.outPorts := rfl
@[simp] theorem stampUse_planes (s : State) : (s.stampUse).planes = s.planes := rfl
@[simp] theorem stampUse_xbar (s : State) : (s.stampUse).xbar = s.xbar := rfl
@[simp] theorem stampUse_geom (s : State) : (s.stampUse).geom = s.geom := rfl
@[simp] theorem stampUse_qstat (s : State) : (s.stampUse).qstat = s.qstat := rfl
@[simp] theorem stampUse_restless (s : State) : (s.stampUse).restless = s.restless := rfl
@[simp] theorem stampUse_chanCfg (s : State) : (s.stampUse).chanCfg = s.chanCfg := rfl
@[simp] theorem stampUse_heldFrames (s : State) : (s.stampUse).heldFrames = s.heldFrames := rfl
@[simp] theorem stampUse_appends (s : State) : (s.stampUse).appends = s.appends := rfl
@[simp] theorem stampUse_ledger (s : State) : (s.stampUse).ledger = s.ledger := rfl
@[simp] theorem stampUse_unretired (s : State) : (s.stampUse).unretired = s.unretired := rfl
@[simp] theorem stampUse_journal (s : State) : (s.stampUse).journal = s.journal := rfl
@[simp] theorem stampUse_stl (s : State) : (s.stampUse).stl = s.stl := rfl
@[simp] theorem stampUse_ctl (s : State) : (s.stampUse).ctl = s.ctl := rfl
@[simp] theorem stampUse_sessions (s : State) : (s.stampUse).sessions = s.sessions := rfl
@[simp] theorem stampUse_starts (s : State) : (s.stampUse).starts = s.starts := rfl
@[simp] theorem stampUse_stops (s : State) : (s.stampUse).stops = s.stops := rfl
@[simp] theorem stampUse_sup (s : State) : (s.stampUse).sup = s.sup := rfl
@[simp] theorem stampUse_pending (s : State) : (s.stampUse).pending = s.pending := rfl

end Sys2Proof.Machine.State
end

