-- ==== Sys2Proof/Laws/Tab.lean ====
section
/-! SUPPORT. Reading a sparse table after writing it, and the canonical form, which every write keeps. -/

namespace Sys2Proof.Tab

set_option Elab.async false

variable {α : Type}

@[simp] theorem get_nil (d : α) (k : Nat) : Tab.get d ([] : Tab α) k = d := rfl

theorem get_cons (d : α) (e : Nat × α) (t : Tab α) (k : Nat) : Tab.get d (e :: t) k = if e.1 = k then e.2 else Tab.get d t k := rfl

@[simp] theorem get_insert (d : α) (t : Tab α) (k k' : Nat) (v : α) :
    Tab.get d (t.insert k v) k' = if k = k' then v else Tab.get d t k' := by
  induction t with
  | nil => simp [Tab.insert, Tab.get]
  | cons e t ih =>
    obtain ⟨a, w⟩ := e
    simp only [Tab.insert]
    by_cases h : a = k
    · subst h
      simp only [if_true, Tab.get]
      by_cases h2 : a = k' <;> simp [h2]
    · simp only [h, if_false]
      by_cases hlt : k < a
      · simp [hlt, Tab.get]
      · simp only [hlt, if_false, Tab.get, ih]
        by_cases h2 : a = k'
        · subst h2; simp [show k ≠ a from fun e => h e.symm]
        · simp [h2]

@[simp] theorem get_erase (d : α) (t : Tab α) (k k' : Nat) : Tab.get d (t.erase k) k' = if k = k' then d else Tab.get d t k' := by
  induction t with
  | nil => simp [Tab.erase, Tab.get]
  | cons e t ih =>
    obtain ⟨a, w⟩ := e
    unfold Tab.erase at *
    by_cases h : a = k
    · subst h
      simp only [List.filter, BEq.rfl, Bool.not_true, ih, Tab.get]
      by_cases h2 : a = k' <;> simp [h2]
    · have : (a == k) = false := by simp [h]
      simp only [List.filter, this, Bool.not_false, Tab.get, ih]
      by_cases h2 : a = k'
      · subst h2; simp [show k ≠ a from fun e => h e.symm]
      · simp [h2]

/-- A read after a write: the value written at its key, every other key as before. -/
@[simp] theorem get_set [DecidableEq α] (d : α) (t : Tab α) (k k' : Nat) (v : α) :
    Tab.get d (t.set d k v) k' = if k = k' then v else Tab.get d t k' := by
  unfold Tab.set
  by_cases h : v = d
  · subst h; simp
  · simp [h]

theorem get_set_self [DecidableEq α] (d : α) (t : Tab α) (k : Nat) (v : α) : Tab.get d (t.set d k v) k = v := by simp

theorem get_set_ne [DecidableEq α] (d d' : α) (t : Tab α) {k k' : Nat} (v : α) (h : k ≠ k') :
    Tab.get d' (t.set d k v) k' = Tab.get d' t k' := by
  unfold Tab.set
  split <;> simp [h]

/-! ### The canonical form -/

theorem sorted_cons (e : Nat × α) (t : Tab α) : Tab.sorted (e :: t) = true ↔ (∀ x ∈ t, e.1 < x.1) ∧ Tab.sorted t = true := by
  induction t generalizing e with
  | nil => simp [Tab.sorted]
  | cons f t ih =>
    obtain ⟨a, v⟩ := e
    obtain ⟨b, w⟩ := f
    simp only [Tab.sorted, Bool.and_eq_true, decide_eq_true_eq, List.mem_cons, forall_eq_or_imp]
    constructor
    · rintro ⟨h, hs⟩
      exact ⟨⟨h, fun x hx => Nat.lt_trans h (((ih ⟨b, w⟩).1 hs).1 x hx)⟩, hs⟩
    · rintro ⟨⟨h, _⟩, hs⟩
      exact ⟨h, hs⟩

theorem mem_insert {t : Tab α} {k : Nat} {v : α} {x : Nat × α} (h : x ∈ t.insert k v) : x = (k, v) ∨ x ∈ t := by
  induction t with
  | nil => simp [Tab.insert] at h; exact Or.inl h
  | cons e t ih =>
    obtain ⟨a, w⟩ := e
    simp only [Tab.insert] at h
    split at h
    · rcases List.mem_cons.1 h with h | h
      · exact Or.inl h
      · exact Or.inr (List.mem_cons_of_mem _ h)
    · split at h
      · rcases List.mem_cons.1 h with h | h
        · exact Or.inl h
        · exact Or.inr h
      · rcases List.mem_cons.1 h with h | h
        · exact Or.inr (h ▸ List.mem_cons_self ..)
        · rcases ih h with h | h
          · exact Or.inl h
          · exact Or.inr (List.mem_cons_of_mem _ h)

theorem sorted_insert {t : Tab α} (h : t.sorted = true) (k : Nat) (v : α) : (t.insert k v).sorted = true := by
  induction t with
  | nil => rfl
  | cons e t ih =>
    obtain ⟨a, w⟩ := e
    have hs := (sorted_cons _ _).1 h
    simp only [Tab.insert]
    split
    · next hk => subst hk; exact (sorted_cons _ _).2 ⟨hs.1, hs.2⟩
    · split
      · next hlt =>
        refine (sorted_cons _ _).2 ⟨fun x hx => ?_, h⟩
        rcases List.mem_cons.1 hx with hx | hx
        · subst hx; exact hlt
        · exact Nat.lt_trans hlt (hs.1 x hx)
      · next hne hge =>
        refine (sorted_cons _ _).2 ⟨fun x hx => ?_, ih hs.2⟩
        rcases mem_insert hx with hx | hx
        · subst hx; show a < k; omega
        · exact hs.1 x hx

theorem sorted_erase {t : Tab α} (h : t.sorted = true) (k : Nat) : (t.erase k).sorted = true := by
  induction t with
  | nil => rfl
  | cons e t ih =>
    have hs := (sorted_cons _ _).1 h
    unfold Tab.erase at *
    simp only [List.filter]
    split
    · exact (sorted_cons _ _).2 ⟨fun x hx => hs.1 x ((List.mem_filter.1 hx).1), ih hs.2⟩
    · exact ih hs.2

/-- Every write keeps the canonical form. -/
theorem wf_set [DecidableEq α] {d : α} {t : Tab α} (h : t.wf d = true) (k : Nat) (v : α) : (t.set d k v).wf d = true := by
  simp only [Tab.wf, Bool.and_eq_true, List.all_eq_true] at *
  unfold Tab.set
  split
  · exact ⟨sorted_erase h.1 k, fun x hx => h.2 x ((List.mem_filter.1 hx).1)⟩
  · next hv =>
    refine ⟨sorted_insert h.1 k v, fun x hx => ?_⟩
    rcases mem_insert hx with hx | hx
    · subst hx; simp [hv]
    · exact h.2 x hx

end Sys2Proof.Tab
end

