-- ==== Sys2Proof/Laws/Regs.lean ====
section
/-! SUPPORT. Bit fields and the register file: what a read gives after a write. -/

namespace Sys2Proof.Machine

set_option Elab.async false

/-! ### Fields of a number -/

theorem bits_lt (w lo width : Nat) : bits w lo width < 2 ^ width := Nat.mod_lt _ (Nat.two_pow_pos _)

/-- The field written reads back as written. -/
theorem bits_putBits (w lo width v : Nat) : bits (putBits w lo width v) lo width = v % 2 ^ width := by
  unfold bits putBits
  have h1 : w % 2 ^ lo < 2 ^ lo := Nat.mod_lt _ (Nat.two_pow_pos _)
  have e : w % 2 ^ lo + v % 2 ^ width * 2 ^ lo + w / 2 ^ (lo + width) * 2 ^ (lo + width)
      = w % 2 ^ lo + (v % 2 ^ width + w / 2 ^ (lo + width) * 2 ^ width) * 2 ^ lo := by
    rw [Nat.add_mul, Nat.pow_add, Nat.mul_assoc (w / (2 ^ lo * 2 ^ width)), Nat.mul_comm (2 ^ width) (2 ^ lo), Nat.add_assoc]
  rw [e, Nat.add_mul_div_right _ _ (Nat.two_pow_pos _), Nat.div_eq_of_lt h1, Nat.zero_add, Nat.add_mul_mod_self_right, Nat.mod_mod]

theorem putBits_bit (w lo width v k : Nat) :
    (putBits w lo width v).testBit k = if lo ≤ k ∧ k < lo + width then v.testBit (k - lo) else w.testBit k := by
  unfold putBits
  have h1 : w % 2 ^ lo < 2 ^ lo := Nat.mod_lt _ (Nat.two_pow_pos _)
  have h2 : v % 2 ^ width < 2 ^ width := Nat.mod_lt _ (Nat.two_pow_pos _)
  have h3 : w % 2 ^ lo + v % 2 ^ width * 2 ^ lo < 2 ^ (lo + width) := by
    have : v % 2 ^ width + 1 ≤ 2 ^ width := h2
    calc w % 2 ^ lo + v % 2 ^ width * 2 ^ lo < 2 ^ lo + v % 2 ^ width * 2 ^ lo := by omega
      _ = (v % 2 ^ width + 1) * 2 ^ lo := by rw [Nat.add_mul, Nat.one_mul, Nat.add_comm]
      _ ≤ 2 ^ width * 2 ^ lo := Nat.mul_le_mul_right _ this
      _ = 2 ^ (lo + width) := by rw [Nat.pow_add, Nat.mul_comm]
  rw [Nat.add_comm _ (w / 2 ^ (lo + width) * 2 ^ (lo + width)), Nat.mul_comm (w / 2 ^ (lo + width)), Nat.testBit_two_pow_mul_add _ h3,
    Nat.add_comm (w % 2 ^ lo), Nat.mul_comm (v % 2 ^ width), Nat.testBit_two_pow_mul_add _ h1]
  simp only [Nat.testBit_mod_two_pow, Nat.testBit_div_two_pow]
  by_cases a : k < lo + width
  · by_cases b : k < lo
    · simp [a, b, show ¬ lo ≤ k by omega]
    · simp [a, b, show lo ≤ k by omega, show k - lo < width by omega]
  · simp [a, show k - (lo + width) + (lo + width) = k by omega]

theorem bits_bit (w lo width k : Nat) : (bits w lo width).testBit k = (decide (k < width) && w.testBit (lo + k)) := by
  unfold bits
  rw [Nat.testBit_mod_two_pow, Nat.testBit_div_two_pow, Nat.add_comm]

/-- A field that does not meet the one written reads as before. -/
theorem bits_putBits_ne (w lo width v lo' width' : Nat) (h : lo' + width' ≤ lo ∨ lo + width ≤ lo') :
    bits (putBits w lo width v) lo' width' = bits w lo' width' := by
  apply Nat.eq_of_testBit_eq
  intro k
  rw [bits_bit, bits_bit, putBits_bit]
  by_cases hk : k < width'
  · have : ¬ (lo ≤ lo' + k ∧ lo' + k < lo + width) := by omega
    simp [hk, this]
  · simp [hk]

theorem putBits_lt {w lo width v n : Nat} (hw : w < 2 ^ n) (h : lo + width ≤ n) : putBits w lo width v < 2 ^ n := by
  apply Nat.lt_pow_two_of_testBit
  intro k hk
  rw [putBits_bit]
  have : ¬ (lo ≤ k ∧ k < lo + width) := by omega
  rw [if_neg this]
  exact Nat.testBit_lt_two_pow (Nat.lt_of_lt_of_le hw (Nat.pow_le_pow_right (by omega) hk))

/-! ### The register file -/

/-- A field that lies in its 32-bit register. -/
def Fld.fits (fl : Fld) : Bool := fl.lo + fl.width ≤ 32

theorem State.rdA_lt (s : State) (a : Nat) (r : Reg) (i j : Nat) : s.rdA a r i j < 2 ^ 32 := (Tab.get _ s.regs _).isLt

theorem State.rdA_wrA_self (s : State) (a : Nat) (r : Reg) (i j v : Nat) : (s.wrA a r i j v).rdA a r i j = v % 2 ^ 32 := by
  simp [State.rdA]

theorem State.rdA_wrA_ne (s : State) {a a' : Nat} {r r' : Reg} {i i' j j' : Nat} (v : Nat) (h : r.key a i j ≠ r'.key a' i' j') :
    (s.wrA a r i j v).rdA a' r' i' j' = s.rdA a' r' i' j' := by
  simp only [State.rdA, State.wrA_regs]
  rw [Tab.get_set_ne _ _ _ _ h]

theorem State.rd_wr_self (s : State) (r : Reg) (i j v : Nat) : (s.wr r i j v).rd r i j = v % 2 ^ 32 := s.rdA_wrA_self 0 r i j v

theorem State.rd_wr_ne (s : State) {r r' : Reg} {i i' j j' : Nat} (v : Nat) (h : r.key 0 i j ≠ r'.key 0 i' j') :
    (s.wr r i j v).rd r' i' j' = s.rd r' i' j' := s.rdA_wrA_ne v h

theorem bits_mod {w lo width n : Nat} (h : lo + width ≤ n) : bits (w % 2 ^ n) lo width = bits w lo width := by
  apply Nat.eq_of_testBit_eq
  intro k
  rw [bits_bit, bits_bit, Nat.testBit_mod_two_pow]
  by_cases hk : k < width
  · simp [hk, show lo + k < n by omega]
  · simp [hk]

/-- A field set by the hardware reads back as set. -/
theorem State.f_setF_self (s : State) (fl : Fld) (i v j : Nat) (h : fl.fits = true) : (s.setF fl i v j).f fl i j = v % 2 ^ fl.width := by
  have h : fl.lo + fl.width ≤ 32 := by simpa [Fld.fits] using h
  simp only [State.f, State.setF, State.rd_wr_self]
  rw [bits_mod h, bits_putBits]

/-- Another field of the same register reads as before. -/
theorem State.f_setF_field (s : State) (fl g : Fld) (i v j : Nat) (hr : g.reg = fl.reg) (hg : g.fits = true)
    (h : g.lo + g.width ≤ fl.lo ∨ fl.lo + fl.width ≤ g.lo) : (s.setF fl i v j).f g i j = s.f g i j := by
  have hg : g.lo + g.width ≤ 32 := by simpa [Fld.fits] using hg
  simp only [State.f, State.setF, hr, State.rd_wr_self]
  rw [bits_mod hg, bits_putBits_ne _ _ _ _ _ _ h]

/-- A field of a register elsewhere reads as before. -/
theorem State.f_setF_ne (s : State) (fl g : Fld) (i v j i' j' : Nat) (h : fl.reg.key 0 i j ≠ g.reg.key 0 i' j') :
    (s.setF fl i v j).f g i' j' = s.f g i' j' := by
  simp only [State.f, State.setF]
  rw [State.rd_wr_ne s _ h]

theorem State.f_lt (s : State) (fl : Fld) (i j : Nat) : s.f fl i j < 2 ^ fl.width := bits_lt _ _ _

/-- A counter counts as R14 says. -/
theorem State.f_count_self (s : State) (fl : Fld) (i n : Nat) (h : fl.fits = true) :
    (s.count fl i n).f fl i = (if fl.sat then satAdd fl.width (s.f fl i) n else s.f fl i + n) % 2 ^ fl.width :=
  s.f_setF_self fl i _ 0 h

theorem State.f_count_ne (s : State) (fl g : Fld) (i n i' j' : Nat) (h : fl.reg.key 0 i 0 ≠ g.reg.key 0 i' j') :
    (s.count fl i n).f g i' j' = s.f g i' j' := s.f_setF_ne fl g i _ 0 i' j' h

/-- Every other word of the register file is as before. -/
theorem State.setF_regs_ne (s : State) (fl : Fld) (i v j k : Nat) (d : Word32) (h : fl.reg.key 0 i j ≠ k) :
    (s.setF fl i v j).regs.get d k = s.regs.get d k := Tab.get_set_ne _ _ _ _ h

/-! ### Commands -/

@[simp] theorem run_next (s : State) (f : State → State) : run s f = .next { f s with time := s.time, pending := s.pending } := rfl

@[simp] theorem runT_next (s : State) (f : State → State) : runT s f = .next { f s with pending := s.pending } := rfl

@[simp] theorem onlyIf_true (f : State → State) (s : State) : onlyIf true f s = f s := rfl

@[simp] theorem onlyIf_false (f : State → State) (s : State) : onlyIf false f s = s := rfl

end Sys2Proof.Machine
end

