-- ==== Sys2Proof/Laws/Events.lean ====
section
/-! SUPPORT. What an event can change (R394-R409): the register file's counters, the pending records and the recorders. -/

namespace Sys2Proof.Machine

set_option Elab.async false

/-- Only what an event works on differs. -/
abbrev EvFrame (s t : State) : Prop := s.onlyEvents t

theorem EvFrame.refl (s : State) : EvFrame s s := ⟨s.regs, s.evRecs, s.evLost, s.ldg, s.freeCtr, rfl⟩

theorem EvFrame.trans {s t u : State} (h : EvFrame s t) (k : EvFrame t u) : EvFrame s u := by
  obtain ⟨_, _, _, _, _, rfl⟩ := h
  obtain ⟨r, e, l, g, f, rfl⟩ := k
  exact ⟨r, e, l, g, f, rfl⟩

theorem EvFrame.wrA (s : State) (a : Nat) (r : Reg) (i j v : Nat) : EvFrame s (s.wrA a r i j v) := ⟨_, s.evRecs, s.evLost, s.ldg, s.freeCtr, rfl⟩

theorem EvFrame.setF (s : State) (fl : Fld) (i v j : Nat) : EvFrame s (s.setF fl i v j) := EvFrame.wrA ..

theorem EvFrame.count (s : State) (fl : Fld) (i n : Nat) : EvFrame s (s.count fl i n) := EvFrame.setF ..

theorem EvFrame.recs (s : State) (e : List EvRec) : EvFrame s { s with evRecs := e } := ⟨s.regs, e, s.evLost, s.ldg, s.freeCtr, rfl⟩

theorem EvFrame.lost (s : State) (l : List (Nat × Bool)) : EvFrame s { s with evLost := l } := ⟨s.regs, s.evRecs, l, s.ldg, s.freeCtr, rfl⟩

theorem EvFrame.ledgers (s : State) (g : Tab Recorder) : EvFrame s { s with ldg := g } := ⟨s.regs, s.evRecs, s.evLost, g, s.freeCtr, rfl⟩

theorem EvFrame.free (s : State) (n : Nat) : EvFrame s { s with freeCtr := n } := ⟨s.regs, s.evRecs, s.evLost, s.ldg, n, rfl⟩

theorem queueRec_frame (s : State) (src owner : Nat) (notice copy : Bool) (rule : Nat) (data : List Word) :
    EvFrame s (s.queueRec src owner notice copy rule data) := by
  unfold State.queueRec
  extract_lets
  split
  · exact EvFrame.recs ..
  · split
    · exact EvFrame.recs ..
    · split
      · split
        · exact EvFrame.recs ..
        · split
          · exact EvFrame.recs ..
          · exact (EvFrame.count ..).trans (EvFrame.lost ..)
      · exact EvFrame.recs ..

theorem queueNotice_frame (s : State) (src owner rule : Nat) (data : List Word) : EvFrame s (s.queueNotice src owner rule data) := by
  unfold State.queueNotice
  split
  · exact queueRec_frame ..
  · exact EvFrame.count ..

theorem deliverOcc_frame (s : State) (src : Nat) (data : List Word) : EvFrame s (s.deliverOcc src data) := by
  unfold State.deliverOcc
  extract_lets owner mask rule tg still s1 s2 pool
  have h1 : EvFrame s s1 := by
    show EvFrame s (if _ then _ else _)
    split
    · exact queueRec_frame ..
    · split
      · exact queueRec_frame ..
      · exact EvFrame.refl _
  have h2 : EvFrame s1 s2 := by
    show EvFrame s1 (if _ then _ else _)
    split
    · exact queueNotice_frame ..
    · exact EvFrame.refl _
  split
  · exact (h1.trans h2).trans (queueRec_frame ..)
  · exact h1.trans h2

theorem histogram_frame (s : State) (r : Nat) : EvFrame s (s.histogram r) := EvFrame.ledgers ..

theorem snapshot_frame (s : State) (r kind : Nat) : EvFrame s (s.snapshot r kind) := by
  unfold State.snapshot
  extract_lets n own vals body rec_ head old rec' s1 s2
  have h : EvFrame s s2 := (EvFrame.ledgers ..).trans (EvFrame.setF ..)
  split
  · exact h.trans (EvFrame.setF ..)
  · exact h

theorem occur_zero (src : Nat) (data : List Word) (s : State) : State.occur 0 src data s = s := by rw [State.occur]

theorem occur_succ (n src : Nat) (data : List Word) (s : State) :
    State.occur (n + 1) src data s =
      State.deliverOcc
        (if (s.count F.evcSrc_COUNT src).f F.evcSrc_TARGETS src / 4 % 2 = 1 then
          State.captureAll n 1 ((s.count F.evcSrc_COUNT src).triggered src) (s.count F.evcSrc_COUNT src)
        else s.count F.evcSrc_COUNT src) src data := by rw [State.occur]

theorem captureAll_zero (kind : Nat) (rs : List Nat) (s : State) : State.captureAll 0 kind rs s = s := by rw [State.captureAll]

theorem captureAll_nil (n kind : Nat) (s : State) : State.captureAll (n + 1) kind [] s = s := by simp only [State.captureAll]

theorem captureAll_cons (n kind r : Nat) (rs : List Nat) (s : State) :
    State.captureAll (n + 1) kind (r :: rs) s = State.captureAll n kind rs (State.capture n kind r s) := by simp only [State.captureAll]

theorem capture_zero (kind r : Nat) (s : State) : State.capture 0 kind r s = s := by rw [State.capture]

theorem capturing_frame (s : State) (r : Nat) : EvFrame s (s.capturing r).2 := by
  unfold State.capturing
  split
  · split
    · exact EvFrame.free ..
    · exact EvFrame.refl s
  · exact EvFrame.refl s

/-- No capture is in progress once two laths have passed since the latest began (R403). -/
theorem capturing_past {s : State} {r : Nat} (h : ∀ b, (s.ldg.get Recorder.reset r).since = some b → b + 2048 ≤ s.now) :
    s.capturing r = (false, s) := by
  unfold State.capturing
  split
  · rename_i b hb
    rw [if_neg (Nat.not_lt.mpr (h b hb))]
  · rfl

theorem captured_frame (s : State) (r : Nat) : EvFrame s (s.captured r) := EvFrame.ledgers ..

theorem capture_succ (n kind r : Nat) (s : State) :
    State.capture (n + 1) kind r s =
      if (s.capturing r).2.f F.ldgCfg_FREEZE r = 1 ∨ (s.capturing r).2.f F.ldgStat_STOPPED r = 1 ∨
          ((s.capturing r).2.ldg.get Recorder.reset r).rearming ∨ (s.capturing r).1 then (s.capturing r).2.count F.ldgStat_MISSED r
      else if (s.capturing r).2.f F.ldgCfg_MODE r = 1 then ((s.capturing r).2.histogram r).captured r
      else if (s.capturing r).2.f F.ldgCfg_STOP r = 1 ∧ (s.capturing r).2.f F.ldgStat_HEAD r = 1023 then
        State.occur n (Ev.LDG_STOPPED r) [] ((((s.capturing r).2.snapshot r kind).captured r).setF F.ldgStat_STOPPED r 1)
      else ((s.capturing r).2.snapshot r kind).captured r := by rw [State.capture]

theorem events_frame (fuel : Nat) :
    (∀ src data s, EvFrame s (State.occur fuel src data s)) ∧
    (∀ kind rs s, EvFrame s (State.captureAll fuel kind rs s)) ∧
    (∀ kind r s, EvFrame s (State.capture fuel kind r s)) := by
  induction fuel with
  | zero =>
    exact ⟨fun _ _ s => by rw [occur_zero]; exact EvFrame.refl s, fun _ _ s => by rw [captureAll_zero]; exact EvFrame.refl s,
      fun _ _ s => by rw [capture_zero]; exact EvFrame.refl s⟩
  | succ n ih =>
    obtain ⟨ho, ha, hc⟩ := ih
    refine ⟨fun src data s => ?_, fun kind rs s => ?_, fun kind r s => ?_⟩
    · rw [occur_succ]
      refine EvFrame.trans ?_ (deliverOcc_frame ..)
      split
      · exact (EvFrame.count ..).trans (ha ..)
      · exact EvFrame.count ..
    · cases rs with
      | nil => rw [captureAll_nil]; exact EvFrame.refl s
      | cons r rs => rw [captureAll_cons]; exact (hc ..).trans (ha ..)
    · rw [capture_succ]
      refine (capturing_frame s r).trans ?_
      split
      · exact EvFrame.count ..
      · split
        · exact (histogram_frame ..).trans (captured_frame ..)
        · have h := (snapshot_frame (s.capturing r).2 r kind).trans (captured_frame _ r)
          split
          · exact (h.trans (EvFrame.setF ..)).trans (ho ..)
          · exact h

/-- An event changes the register file, the pending records, the recorders and the count of free values, and nothing else. -/
theorem raise_frame (s : State) (src : Nat) (data : List Word) : EvFrame s (s.raise src data) := (events_frame 200).1 src data s

namespace State

@[simp] theorem raise_time (s : State) (e : Nat) (d : List Word) : (s.raise e d).time = s.time := by
  obtain ⟨_, _, _, _, _, h⟩ := raise_frame s e d; rw [h]; rfl
@[simp] theorem raise_captures (s : State) (e : Nat) (d : List Word) : (s.raise e d).captures = s.captures := by
  obtain ⟨_, _, _, _, _, h⟩ := raise_frame s e d; rw [h]; rfl
@[simp] theorem raise_resp (s : State) (e : Nat) (d : List Word) : (s.raise e d).resp = s.resp := by
  obtain ⟨_, _, _, _, _, h⟩ := raise_frame s e d; rw [h]; rfl
@[simp] theorem raise_maint (s : State) (e : Nat) (d : List Word) : (s.raise e d).maint = s.maint := by
  obtain ⟨_, _, _, _, _, h⟩ := raise_frame s e d; rw [h]; rfl
@[simp] theorem raise_fuses (s : State) (e : Nat) (d : List Word) : (s.raise e d).fuses = s.fuses := by
  obtain ⟨_, _, _, _, _, h⟩ := raise_frame s e d; rw [h]; rfl
@[simp] theorem raise_emits (s : State) (e : Nat) (d : List Word) : (s.raise e d).emits = s.emits := by
  obtain ⟨_, _, _, _, _, h⟩ := raise_frame s e d; rw [h]; rfl
@[simp] theorem raise_txts (s : State) (e : Nat) (d : List Word) : (s.raise e d).txts = s.txts := by
  obtain ⟨_, _, _, _, _, h⟩ := raise_frame s e d; rw [h]; rfl
@[simp] theorem raise_ports (s : State) (e : Nat) (d : List Word) : (s.raise e d).ports = s.ports := by
  obtain ⟨_, _, _, _, _, h⟩ := raise_frame s e d; rw [h]; rfl
@[simp] theorem raise_cells (s : State) (e : Nat) (d : List Word) : (s.raise e d).cells = s.cells := by
  obtain ⟨_, _, _, _, _, h⟩ := raise_frame s e d; rw [h]; rfl
@[simp] theorem raise_cellData (s : State) (e : Nat) (d : List Word) : (s.raise e d).cellData = s.cellData := by
  obtain ⟨_, _, _, _, _, h⟩ := raise_frame s e d; rw [h]; rfl
@[simp] theorem raise_rotors (s : State) (e : Nat) (d : List Word) : (s.raise e d).rotors = s.rotors := by
  obtain ⟨_, _, _, _, _, h⟩ := raise_frame s e d; rw [h]; rfl
@[simp] theorem raise_redLath (s : State) (e : Nat) (d : List Word) : (s.raise e d).redLath = s.redLath := by
  obtain ⟨_, _, _, _, _, h⟩ := raise_frame s e d; rw [h]; rfl
@[simp] theorem raise_graphs (s : State) (e : Nat) (d : List Word) : (s.raise e d).graphs = s.graphs := by
  obtain ⟨_, _, _, _, _, h⟩ := raise_frame s e d; rw [h]; rfl
@[simp] theorem raise_houseFrames (s : State) (e : Nat) (d : List Word) : (s.raise e d).houseFrames = s.houseFrames := by
  obtain ⟨_, _, _, _, _, h⟩ := raise_frame s e d; rw [h]; rfl
@[simp] theorem raise_drain (s : State) (e : Nat) (d : List Word) : (s.raise e d).drain = s.drain := by
  obtain ⟨_, _, _, _, _, h⟩ := raise_frame s e d; rw [h]; rfl
@[simp] theorem raise_staged (s : State) (e : Nat) (d : List Word) : (s.raise e d).staged = s.staged := by
  obtain ⟨_, _, _, _, _, h⟩ := raise_frame s e d; rw [h]; rfl
@[simp] theorem raise_clsBanks (s : State) (e : Nat) (d : List Word) : (s.raise e d).clsBanks = s.clsBanks := by
  obtain ⟨_, _, _, _, _, h⟩ := raise_frame s e d; rw [h]; rfl
@[simp] theorem raise_cipherQ (s : State) (e : Nat) (d : List Word) : (s.raise e d).cipherQ = s.cipherQ := by
  obtain ⟨_, _, _, _, _, h⟩ := raise_frame s e d; rw [h]; rfl
@[simp] theorem raise_reparseQ (s : State) (e : Nat) (d : List Word) : (s.raise e d).reparseQ = s.reparseQ := by
  obtain ⟨_, _, _, _, _, h⟩ := raise_frame s e d; rw [h]; rfl
@[simp] theorem raise_classQ (s : State) (e : Nat) (d : List Word) : (s.raise e d).classQ = s.classQ := by
  obtain ⟨_, _, _, _, _, h⟩ := raise_frame s e d; rw [h]; rfl
@[simp] theorem raise_learnQ (s : State) (e : Nat) (d : List Word) : (s.raise e d).learnQ = s.learnQ := by
  obtain ⟨_, _, _, _, _, h⟩ := raise_frame s e d; rw [h]; rfl
@[simp] theorem raise_dispQ (s : State) (e : Nat) (d : List Word) : (s.raise e d).dispQ = s.dispQ := by
  obtain ⟨_, _, _, _, _, h⟩ := raise_frame s e d; rw [h]; rfl
@[simp] theorem raise_dram (s : State) (e : Nat) (d : List Word) : (s.raise e d).dram = s.dram := by
  obtain ⟨_, _, _, _, _, h⟩ := raise_frame s e d; rw [h]; rfl
@[simp] theorem raise_hot (s : State) (e : Nat) (d : List Word) : (s.raise e d).hot = s.hot := by
  obtain ⟨_, _, _, _, _, h⟩ := raise_frame s e d; rw [h]; rfl
@[simp] theorem raise_stn (s : State) (e : Nat) (d : List Word) : (s.raise e d).stn = s.stn := by
  obtain ⟨_, _, _, _, _, h⟩ := raise_frame s e d; rw [h]; rfl
@[simp] theorem raise_stnWait (s : State) (e : Nat) (d : List Word) : (s.raise e d).stnWait = s.stnWait := by
  obtain ⟨_, _, _, _, _, h⟩ := raise_frame s e d; rw [h]; rfl
@[simp] theorem raise_useCtr (s : State) (e : Nat) (d : List Word) : (s.raise e d).useCtr = s.useCtr := by
  obtain ⟨_, _, _, _, _, h⟩ := raise_frame s e d; rw [h]; rfl
@[simp] theorem raise_reconciling (s : State) (e : Nat) (d : List Word) : (s.raise e d).reconciling = s.reconciling := by
  obtain ⟨_, _, _, _, _, h⟩ := raise_frame s e d; rw [h]; rfl
@[simp] theorem raise_needReconcile (s : State) (e : Nat) (d : List Word) : (s.raise e d).needReconcile = s.needReconcile := by
  obtain ⟨_, _, _, _, _, h⟩ := raise_frame s e d; rw [h]; rfl
@[simp] theorem raise_scans (s : State) (e : Nat) (d : List Word) : (s.raise e d).scans = s.scans := by
  obtain ⟨_, _, _, _, _, h⟩ := raise_frame s e d; rw [h]; rfl
@[simp] theorem raise_sweeps (s : State) (e : Nat) (d : List Word) : (s.raise e d).sweeps = s.sweeps := by
  obtain ⟨_, _, _, _, _, h⟩ := raise_frame s e d; rw [h]; rfl
@[simp] theorem raise_lastFound (s : State) (e : Nat) (d : List Word) : (s.raise e d).lastFound = s.lastFound := by
  obtain ⟨_, _, _, _, _, h⟩ := raise_frame s e d; rw [h]; rfl
@[simp] theorem raise_guards (s : State) (e : Nat) (d : List Word) : (s.raise e d).guards = s.guards := by
  obtain ⟨_, _, _, _, _, h⟩ := raise_frame s e d; rw [h]; rfl
@[simp] theorem raise_sweepAt (s : State) (e : Nat) (d : List Word) : (s.raise e d).sweepAt = s.sweepAt := by
  obtain ⟨_, _, _, _, _, h⟩ := raise_frame s e d; rw [h]; rfl
@[simp] theorem raise_keyCache (s : State) (e : Nat) (d : List Word) : (s.raise e d).keyCache = s.keyCache := by
  obtain ⟨_, _, _, _, _, h⟩ := raise_frame s e d; rw [h]; rfl
@[simp] theorem raise_rangeZero (s : State) (e : Nat) (d : List Word) : (s.raise e d).rangeZero = s.rangeZero := by
  obtain ⟨_, _, _, _, _, h⟩ := raise_frame s e d; rw [h]; rfl
@[simp] theorem raise_freeAfter (s : State) (e : Nat) (d : List Word) : (s.raise e d).freeAfter = s.freeAfter := by
  obtain ⟨_, _, _, _, _, h⟩ := raise_frame s e d; rw [h]; rfl
@[simp] theorem raise_chains (s : State) (e : Nat) (d : List Word) : (s.raise e d).chains = s.chains := by
  obtain ⟨_, _, _, _, _, h⟩ := raise_frame s e d; rw [h]; rfl
@[simp] theorem raise_chans (s : State) (e : Nat) (d : List Word) : (s.raise e d).chans = s.chans := by
  obtain ⟨_, _, _, _, _, h⟩ := raise_frame s e d; rw [h]; rfl
@[simp] theorem raise_deltas (s : State) (e : Nat) (d : List Word) : (s.raise e d).deltas = s.deltas := by
  obtain ⟨_, _, _, _, _, h⟩ := raise_frame s e d; rw [h]; rfl
@[simp] theorem raise_idents (s : State) (e : Nat) (d : List Word) : (s.raise e d).idents = s.idents := by
  obtain ⟨_, _, _, _, _, h⟩ := raise_frame s e d; rw [h]; rfl
@[simp] theorem raise_acceptedPlus (s : State) (e : Nat) (d : List Word) : (s.raise e d).acceptedPlus = s.acceptedPlus := by
  obtain ⟨_, _, _, _, _, h⟩ := raise_frame s e d; rw [h]; rfl
@[simp] theorem raise_threads (s : State) (e : Nat) (d : List Word) : (s.raise e d).threads = s.threads := by
  obtain ⟨_, _, _, _, _, h⟩ := raise_frame s e d; rw [h]; rfl
@[simp] theorem raise_cores (s : State) (e : Nat) (d : List Word) : (s.raise e d).cores = s.cores := by
  obtain ⟨_, _, _, _, _, h⟩ := raise_frame s e d; rw [h]; rfl
@[simp] theorem raise_units (s : State) (e : Nat) (d : List Word) : (s.raise e d).units = s.units := by
  obtain ⟨_, _, _, _, _, h⟩ := raise_frame s e d; rw [h]; rfl
@[simp] theorem raise_patches (s : State) (e : Nat) (d : List Word) : (s.raise e d).patches = s.patches := by
  obtain ⟨_, _, _, _, _, h⟩ := raise_frame s e d; rw [h]; rfl
@[simp] theorem raise_patchFrom (s : State) (e : Nat) (d : List Word) : (s.raise e d).patchFrom = s.patchFrom := by
  obtain ⟨_, _, _, _, _, h⟩ := raise_frame s e d; rw [h]; rfl
@[simp] theorem raise_sram (s : State) (e : Nat) (d : List Word) : (s.raise e d).sram = s.sram := by
  obtain ⟨_, _, _, _, _, h⟩ := raise_frame s e d; rw [h]; rfl
@[simp] theorem raise_code (s : State) (e : Nat) (d : List Word) : (s.raise e d).code = s.code := by
  obtain ⟨_, _, _, _, _, h⟩ := raise_frame s e d; rw [h]; rfl
@[simp] theorem raise_clMem (s : State) (e : Nat) (d : List Word) : (s.raise e d).clMem = s.clMem := by
  obtain ⟨_, _, _, _, _, h⟩ := raise_frame s e d; rw [h]; rfl
@[simp] theorem raise_lockQ (s : State) (e : Nat) (d : List Word) : (s.raise e d).lockQ = s.lockQ := by
  obtain ⟨_, _, _, _, _, h⟩ := raise_frame s e d; rw [h]; rfl
@[simp] theorem raise_gateFrom (s : State) (e : Nat) (d : List Word) : (s.raise e d).gateFrom = s.gateFrom := by
  obtain ⟨_, _, _, _, _, h⟩ := raise_frame s e d; rw [h]; rfl
@[simp] theorem raise_banks (s : State) (e : Nat) (d : List Word) : (s.raise e d).banks = s.banks := by
  obtain ⟨_, _, _, _, _, h⟩ := raise_frame s e d; rw [h]; rfl
@[simp] theorem raise_released (s : State) (e : Nat) (d : List Word) : (s.raise e d).released = s.released := by
  obtain ⟨_, _, _, _, _, h⟩ := raise_frame s e d; rw [h]; rfl
@[simp] theorem raise_clusterQ (s : State) (e : Nat) (d : List Word) : (s.raise e d).clusterQ = s.clusterQ := by
  obtain ⟨_, _, _, _, _, h⟩ := raise_frame s e d; rw [h]; rfl
@[simp] theorem raise_clusterRotor (s : State) (e : Nat) (d : List Word) : (s.raise e d).clusterRotor = s.clusterRotor := by
  obtain ⟨_, _, _, _, _, h⟩ := raise_frame s e d; rw [h]; rfl
@[simp] theorem raise_defers (s : State) (e : Nat) (d : List Word) : (s.raise e d).defers = s.defers := by
  obtain ⟨_, _, _, _, _, h⟩ := raise_frame s e d; rw [h]; rfl
@[simp] theorem raise_admitted (s : State) (e : Nat) (d : List Word) : (s.raise e d).admitted = s.admitted := by
  obtain ⟨_, _, _, _, _, h⟩ := raise_frame s e d; rw [h]; rfl
@[simp] theorem raise_maps (s : State) (e : Nat) (d : List Word) : (s.raise e d).maps = s.maps := by
  obtain ⟨_, _, _, _, _, h⟩ := raise_frame s e d; rw [h]; rfl
@[simp] theorem raise_moves (s : State) (e : Nat) (d : List Word) : (s.raise e d).moves = s.moves := by
  obtain ⟨_, _, _, _, _, h⟩ := raise_frame s e d; rw [h]; rfl
@[simp] theorem raise_fences (s : State) (e : Nat) (d : List Word) : (s.raise e d).fences = s.fences := by
  obtain ⟨_, _, _, _, _, h⟩ := raise_frame s e d; rw [h]; rfl
@[simp] theorem raise_oldMaps (s : State) (e : Nat) (d : List Word) : (s.raise e d).oldMaps = s.oldMaps := by
  obtain ⟨_, _, _, _, _, h⟩ := raise_frame s e d; rw [h]; rfl
@[simp] theorem raise_gifts (s : State) (e : Nat) (d : List Word) : (s.raise e d).gifts = s.gifts := by
  obtain ⟨_, _, _, _, _, h⟩ := raise_frame s e d; rw [h]; rfl
@[simp] theorem raise_roles (s : State) (e : Nat) (d : List Word) : (s.raise e d).roles = s.roles := by
  obtain ⟨_, _, _, _, _, h⟩ := raise_frame s e d; rw [h]; rfl
@[simp] theorem raise_outPorts (s : State) (e : Nat) (d : List Word) : (s.raise e d).outPorts = s.outPorts := by
  obtain ⟨_, _, _, _, _, h⟩ := raise_frame s e d; rw [h]; rfl
@[simp] theorem raise_planes (s : State) (e : Nat) (d : List Word) : (s.raise e d).planes = s.planes := by
  obtain ⟨_, _, _, _, _, h⟩ := raise_frame s e d; rw [h]; rfl
@[simp] theorem raise_xbar (s : State) (e : Nat) (d : List Word) : (s.raise e d).xbar = s.xbar := by
  obtain ⟨_, _, _, _, _, h⟩ := raise_frame s e d; rw [h]; rfl
@[simp] theorem raise_geom (s : State) (e : Nat) (d : List Word) : (s.raise e d).geom = s.geom := by
  obtain ⟨_, _, _, _, _, h⟩ := raise_frame s e d; rw [h]; rfl
@[simp] theorem raise_qstat (s : State) (e : Nat) (d : List Word) : (s.raise e d).qstat = s.qstat := by
  obtain ⟨_, _, _, _, _, h⟩ := raise_frame s e d; rw [h]; rfl
@[simp] theorem raise_restless (s : State) (e : Nat) (d : List Word) : (s.raise e d).restless = s.restless := by
  obtain ⟨_, _, _, _, _, h⟩ := raise_frame s e d; rw [h]; rfl
@[simp] theorem raise_chanCfg (s : State) (e : Nat) (d : List Word) : (s.raise e d).chanCfg = s.chanCfg := by
  obtain ⟨_, _, _, _, _, h⟩ := raise_frame s e d; rw [h]; rfl
@[simp] theorem raise_heldFrames (s : State) (e : Nat) (d : List Word) : (s.raise e d).heldFrames = s.heldFrames := by
  obtain ⟨_, _, _, _, _, h⟩ := raise_frame s e d; rw [h]; rfl
@[simp] theorem raise_appends (s : State) (e : Nat) (d : List Word) : (s.raise e d).appends = s.appends := by
  obtain ⟨_, _, _, _, _, h⟩ := raise_frame s e d; rw [h]; rfl
@[simp] theorem raise_ledger (s : State) (e : Nat) (d : List Word) : (s.raise e d).ledger = s.ledger := by
  obtain ⟨_, _, _, _, _, h⟩ := raise_frame s e d; rw [h]; rfl
@[simp] theorem raise_unretired (s : State) (e : Nat) (d : List Word) : (s.raise e d).unretired = s.unretired := by
  obtain ⟨_, _, _, _, _, h⟩ := raise_frame s e d; rw [h]; rfl
@[simp] theorem raise_journal (s : State) (e : Nat) (d : List Word) : (s.raise e d).journal = s.journal := by
  obtain ⟨_, _, _, _, _, h⟩ := raise_frame s e d; rw [h]; rfl
@[simp] theorem raise_stl (s : State) (e : Nat) (d : List Word) : (s.raise e d).stl = s.stl := by
  obtain ⟨_, _, _, _, _, h⟩ := raise_frame s e d; rw [h]; rfl
@[simp] theorem raise_ctl (s : State) (e : Nat) (d : List Word) : (s.raise e d).ctl = s.ctl := by
  obtain ⟨_, _, _, _, _, h⟩ := raise_frame s e d; rw [h]; rfl
@[simp] theorem raise_sessions (s : State) (e : Nat) (d : List Word) : (s.raise e d).sessions = s.sessions := by
  obtain ⟨_, _, _, _, _, h⟩ := raise_frame s e d; rw [h]; rfl
@[simp] theorem raise_starts (s : State) (e : Nat) (d : List Word) : (s.raise e d).starts = s.starts := by
  obtain ⟨_, _, _, _, _, h⟩ := raise_frame s e d; rw [h]; rfl
@[simp] theorem raise_stops (s : State) (e : Nat) (d : List Word) : (s.raise e d).stops = s.stops := by
  obtain ⟨_, _, _, _, _, h⟩ := raise_frame s e d; rw [h]; rfl
@[simp] theorem raise_sup (s : State) (e : Nat) (d : List Word) : (s.raise e d).sup = s.sup := by
  obtain ⟨_, _, _, _, _, h⟩ := raise_frame s e d; rw [h]; rfl
@[simp] theorem raise_pending (s : State) (e : Nat) (d : List Word) : (s.raise e d).pending = s.pending := by
  obtain ⟨_, _, _, _, _, h⟩ := raise_frame s e d; rw [h]; rfl

end State

end Sys2Proof.Machine
end

