-- ==== Sys2Proof/Laws/Frames.lean ====
section
/-! SUPPORT. Frames: what stays as it was. -/

namespace Sys2Proof.Machine

set_option Elab.async false

@[simp] theorem Part.same_refl (s : State) (p : Part) : p.same s s := by cases p <;> simp [Part.same]

theorem Part.same_trans {s t u : State} {p : Part} (h : p.same s t) (k : p.same t u) : p.same s u := by
  cases p <;> simp_all [Part.same]

theorem frame_refl (ps : List Part) (s : State) : State.frame ps s s := ⟨rfl, fun p _ => Part.same_refl s p⟩

theorem frame_trans {ps : List Part} {s t u : State} (h : State.frame ps s t) (k : State.frame ps t u) : State.frame ps s u :=
  ⟨k.1.trans h.1, fun p hp => Part.same_trans (h.2 p hp) (k.2 p hp)⟩

theorem frame_mono {ps qs : List Part} {s t : State} (h : State.frame ps s t) (hs : ∀ p ∈ ps, p ∈ qs) : State.frame qs s t :=
  ⟨h.1, fun p hp => h.2 p fun hq => hp (hs p hq)⟩

theorem wrA_frame (s : State) (a : Nat) (r : Reg) (i j v : Nat) : State.frame [.regs] s (s.wrA a r i j v) := by
  refine ⟨rfl, fun p hp => ?_⟩
  cases p <;> simp [Part.same] at * 

theorem setF_frame (s : State) (fl : Fld) (i v j : Nat) : State.frame [.regs] s (s.setF fl i v j) := wrA_frame ..

theorem events_only_frame {s t : State} (h : s.onlyEvents t) : State.frame [.regs, .events, .free] s t := by
  obtain ⟨_, _, _, _, _, rfl⟩ := h
  refine ⟨rfl, fun p hp => ?_⟩
  cases p <;> first | exact ⟨rfl, rfl⟩ | simp [Part.same, State.withEv] at *

theorem raise_only_frame (s : State) (e : Nat) (d : List Word) : State.frame [.regs, .events, .free] s (s.raise e d) :=
  events_only_frame (raise_frame s e d)

end Sys2Proof.Machine
end

