-- ==== Sys2Proof/Laws/Access.lean ====
section
/-! SUPPORT. A register access by offset reaches the register that lies there (R431, R435), and what a permitted write then does. -/

namespace Sys2Proof.Machine

set_option Elab.async false

/-- The byte offset of instance (i, j) leads to it. -/
def Reg.lies (r : Reg) (i j : Nat) : Bool :=
  (capWord (r.off i j / 4 * 4)).isNone && Reg.find (r.off i j / 4 * 4) == some (r, i, j)

theorem Reg.lies_tmbCtl : Reg.lies .tmbCtl 0 0 = true := by decide +kernel
theorem Reg.lies_crsLenChg : Reg.lies .crsLenChg 0 0 = true := by decide +kernel
theorem Reg.lies_tmbPhaseAdj : Reg.lies .tmbPhaseAdj 0 0 = true := by decide +kernel
theorem Reg.lies_tmbStepSec : Reg.lies .tmbStepSec 0 0 = true := by decide +kernel
theorem Reg.lies_clsCfg : Reg.lies .clsCfg 0 0 = true := by decide +kernel
theorem Reg.lies_dspOos : Reg.lies .dspOos 0 0 = true := by decide +kernel
theorem Reg.lies_tlyPloadD2 : Reg.lies .tlyPloadD2 0 0 = true := by decide +kernel
theorem Reg.lies_tlyPatch : Reg.lies .tlyPatch 0 0 = true := by decide +kernel
theorem Reg.lies_stlCtl : Reg.lies .stlCtl 0 0 = true := by decide +kernel
theorem Reg.lies_supCtl : Reg.lies .supCtl 0 0 = true := by decide +kernel
theorem Reg.lies_supWdog : Reg.lies .supWdog 0 0 = true := by decide +kernel
theorem Reg.lies_supPwr : Reg.lies .supPwr 0 0 = true := by decide +kernel
theorem Reg.lies_supLcReq : Reg.lies .supLcReq 0 0 = true := by decide +kernel
theorem Reg.lies_supRollback : Reg.lies .supRollback 0 0 = true := by decide +kernel
theorem Reg.lies_tmbTxtsTag : ∀ i : Fin 10, Reg.lies .tmbTxtsTag i 0 = true := by decide +kernel
theorem Reg.lies_prtCfg : ∀ i : Fin 12, Reg.lies .prtCfg i 0 = true := by decide +kernel
theorem Reg.lies_pgrLoadData : ∀ i : Fin 17, Reg.lies .pgrLoadData i 0 = true := by decide +kernel
theorem Reg.lies_pgrPortCfg : ∀ i : Fin 10, Reg.lies .pgrPortCfg i 0 = true := by decide +kernel
theorem Reg.lies_pgrStallEntry : ∀ i : Fin 16, Reg.lies .pgrStallEntry i 0 = true := by decide +kernel
theorem Reg.lies_clsBindCmd : ∀ i : Fin 17, Reg.lies .clsBindCmd i 0 = true := by decide +kernel
theorem Reg.lies_clsLoadData : ∀ i : Fin 17, Reg.lies .clsLoadData i 0 = true := by decide +kernel
theorem Reg.lies_clsBank : ∀ i : Fin 16, Reg.lies .clsBank i 0 = true := by decide +kernel
theorem Reg.lies_stnRange : ∀ i : Fin 16, Reg.lies .stnRange i 0 = true := by decide +kernel
theorem Reg.lies_stnCmdCmd : ∀ i : Fin 17, Reg.lies .stnCmdCmd i 0 = true := by decide +kernel
theorem Reg.lies_stnLearnSweep : ∀ i : Fin 16, Reg.lies .stnLearnSweep i 0 = true := by decide +kernel
theorem Reg.lies_pkmCellCmd : ∀ i : Fin 17, Reg.lies .pkmCellCmd i 0 = true := by decide +kernel
theorem Reg.lies_dspMaploadData : ∀ i : Fin 17, Reg.lies .dspMaploadData i 0 = true := by decide +kernel
theorem Reg.lies_dspStallMap : ∀ i : Fin 16, Reg.lies .dspStallMap i 0 = true := by decide +kernel
theorem Reg.lies_dspCluster : ∀ i : Fin 16, Reg.lies .dspCluster i 0 = true := by decide +kernel
theorem Reg.lies_schHthread : ∀ i : Fin 8, Reg.lies .schHthread i 0 = true := by decide +kernel
theorem Reg.lies_schChanCfg : ∀ i : Fin 17, Reg.lies .schChanCfg i 0 = true := by decide +kernel
theorem Reg.lies_swcOutCmd : ∀ i : Fin 17, Reg.lies .swcOutCmd i 0 = true := by decide +kernel
theorem Reg.lies_swcLoadData : ∀ i : Fin 17, Reg.lies .swcLoadData i 0 = true := by decide +kernel
theorem Reg.lies_stlAppendCmd : ∀ i : Fin 17, Reg.lies .stlAppendCmd i 0 = true := by decide +kernel
theorem Reg.lies_drcCfg : ∀ i : Fin 4, Reg.lies .drcCfg i 0 = true := by decide +kernel
theorem Reg.lies_drcTrain : ∀ i : Fin 4, Reg.lies .drcTrain i 0 = true := by decide +kernel
theorem Reg.lies_drcScrub : ∀ i : Fin 4, Reg.lies .drcScrub i 0 = true := by decide +kernel
theorem Reg.lies_arbMoveCtl : ∀ i : Fin 32, Reg.lies .arbMoveCtl i 0 = true := by decide +kernel
theorem Reg.lies_scpStallCtl : ∀ i : Fin 17, Reg.lies .scpStallCtl i 0 = true := by decide +kernel
theorem Reg.lies_evcRaise : ∀ i : Fin 17, Reg.lies .evcRaise i 0 = true := by decide +kernel
theorem Reg.lies_ldgCtl : ∀ i : Fin 32, Reg.lies .ldgCtl i 0 = true := by decide +kernel
theorem Reg.lies_supRstCmd : ∀ i : Fin 17, Reg.lies .supRstCmd i 0 = true := by decide +kernel
theorem Reg.lies_scpKey7 : ∀ i : Fin 16, Reg.lies .scpKey i 7 = true := by decide +kernel

/-- A permitted write to a register of the time base. -/
theorem State.regWrite_time {s : State} {a : Accessor} {r : Reg} {i j v : Nat} (hl : r.lies i j = true) (hp : s.permits a r i j v)
    (hw : s.powerless a r i = false) (ht : r.ofTime = true) : s.regWrite a (r.off i j) v = (.ok, s.writeTime r v) := by
  simp only [Reg.lies, Bool.and_eq_true, Option.isNone_iff_eq_none, beq_iff_eq] at hl
  obtain ⟨hm, hb⟩ := hp
  simp [State.regWrite, hl.1, hl.2, hm, hb, hw, ht]

/-- A permitted write to any other register. -/
theorem State.regWrite_plain {s : State} {a : Accessor} {r : Reg} {i j v : Nat} (hl : r.lies i j = true) (hp : s.permits a r i j v)
    (hw : s.powerless a r i = false) (ht : r.ofTime = false) :
    s.regWrite a (r.off i j) v = ((s.writeEffect a r i j v).1, { (s.writeEffect a r i j v).2 with time := s.time }) := by
  simp only [Reg.lies, Bool.and_eq_true, Option.isNone_iff_eq_none, beq_iff_eq] at hl
  obtain ⟨hm, hb⟩ := hp
  simp [State.regWrite, hl.1, hl.2, hm, hb, hw, ht]

/-- R11: a permitted write by an accessor that may write no field changes nothing. -/
theorem State.regWrite_powerless {s : State} {a : Accessor} {r : Reg} {i j v : Nat} (hl : r.lies i j = true) (hp : s.permits a r i j v)
    (hw : s.powerless a r i = true) : s.regWrite a (r.off i j) v = (.ok, s) := by
  simp only [Reg.lies, Bool.and_eq_true, Option.isNone_iff_eq_none, beq_iff_eq] at hl
  obtain ⟨hm, hb⟩ := hp
  simp [State.regWrite, hl.1, hl.2, hm, hb, hw]

/-- R11: a permitted write that acts on a field is by an accessor that may write it. -/
theorem State.powerless_of_touched {s : State} {a : Accessor} {r : Reg} {i j v : Nat} {d : FieldDesc} (hp : s.permits a r i j v)
    (hd : d ∈ r.fields) (ht : d.touched (s.peekReg a.num r i j) v = true) : s.powerless a r i = false := by
  have hb := hp.2
  simp only [State.breach, List.any_eq_false, Bool.and_eq_true, Bool.not_eq_true', not_and] at hb
  have hm : s.mayWriteField a r i d = true := by
    cases h : s.mayWriteField a r i d
    · exact absurd ht (hb d hd h)
    · rfl
  simp only [State.powerless, List.all_eq_false]
  refine ⟨d, hd, ?_⟩
  unfold FieldDesc.touched at ht
  cases hc : d.access <;> simp_all

/-- R11: a write that is not permitted changes nothing. -/
theorem State.regWrite_denied {s : State} {a : Accessor} {r : Reg} {i j v : Nat} (hl : r.lies i j = true) (hp : ¬ s.permits a r i j v) :
    s.regWrite a (r.off i j) v = (.denied, s) := by
  simp only [Reg.lies, Bool.and_eq_true, Option.isNone_iff_eq_none, beq_iff_eq] at hl
  have : (!s.mayReach (s.accOwner a) r i || s.breach a r i j v) = true := by
    simp only [State.permits, not_and, Bool.not_eq_false] at hp
    cases hm : s.mayReach (s.accOwner a) r i
    · rfl
    · simp [hp hm]
  simp [State.regWrite, hl.1, hl.2, this]

/-- A read of a register whose offset holds no captured half for the accessor. -/
theorem State.regRead_plain {s : State} {a : Accessor} {r : Reg} {i j : Nat} (hl : r.lies i j = true) (h4 : r.off i j / 4 * 4 = r.off i j)
    (hm : s.mayReach (s.accOwner a) r i = true) (hc : s.capturedHalf a.num (r.off i j) = none) :
    s.regRead a (r.off i j) = (some (s.peekReg a.num r i j), s.readEffect a.num r i j) := by
  simp only [Reg.lies, Bool.and_eq_true, Option.isNone_iff_eq_none, beq_iff_eq, h4] at hl
  simp [State.regRead, h4, hl.1, hl.2, hm, hc]

end Sys2Proof.Machine
end

