-- ==== Sys2Proof/Laws/Memory.lean ====
section
/-! SUPPORT. The addressed memories (DRAM, local SRAMs, cluster memories, code stores, packet cells): every operation keeps their
canonical form, and what a read gives after a write. -/

namespace Sys2Proof.Tab

set_option Elab.async false

variable {α : Type}

theorem sorted_filter {t : Tab α} (h : t.sorted = true) (p : Nat × α → Bool) : Tab.sorted (t.filter p) = true := by
  induction t with
  | nil => rfl
  | cons e t ih =>
    have hs := (sorted_cons _ _).1 h
    simp only [List.filter]
    split
    · exact (sorted_cons _ _).2 ⟨fun x hx => hs.1 x ((List.mem_filter.1 hx).1), ih hs.2⟩
    · exact ih hs.2

/-- Taking entries out keeps the canonical form. -/
theorem wf_filter [DecidableEq α] {d : α} {t : Tab α} (h : t.wf d = true) (p : Nat × α → Bool) : Tab.wf d (t.filter p) = true := by
  simp only [Tab.wf, Bool.and_eq_true, List.all_eq_true] at *
  exact ⟨sorted_filter h.1 p, fun x hx => h.2 x ((List.mem_filter.1 hx).1)⟩

theorem wf_erase [DecidableEq α] {d : α} {t : Tab α} (h : t.wf d = true) (k : Nat) : Tab.wf d (t.erase k) = true := wf_filter h _

/-- Reading where the filter looks at the key alone. -/
theorem get_filter (d : α) (t : Tab α) (q : Nat → Bool) (k : Nat) :
    Tab.get d (t.filter fun e => q e.1) k = if q k = true then Tab.get d t k else d := by
  induction t with
  | nil => simp [Tab.get]
  | cons e t ih =>
    obtain ⟨a, w⟩ := e
    by_cases hq : q a = true
    · simp only [List.filter, hq, Tab.get, ih]
      by_cases h : a = k
      · subst h; simp [hq]
      · simp [h]
    · have hq' : q a = false := by simpa using hq
      simp only [List.filter, hq', Tab.get, ih]
      by_cases h : a = k
      · subst h; simp [hq']
      · simp [h]

end Sys2Proof.Tab

namespace Sys2Proof.Machine

set_option Elab.async false

theorem memory_wf_iff (s : State) : Memory.wf s = true ↔
    s.dram.wf 0 = true ∧ s.sram.wf 0 = true ∧ s.code.wf 0 = true ∧ s.clMem.wf 0 = true ∧ s.cellData.wf [] = true := by
  simp [Memory.wf, and_assoc]

/-- A change of anything but the memories keeps their form. -/
theorem memory_wf_congr {s t : State} (h : Memory.wf s = true) (h1 : t.dram = s.dram) (h2 : t.sram = s.sram) (h3 : t.code = s.code)
    (h4 : t.clMem = s.clMem) (h5 : t.cellData = s.cellData) : Memory.wf t = true := by
  unfold Memory.wf at *; rw [h1, h2, h3, h4, h5]; exact h

theorem memory_wf_reset : Memory.wf State.reset = true := rfl

/-! ### DRAM -/

theorem setDramByte_wf {s : State} (h : Memory.wf s = true) (a : Nat) (b : Byte) : Memory.wf (s.setDramByte a b) = true := by
  rw [memory_wf_iff] at *; exact ⟨Tab.wf_set h.1 a b, h.2⟩

theorem setDramWord_wf {s : State} (h : Memory.wf s = true) (a : Nat) (w : Word) : Memory.wf (s.setDramWord a w) = true :=
  setDramByte_wf (setDramByte_wf h ..) ..

theorem setDramBytes_wf {s : State} (h : Memory.wf s = true) (a : Nat) (bs : List Byte) : Memory.wf (s.setDramBytes a bs) = true := by
  unfold State.setDramBytes
  generalize List.zip (List.range bs.length) bs = l
  induction l generalizing s with
  | nil => exact h
  | cons e l ih => exact ih (setDramByte_wf h ..)

theorem zeroDram_wf {s : State} (h : Memory.wf s = true) (a n : Nat) : Memory.wf (s.zeroDram a n) = true := by
  rw [memory_wf_iff] at *; exact ⟨Tab.wf_filter h.1 _, h.2⟩

@[simp] theorem dramByte_reset (a : Nat) : State.reset.dramByte a = 0 := rfl

@[simp] theorem dramByte_setDramByte (s : State) (a k : Nat) (b : Byte) :
    (s.setDramByte a b).dramByte k = if a = k then b else s.dramByte k := by
  simp [State.dramByte, State.setDramByte]

/-- A word stored reads back, earlier byte in [15:8]. -/
theorem dramWord_setDramWord (s : State) (a : Nat) (w : Word) : (s.setDramWord a w).dramWord a = w := by
  have e : BitVec.append (w.extractLsb' 8 8) (w.extractLsb' 0 8) = w := by
    have : ∀ v : BitVec 16, BitVec.append (v.extractLsb' 8 8) (v.extractLsb' 0 8) = v := by
      intro v; ext i hi; simp only [BitVec.append_eq, BitVec.getElem_append, BitVec.getElem_extractLsb']
      by_cases h : i < 8
      · simp [h, BitVec.getLsbD_eq_getElem hi]
      · simp [h, show 8 + (i - 8) = i by omega, BitVec.getLsbD_eq_getElem hi]
    exact this w
  simp only [State.dramWord, State.setDramWord, dramByte_setDramByte]
  simpa using e

theorem dramByte_setDramWord_ne (s : State) (a k : Nat) (w : Word) (h1 : k ≠ a) (h2 : k ≠ a + 1) :
    (s.setDramWord a w).dramByte k = s.dramByte k := by
  simp [State.setDramWord, Ne.symm h1, Ne.symm h2]

/-- Bytes outside those stored are as before. -/
theorem dramByte_setDramBytes_ne (s : State) (a k : Nat) (bs : List Byte) (h : k < a ∨ a + bs.length ≤ k) :
    (s.setDramBytes a bs).dramByte k = s.dramByte k := by
  have hl : ∀ e ∈ List.zip (List.range bs.length) bs, a + e.1 ≠ k := by
    intro e he
    have := List.mem_range.1 (List.of_mem_zip he).1
    omega
  unfold State.setDramBytes
  generalize List.zip (List.range bs.length) bs = l at hl
  induction l generalizing s with
  | nil => rfl
  | cons e l ih =>
    rw [List.foldl_cons, ih _ fun x hx => hl x (List.mem_cons_of_mem _ hx)]
    simp [hl e (List.mem_cons_self ..)]

/-- Zeroed bytes read 0, the others as before. -/
theorem dramByte_zeroDram (s : State) (a n k : Nat) :
    (s.zeroDram a n).dramByte k = if a ≤ k ∧ k < a + n then 0 else s.dramByte k := by
  unfold State.dramByte State.zeroDram
  rw [Tab.get_filter 0 s.dram (fun k => !(a ≤ k && k < a + n)) k]
  have e : (!(decide (a ≤ k) && decide (k < a + n))) = true ↔ ¬(a ≤ k ∧ k < a + n) := by simp; omega
  simp only [e]
  by_cases h : a ≤ k ∧ k < a + n
  · rw [if_pos h, if_neg (not_not_intro h)]
  · rw [if_neg h, if_pos h]

/-! ### Local SRAM, cluster memory, code store -/

theorem setSram_wf {s : State} (h : Memory.wf s = true) (k a v : Nat) : Memory.wf (s.setSram k a v) = true := by
  rw [memory_wf_iff] at *; exact ⟨h.1, Tab.wf_set h.2.1 _ _, h.2.2⟩

theorem setClWord_wf {s : State} (h : Memory.wf s = true) (c o v : Nat) : Memory.wf (s.setClWord c o v) = true := by
  rw [memory_wf_iff] at *; exact ⟨h.1, h.2.1, h.2.2.1, Tab.wf_set h.2.2.2.1 _ _, h.2.2.2.2⟩

theorem foldl_wf {α : Type} (f : State → α → State) (hf : ∀ s x, Memory.wf s = true → Memory.wf (f s x) = true) (l : List α) {s : State}
    (h : Memory.wf s = true) : Memory.wf (l.foldl f s) = true := by
  induction l generalizing s with
  | nil => exact h
  | cons x l ih => exact ih (hf s x h)

theorem codeStore_wf {s : State} (h : Memory.wf s = true) (c a : Nat) (w : Word) : Memory.wf (s.codeStore c a w) = true := by
  have h1 : Memory.wf { s with code := s.code.set 0 (c * 131072 + a) w } = true := by
    rw [memory_wf_iff] at *; exact ⟨h.1, h.2.1, Tab.wf_set h.2.2.1 _ _, h.2.2.2⟩
  unfold State.codeStore
  generalize { s with code := s.code.set 0 (c * 131072 + a) w } = s1 at h1 ⊢
  refine foldl_wf _ ?_ (coresOfCluster c) h1
  intro s x hs
  exact memory_wf_congr hs rfl rfl rfl rfl rfl

/-- Keys of two cores or two clusters never meet. -/
theorem slot_key_inj {n a b x y : Nat} (hx : x < n) (hy : y < n) : a * n + x = b * n + y ↔ a = b ∧ x = y := by
  constructor
  · intro e
    have h1 := congrArg (· / n) e
    have h2 := congrArg (· % n) e
    have hn : 0 < n := by omega
    simp only [Nat.mul_comm _ n, Nat.mul_add_div hn, Nat.div_eq_of_lt hx, Nat.div_eq_of_lt hy, Nat.add_zero, Nat.mul_add_mod,
      Nat.mod_eq_of_lt hx, Nat.mod_eq_of_lt hy] at h1 h2
    exact ⟨h1, h2⟩
  · rintro ⟨rfl, rfl⟩; rfl

theorem sramWord_setSram (s : State) {k a k' a' : Nat} (v : Nat) (h : a < 32768) (h' : a' < 32768) :
    (s.setSram k a v).sramWord k' a' = if k = k' ∧ a = a' then v % 65536 else s.sramWord k' a' := by
  simp only [State.sramWord, State.setSram, Tab.get_set, slot_key_inj h h']
  split <;> simp [word]

theorem clWord_setClWord (s : State) {c o c' o' : Nat} (v : Nat) (h : o < 524288) (h' : o' < 524288) :
    (s.setClWord c o v).clWord c' o' = if c = c' ∧ o = o' then v % 65536 else s.clWord c' o' := by
  simp only [State.clWord, State.setClWord, Tab.get_set, slot_key_inj h h']
  split <;> simp [word]

/-! ### Packet cells -/

theorem fillCells_wf (hs : List Nat) (bs : List Byte) {s : State} (h : Memory.wf s = true) : Memory.wf (s.fillCells hs bs) = true := by
  induction hs generalizing s bs with
  | nil => exact h
  | cons x hs ih =>
    apply ih
    rw [memory_wf_iff] at *; exact ⟨h.1, h.2.1, h.2.2.1, h.2.2.2.1, Tab.wf_set h.2.2.2.2 _ _⟩

theorem setCellByte_wf {s : State} (h : Memory.wf s = true) (k i : Nat) (b : Byte) : Memory.wf (s.setCellByte k i b) = true := by
  rw [memory_wf_iff] at *; exact ⟨h.1, h.2.1, h.2.2.1, h.2.2.2.1, Tab.wf_set h.2.2.2.2 _ _⟩

theorem setChainBytes_wf {s : State} (h : Memory.wf s = true) (k off : Nat) (bs : List Byte) :
    Memory.wf (s.setChainBytes k off bs) = true := by
  unfold State.setChainBytes
  exact foldl_wf _ (fun s x hs => setCellByte_wf hs ..) _ h

theorem takeCell_wf {s t : State} {h slice owner : Nat} (hw : Memory.wf s = true) (e : s.takeCell slice owner = some (h, t)) :
    Memory.wf t = true := by
  unfold State.takeCell at e
  obtain ⟨⟨h', r⟩, _, e⟩ := Option.map_eq_some_iff.1 e
  cases e
  rw [memory_wf_iff] at *; exact ⟨hw.1, hw.2.1, hw.2.2.1, hw.2.2.2.1, Tab.wf_erase hw.2.2.2.2 _⟩

/-- A byte written to a cell reads back; every other cell is as before. -/
theorem cellByte_setCellByte (s : State) (h i : Nat) (b : Byte) : (s.setCellByte h i b).cellByte h i = b := by
  simp only [State.cellByte, State.setCellByte, Tab.get_set, if_true]
  rw [List.getD_eq_getElem?_getD, List.getElem?_set_self]
  · rfl
  · simp; omega

theorem cellByte_setCellByte_ne (s : State) {h k : Nat} (i j : Nat) (b : Byte) (hk : k ≠ h) :
    (s.setCellByte h i b).cellByte k j = s.cellByte k j := by
  simp [State.cellByte, State.setCellByte, Ne.symm hk]

end Sys2Proof.Machine
end

