-- ==== Sys2Proof/Tests/Slice0.lean ====
section
/-! SUPPORT. Small checks: ill-formed commands refused, states that meet the hypotheses of every statement, and results worked out by hand
from the manual. -/

namespace Sys2Proof.Tests

open Sys2Proof Sys2Proof.Machine

set_option maxRecDepth 4000
set_option Elab.async false

theorem wEta {α β : Type} {p : α × β} : p = (p.1, p.2) := rfl

theorem wReads2 {s : State} {u a b x y : Nat} (h : (s.readReg u a).1 = x) (k : ((s.readReg u a).2.readReg u b).1 = y) :
    s.reads2 u a b x y := ⟨_, _, Prod.ext h rfl, Prod.ext k rfl⟩

theorem wReads3 {s : State} {u a b x y fl : Nat} (h : (s.readReg u a).1 = x) (k : ((s.readReg u a).2.readReg u b).1 = y)
    (l : (((s.readReg u a).2.readReg u b).2.readReg u 25).1 = fl) : s.reads3 u a b x y fl :=
  ⟨_, _, _, Prod.ext h rfl, Prod.ext k rfl, Prod.ext l rfl⟩

/-! ### States the checks start from -/

/-- After POWER, with the time base changed. -/
def wT (f : Time → Time) : State := State.reset.setTime f

/-- A master whose timeline runs. -/
def wM : State := (wT fun t => { t with st := .locked }).setF F.tmbCtl_DOMAIN_ROLE 0 1

/-- A follower that follows. -/
def wF : State := wT fun t => { t with st := .following }

/-- Port `n` is up. -/
def wUp (n : Nat) : State := (wM.setF F.prtCfg_ENABLE n 1).setF F.prtStatus_LINK n 1

/-- A plain frame of 64 zero bytes. -/
def wBytes : List Byte := List.replicate 64 0

/-- A frame of 64 bytes with this EtherType and its FCS. -/
def wFrm (ty : Nat) : List Byte := withFcs (List.replicate 12 0 ++ [BitVec.ofNat 8 (ty / 256), BitVec.ofNat 8 ty] ++ List.replicate 46 0)

/-- An output request of stall 2 for output `o`, one cell long. -/
def wReq (o cell : Nat) : OutReq :=
  { stamp := 0, port := 1, seq := 0, idx := 0, ofPkt := none, stall := 2, output := o, queue := 3, colour := 0, l3 := 0, flags := 0, sa := 0,
    espOff := 0, ptEnd := 0, origin := 0, corr := 0, tag := 7, udp := 0, colourReq := 0, len := 64, cell := cell, own := false, plain := [],
    reqLen := 64, deferred := false, recNo := 0, rxStamp := 0, course := 0, ce := false, live := true }

/-- A frame of port 1 whose parse ended at code 1 in stall 2. -/
def wPkt : Pkt := { newPkt 0 0 0 1 68 0 with stall := some 2, exitCode := 1 }

/-- An SCP frame the device sends. -/
def wOut : ScpOut := { session := 0, cls := 1, op := 0, seq := 0, words := [], sealed := [], bytes := 60 }

def wBuf (i : EgItem) : BufEnt := { item := i, prio := 0, places := 40, want := [] }

/-- Steering node 0 of slot 0 takes one transition with the word `tr`; slot 1 is stall 2's, and its node 0 exits with code 1. A frame waits
at port 1, whose steering graph is in force. -/
def wGraph (tr : Word) : State :=
  { (((wM.setF F.pgrGraphCfg_OWNER 0 16).setF F.pgrGraphCfg_NODES 0 1).setF F.pgrGraphCfg_OWNER 1 2).setF F.pgrGraphCfg_NODES 1 1 with
    graphs := [(1, 64), (11, tr), (256 * 72 + 1, 64), (256 * 72 + 11, 264)],
    staged := [(Reg.pgrPortCfg.off 1 0, { cur := 2 ^ 18, since := 0, past := [] }), (Reg.pgrStallEntry.off 2 0, { cur := 4369, since := 0, past := [] })],
    cells := [(0, { next := 0, last := true, alloc := true, held := false, owner := 17, oos := false, written := true })],
    cellData := [(0, wBytes)], ports := [(1, { Port.reset with parseQ := [newPkt 0 0 0 1 68 0] })] }.setF F.pkmPoolLimit_LIMIT 2 1

/-- Where a walk begins at port 1 of `wGraph`. -/
def wStart : WalkAt := { slot := 0, node := 0, came := 0, cursor := 0, visits := 0, stall := none, marks := ⟨255, 255, 255⟩ }

/-- The walk at port 1 of `wGraph tr`. -/
def wWalk (tr : Word) : WalkEnd × WalkAt :=
  let s := (wGraph tr).setPort 1 fun q => { q with parseQ := [] }
  s.walk (s.outerWindow (newPkt 0 0 0 1 68 0)) 0 (fun x => s.inForce .pgrStallEntry x 0) 26 wStart

/-- A frame of stall 2 at the classifier: its profile 0 has TYPE 0x21 and two bytes of the window; exit word 1 holds `ex`. -/
def wCls (ex : Word) : State :=
  { (wM.setF F.clsCfg_ENABLE 0 1).setF F.stnCfg_RECORD_BASE 0 1 with
    clsBanks := [(4 * 768 + 1, ex), (4 * 768 + 256, 0x221), (4 * 768 + 258, 0x200)], classQ := [wPkt], cells := [(0, { CellLink.reset with last := true })],
    cellData := [(0, wBytes)] }

/-- The key of that frame, bound to record 1 of stall 2 in the first slot of its bucket. -/
def wBound : State :=
  let s := ((wCls 0).setDramWord (2 ^ 28 + 256 + 2) 3).setDramWord (2 ^ 28 + 256 + 16) 0x2100
  s.setClsSlot (buckets (s.foldHash 2 [0x21, 0, 0])).1 0 { hash := s.foldHash 2 [0x21, 0, 0], handle := 1, stall := 2, valid := true }

/-- An inbound ESP packet at the cipher. -/
def wEsp : EspInfo := { outerCell := 0, outerLen := 68, cursor := 34, l3 := 14, l4 := 255, spi := 0, udp := false }

/-- An inbound ESP packet: SPI 0x100, sequence 1, IV 7, and an inner IPv4 packet of 20 bytes sealed under the key 00, 01, ... 0F. -/
def wEspBytes : List Byte :=
  List.replicate 12 0 ++ bytes (bytesOf 22 0x08004500004C00000000003200000000000000000000 ++ bytesOf 16 0x00000100000000010000000000000007 ++
    bytesOf 24 308334623270875018980726813639925023247578385903618030158 ++ bytesOf 16 317283357401455907114671516453027478223)

def wEspPkt : Pkt := { wPkt with esp := some wEsp, len := 94 }

/-- SA 256 of stall 2 holds that key, wrapped under the stall's key of zeros (RFC 3394), and the packet waits at the cipher. -/
def wSa : State :=
  let s := (((wM.setF F.espCfg_ENABLE 0 1).setF F.espPrefix_VALID 2 1).setF F.stnRange_BLOCKS 2 1).setF F.pkmPoolLimit_LIMIT 2 9
  let s := (List.range 12).foldl (fun (s : State) j =>
    s.setSaWord 256 (16 + j) (5937887347699979316409733714891266396091266834577727051610 / 65536 ^ (11 - j))) (s.setSaWord 256 0 5)
  { s with cipherQ := [wEspPkt], cells := [(0, { CellLink.reset with last := true, alloc := true, owner := 17 })], cellData := [(0, wEspBytes)] }

/-- Set `k` of the station cache is full of other records' lines. -/
def wSet (s : State) (k : Nat) (l : StnLine) : State := { s with stn := (List.range 16).map fun j => (4096 * (j + 1) + k, l) }

/-- Record 1's set is full of lines of courses not accepted. -/
def wFullSet : State := wSet wBound 1 { StnLine.reset with dirty := [0], courses := [(0, 9)] }

/-- Stall 2 is STARTED, the device is ALONE and admits frames, and clusters 0 and 1 serve the stall. -/
def wRun : State :=
  (((((((wM.setF F.scpStallState_STATE 2 2).setF F.stlStatus_STATE 0 5).setF F.supCtl_ADMIT 0 1).setF F.dspCluster_OWNER 0 2).setF
    F.dspCluster_STATE 0 1).setF F.dspCluster_OWNER 1 2).setF F.dspCluster_STATE 1 1).setF F.pkmPoolLimit_LIMIT 2 40

/-- A packet of stall 2 in a slot. -/
def wSlotPkt (phase : Nat) : SlotPkt :=
  { pkt := { wPkt with station := 2 ^ 21 + 9 }, phase := phase, turn := false, held := [], issued := 0, order := 0 }

/-- Thread `u` of cluster 0 holds it in slot 3. -/
def wSlot (u phase : Nat) : State := wRun.setTh u fun th => { th with st := .running, slots := [(3, some (wSlotPkt phase))] }

/-- A far load of a thread's own station record that waits for the turn. -/
def wFar : FarReq :=
  { load := true, pair := false, seg := 0, off := 0, place := .station 9 0, data := [], dst := 1, base := none, len := 2, turnWait := true, admitted := false,
    answer := none, low := none, arrived := 0, no := 0 }

/-- House thread 0 may issue the instruction whose words are `ws`. -/
def wCpu (ws : List Nat) : State :=
  { ((wM.setTh 1024 fun th => { th with st := .running }).setCore 128 fun c => { c with lines := [0] }) with
    code := (List.zip (List.range ws.length) ws).map fun e => (16 * 131072 + e.1, word e.2) }

/-- House thread 0 returns to a link beyond the code store. -/
def wRet : State := (wCpu [enc 0x19 0 1]).setTh 1024 fun th => { th with frame := 2 }.putReg 13 2

/-- The same with far segment 0 of the house mapping DRAM. -/
def wFarCpu (ws : List Nat) : State := (wCpu ws).wr .scpSegHi 16 0 (1 + 2 ^ 18 + 2 ^ 21)

/-- Cell `h` of the owner alone is allocated, and HANDLE of the accessor's register names it. -/
def wCell (h owner next acc x : Nat) : State :=
  ({ wRun with cells := [(h, { next := next, last := next == 0, alloc := true, held := false, owner := owner, oos := false, written := true })] } :
    State).wrA acc .pkmCellHandle x 0 h

/-- Stall 2 asks for 60 bytes of cell 0 to leave at port 0. -/
def wOutput : State :=
  (({ wCell 0 2 0 1034 2 with gateFrom := some 0, geom := [(0, 2 * 2 ^ 22)] }.setF F.prtCfg_MAX_LEN 0 64).setFA 1034 F.swcOutReq1_LENGTH 2 60).setFA 1034
    F.swcOutReq0_HANDLE 2 0

/-- Worker thread 63 of stall 2 may issue the instruction whose words are `ws`. -/
def wWk (ws : List Nat) : State :=
  let s := (wRun.setTh 63 fun th => { th with st := .running }).setCore 7 fun c => { c with lines := [0] }
  { s.wr .scpSegHi 2 0 (1 + 2 ^ 18 + 2 ^ 21) with code := (List.zip (List.range ws.length) ws).map fun e => (e.1, word e.2) }

/-- House thread 0 names channel 16 of its own cluster in register 2; the channel's settings are `conf`. -/
def wChan (ws : List Nat) (conf : Nat) : State := { wCpu ws with chanCfg := [(16400, conf)] }.setTh 1024 fun th => th.putReg 2 0x8010

/-- A message of one word that waits there. -/
def wMsg : Msg := { words := [5], sender := 1024, dest := 0, at_ := 0 }

/-- Thread `u` waits. -/
def wWait (s : State) (u : Nat) (w : Wait) : State := s.setTh u fun th => { th with st := .blocked, wait := w }

/-- A far access of `u` to `pl` waits, answered with `ans`. -/
def wAcc (u : Nat) (load : Bool) (pl : Place) (ans : Option (Option (List Word))) : FarReq :=
  { wFar with load := load, place := pl, data := if load then [] else [7], turnWait := false, admitted := true, answer := ans }

/-- An Elvant frame of pair 0 and course 0 on lane 1. -/
def wElv (b : ElvantBody) : Elvant :=
  { lane := 1, version := 1, pair := 0, state := 3, strap := false, course := 0, segment := 0, last := false, released := true, body := b }

/-- The bytes of such a frame of a TYPE. -/
def wElvBytes (type : Nat) (f : Elvant) : List Byte :=
  let c := f.course.toNat
  let ws := elvantWords f
  withFcs (List.replicate 12 0 ++ [0x88, 0xB5] ++ wordBytes (([0xE000 + f.version.val * 256 + type, f.pair.toNat, f.pair.toNat / 65536,
    f.state.val * 2 + (if f.strap then 16 else 0), c, c / 65536, c / 2 ^ 32, c / 2 ^ 48, f.segment.toNat,
    (if f.last then 1 else 0) + (if f.released then 2 else 0), ws.length, 0, 0, 0, 0, 0] : List Nat).map word ++ ws))

/-- It has arrived on its lane, and another frame after it. -/
def wHear (type : Nat) (f : Elvant) (s : State) : State :=
  s.setPort (10 + f.lane) fun p => { p with ctlQ := [wElvBytes type f, [0]] }

theorem wArr {s : State} {type : Nat} {f : Elvant} {rest : List (List Byte)}
    (h : (match s.laneFrames f.lane with | bs :: r => elvantSpells f type bs && r == rest | [] => false) = true) : s.arrives type f rest := by
  unfold State.arrives
  split at h
  · simp only [Bool.and_eq_true, beq_iff_eq] at h
    exact ⟨_, by simp_all, h.1⟩
  · simp at h

/-- The settlement unit in state `n`, with lane 1 up. -/
def wStl (n : Nat) : State := (wRun.setF F.stlStatus_STATE 0 n).setF F.prtStatus_LINK 11 1

/-- The first `n` cells are taken. -/
@[irreducible] def wFull (n : Nat) : Tab CellLink := (List.range n).map fun h => (h, { CellLink.reset with alloc := true })

theorem wFull_mem {d v : CellLink} {h : Nat} (l : List Nat) (k : h ∈ l) : Tab.get d (l.map fun i => (i, v)) h = v := by
  induction l with
  | nil => simp at k
  | cons a l ih =>
    show (if a = h then v else Tab.get d (l.map fun i => (i, v)) h) = v
    split
    · rfl
    · exact ih (by simpa [Ne.symm ‹_›] using k)

theorem wFull_get {n : Nat} (h : Nat) (k : h < n) : ((wFull n).get CellLink.reset h).alloc = true := by
  rw [wFull, wFull_mem _ (by simpa using k)]


theorem wNone {s : State} {n : Nat} (h : s.cells = wFull 262144) (k : n = 1) : s.takeCells none 16 n = none := by
  subst k
  have hb : s.bestSlice ≤ 15 := by
    simp only [State.bestSlice, List.foldl]
    split <;> split <;> split <;> omega
  have hf : s.findFree s.bestSlice = none := by
    simp only [State.findFree, List.findSome?_eq_none_iff, Option.map_eq_none_iff, List.find?_eq_none, List.mem_range]
    intro g hg b hk
    have : (s.cell (s.bestSlice * 16384 + (s.rotors.get 0 s.bestSlice + g) % 256 * 64 + b)).alloc = true := by
      rw [State.cell, h]; exact wFull_get _ (by omega)
    simp [this]
  simp [State.takeCells, State.takeCell, hf]
/-- A shadow whose packet memory has no free cell. -/
def wNoCells : State := { wStl 4 with cells := wFull 262144 }

/-- A course's settlement with nothing in it. -/
def wBody (course : Nat) : Settlement := { course := course, state := 0, idents := [], deltas := [], ledger := [], outs := [], saSeq := [], retire := [] }

def wInbox : Inbox := { course := 0, segs := 0, words := [], body := none, applied := false, fills := [] }

/-- The first seven words of such a settlement have arrived, and its end as a frame. -/
def wHalf : Inbox := { wInbox with segs := 1, words := (wBody 0).words.take 7 }
def wEnd : Elvant := { wElv (.words ((wBody 0).words.drop 7)) with segment := 1, last := true }

/-- Frame 0 of port 3 in a course's lists. -/
def wIdent : Ident :=
  { port := 3, seq := 0, course := 0, offset := 0, len := 64, fcs := 0, code := 0, deferred := false, stamp := 0, cell := none, inner := none }

/-- The address map and channel 0 of the smallest supported configuration, READY. -/
def wDram : State :=
  (([(0, 1), (1, 2), (2, 4), (4, 8), (5, 16), (7, 32)].foldl (fun (s : State) e => (s.setF F.arbMapHi_ENABLE e.1 1).setF F.arbMapLo_MASK_LO e.1 e.2)
    wRun).wr .drcCfg 0 0 0x100C4).setF F.drcStatus_STATE 0 2

/-- A request of thread 63 at the lowest address of channel 0. -/
def wPlace : DPlace := { ch := 0, sub := 0, rank := 0, bg := 0, ba := 0, row := 0, col := 0 }
def wDReq : DReq := { id := 0, place := wPlace, read := true, thread := some 63, requester := 0, deadline := 0, passed := 0 }

/-- An access that waits for the arbiter. -/
def wNew (load : Bool) (a : Nat) : FarReq := { wAcc 63 load (.dram a) none with admitted := false }


/-- A request of the classification unit waits. -/
def wUnit (read : Bool) (a : Nat) : UnitReq :=
  { requester := 17, addr := a, read := read, deadline := 0, arrived := 0, no := 0, data := if read then [] else [5, 6] }

def wUnits (q : UnitReq) : State := { wDram with ctl := { Dram.reset with units := [q] } }

/-- What the arbiter of channel 0 chooses, and what waits for an address no channel has. -/
def wPicked (s : State) : Waiting := ((s.arbPick 0).map (·.1)).getD { who := none, req := wUnit true 1 }
def wBad (s : State) : Waiting := s.badWaiting.getD { who := none, req := wUnit true 1 }

/-- The command whose body is `ws`. -/
def wCmd (op : Nat) (ws : List Nat) : ScpCmd := { port := 8, seq := 1, op := op, len := 2 * ws.length, body := ws.map word }

/-- The SCP engine serves port 8, and the session of `x` is open where `n` is 1. -/
def wHost (x n : Nat) : State :=
  (((wRun.setF F.scpCfg_ENABLE 0 1).setF F.prtStatus_LINK 8 1).setF F.scpStallSession_OPEN x n).setF F.scpStallState_KEY_SET 2 1

/-- The command `c` alone waits in the open session of `x`. -/
def wScp (x : Nat) (c : ScpCmd) : State :=
  { wHost x 1 with sessions := [(x, { Session.reset with waiting := [c] })], roles := [(2, some 0)] }

/-- A DEBUG command of stall 2 waits, and worker thread 63 is in state `st`. -/
def wDbg (ws : List Nat) (st : ThState) : State := (wScp 2 (wCmd 14 ws)).setTh 63 fun th => { th with st := st }

/-- An event record of stall `x`. -/
def wRec (x : Nat) (notice : Bool) : EvRec :=
  { src := 0, owner := x, notice := notice, copy := false, count := 1, stamp := 0, data := [], held := none, reserved := false }

/-- A boot image with nothing in it. -/
def wCopy : BootCopy :=
  { readOk := true, magicOk := true, keyOk := true, version := 0, sectionsOk := true, entry := 0, hvbase := 0, regs := [], ddr := [], tally := [],
    graphs := [], house := [] }

/-- Its boot waits for DRAM. -/
def wBootRun : BootRun := { a := wCopy, b := wCopy, onB := false, retried := false }

/-- Worker 63 owns its tally unit and issues an MTT of the pair 24. -/
def wMtt : State := (wWk [enc 0x3D 24 1, 10]).setUnit 7 fun u => { u with owner := some 7 }

/-- A far load of a control register waits. -/
def wCtl : State := wWait wRun 63 (.far (wAcc 63 true (.control 0) none))

/-- A host's SCP command for `x` as port 8 receives it, sealed for `s`. -/
def wScpBytes (s : State) (x op seq : Nat) (body : List Word) : List Byte :=
  let pt := wordBytes body
  let head := wordBytes ([word (0x5100 + op), word x] ++ words32 seq ++ [word (2 * body.length), 0, 0, 0])
  let key := keyBytes (s.sess x).key
  let ct := gcmText key (scpNonce 1 x seq) pt
  let sealed := if op = 1 then pt ++ gcmSeal (w32Bytes ((s.longKey x).getD [])) (helloIv 1 (helloNonce body)) (head ++ pt) []
    else ct ++ gcmSeal key (scpNonce 1 x seq) head ct
  List.replicate 12 0 ++ [0x88, 0xB5] ++ head ++ sealed ++ [0, 0, 0, 0]

def wScpIn (bs : List Byte) (s : State) : State := s.setPort 8 fun p => { p with ctlQ := [bs, [0]] }

theorem wTakes {s : State} {p : Nat} {f : ScpFrame} {rest : List (List Byte)}
    (h : (match (s.port (8 + p)).ctlQ with
      | bs :: r => decide (r = rest ∧ s.scpParse bs = f ∧ s.b F.scpCfg_ENABLE = true ∧ f.cls = 5 ∧ f.version = 1 ∧ f.target < 17 ∧
          (f.target < 16 → s.stallState f.target ≠ 0) ∧ f.fits = true ∧ s.portQueue (8 + p) < 256)
      | [] => false) = true) : s.scpTakes p f rest := by
  unfold State.scpTakes
  split at h
  · obtain ⟨rfl, k⟩ := of_decide_eq_true h
    exact ⟨_, ‹_›, k⟩
  · simp at h

theorem wInr {a : Place ⊕ Nat} (h : a.isLeft = false) : ∀ pl, a ≠ .inl pl := by
  rintro pl rfl
  simp at h

theorem wSince {o : Option Nat} {n : Nat} (h : o = none) : ∀ b, o = some b → b + 2048 ≤ n := by
  simp [h]

/-- An image of version 0 with one empty section, signed under a P-384 key made for this test, and a device whose fuses name that key. -/
def wImage : List Byte :=
  bytes (bytesOf 48 0x425a4c4900010001000000000000010000000000000000000436e009f3a668425fad1a3f887abe567f9bc2165b0e56d1 ++
    bytesOf 48 0xb6a955b0844a906c54ea3f22d7fb790ece065134863ef08505a18285f5a2f4b22795ac2da6a50a0ce799b193c18d52c0 ++
    bytesOf 48 0x3429302e033c01165df6e2b9c4365ea268f520ce45b68b132e0000000000000000000001000001000000000000000000 ++
    bytesOf 48 0x000000000000000000000000000000000000000000000000000000000000000000000000000000000000000000000000 ++
    bytesOf 48 0x000000000000000000000000000000000000000000000000000000000000000000000000000000000000000000000000 ++
    bytesOf 48 0x0000000000000000000000000000000051950bffb7d8ab2918da11ad0c3c81e9fb508d6771a3455b767be96b04b5d9ba ++
    bytesOf 48 0xdf9c258adcd1b037c0d214756536d182d12649d648b29b3d4f8ab7e545de1866150b045a4d198c4bbea74dbe030970be ++
    bytesOf 16 0x778201a2ceec121956911cbe441c5b3c)

def wBoot : State :=
  { State.reset with
    fuses := { State.reset.fuses with lcState := 1, root := some ((List.range 12).map fun i => BitVec.ofNat 32
      (0xfe7aaf814dbc5161f1f2ea3e7356aaf9e7f57c56cf8cd5b063a9156e50e11b3ab402c85ea1185499a77af2d677ba1bcd / 2 ^ (352 - 32 * i))) } }

theorem wTry {α : Type} {p : Bool × α} {b : Bool} (h : p.1 = b) : p = (b, p.2) := by
  rw [← h]

/-! ### Commands no sender can form -/

theorem test_ill_heartbeat : (Instr.heartbeat (wElv (.joinDone 0))).wf = false := by decide
theorem test_ill_settle : (Instr.settle (wElv (.fillReq 0 0))).wf = false := by decide
theorem test_ill_ack : (Instr.ack (wElv (.joinDone 0))).wf = false := by decide
theorem test_ill_mark : (Instr.mark (wElv (.joinDone 0))).wf = false := by decide
theorem test_ill_abandon : (Instr.abandon (wElv (.joinDone 0))).wf = false := by decide
theorem test_ill_fill_request : (Instr.fillReq (wElv (.words []))).wf = false ∧ (Instr.fillReq (wElv (.fillReq 12 0))).wf = false := by decide
theorem test_ill_fill_data :
    (Instr.fillData (wElv (.words []))).wf = false ∧ (Instr.fillData (wElv (.fillData 12 0 0 0 [] none))).wf = false := by decide
theorem test_ill_join_request :
    (Instr.joinReq (wElv (.words []))).wf = false ∧ (Instr.joinReq (wElv (.joinReq false 0 (List.replicate 17 0)))).wf = false := by decide
theorem test_ill_join_copy : (Instr.joinCopy (wElv (.words []))).wf = false := by decide
theorem test_ill_join_station :
    (JoinItem.station (2 ^ 20) []).wf = false ∧ (JoinItem.station 0 [(128, 0)]).wf = false := by decide
theorem test_ill_join_sa : (JoinItem.sa (2 ^ 21) []).wf = false ∧ (JoinItem.sa 0 [(32, 0)]).wf = false := by decide
theorem test_ill_join_ledger :
    (JoinItem.ledger 16 0 0 0 false []).wf = false ∧ (JoinItem.ledger 0 0 65536 0 false []).wf = false ∧
      (JoinItem.ledger 0 0 0 (2 ^ 20) false []).wf = false := by decide
theorem test_ill_join_done : (Instr.joinDone (wElv (.words []))).wf = false := by decide
theorem test_ill_boot_copy (bs : List Byte) (h : bs.length = 2 ^ 24 + 1) :
    (Instr.boot (some bs) none).wf = false ∧ (Instr.boot none (some bs)).wf = false := by simp [Instr.wf, copyWf, h]
theorem test_well_formed_boot : (Instr.boot none (some [0])).wf = true := by decide

/-! ### Every statement's hypotheses can be met -/

theorem witness_LathBoundaryAdvances :
  ∃ (s : State) (tj : Byte), (s.time.live = true) ∧ ((s.time.clear = true)) :=
  by
  refine ⟨wM, 0, ?_⟩ <;> and_intros <;> decide +kernel

theorem witness_CourseStrobe :
  ∃ s : State, (s.strobeDue = true) ∧ ((s.time.strobeFirst = false)) :=
  by
  refine ⟨wT fun t => { t with st := .locked, strobeDue := true }, ?_⟩ <;> and_intros <;> decide +kernel

theorem witness_TickFrameBoundary :
  ∃ s : State, (s.time.frameDue = true) :=
  by
  refine ⟨wT fun t => { t with st := .locked, frameDue := true }, ?_⟩ <;> and_intros <;> decide +kernel

theorem witness_LengthChange :
  (∃ (s : State) (a : Accessor) (v : Word32), (s.permits a .crsLenChg 0 0 v.toNat) ∧ ((s.isMaster = true) ∧ ((s.time.st ≠ .off) ∧ ((s.time.change =
    false) ∧ ((bits v.toNat 3 8 ≠ 0) ∧ ((bits v.toNat 0 3 ≤ 4))))))) ∧
  (∃ (s : State) (a : Accessor) (v : Word32), (s.permits a .crsLenChg 0 0 (withField v 3 8 0)) ∧ ((s.isMaster = true) ∧ ((s.time.st ≠ .off) ∧
    ((s.time.change = true) ∧ (((s.time.taken = false ∨ 2 ≤ s.time.frames))))))) ∧
  (∃ s : State, (s.time.lenDue = true) ∧ ((s.time.frameDue = false))) :=
  by
  refine ⟨⟨wM, .debugger, 0x11, ?_⟩,
  ⟨wM.setTime fun t => { t with change := true }, .debugger, 0x11, ?_⟩,
  ⟨wM.setTime fun t => { t with lenDue := true }, ?_⟩⟩ <;> and_intros <;> decide +kernel

theorem witness_TimeBaseRole :
  (∃ (s : State) (a : Accessor) (v : Word32), (s.permits a .tmbCtl 0 0 (withField v 0 1 1)) ∧ ((s.time.st = .off))) ∧
  (∃ (s : State) (a : Accessor) (v : Word32), (s.permits a .tmbCtl 0 0 (withField v 1 1 1)) ∧ ((s.time.st = .isolated) ∧ ((s.anyStarted = false)))) ∧
  (∃ (s : State) (a : Accessor) (v : Word32), (s.permits a .tmbCtl 0 0 (withField v 2 1 1)) ∧ ((s.time.st = .holdover) ∧ ((s.isMaster = false) ∧ (((bits
    v.toNat 4 1 = 0 ∨ s.f F.tmbStatus_PPS_SEEN = 1)))))) ∧
  (∃ (s : State) (a : Accessor) (v : Word32), (s.permits a .tmbCtl 0 0 (withField v 2 1 1)) ∧ ((s.time.st = .holdover) ∧ ((s.isMaster = false) ∧ ((bits
    v.toNat 4 1 = 1) ∧ ((s.f F.tmbStatus_PPS_SEEN = 0)))))) :=
  by
  refine ⟨⟨State.reset, .house 0, 5, ?_⟩,
  ⟨wT fun t => { t with st := .isolated }, .house 0, 2, ?_⟩,
  ⟨wT fun t => { t with st := .holdover }, .house 0, 4, ?_⟩,
  ⟨wT fun t => { t with st := .holdover }, .house 0, 0x14, ?_⟩⟩ <;> and_intros <;> decide +kernel

theorem witness_TimeBaseAdjust :
  (∃ (s : State) (a : Accessor) (v : Word32), (s.permits a .tmbPhaseAdj 0 0 v.toNat)) ∧
  (∃ (s : State) (a : Accessor) (v : Word32), (s.permits a .tmbStepSec 0 0 (withField v 16 1 1)) ∧ ((s.isMaster = true) ∧ ((-1000000000 < signed 32 (s.f
    F.tmbStepNs_NS)) ∧ ((signed 32 (s.f F.tmbStepNs_NS) < 1000000000) ∧ ((s.maintBusy 0x61 = none)))))) :=
  by
  refine ⟨⟨wM, .debugger, 0xFFFFFFFF, ?_⟩,
  ⟨wM, .debugger, 0x10003, ?_⟩⟩ <;> and_intros <;> decide +kernel

theorem witness_Following :
  (∃ (s : State) (i : TickInfo), (s.time.st = .acquire) ∧ ((s.time.acqFrame = some i) ∧ ((2 ≤ s.time.acqGood) ∧ ((s.time.rejoin = false))))) ∧
  (∃ (s : State) (f : BitVec 256) (o : Word32) (r : Int), (s.isMaster = false) ∧ ((s.time.st = .following) ∧ ((tickBits f 240 255 = tickCrc f) ∧
    ((s.time.agrees (tickInfo f) = true) ∧ ((r = o.toInt - s.f F.tmbTickCtl_IN_DELAY) ∧ ((-2048 ≤ r) ∧ ((r ≤ 2048) ∧ ((s.time.late (tickInfo f) =
    false))))))))) ∧
  (∃ (s : State) (f : BitVec 256) (o : Word32) (r : Int), (s.isMaster = false) ∧ ((s.time.st = .following) ∧ ((tickBits f 240 255 = tickCrc f) ∧
    ((s.time.agrees (tickInfo f) = true) ∧ ((r = o.toInt - s.f F.tmbTickCtl_IN_DELAY) ∧ ((-2048 ≤ r) ∧ ((r ≤ 2048) ∧ ((s.time.late (tickInfo f) =
    true) ∧ ((s.time.frameDue = false) ∧ (((tickInfo f).label ≠ s.time.label))))))))))) ∧
  (∃ (s : State) (f : BitVec 256) (o : Word32), (s.isMaster = false) ∧ ((s.time.st = .following) ∧ ((((tickBits f 240 255 = tickCrc f ∧ s.time.agrees
    (tickInfo f) = false) ∨ edgeNear (o.toInt - s.f F.tmbTickCtl_IN_DELAY) = false))))) ∧
  (∃ s : State, (s.isMaster = false) ∧ ((s.time.st = .following) ∧ ((s.time.missed < 3)))) ∧
  (∃ s : State, (s.isMaster = false) ∧ ((s.time.st = .following) ∧ ((3 ≤ s.time.missed)))) :=
  by
  refine ⟨⟨wT fun t => { t with st := .acquire, acqGood := 2, acqFrame := some { frame := 9, course := 4, label := 7, len := 4, nextLen := 0, count := 0 } },
    { frame := 9, course := 4, label := 7, len := 4, nextLen := 0, count := 0 }, ?_⟩,
  ⟨wF, tickFrame { frame := 0, course := 0, label := 0, len := 2, nextLen := 2, count := 0 } true false, 0x800, 2048, ?_⟩,
  ⟨wF.setTime fun t => { t with timeline := BitVec.ofNat 64 frameUnits, prevFrameLen := 2 },
    tickFrame { frame := 0, course := 0, label := 7, len := 2, nextLen := 2, count := 0 } true false, 0, 0, ?_⟩,
  ⟨wF, 0, 2049, ?_⟩,
  ⟨wF.setTime fun t => { t with missed := 2 }, ?_⟩,
  ⟨wF.setTime fun t => { t with missed := 3 }, ?_⟩⟩ <;> and_intros <;> decide +kernel

theorem witness_PpsPins :
  (∃ (s : State) (e : Fin 4096), (s.time.starting = true) ∧ ((s.f F.tmbCtl_PPS_EN = 1))) ∧
  (∃ (s : State) (e : Fin 4096), (s.time.starting = false)) ∧
  (∃ s : State, (s.isMaster = true) ∧ ((s.f F.tmbCtl_PPS_SERVO = 1) ∧ ((s.time.st = .locked) ∧ ((s.ppsGone = true))))) ∧
  (∃ s : State, (s.secondNow = true) ∧ ((s.f F.tmbPpsCtl_WIDTH_US ≠ 0))) :=
  by
  refine ⟨⟨(wT fun t => { t with starting := true }).setF F.tmbCtl_PPS_EN 0 1, 4095, ?_⟩,
  ⟨wM, 0, ?_⟩,
  ⟨wM.setF F.tmbCtl_PPS_SERVO 0 1, ?_⟩,
  ⟨(wM.setTime fun t => { t with timeline := 0 }).setF F.tmbPpsCtl_WIDTH_US 0 1001, ?_⟩⟩ <;> and_intros <;> decide +kernel

theorem witness_StampPop :
  ∃ (s : State) (a : Accessor) (n : Fin 10) (e : TxStamp) (rest : List TxStamp), (s.mayReach (s.accOwner a) .tmbTxtsTag n = true) ∧ ((s.capturedHalf
    a.num (Reg.tmbTxtsTag.off n 0) = none) ∧ ((s.txts.get [] n = e :: rest))) :=
  by
  refine ⟨{ State.reset with txts := [(9, [{ tag := 5, stamp := 0x100000002 }])] }, .debugger, 9, { tag := 5, stamp := 0x100000002 }, [], ?_⟩ <;> and_intros <;> decide +kernel

theorem witness_PortLink :
  (∃ (s : State) (n : Fin 12), (s.f F.prtCfg_ENABLE n = 1) ∧ ((s.f F.prtCfg_MODE n ≠ 0) ∧ ((s.f F.prtStatus_LINK n = 0) ∧ ((s.f F.prtStatus_FLUSHING n =
    0) ∧ (∃ at_ : Word64, True))))) ∧
  (∃ (s : State) (n : Fin 12), (s.f F.prtCfg_ENABLE n = 1) ∧ ((s.f F.prtStatus_LINK n = 0) ∧ (((s.f F.prtCfg_MODE n = 1 ∨ s.f F.prtCfg_MODE n = 2))))) ∧
  (∃ (s : State) (n : Fin 12), (s.f F.prtStatus_FLUSHING n = 1)) :=
  by
  refine ⟨⟨(wM.setF F.prtCfg_ENABLE 11 1).setF F.prtCfg_MODE 11 1, 11, ?_, ?_, ?_, ?_, 5, trivial⟩,
  ⟨(wM.setF F.prtCfg_ENABLE 0 1).setF F.prtCfg_MODE 0 2, 0, ?_⟩,
  ⟨wM.setF F.prtStatus_FLUSHING 11 1, 11, ?_⟩⟩ <;> and_intros <;> decide +kernel

theorem witness_PortDown :
  (∃ (s : State) (a : Accessor) (n : Fin 12) (v : Word32), (s.permits a .prtCfg n 0 (withField v 4 1 1))) ∧
  (∃ (s : State) (a : Accessor) (n : Fin 12) (v : Word32), (s.permits a .prtCfg n 0 (withField v 4 1 0)) ∧ ((s.f F.prtCfg_ENABLE n = 1) ∧ ((s.f
    F.prtStatus_LINK n = 1)))) ∧
  (∃ (s : State) (n : Fin 12) (part align : Bool) (uncorr : Word), (s.f F.prtStatus_LINK n = 1) ∧ (((align = true ∨ (s.f F.prtFec_UNCORR_THR n ≠ 0 ∧ s.f
    F.prtFec_UNCORR_THR n ≤ (s.port n).uncorr + uncorr.toNat))))) ∧
  (∃ (s : State) (n : Fin 12) (part : Bool) (uncorr : Word), (s.f F.prtStatus_LINK n = 1) ∧ (((s.f F.prtFec_UNCORR_THR n = 0 ∨ (s.port n).uncorr +
    uncorr.toNat < s.f F.prtFec_UNCORR_THR n)))) :=
  by
  refine ⟨⟨wM, .house 7, 11, 0, ?_⟩,
  ⟨wUp 0, .debugger, 0, 0xFFFFFFFF, ?_⟩,
  ⟨wUp 11, 11, false, true, 0, ?_⟩,
  ⟨wUp 11, 11, false, 5, ?_⟩⟩ <;> and_intros <;> decide +kernel

theorem witness_FrameReceived :
  (∃ (s : State) (n : Fin 12) (at_ : Word64) (bs : List Byte) (err : Bool) (corr uncorr : Byte) (c : Fld), (s.f F.prtStatus_LINK n = 1) ∧ ((s.rxDue n at_
    = true) ∧ (((s.countFec n corr.toNat uncorr.toNat).fecDown n = false) ∧ ((s.rxCheck n bs err = some c) ∧ ((s.f c n < 2 ^ 32 - 1)))))) ∧
  (∃ (s : State) (n : Fin 12) (at_ : Word64) (bs : List Byte) (err : Bool) (corr uncorr : Byte), (s.f F.prtStatus_LINK n = 1) ∧ ((s.rxDue n at_ = true) ∧
    (((s.countFec n corr.toNat uncorr.toNat).fecDown n = false) ∧ ((s.rxCheck n bs err = none) ∧ (((s.takeCells (some n.val) 17 (cellsFor
    bs.length)).isSome = true) ∧ (((n.val < 8 ∨ (n.val < 10 ∧ s.isScp bs = false))) ∧ (((s.port n).parseQ.length < 128)))))))) ∧
  (∃ (s : State) (n : Fin 12) (at_ : Word64) (bs : List Byte) (err : Bool) (corr uncorr : Byte), (s.f F.prtStatus_LINK n = 1) ∧ ((s.rxDue n at_ = true) ∧
    (((s.countFec n corr.toNat uncorr.toNat).fecDown n = false) ∧ ((s.rxCheck n bs err = none) ∧ (((s.takeCells (some n.val) 17 (cellsFor
    bs.length)).isSome = true) ∧ ((8 ≤ n.val) ∧ (((10 ≤ n.val ∨ s.isScp bs = true))))))))) ∧
  (∃ (s : State) (n : Fin 12) (at_ : Word64) (bs : List Byte) (err : Bool) (corr uncorr : Byte), (s.f F.prtStatus_LINK n = 1) ∧ ((s.rxDue n at_ = true) ∧
    (((s.countFec n corr.toNat uncorr.toNat).fecDown n = true)))) ∧
  (∃ (s : State) (n : Fin 12) (at_ : Word64) (bs : List Byte) (err : Bool) (corr uncorr : Byte), ((s.f F.prtStatus_LINK n = 0 ∨ ((s.port n).upAt ≠ 0 ∧
    at_ ≤ (s.port n).upAt)))) :=
  by
  refine ⟨⟨wUp 2, 2, 0, [], true, 0, 0, F.prtRxTrunc_COUNT, ?_⟩,
  ⟨(wUp 7).setF F.prtCfg_MAX_LEN 7 64, 7, 1023, wFrm 0x0800, false, 0, 0, ?_⟩,
  ⟨((wUp 9).setF F.prtCfg_MAX_LEN 9 64).setF F.scpCfg_ETHERTYPE 0 0x88B5, 9, 1023, wFrm 0x88B5, false, 0, 0, ?_⟩,
  ⟨(wUp 2).setF F.prtFec_UNCORR_THR 2 1, 2, 0, [], false, 0, 1, ?_⟩,
  ⟨wM, 2, 0, [], false, 0, 0, ?_⟩⟩ <;> and_intros <;> decide +kernel

theorem witness_PauseAndPfc :
  (∃ (s : State) (n : Fin 12) (m : MacCtl) (rest : List MacCtl), ((s.port n).mac = m :: rest) ∧ (((s.port n).wdIgnore = false) ∧ ((n.val < 10) ∧ ((s.f
    F.prtStatus_SILENT n = 0) ∧ ((s.f F.prtCfg_FC_MODE n = 1) ∧ ((m.opcode = 1))))))) ∧
  (∃ (s : State) (n : Fin 12) (m : MacCtl) (rest : List MacCtl), ((s.port n).mac = m :: rest) ∧ ((((s.port n).wdIgnore = true ∨ 10 ≤ n.val ∨ s.f
    F.prtStatus_SILENT n = 1 ∨ (s.f F.prtCfg_FC_MODE n ≠ 1 ∧ s.f F.prtCfg_FC_MODE n ≠ 2) ∨ (s.f F.prtCfg_FC_MODE n = 1 ∧ m.opcode ≠ 1) ∨ (s.f
    F.prtCfg_FC_MODE n = 2 ∧ m.opcode ≠ 0x0101))))) ∧
  (∃ (s : State) (n : Fin 12) (m : MacCtl) (rest : List MacCtl), ((s.port n).mac = m :: rest) ∧ (((s.port n).wdIgnore = false) ∧ ((n.val < 10) ∧ ((s.f
    F.prtStatus_SILENT n = 0) ∧ ((s.f F.prtCfg_FC_MODE n = 2) ∧ ((m.opcode = 0x0101))))))) ∧
  (∃ (s : State) (n : Fin 12) (prio : Fin 9), (s.holdExpired n prio = true)) ∧
  (∃ (s : State) (n : Fin 12), ((s.port n).xoff = true) ∧ ((s.xoffCond n = true) ∧ (((s.port n).xoffAt * 100 + s.f F.prtFc_PAUSE_QUANTA n * 4096 < (s.now
    + 1024) * 100) ∧ ((s.f F.prtStatus_LINK n = 1) ∧ ((s.f F.prtStatus_SILENT n = 0) ∧ ((s.f F.prtFc_PAUSE_QUANTA n ≠ 0))))))) ∧
  (∃ (s : State) (n : Fin 12), (s.stormDue n = true)) :=
  by
  refine ⟨⟨((wUp 9).setF F.prtCfg_FC_MODE 9 1).setPort 9 fun p => { p with mac := [{ opcode := 1, enable := 0, quanta := [0xFFFF] }] }, 9,
    { opcode := 1, enable := 0, quanta := [0xFFFF] }, [], ?_⟩,
  ⟨(wUp 11).setPort 11 fun p => { p with mac := [{ opcode := 1, enable := 0, quanta := [5] }] }, 11, { opcode := 1, enable := 0, quanta := [5] }, [],
    ?_⟩,
  ⟨((wUp 0).setF F.prtCfg_FC_MODE 0 2).setPort 0 fun p => { p with mac := [{ opcode := 0x0101, enable := 0x81, quanta := [0, 1, 2, 3, 4, 5, 6, 7] }] },
    0, { opcode := 0x0101, enable := 0x81, quanta := [0, 1, 2, 3, 4, 5, 6, 7] }, [], ?_⟩,
  ⟨(wUp 0).setPort 0 fun p => { p with holds := [(8, 102399)] }, 0, 8, ?_⟩,
  ⟨(((wUp 0).setF F.prtFc_PAUSE_QUANTA 0 1).setF F.pkmPoolStatus_LEVEL 2 2).setPort 0 fun p => { p with xoff := true, fed := [(2, 0)] }, 0, ?_⟩,
  ⟨((wUp 0).setF F.prtFc_WD_COURSES 0 2).setPort 0 fun p => { p with heldFor := some 2 }, 0, ?_⟩⟩ <;> and_intros <;> decide +kernel

theorem witness_EgressSelect :
  (∃ (s : State) (n : Fin 12) (k : Fin 36) (ecc : Ecc), (s.egChoose n = none)) ∧
  (∃ (s : State) (n : Fin 12) (k : Fin 36) (ecc : Ecc) (r : OutReq) (b : Bool) (rest : List (OutReq × Bool)), (10 ≤ n.val) ∧ (((s.outPort n).fifo = (r,
    b) :: rest) ∧ ((placesUsed (s.outPort n) + r.cells ≤ 40) ∧ ((ecc ≠ .double))))) ∧
  (∃ (s : State) (n : Fin 12) (k : Fin 36) (ecc : Ecc) (r : OutReq) (b : Bool) (rest : List (OutReq × Bool)), (10 ≤ n.val) ∧ (((s.outPort n).fifo = (r,
    b) :: rest) ∧ ((placesUsed (s.outPort n) + r.cells ≤ 40) ∧ (∃ h, (ecc = .double) ∧ ((((s.chain r.cell).take r.cells)[k.val]? = some h)))))) ∧
  (∃ (s : State) (n : Fin 12) (k : Fin 36) (ecc : Ecc) (f : ScpOut), (s.egChoose n = some (.scp (.scp f))) ∧ ((placesUsed (s.outPort n) + cellsFor
    f.bytes ≤ 40) ∧ (((s.outPort n).sending.isSome = true)))) ∧
  (∃ (s : State) (n : Fin 12) (k : Fin 36) (ecc : Ecc) (f : ScpOut), (s.egChoose n = some (.scp (.scp f))) ∧ ((placesUsed (s.outPort n) + cellsFor
    f.bytes ≤ 40) ∧ (((s.outPort n).sending = none) ∧ (((s.outPort n).buf = []))))) ∧
  (∃ (s : State) (n : Fin 12) (k : Fin 36) (ecc : Ecc) (f : ScpOut), (s.egChoose n = some (.scp (.scp f))) ∧ ((40 < placesUsed (s.outPort n) + cellsFor
    f.bytes))) ∧
  (∃ (s : State) (n : Fin 12) (k : Fin 36) (ecc : Ecc) (r : OutReq) (q u : Nat) (d sub : Drr), (s.egChoose n = some (.frame r q u d sub)) ∧ ((placesUsed
    (s.outPort n) + r.cells ≤ 40) ∧ ((ecc ≠ .double)))) ∧
  (∃ (s : State) (n : Fin 12) (k : Fin 36) (ecc : Ecc) (r : OutReq) (q u : Nat) (d sub : Drr), (s.egChoose n = some (.frame r q u d sub)) ∧ ((40 <
    placesUsed (s.outPort n) + r.cells))) :=
  by
  refine ⟨⟨wM, 0, 35, .ok, ?_⟩,
  ⟨wM.setOut 11 fun p => { p with fifo := [(wReq 11 0, true)], buf := [{ wBuf (.scp wOut) with places := 39 }] }, 11, 35, .corrected, wReq 11 0, true,
    [], ?_⟩,
  ⟨({ wM with cells := [(0, { CellLink.reset with last := true })] } : State).setOut 10 fun p => { p with fifo := [(wReq 10 0, true)] }, 10, 0, .double,
    wReq 10 0, true, [], ?_, ?_, ?_, 0, ?_⟩,
  ⟨wM.setOut 8 fun p => { p with scpQ := [.scp wOut], buf := [{ wBuf (.scp wOut) with places := 19 }], sending := some { wBuf (.scp wOut) with places := 20 } },
    8, 0, .ok, wOut, ?_⟩,
  ⟨wM.setOut 9 fun p => { p with scpQ := [.scp wOut] }, 9, 0, .double, wOut, ?_⟩,
  ⟨wM.setOut 9 fun p => { p with scpQ := [.scp wOut], buf := [wBuf (.scp wOut)] }, 9, 0, .ok, wOut, ?_⟩,
  ⟨(wM.setF F.swcPortCfg_STRICT 4 8).setOut 4 fun p => { p with queues := [(3, [wReq 4 0])], buf := [{ wBuf (.scp wOut) with places := 39 }] }, 4, 0,
    .ok, wReq 4 0, 3, 3, Drr.reset, Drr.reset, ?_⟩,
  ⟨(wM.setF F.swcPortCfg_STRICT 4 8).setOut 4 fun p => { p with queues := [(3, [wReq 4 0])], buf := [wBuf (.scp wOut)] }, 4, 0, .double, wReq 4 0, 3, 3,
    Drr.reset, Drr.reset, ?_⟩⟩ <;> and_intros <;> decide +kernel

theorem witness_StrictFirst :
  ∃ (s : State) (n u v q : Nat) (r : OutReq) (d sub : Drr), (u < 8) ∧ ((v < 8) ∧ ((bits (s.f F.swcPortCfg_STRICT n) v 1 = 1) ∧ (((s.unitQueues n
    v).isEmpty = false) ∧ ((s.prioHeld n (s.unitPrio n v) = false) ∧ ((s.chooseUnit n = some (.frame r q u d sub))))))) :=
  by
  refine ⟨(wM.setF F.swcPortCfg_STRICT 4 136).setOut 4 fun p => { p with queues := [(3, [wReq 4 0]), (7, [wReq 4 9])] }, 4, 7, 3, 7, wReq 4 9, Drr.reset,
    Drr.reset, ?_⟩ <;> and_intros <;> decide +kernel

theorem witness_FrameTransmitDone :
  (∃ (s : State) (n : Fin 12) (at_ : Word64), (s.f F.prtStatus_LINK n = 1) ∧ (((s.outPort n).sending = none))) ∧
  (∃ (s : State) (n : Fin 12) (at_ : Word64) (e : BufEnt) (r : OutReq), (s.f F.prtStatus_LINK n = 1) ∧ (((s.outPort n).sending = some e) ∧ ((e.item =
    .out r)))) ∧
  (∃ (s : State) (n : Fin 12) (at_ : Word64) (e : BufEnt) (f : ScpOut), (s.f F.prtStatus_LINK n = 1) ∧ (((s.outPort n).sending = some e) ∧ ((e.item =
    .scp f)))) :=
  by
  refine ⟨⟨wUp 0, 0, 5, ?_⟩,
  ⟨(wUp 0).setOut 0 fun p => { p with sending := some (wBuf (.out (wReq 0 0))) }, 0, 5, wBuf (.out (wReq 0 0)), wReq 0 0, ?_⟩,
  ⟨(wUp 9).setOut 9 fun p => { p with sending := some (wBuf (.scp wOut)) }, 9, 5, wBuf (.scp wOut), wOut, ?_⟩⟩ <;> and_intros <;> decide +kernel

theorem witness_GateRelease :
  (∃ s : State, (s.nextBank = none)) ∧
  (∃ (s : State) (b : Bank), (s.nextBank = some b)) :=
  by
  refine ⟨⟨wM, ?_⟩,
  ⟨{ wM with banks := [{ course := 1, slot := 1, outs := [] }, { course := 0, slot := 0, outs := [] }], acceptedPlus := 2 },
    { course := 0, slot := 0, outs := [] }, ?_⟩⟩ <;> and_intros <;> decide +kernel

theorem witness_RecircReentry :
  (∃ (s : State) (i : Fin 4) (r : OutReq) (rest : List (OutReq × Bool)), (i.val < 2) ∧ ((s.reparseQ.length < 256) ∧ (((s.outPort (12 + i)).fifo = (r,
    true) :: rest)))) ∧
  (∃ (s : State) (i : Fin 4) (r : OutReq) (rest : List (OutReq × Bool)), (2 ≤ i.val) ∧ ((s.cipherQ.length < 512) ∧ (((s.outPort (12 + i)).fifo = (r,
    true) :: rest) ∧ ((s.spiStall (be32 (s.chainBytes r.cell 0 r.len) r.espOff) = some r.stall))))) :=
  by
  refine ⟨⟨wM.setOut 13 fun p => { p with fifo := [(wReq 13 0, true)] }, 1, wReq 13 0, [], ?_⟩,
  ⟨({ wM with cellData := [(0, [0, 0, 1, 0])] }.setF F.espPrefix_VALID 2 1).setOut 14 fun p => { p with fifo := [(wReq 14 0, true)] }, 2, wReq 14 0, [],
    ?_⟩⟩ <;> and_intros <;> decide +kernel

theorem witness_GraphLoading :
  (∃ (s : State) (a : Accessor) (x : Target) (v : Word32) (g n r : Nat), (s.permits a .pgrLoadData x 0 v.toNat) ∧ ((s.loadPtr x = (g, n, r)) ∧
    ((s.slotState g = 0) ∧ ((s.f F.pgrGraphCfg_OWNER g = x.val))))) ∧
  (∃ (s : State) (a : Accessor) (x : Target) (v : Word32) (g n r : Nat), (s.permits a .pgrLoadData x 0 v.toNat) ∧ ((s.loadPtr x = (g, n, r)) ∧
    (((s.slotState g ≠ 0 ∨ s.f F.pgrGraphCfg_OWNER g ≠ x.val))))) ∧
  (∃ (s : State) (a : Accessor) (x : Target) (g n r : Nat), (s.mayReach (s.accOwner a) .pgrLoadData x = true) ∧ ((s.capturedHalf a.num
    (Reg.pgrLoadData.off x 0) = none) ∧ ((s.loadPtr x = (g, n, r))))) ∧
  (∃ (s : State) (a : Accessor) (e : Fin 26) (v : Word32), (e.val < 10) ∧ ((s.permits a .pgrPortCfg e 0 v.toNat))) ∧
  (∃ (s : State) (a : Accessor) (e : Fin 26) (v : Word32), (10 ≤ e.val) ∧ ((s.permits a .pgrStallEntry (e - 10) 0 v.toNat))) :=
  by
  refine ⟨⟨(wM.setF F.pgrGraphCfg_OWNER 0 16).setF F.pgrLoadPtr_NODE 16 255, .debugger, 16, 0x12345678, 0, 255, 0, ?_⟩,
  ⟨(wM.setF F.pgrGraphCfg_OWNER 0 15), .debugger, 16, 0x12345678, 0, 0, 0, ?_⟩,
  ⟨wM.setF F.pgrLoadPtr_REG 15 36, .session 15, 15, 0, 0, 0, ?_⟩,
  ⟨wM, .house 0, 9, 0xFFFFFFFF, ?_⟩,
  ⟨wM, .house 0, 25, 0xFFFFFFFF, ?_⟩⟩ <;> and_intros <;> decide +kernel

theorem witness_WalkVisits :
  ∃ (s : State) (win : List Byte) (perr fuel : Nat) (entry : Nat → Nat) (w w' : WalkAt) (e : WalkEnd), (w.visits ≤ 24) ∧ ((s.walk win perr entry fuel w
    = (e, w')) ∧ (((∀ k n g v, e ≠ .fail k n g v)))) :=
  by
  refine ⟨wGraph 528, wBytes, 0, 26, fun _ => 4369, { wStart with visits := 22 },
    ((wGraph 528).walk wBytes 0 (fun _ => 4369) 26 { wStart with visits := 22 }).2, .exit 1 0, ?_, (by decide +kernel), (by intro k n g v h; cases h)⟩ <;> and_intros <;> decide +kernel

theorem witness_ParseWalk :
  (∃ (s : State) (n : Fin 12) (perr : Fin 25), ((s.port n).parseQ = [])) ∧
  (∃ (s s1 : State) (n : Fin 12) (perr : Fin 25) (p : Pkt) (rest : List Pkt), ((s.port n).parseQ = p :: rest) ∧ ((s1 = s.setPort n (fun q =>
    { q with parseQ := rest })) ∧ ((bits (s.inForce .pgrPortCfg n p.stampCourse) 18 1 = 0)))) ∧
  (∃ (s s1 : State) (n : Fin 12) (perr : Fin 25) (p : Pkt) (rest : List Pkt), ((s.port n).parseQ = p :: rest) ∧ ((s1 = s.setPort n (fun q =>
    { q with parseQ := rest })) ∧ (∃ (e : WalkEnd) (w : WalkAt), (bits (s.inForce .pgrPortCfg n p.stampCourse) 18 1 = 1) ∧ ((s1.walk (s1.outerWindow
    p) perr.val (fun x => s1.inForce .pgrStallEntry x p.stampCourse) 26
    { slot := bits (s.inForce .pgrPortCfg n p.stampCourse) 0 4, node := bits (s.inForce .pgrPortCfg n p.stampCourse) 8 8, came := bits (s.inForce .pgrPortCfg n p.stampCourse) 8 8, cursor := 0, visits := 0, stall := none, marks := ⟨255, 255, 255⟩ }
    = (e, w)) ∧ (∃ code node p' s2, (e = .exit code node) ∧ ((s1.charge p (w.stall.getD 0) = (some p', s2)))))))) ∧
  (∃ (s s1 : State) (n : Fin 12) (perr : Fin 25) (p : Pkt) (rest : List Pkt), ((s.port n).parseQ = p :: rest) ∧ ((s1 = s.setPort n (fun q =>
    { q with parseQ := rest })) ∧ (∃ (e : WalkEnd) (w : WalkAt), (bits (s.inForce .pgrPortCfg n p.stampCourse) 18 1 = 1) ∧ ((s1.walk (s1.outerWindow
    p) perr.val (fun x => s1.inForce .pgrStallEntry x p.stampCourse) 26
    { slot := bits (s.inForce .pgrPortCfg n p.stampCourse) 0 4, node := bits (s.inForce .pgrPortCfg n p.stampCourse) 8 8, came := bits (s.inForce .pgrPortCfg n p.stampCourse) 8 8, cursor := 0, visits := 0, stall := none, marks := ⟨255, 255, 255⟩ }
    = (e, w)) ∧ (∃ cursor, (e = .cipher cursor) ∧ ((s.cipherQ.length < 512))))))) ∧
  (∃ (s s1 : State) (n : Fin 12) (perr : Fin 25) (p : Pkt) (rest : List Pkt), ((s.port n).parseQ = p :: rest) ∧ ((s1 = s.setPort n (fun q =>
    { q with parseQ := rest })) ∧ (∃ (e : WalkEnd) (w : WalkAt), (bits (s.inForce .pgrPortCfg n p.stampCourse) 18 1 = 1) ∧ ((s1.walk (s1.outerWindow
    p) perr.val (fun x => s1.inForce .pgrStallEntry x p.stampCourse) 26
    { slot := bits (s.inForce .pgrPortCfg n p.stampCourse) 0 4, node := bits (s.inForce .pgrPortCfg n p.stampCourse) 8 8, came := bits (s.inForce .pgrPortCfg n p.stampCourse) 8 8, cursor := 0, visits := 0, stall := none, marks := ⟨255, 255, 255⟩ }
    = (e, w)) ∧ ((e = .steerDrop)))))) :=
  by
  refine ⟨⟨wM, 11, 0, ?_⟩,
  ⟨{ wGraph 0 with staged := [] }, { wGraph 0 with staged := [] }.setPort 1 fun q => { q with parseQ := [] }, 1, 24, newPkt 0 0 0 1 68 0, [], ?_, (rfl),
    ?_⟩,
  ⟨wGraph 528, (wGraph 528).setPort 1 fun q => { q with parseQ := [] }, 1, 0, newPkt 0 0 0 1 68 0, [], ?_, (rfl), (wWalk 528).1, (wWalk 528).2, ?_,
    (rfl), 1, 0, ((((wGraph 528).setPort 1 fun q => { q with parseQ := [] }).charge (newPkt 0 0 0 1 68 0) 2).1.getD wPkt),
    (((wGraph 528).setPort 1 fun q => { q with parseQ := [] }).charge (newPkt 0 0 0 1 68 0) 2).2, ?_, (by decide +kernel)⟩,
  ⟨wGraph 24, (wGraph 24).setPort 1 fun q => { q with parseQ := [] }, 1, 0, newPkt 0 0 0 1 68 0, [], ?_, (rfl), (wWalk 24).1, (wWalk 24).2, ?_, (rfl),
    0, ?_⟩,
  ⟨wGraph 8, (wGraph 8).setPort 1 fun q => { q with parseQ := [] }, 1, 0, newPkt 0 0 0 1 68 0, [], ?_, (rfl), (wWalk 8).1, (wWalk 8).2, ?_, (rfl), ?_⟩⟩ <;> and_intros <;> decide +kernel

theorem witness_InnerWalk :
  (∃ (s : State) (perr : Fin 25), (s.reparseQ = [])) ∧
  (∃ (s s1 : State) (perr : Fin 25) (p : Pkt) (rest : List Pkt) (x en code node : Nat) (w : WalkAt), (s.reparseQ = p :: rest) ∧ ((p.stall = some x) ∧
    ((s1 = { s with reparseQ := rest }) ∧ ((en = s1.inForce .pgrStallEntry x p.stampCourse) ∧ ((bits en 12 1 = 1) ∧ ((s1.walk (s1.innerWindow p)
    perr.val (fun _ => 0) 26
    { slot := bits en 8 4, node := bits en 24 8, came := bits en 24 8, cursor := 0, visits := 0, stall := some x, marks := ⟨if p.port = 12 ∨ p.port = 13 then p.w14 else 0, 255, 255⟩ }
    = (.exit code node, w)))))))) :=
  by
  refine ⟨⟨wM, 24, ?_⟩,
  ⟨{ wGraph 0 with reparseQ := [wPkt] }, { { wGraph 0 with reparseQ := [wPkt] } with reparseQ := [] }, 0, wPkt, [], 2, 4369, 1, 0,
    (({ { wGraph 0 with reparseQ := [wPkt] } with reparseQ := [] } : State).walk ((wGraph 0).innerWindow wPkt) 0 (fun _ => 0) 26 { wStart with slot := 1, stall := some 2, marks := ⟨0, 255, 255⟩ }).2,
    ?_, ?_, (rfl), ?_, ?_, (by decide +kernel)⟩⟩ <;> and_intros <;> decide +kernel

theorem witness_ClassifyLookup :
  (∃ s : State, (s.classQ = [])) ∧
  (∃ (s s1 s2 : State) (p : Pkt) (rest : List Pkt) (x bank ex hash : Nat) (key : List Byte) (dir : Bool) (look : Look), (s.classQ = p :: rest) ∧
    ((p.stall = some x) ∧ ((x < 16) ∧ ((bank = s.inForce .clsBank x p.stampCourse % 2) ∧ ((ex = s.bankWord x bank (p.exitCode % 256)) ∧ ((s.buildKey x
    bank (bits ex 0 4) p (s.window p) = some (key, dir)) ∧ ((s.f F.clsCfg_ENABLE = 1) ∧ ((s.reconciling = false) ∧ ((hash = s.foldHash x key) ∧ ((s1 =
    (State.hotTouch { s with classQ := rest } (buckets hash).1 p.deadline).hotTouch (buckets hash).2 p.deadline) ∧ ((s1.probe x hash key p.deadline
    (slotOrder hash) = (look, s2)) ∧ (∃ h, (look = .hit h))))))))))))) ∧
  (∃ (s s1 s2 : State) (p : Pkt) (rest : List Pkt) (x bank ex hash : Nat) (key : List Byte) (dir : Bool) (look : Look), (s.classQ = p :: rest) ∧
    ((p.stall = some x) ∧ ((x < 16) ∧ ((bank = s.inForce .clsBank x p.stampCourse % 2) ∧ ((ex = s.bankWord x bank (p.exitCode % 256)) ∧ ((s.buildKey x
    bank (bits ex 0 4) p (s.window p) = some (key, dir)) ∧ ((s.f F.clsCfg_ENABLE = 1) ∧ ((s.reconciling = false) ∧ ((hash = s.foldHash x key) ∧ ((s1 =
    (State.hotTouch { s with classQ := rest } (buckets hash).1 p.deadline).hotTouch (buckets hash).2 p.deadline) ∧ ((s1.probe x hash key p.deadline
    (slotOrder hash) = (look, s2)) ∧ ((look = .miss) ∧ ((bits ex 4 2 = 1)))))))))))))) ∧
  (∃ (s s1 s2 : State) (p : Pkt) (rest : List Pkt) (x bank ex hash : Nat) (key : List Byte) (dir : Bool) (look : Look), (s.classQ = p :: rest) ∧
    ((p.stall = some x) ∧ ((x < 16) ∧ ((bank = s.inForce .clsBank x p.stampCourse % 2) ∧ ((ex = s.bankWord x bank (p.exitCode % 256)) ∧ ((s.buildKey x
    bank (bits ex 0 4) p (s.window p) = some (key, dir)) ∧ ((s.f F.clsCfg_ENABLE = 1) ∧ ((s.reconciling = false) ∧ ((hash = s.foldHash x key) ∧ ((s1 =
    (State.hotTouch { s with classQ := rest } (buckets hash).1 p.deadline).hotTouch (buckets hash).2 p.deadline) ∧ ((s1.probe x hash key p.deadline
    (slotOrder hash) = (look, s2)) ∧ ((look = .miss) ∧ ((2 ≤ bits ex 4 2)))))))))))))) ∧
  (∃ (s s1 s2 : State) (p : Pkt) (rest : List Pkt) (x bank ex hash : Nat) (key : List Byte) (dir : Bool) (look : Look), (s.classQ = p :: rest) ∧
    ((p.stall = some x) ∧ ((x < 16) ∧ ((bank = s.inForce .clsBank x p.stampCourse % 2) ∧ ((ex = s.bankWord x bank (p.exitCode % 256)) ∧ ((s.buildKey x
    bank (bits ex 0 4) p (s.window p) = some (key, dir)) ∧ ((s.f F.clsCfg_ENABLE = 1) ∧ ((s.reconciling = false) ∧ ((hash = s.foldHash x key) ∧ ((s1 =
    (State.hotTouch { s with classQ := rest } (buckets hash).1 p.deadline).hotTouch (buckets hash).2 p.deadline) ∧ ((s1.probe x hash key p.deadline
    (slotOrder hash) = (look, s2)) ∧ (∃ h, (look = .wait h))))))))))))) ∧
  (∃ (s : State) (x dl : Nat) (key : List Byte), ((∀ bi ∈ slotOrder (s.foldHash x key), (s.clsSlot bi.1 bi.2).valid = true → s.stnPresent (s.clsSlot bi.1
    bi.2).handle = true))) :=
  by
  refine ⟨⟨wM, ?_⟩,
  ⟨wBound,
    (State.hotTouch { wBound with classQ := [] } (buckets (wBound.foldHash 2 [0x21, 0, 0])).1 wPkt.deadline).hotTouch (buckets (wBound.foldHash 2 [0x21, 0, 0])).2 wPkt.deadline,
    (((State.hotTouch { wBound with classQ := [] } (buckets (wBound.foldHash 2 [0x21, 0, 0])).1 wPkt.deadline).hotTouch (buckets (wBound.foldHash 2 [0x21, 0, 0])).2 wPkt.deadline).probe 2 (wBound.foldHash 2 [0x21, 0, 0]) [0x21, 0, 0] wPkt.deadline (slotOrder (wBound.foldHash 2 [0x21, 0, 0]))).2,
    wPkt, [], 2, 0, 0, wBound.foldHash 2 [0x21, 0, 0], [0x21, 0, 0], false, .hit 1, ?_, ?_, ?_, ?_, ?_, ?_, ?_, ?_, (rfl), (rfl), (Prod.ext ?_ rfl),
    1, ?_⟩,
  ⟨(wCls 16),
    (State.hotTouch { (wCls 16) with classQ := [] } (buckets ((wCls 16).foldHash 2 [0x21, 0, 0])).1 wPkt.deadline).hotTouch (buckets ((wCls 16).foldHash 2 [0x21, 0, 0])).2 wPkt.deadline,
    (((State.hotTouch { (wCls 16) with classQ := [] } (buckets ((wCls 16).foldHash 2 [0x21, 0, 0])).1 wPkt.deadline).hotTouch (buckets ((wCls 16).foldHash 2 [0x21, 0, 0])).2 wPkt.deadline).probe 2 ((wCls 16).foldHash 2 [0x21, 0, 0]) [0x21, 0, 0] wPkt.deadline (slotOrder ((wCls 16).foldHash 2 [0x21, 0, 0]))).2,
    wPkt, [], 2, 0, 16, (wCls 16).foldHash 2 [0x21, 0, 0], [0x21, 0, 0], false, .miss, ?_, ?_, ?_, ?_, ?_, ?_, ?_, ?_, (rfl), (rfl),
    (Prod.ext ?_ rfl), ?_⟩,
  ⟨(wCls 32),
    (State.hotTouch { (wCls 32) with classQ := [] } (buckets ((wCls 32).foldHash 2 [0x21, 0, 0])).1 wPkt.deadline).hotTouch (buckets ((wCls 32).foldHash 2 [0x21, 0, 0])).2 wPkt.deadline,
    (((State.hotTouch { (wCls 32) with classQ := [] } (buckets ((wCls 32).foldHash 2 [0x21, 0, 0])).1 wPkt.deadline).hotTouch (buckets ((wCls 32).foldHash 2 [0x21, 0, 0])).2 wPkt.deadline).probe 2 ((wCls 32).foldHash 2 [0x21, 0, 0]) [0x21, 0, 0] wPkt.deadline (slotOrder ((wCls 32).foldHash 2 [0x21, 0, 0]))).2,
    wPkt, [], 2, 0, 32, (wCls 32).foldHash 2 [0x21, 0, 0], [0x21, 0, 0], false, .miss, ?_, ?_, ?_, ?_, ?_, ?_, ?_, ?_, (rfl), (rfl),
    (Prod.ext ?_ rfl), ?_⟩,
  ⟨wFullSet,
    (State.hotTouch { wFullSet with classQ := [] } (buckets (wFullSet.foldHash 2 [0x21, 0, 0])).1 wPkt.deadline).hotTouch (buckets (wFullSet.foldHash 2 [0x21, 0, 0])).2 wPkt.deadline,
    (((State.hotTouch { wFullSet with classQ := [] } (buckets (wFullSet.foldHash 2 [0x21, 0, 0])).1 wPkt.deadline).hotTouch (buckets (wFullSet.foldHash 2 [0x21, 0, 0])).2 wPkt.deadline).probe 2 (wFullSet.foldHash 2 [0x21, 0, 0]) [0x21, 0, 0] wPkt.deadline (slotOrder (wFullSet.foldHash 2 [0x21, 0, 0]))).2,
    wPkt, [], 2, 0, 0, wFullSet.foldHash 2 [0x21, 0, 0], [0x21, 0, 0], false, .wait 1, ?_, ?_, ?_, ?_, ?_, ?_, ?_, ?_, (rfl), (rfl),
    (Prod.ext ?_ rfl), 1, ?_⟩,
  ⟨wBound, 3, 0, [], ?_⟩⟩ <;> and_intros <;> decide +kernel

theorem witness_BucketsDiffer :
  ∃ h : Nat, (h < 2 ^ 32) :=
  by
  refine ⟨0x80002000, ?_⟩ <;> and_intros <;> decide +kernel

theorem witness_PairedKey :
  ∃ (s : State) (x bank prof : Nat) (p : Pkt) (win win' : List Byte) (key key' : List Byte) (d d' : Bool), (bits (s.bankWord x bank (256 + 32 * prof)) 8
    1 = 1) ∧ ((win.length = win'.length) ∧ (((∀ ds, ds = (List.range (bits (s.bankWord x bank (256 + 32 * prof)) 9 4)).map (fun i => s.keyDesc x bank
    prof i) → roleBytes p win' ds 0 = roleBytes p win ds 0 ∧ roleBytes p win' ds 1 = roleBytes p win ds 2 ∧ roleBytes p win' ds 2 = roleBytes p win ds
    1 ∧ roleBytes p win' ds 3 = roleBytes p win ds 4 ∧ roleBytes p win' ds 4 = roleBytes p win ds 3 ∧ (∀ e ∈ ds, e.role = 0 → descBytes p win' e =
    descBytes p win e))) ∧ ((s.buildKey x bank prof p win = some (key, d)) ∧ ((s.buildKey x bank prof p win' = some (key', d')))))) :=
  by
  refine ⟨{ wM with clsBanks := [(4 * 768 + 256, 0x521), (4 * 768 + 258, 0x100), (4 * 768 + 259, 1), (4 * 768 + 260, 0x101), (4 * 768 + 261, 2)] }, 2, 0, 0,
    wPkt, [2, 1], [1, 2], [0x21, 1, 2], [0x21, 1, 2], true, false, ?_, ?_, (by rintro ds rfl; decide +kernel), ?_⟩ <;> and_intros <;> decide +kernel

theorem witness_Bind :
  (∃ (s : State) (a : Accessor) (x : Target) (v : Word32) (h y : Nat), (s.permits a .clsBindCmd x 0 (withField v 20 2 1)) ∧ (((∀ z, a = .session z →
    s.isShadow = false)) ∧ ((h = bits v.toNat 0 20) ∧ ((y = (if x.val = 16 then bits v.toNat 24 4 else x.val)))))) ∧
  (∃ (s : State) (a : Accessor) (x : Target) (v : Word32) (h y : Nat), (s.permits a .clsBindCmd x 0 (withField v 20 2 2)) ∧ (((∀ z, a = .session z →
    s.isShadow = false)) ∧ ((h = bits v.toNat 0 20) ∧ ((y = (if x.val = 16 then bits v.toNat 24 4 else x.val)))))) :=
  by
  refine ⟨⟨wBound, .session 2, 2, 0x100001, 1, 2, ?_⟩,
  ⟨wBound, .debugger, 16, 0x02200001, 1, 2, ?_⟩⟩ <;> and_intros <;> decide +kernel

theorem witness_ClassifierLoading :
  (∃ (s : State) (a : Accessor) (x : Target) (v : Word32) (y bank i : Nat), (s.permits a .clsLoadData x 0 v.toNat) ∧ ((s.clsPtr x = (y, bank, i)) ∧
    ((s.bankActive y bank = false) ∧ (((x.val = 16 → s.f F.scpStallState_STATE y ≠ 0)))))) ∧
  (∃ (s : State) (a : Accessor) (x : Target) (v : Word32) (y bank i : Nat), (s.permits a .clsLoadData x 0 v.toNat) ∧ ((s.clsPtr x = (y, bank, i)) ∧
    ((s.bankActive y bank = true)))) ∧
  (∃ (s : State) (a : Accessor) (x : StallId) (v : Word32), (s.permits a .clsBank x 0 v.toNat)) ∧
  (∃ (s : State) (a : Accessor) (v : Word32), (s.permits a .clsCfg 0 0 (withField v 16 1 1))) ∧
  (∃ s : State, (s.reconciling = true) ∧ ((s.stl.recover = none))) ∧
  (∃ s : State, (s.stl.recover ≠ none)) :=
  by
  refine ⟨⟨(wM.setF F.clsLoadPtr_BANK 2 1).setF F.clsLoadPtr_INDEX 2 766, .session 2, 2, 5, 2, 1, 766, ?_⟩,
  ⟨wM.setF F.clsLoadPtr_INDEX 2 768, .session 2, 2, 5, 2, 0, 0, ?_⟩,
  ⟨wM, .session 15, 15, 1, ?_⟩,
  ⟨wM, .debugger, 0, ?_⟩,
  ⟨{ wM with reconciling := true }, ?_⟩,
  ⟨wM.setStl fun u => { u with recover := some 0 }, ?_⟩⟩ <;> and_intros <;> decide +kernel

theorem witness_StationCache :
  (∃ (s : State) (h : Fin 1048576), (s.stnPresent h = true)) ∧
  (∃ (s : State) (h : Fin 1048576), (s.stnPresent h = false) ∧ (((s.stn.filter fun e => e.1 % 4096 == h.val % 4096).length < 16))) ∧
  (∃ (s : State) (h : Fin 1048576) (v : Nat), (s.stnPresent h = false) ∧ ((16 ≤ (s.stn.filter fun e => e.1 % 4096 == h.val % 4096).length) ∧
    ((s.stnVictim h = some v)))) ∧
  (∃ (s : State) (h : Fin 1048576), (s.stnReady h = false)) ∧
  (∃ (s : State) (h : Fin 1048576), (s.cleanDue h = true)) ∧
  (∃ (s : State) (h : Fin 1048576), (s.cleanDue h = false)) :=
  by
  refine ⟨⟨{ wM with stn := [(1048575, StnLine.reset)] }, 1048575, ?_⟩,
  ⟨wM, 0, ?_⟩,
  ⟨wSet wM 0 { StnLine.reset with used := 1 }, 0, 4096, ?_⟩,
  ⟨wFullSet, 1, ?_⟩,
  ⟨{ (wM.setTime fun t => { t with course := 3 }).setF F.stnCfg_CLEAN_COURSES 0 1 with stn := [(7, { StnLine.reset with dirty := [0] })] }, 7, ?_⟩,
  ⟨wM, 7, ?_⟩⟩ <;> and_intros <;> decide +kernel

theorem witness_StationRange :
  (∃ (s : State) (a : Accessor) (x : StallId) (v : Word32) (base n : Nat), (s.permits a .stnRange x 0 v.toNat) ∧ ((base = bits v.toNat 0 10) ∧ ((n = bits
    v.toNat 10 11) ∧ ((base + n ≤ 1024) ∧ (((∀ y, y < 16 → y ≠ x.val → n = 0 ∨ s.f F.stnRange_BLOCKS y = 0 ∨ s.f F.stnRange_BASE y + s.f
    F.stnRange_BLOCKS y ≤ base ∨ base + n ≤ s.f F.stnRange_BASE y)) ∧ (((∀ b, s.f F.stnRange_BASE x ≤ b → b < s.f F.stnRange_BASE x + s.f
    F.stnRange_BLOCKS x → (b < base ∨ base + n ≤ b) → s.blockBound b = false)))))))) ∧
  (∃ (s : State) (a : Accessor) (x : StallId) (v : Word32), (s.permits a .stnRange x 0 v.toNat) ∧ ((1024 < bits v.toNat 0 10 + bits v.toNat 10 11))) ∧
  (∃ (s : State) (x : Fin 16), (s.rangeZero.get [] x ≠ [])) :=
  by
  refine ⟨⟨wM, .debugger, 3, 0x10000FF, 255, 0, ?_, ?_, ?_, ?_, ?_,
    (by intro b h1 h2; have e : wM.f F.stnRange_BASE 3 + wM.f F.stnRange_BLOCKS 3 = 0 := (by decide +kernel); exact absurd (Nat.lt_of_lt_of_eq h2 e) (Nat.not_lt_zero b))⟩,
  ⟨wM, .debugger, 3, 0x1003FF, ?_⟩,
  ⟨{ wM with rangeZero := [(3, [5])] }, 3, ?_⟩⟩ <;> and_intros <;> decide +kernel

theorem witness_StationScan :
  (∃ (s : State) (a : Accessor) (x : Target) (v : Word32), (s.permits a .stnCmdCmd x 0 (withField v 0 2 1)) ∧ (((∀ sc, s.scans.get none x = some sc →
    sc.kind ≠ 3)))) ∧
  (∃ (s : State) (a : Accessor) (x : Target) (v : Word32), (s.permits a .stnCmdCmd x 0 (withField v 0 2 2)) ∧ (((∀ sc, s.scans.get none x = some sc →
    sc.kind ≠ 3)))) ∧
  (∃ (s : State) (a : Accessor) (x : Target) (v : Word32), (s.permits a .stnCmdCmd x 0 (withField v 0 2 3)) ∧ (((∀ sc, s.scans.get none x = some sc →
    sc.kind ≠ 3)) ∧ ((s.maintBusy (flushId x) = none)))) ∧
  (∃ (s : State) (x : Fin 17) (sc : Scan), (s.scans.get none x = some sc) ∧ ((sc.done = true) ∧ ((sc.kind = 1)))) ∧
  (∃ (s : State) (x : Fin 17) (sc : Scan), (s.scans.get none x = some sc) ∧ ((sc.done = true) ∧ ((sc.kind = 3)))) :=
  by
  refine ⟨⟨wM, .session 16, 16, 0, ?_, (by intro sc h; have e : wM.scans.get none 16 = none := (by decide +kernel); exact absurd (e.symm.trans h) (by simp))⟩,
  ⟨wM, .session 0, 0, 0, ?_, (by intro sc h; have e : wM.scans.get none 0 = none := (by decide +kernel); exact absurd (e.symm.trans h) (by simp))⟩,
  ⟨wM, .session 0, 0, 0, ?_, (by intro sc h; have e : wM.scans.get none 0 = none := (by decide +kernel); exact absurd (e.symm.trans h) (by simp)), ?_⟩,
  ⟨{ wM with scans := [(16, some { kind := 1, found := some 9, port := 3, at_ := 9, stop := 1048576, since := 0, counted := 0, done := true })] }, 16,
    { kind := 1, found := some 9, port := 3, at_ := 9, stop := 1048576, since := 0, counted := 0, done := true }, ?_⟩,
  ⟨{ wM with scans := [(0, some { kind := 3, found := none, port := 3, at_ := 1048576, stop := 1048576, since := 0, counted := 2, done := true })] }, 0,
    { kind := 3, found := none, port := 3, at_ := 1048576, stop := 1048576, since := 0, counted := 2, done := true }, ?_⟩⟩ <;> and_intros <;> decide +kernel

theorem witness_AgeSweep :
  (∃ (s : State) (a : Accessor) (x : StallId) (v : Word32), (s.permits a .stnLearnSweep x 0 (withField v 17 1 1))) ∧
  (∃ (s : State) (x : Fin 16), (s.f F.stnLearnSweep_PERIOD x ≠ 0) ∧ ((s.sweepAt.get 0 x + s.f F.stnLearnSweep_PERIOD x ≤ s.course))) ∧
  (∃ (s : State) (x : Fin 16) (sc : Scan), (s.sweeps.get none x = some sc) ∧ ((sc.done = true))) :=
  by
  refine ⟨⟨wM, .session 15, 15, 0, ?_⟩,
  ⟨(wM.setTime fun t => { t with course := 7 }).setF F.stnLearnSweep_PERIOD 15 7, 15, ?_⟩,
  ⟨{ wM with sweeps := [(15, some { kind := 4, found := none, port := 3, at_ := 0, stop := 0, since := 0, counted := 0, done := true })] }, 15,
    { kind := 4, found := none, port := 3, at_ := 0, stop := 0, since := 0, counted := 0, done := true }, ?_⟩⟩ <;> and_intros <;> decide +kernel

theorem witness_Learning :
  (∃ s : State, (s.learnQ = [])) ∧
  (∃ (s : State) (p : Pkt) (rest : List Pkt), (s.learnQ = p :: rest) ∧ (((10 ≤ p.port ∨ bits (s.f F.stnLearnCtl_PORTS (p.stall.getD 0)) p.port 1 = 0)))) ∧
  (∃ (s : State) (p : Pkt) (rest : List Pkt), (s.learnQ = p :: rest) ∧ ((s.learns p = true) ∧ ((s.stnReady (p.station % 2 ^ 20) = false)))) ∧
  (∃ (s : State) (p : Pkt) (rest : List Pkt) (x h : Nat), (s.learnQ = p :: rest) ∧ ((p.port < 10) ∧ ((p.stall = some x) ∧ ((x < 16) ∧ ((bits (s.f
    F.stnLearnCtl_PORTS x) p.port 1 = 1) ∧ ((h = p.station % 2 ^ 20) ∧ ((s.stnPresent h = true) ∧ ((s.stnFlag h 1 = true))))))))) :=
  by
  refine ⟨⟨wM, ?_⟩,
  ⟨{ wM with learnQ := [{ wPkt with port := 10 }] }, { wPkt with port := 10 }, [], ?_⟩,
  ⟨{ wFullSet.setF F.stnLearnCtl_PORTS 2 2 with learnQ := [{ wPkt with station := 1 }] }, { wPkt with station := 1 }, [], ?_⟩,
  ⟨{ wM.setF F.stnLearnCtl_PORTS 2 2 with learnQ := [{ wPkt with station := 4096 }], stn := [(4096, { StnLine.reset with words := [(0, 3)] })] },
    { wPkt with station := 4096 }, [], 2, 4096, ?_⟩⟩ <;> and_intros <;> decide +kernel

theorem witness_CipherInbound :
  (∃ s : State, (s.cipherDue = false)) ∧
  (∃ (s : State) (p : Pkt) (info : EspInfo), (s.cipherDue = true) ∧ ((s.cipherNext = some p) ∧ ((p.esp = some info) ∧ (((s.f F.espCfg_ENABLE = 0 ∨
    (s.chainBytes p.cell 0 (p.len - 4)).length < info.cursor + 4 ∨ s.spiStall (be32 (s.chainBytes p.cell 0 (p.len - 4)) info.cursor) = none)))))) ∧
  (∃ (s s1 : State) (p : Pkt) (info : EspInfo) (bs : List Byte) (x : Nat), (s.cipherDue = true) ∧ ((s.cipherNext = some p) ∧ ((p.esp = some info) ∧ ((s.f
    F.espCfg_ENABLE = 1) ∧ ((bs = s.chainBytes p.cell 0 (p.len - 4)) ∧ ((info.cursor + 4 ≤ bs.length) ∧ ((s.spiStall (be32 bs info.cursor) = some x) ∧
    ((p.port < 12) ∧ ((State.charge { s with cipherQ := s.cipherQ.erase p } p x = (none, s1))))))))))) ∧
  (∃ (s s1 : State) (p q : Pkt) (info : EspInfo) (bs : List Byte) (x spi i low fin : Nat), (s.cipherDue = true) ∧ ((s.cipherNext = some p) ∧ ((p.esp =
    some info) ∧ ((s.f F.espCfg_ENABLE = 1) ∧ ((bs = s.chainBytes p.cell 0 (p.len - 4)) ∧ ((spi = be32 bs info.cursor) ∧ ((i = spi % 2 ^ 21) ∧ ((low =
    be32 bs (info.cursor + 4)) ∧ ((fin = min (ipEnd bs info.l3) bs.length) ∧ ((info.cursor + 4 ≤ bs.length) ∧ ((s.spiStall spi = some x) ∧ (((if
    p.port < 12 then State.charge { s with cipherQ := s.cipherQ.erase p } p x else (some p, { s with cipherQ := s.cipherQ.erase p })) = (some q,
    s1)))))))))))))) :=
  by
  refine ⟨⟨wM, ?_⟩,
  ⟨{ wM with cipherQ := [{ wPkt with esp := some wEsp, len := 94 }] }, { wPkt with esp := some wEsp, len := 94 }, wEsp, ?_⟩,
  ⟨wSa.setF F.pkmPoolLimit_LIMIT 2 0, (State.charge { wSa.setF F.pkmPoolLimit_LIMIT 2 0 with cipherQ := [] } wEspPkt 2).2, wEspPkt, wEsp,
    wSa.chainBytes 0 0 90, 2, ?_, ?_, ?_, ?_, ?_, ?_, ?_, ?_, (Prod.ext ?_ rfl)⟩,
  ⟨wSa, (State.charge { wSa with cipherQ := [] } wEspPkt 2).2, wEspPkt, ((State.charge { wSa with cipherQ := [] } wEspPkt 2).1.getD wPkt), wEsp,
    wSa.chainBytes 0 0 90, 2, 0x100, 256, 1, 90, ?_, ?_, ?_, ?_, ?_, ?_, ?_, ?_, ?_, ?_, ?_, (Prod.ext ?_ rfl)⟩⟩ <;> and_intros <;> decide +kernel

theorem witness_CipherAccepts :
  (∃ (s : State) (p : Pkt) (x spi n fin pad nh : Nat) (info : EspInfo) (bs key nonce plain : List Byte), (s.saFlag (spi % 2 ^ 21) 2 = true) ∧ ((n < 2 ^
    64) ∧ ((nonce = s.saBytes (spi % 2 ^ 21) 12 4 ++ espIv bs info.cursor) ∧ ((gcmSeal key nonce (s.espAad (spi % 2 ^ 21) spi n) (espCt bs info.cursor
    fin) = espIcv bs fin) ∧ ((plain = gcmText key nonce (espCt bs info.cursor fin)) ∧ ((2 ≤ plain.length) ∧ ((pad = (plain.getD (plain.length - 2)
    0).toNat) ∧ ((nh = (plain.getD (plain.length - 1) 0).toNat) ∧ ((pad + 2 ≤ plain.length) ∧ (((∀ k, k < pad → (plain.getD (plain.length - 2 - pad +
    k) 0).toNat = (k + 1) % 256)) ∧ (((nh = 4 ∨ nh = 41)) ∧ (∃ inner, (inner = (plain.take (plain.length - 2 - pad)).take (innerLen (plain.take
    (plain.length - 2 - pad)))) ∧ (((s.takeCells none x (cellsFor inner.length)).isSome = true)))))))))))))) ∧
  (∃ (s : State) (p : Pkt) (x spi n fin pad nh : Nat) (info : EspInfo) (bs key nonce plain : List Byte), (s.saFlag (spi % 2 ^ 21) 2 = true) ∧ ((n < 2 ^
    64) ∧ ((nonce = s.saBytes (spi % 2 ^ 21) 12 4 ++ espIv bs info.cursor) ∧ ((gcmSeal key nonce (s.espAad (spi % 2 ^ 21) spi n) (espCt bs info.cursor
    fin) = espIcv bs fin) ∧ ((plain = gcmText key nonce (espCt bs info.cursor fin)) ∧ ((2 ≤ plain.length) ∧ ((pad = (plain.getD (plain.length - 2)
    0).toNat) ∧ ((nh = (plain.getD (plain.length - 1) 0).toNat) ∧ ((pad + 2 ≤ plain.length) ∧ (((∀ k, k < pad → (plain.getD (plain.length - 2 - pad +
    k) 0).toNat = (k + 1) % 256)) ∧ (((nh = 4 ∨ nh = 41))))))))))))) :=
  by
  refine ⟨⟨wSa, wEspPkt, 2, 0x100, 1, 90, 2, 4, wEsp, wSa.chainBytes 0 0 90, bytes (List.range 16), wSa.saBytes 256 12 4 ++ espIv (wSa.chainBytes 0 0 90) 34,
    bytes (bytesOf 24 0x450000140000000000000000000000000000000001020204), ?_, ?_, ?_, ?_, ?_, ?_, ?_, ?_, ?_, ?_, ?_,
    bytes (bytesOf 20 0x4500001400000000000000000000000000000000), ?_⟩,
  ⟨wSa, wEspPkt, 2, 0x100, 1, 90, 2, 4, wEsp, wSa.chainBytes 0 0 90, bytes (List.range 16), wSa.saBytes 256 12 4 ++ espIv (wSa.chainBytes 0 0 90) 34,
    bytes (bytesOf 24 0x450000140000000000000000000000000000000001020204), ?_⟩⟩ <;> and_intros <;> decide +kernel

theorem witness_CellOperations :
  (∃ (s : State) (a : Accessor) (x : Target) (v : Word32) (stall n : Nat) (hs : List Nat) (s1 : State), (s.permits a .pkmCellCmd x 0 (withField v 0 3 1))
    ∧ ((stall = (if x.val = 16 then bits v.toNat 16 4 else x.val)) ∧ ((n = bits v.toNat 8 6) ∧ ((0 < n) ∧ ((n ≤ 36) ∧ ((s.used stall + n ≤ s.f
    F.pkmPoolLimit_LIMIT stall) ∧ ((n ≤ s.freeIn 12 + s.freeIn 13 + s.freeIn 14 + s.freeIn 15) ∧ (((∀ u, accThread a = some u → (s.chains.get []
    u).length < 8)) ∧ ((s.takeCells none stall n = some (hs, s1))))))))))) ∧
  (∃ (s : State) (a : Accessor) (x : Target) (v : Word32) (stall n : Nat), (s.permits a .pkmCellCmd x 0 (withField v 0 3 1)) ∧ ((stall = (if x.val = 16
    then bits v.toNat 16 4 else x.val)) ∧ ((n = bits v.toNat 8 6)))) ∧
  (∃ (s : State) (a : Accessor) (x : Target) (v : Word32) (k : Fin 64) (ecc : Ecc) (stall h n : Nat), (s.permits a .pkmCellCmd x 0 (withField v 0 3 2)) ∧
    ((ecc ≠ .double) ∧ ((stall = (if x.val = 16 then bits v.toNat 16 4 else x.val)) ∧ ((h = s.rdA a.num .pkmCellHandle x 0) ∧ ((n = bits v.toNat 8 6)
    ∧ ((h < 2 ^ 18) ∧ (((∀ c ∈ (if n = 0 then s.chain h else (s.chain h).take n), (s.cell c).alloc = true ∧ s.cellOwned x stall c = true)) ∧ (((s.cell
    h).held = false))))))))) ∧
  (∃ (s : State) (a : Accessor) (x : Target) (v : Word32) (k : Fin 64) (ecc : Ecc) (stall h n : Nat), (s.permits a .pkmCellCmd x 0 (withField v 0 3 2)) ∧
    ((ecc ≠ .double) ∧ ((stall = (if x.val = 16 then bits v.toNat 16 4 else x.val)) ∧ ((h = s.rdA a.num .pkmCellHandle x 0) ∧ ((n = bits v.toNat 8 6)
    ∧ ((h < 2 ^ 18) ∧ (((s.cell h).alloc = false)))))))) ∧
  (∃ (s : State) (a : Accessor) (x : Target) (v : Word32), (s.permits a .pkmCellCmd x 0 (withField v 0 3 3)) ∧ ((s.rdA a.num .pkmCellHandle x 0 < 2 ^
    18))) ∧
  (∃ (s : State) (a : Accessor) (x : Target) (v : Word32) (ecc : Ecc) (stall h : Nat), (s.permits a .pkmCellCmd x 0 (withField v 0 3 4)) ∧ ((ecc ≠
    .double) ∧ ((stall = (if x.val = 16 then bits v.toNat 16 4 else x.val)) ∧ ((h = s.rdA a.num .pkmCellHandle x 0) ∧ ((h < 2 ^ 18) ∧ (((s.cell
    h).alloc = true) ∧ ((s.cellOwned x stall h = true) ∧ (((s.cell h).owner < 32))))))))) ∧
  (∃ (s : State) (a : Accessor) (x : Target) (v : Word32) (k : Fin 64) (h c : Nat), (s.permits a .pkmCellCmd x 0 (withField v 0 3 2)) ∧ ((h = s.rdA a.num
    .pkmCellHandle x 0) ∧ ((h < 2 ^ 18) ∧ (((s.cellsRead h (withField v 0 3 2))[k.val]? = some c))))) ∧
  (∃ (s : State) (a : Accessor) (x : Target) (v : Word32) (h : Nat), (s.permits a .pkmCellCmd x 0 (withField v 0 3 4)) ∧ ((h = s.rdA a.num .pkmCellHandle
    x 0) ∧ ((h < 2 ^ 18)))) :=
  by
  refine ⟨⟨wRun, .session 2, 2, 36 * 256, 2, 36, ((wRun.takeCells none 2 36).getD ([], wRun)).1, ((wRun.takeCells none 2 36).getD ([], wRun)).2, ?_, ?_, ?_, ?_,
    ?_, ?_, ?_, (by intro u h; cases h), ?_⟩,
  ⟨wRun, .debugger, 16, 0x20100, 2, 1, ?_⟩,
  ⟨wCell 7 2 0 1034 2, .session 2, 2, 0, 63, .ok, 2, 7, 0, ?_⟩,
  ⟨wRun.wrA 1034 .pkmCellHandle 2 0 0x3FFFF, .session 2, 2, 0x3F00, 0, .corrected, 2, 0x3FFFF, 63, ?_⟩,
  ⟨wRun, .session 2, 2, 0, ?_⟩,
  ⟨wCell 7 16 0x3FFFF 1049 16, .debugger, 16, 0, .ok, 0, 7, ?_⟩,
  ⟨wCell 7 2 0 1034 2, .session 2, 2, 0, 0, 7, 7, ?_⟩,
  ⟨wCell 7 2 0 1034 2, .session 2, 2, 0, 7, ?_⟩⟩ <;> and_intros <;> decide +kernel

theorem witness_DispatchDecide :
  (∃ s : State, (s.dispQ = [])) ∧
  (∃ (s : State) (p : Pkt) (rest : List Pkt) (x c : Nat), (s.dispQ = p :: rest) ∧ ((p.stall = some x) ∧ ((x < 16) ∧ ((s.holdsFrames = false) ∧ ((s.runs x
    = true) ∧ ((s.closed x p.course = false) ∧ (((s.f F.dspStallBudget_FRAMES x = 0 ∨ s.admittedIn x p.course < s.f F.dspStallBudget_FRAMES x)) ∧ ((c
    = s.mapFor x p.course p.bucket) ∧ ((s.inService c x = true) ∧ (((s.clusterQ.get [] c).length < 512))))))))))) ∧
  (∃ (s : State) (p : Pkt) (rest : List Pkt) (x : Nat), (s.dispQ = p :: rest) ∧ ((p.stall = some x) ∧ ((x < 16) ∧ ((s.holdsFrames = false) ∧ ((s.runs x =
    false)))))) ∧
  (∃ (s : State) (p : Pkt) (rest : List Pkt) (x : Nat), (s.dispQ = p :: rest) ∧ ((p.stall = some x) ∧ ((x < 16) ∧ ((s.holdsFrames = false) ∧ ((s.runs x =
    true) ∧ (((s.closed x p.course = true ∨ (s.f F.dspStallBudget_FRAMES x ≠ 0 ∧ s.f F.dspStallBudget_FRAMES x ≤ s.admittedIn x p.course) ∨
    s.inService (s.mapFor x p.course p.bucket) x = false ∨ 512 ≤ (s.clusterQ.get [] (s.mapFor x p.course p.bucket)).length)))))))) ∧
  (∃ (s : State) (p : Pkt) (rest : List Pkt), (s.dispQ = p :: rest) ∧ ((s.holdsFrames = true) ∧ ((p.port < 8)))) ∧
  (∃ (s : State) (p : Pkt) (rest : List Pkt), (s.dispQ = p :: rest) ∧ ((s.holdsFrames = true) ∧ ((8 ≤ p.port)))) :=
  by
  refine ⟨⟨wRun, ?_⟩,
  ⟨{ wRun with dispQ := [{ wPkt with hash := 4095 }] }, { wPkt with hash := 4095 }, [], 2, 0, ?_⟩,
  ⟨{ wRun.setF F.supCtl_ADMIT 0 0 with dispQ := [wPkt] }, wPkt, [], 2, ?_⟩,
  ⟨{ wRun.setF F.dspStallBudget_FRAMES 2 1 with dispQ := [wPkt], admitted := [(8, (0, 1))] }, wPkt, [], 2, ?_⟩,
  ⟨{ wRun.setF F.stlStatus_STATE 0 4 with dispQ := [{ wPkt with port := 7 }] }, { wPkt with port := 7 }, [], ?_⟩,
  ⟨{ wRun.setF F.stlStatus_STATE 0 4 with dispQ := [{ wPkt with port := 8 }] }, { wPkt with port := 8 }, [], ?_⟩⟩ <;> and_intros <;> decide +kernel

theorem witness_AdmissionAndDefer :
  ∃ (s : State) (x : StallId), (s.course ≠ 0) ∧ ((s.closed x (s.course - 1) = true)) :=
  by
  refine ⟨(wRun.setTime fun t => { t with course := 2 }).setF F.dspStallCtl_MIN_RUN 15 4095, 15, ?_⟩ <;> and_intros <;> decide +kernel

theorem witness_SlotAndPost :
  (∃ (s : State) (c : Fin 16), (s.clusterQ.get [] c = [])) ∧
  (∃ (s : State) (c : Fin 16) (p : Pkt) (rest : List Pkt) (u : Nat), (s.clusterQ.get [] c = p :: rest) ∧ ((s.fillThread c = some u) ∧ ((s.closed
    (p.stall.getD 0) p.course = true)))) ∧
  (∃ (s : State) (c : Fin 16) (p : Pkt) (rest : List Pkt) (u : Nat), (s.clusterQ.get [] c = p :: rest) ∧ ((s.fillThread c = some u) ∧ ((s.closed
    (p.stall.getD 0) p.course = false)))) ∧
  (∃ (s : State) (u : Fin 1024) (i : Fin 4) (p : SlotPkt), ((s.th u).slot i = some p) ∧ ((p.phase = 0) ∧ ((((s.chanQ (chanKey (clusterOf u) 0)).filter
    fun m => m.dest == u.val).length < 4)))) :=
  by
  refine ⟨⟨wRun, 15, ?_⟩,
  ⟨(({ wSlot 63 2 with clusterQ := [(0, [wPkt])] }.setF F.schThread_CLASS 63 1).setF F.dspStallCtl_MIN_RUN 2 4095).setTime fun t => { t with course := 2 },
    0, wPkt, [], 63, ?_⟩,
  ⟨{ wSlot 63 2 with clusterQ := [(0, [wPkt])] }.setF F.schThread_CLASS 63 1, 0, wPkt, [], 63, ?_⟩,
  ⟨wSlot 63 0, 63, 3, wSlotPkt 0, ?_⟩⟩ <;> and_intros <;> decide +kernel

theorem witness_Retire :
  (∃ (s : State) (c : Fin 16), (s.chanQ (chanKey c 1) = [])) ∧
  (∃ (s : State) (c : Fin 16) (m : Msg) (rest : List Msg) (i v : Nat) (p : SlotPkt), (s.chanQ (chanKey c 1) = m :: rest) ∧ ((i = (m.words.headD 0).toNat
    % 4) ∧ ((v = bits (m.words.headD 0).toNat 2 2) ∧ (((s.th m.sender).slot i = some p) ∧ ((p.phase = 3) ∧ (((v = 1 ∨ v = 2)))))))) ∧
  (∃ (s : State) (c : Fin 16) (m : Msg) (rest : List Msg), (s.chanQ (chanKey c 1) = m :: rest) ∧ (((∀ p, (s.th m.sender).slot ((m.words.headD 0).toNat %
    4) = some p → p.phase ≠ 3)))) :=
  by
  refine ⟨⟨wRun, 15, ?_⟩,
  ⟨{ wSlot 63 3 with chans := [(1, [{ words := [11], sender := 63, dest := 0, at_ := 1 }])] }, 0, { words := [11], sender := 63, dest := 0, at_ := 1 },
    [], 3, 2, wSlotPkt 3, ?_⟩,
  ⟨{ wSlot 63 2 with chans := [(1, [{ words := [15], sender := 63, dest := 0, at_ := 1 }])] }, 0, { words := [15], sender := 63, dest := 0, at_ := 1 },
    [], ?_, (by intro p h h3; exact absurd (congrArg (Option.map SlotPkt.phase) h) (by rw [Option.map_some, h3]; decide +kernel))⟩⟩ <;> and_intros <;> decide +kernel

theorem witness_PacketDeadline :
  ∃ s : State, (s.deadlineDue = true) :=
  by
  refine ⟨(wSlot 63 2).setTime fun t => { t with course := 2 }, ?_⟩ <;> and_intros <;> decide +kernel

theorem witness_TurnGrant :
  (∃ (s : State) (u : Tid) (i : Fin 4) (p : SlotPkt) (r : FarReq), ((s.th u).slot i = some p) ∧ ((p.phase = 2) ∧ ((p.turn = false) ∧
    ((p.pkt.handle.isSome = true) ∧ ((s.turnOk (clusterOf u) p.pkt = true) ∧ (((s.th u).wait = .far r) ∧ ((r.turnWait = true)))))))) ∧
  (∃ (s : State) (u : Tid) (i : Fin 4) (p : SlotPkt), ((s.th u).slot i = some p) ∧ ((s.turnOk (clusterOf u) p.pkt = false))) ∧
  (∃ (s : State) (c : Nat) (p : Pkt) (e : Nat × Nat × SlotPkt), (s.turnOk c p = true) ∧ ((e ∈ s.clusterPackets c) ∧ ((e.2.2.pkt.handle = p.handle)))) :=
  by
  refine ⟨⟨(wSlot 63 2).setTh 63 fun th => { th with wait := .far wFar }, 63, 3, wSlotPkt 2, wFar, ?_⟩,
  ⟨{ wSlot 63 2 with fences := [{ stall := 2, bucket := 0, old := 1, new := 0, course := 0 }] }, 63, 3, wSlotPkt 2, ?_⟩,
  ⟨wSlot 63 2, 0, (wSlotPkt 2).pkt, (63, 3, wSlotPkt 2), ?_⟩⟩ <;> and_intros <;> decide +kernel

theorem witness_BucketMaps :
  (∃ (s : State) (a : Accessor) (x : Target) (v : Word32) (y bank i : Nat), (s.permits a .dspMaploadData x 0 v.toNat) ∧ ((s.mapPtr x = (y, bank, i)) ∧
    ((bank ≠ s.activeBank y) ∧ (((x.val = 16 → s.f F.scpStallState_STATE y ≠ 0)))))) ∧
  (∃ (s : State) (a : Accessor) (x : Target) (v : Word32) (y bank i : Nat), (s.permits a .dspMaploadData x 0 v.toNat) ∧ ((s.mapPtr x = (y, bank, i)) ∧
    ((bank = s.activeBank y)))) ∧
  (∃ (s : State) (a : Accessor) (x : StallId) (v : Word32), (s.permits a .dspStallMap x 0 (withField v 0 1 1)) ∧ (((∀ b, b < 4096 → s.inService
    (s.mapEntry x (1 - s.activeBank x) b) x = true)) ∧ ((s.maintBusy (0x50 + x) = none)))) ∧
  (∃ (s : State) (a : Accessor) (x : StallId) (v : Word32), (s.permits a .dspStallMap x 0 (withField v 0 1 1)) ∧ (∃ b, (b < 4096) ∧ ((s.inService
    (s.mapEntry x (1 - s.activeBank x) b) x = false)))) :=
  by
  refine ⟨⟨(wRun.setF F.dspMaploadPtr_BANK 2 1).setF F.dspMaploadPtr_INDEX 2 511, .session 2, 2, 0x76543210, 2, 1, 511, ?_⟩,
  ⟨wRun, .session 2, 2, 0, 2, 0, 0, ?_⟩,
  ⟨wRun, .session 2, 2, 0, ?_, (by intro b _; exact (by decide +kernel : wRun.inService 0 2 = true)), ?_⟩,
  ⟨{ wRun with maps := [(mapKey 2 1 4095, 3)] }, .session 2, 2, 0, ?_, 4095, ?_⟩⟩ <;> and_intros <;> decide +kernel

theorem witness_Clusters :
  (∃ (s : State) (x : StallId) (b : Fin 4096) (f : Fence), (f ∈ s.fences) ∧ ((f.stall = x.val) ∧ ((f.bucket = b.val) ∧ ((s.bucketOn x b f.old = false))))) ∧
  (∃ (s : State) (c : Fin 16) (g : Gift), (s.gifts.get none c = some g)) ∧
  (∃ (s : State) (a : Accessor) (c : Fin 16) (v : Word32) (x : Nat), (s.permits a .dspCluster c 0 v.toNat) ∧ ((x = v.toNat % 32) ∧ ((x < 16) ∧ ((16 ≤
    s.clusterOwner c) ∧ ((s.lowKept x (s.setF F.dspCluster_OWNER c x) = true)))))) ∧
  (∃ (s : State) (a : Accessor) (c : Fin 16) (v : Word32), (s.permits a .dspCluster c 0 v.toNat) ∧ ((s.clusterOwner c < 16) ∧ ((s.clusterOwner c ≠
    v.toNat % 32) ∧ ((s.removable c = false))))) ∧
  (∃ (s : State) (a : Accessor) (v : Word32) (c r x : Nat), (s.permits a .dspOos 0 0 (withField v 8 1 1)) ∧ ((c = bits v.toNat 0 4) ∧ ((r = bits v.toNat
    4 4) ∧ ((x = s.clusterOwner c) ∧ ((x < 16) ∧ ((r ≠ c) ∧ ((s.inService r x = true) ∧ ((s.lowKept x (s.setF F.dspCluster_OWNER c 31) = true) ∧
    ((s.maintBusy (0x50 + x) = none)))))))))) :=
  by
  refine ⟨⟨{ wRun with fences := [{ stall := 2, bucket := 4095, old := 1, new := 0, course := 0 }] }, 2, 4095,
    { stall := 2, bucket := 4095, old := 1, new := 0, course := 0 }, ?_⟩,
  ⟨{ wRun with gifts := [(15, some { owner := 2, zeroed := false })] }, 15, { owner := 2, zeroed := false }, ?_⟩,
  ⟨wRun.setF F.dspCluster_OWNER 15 31, .debugger, 15, 2, 2, ?_⟩,
  ⟨wRun, .debugger, 0, 31, ?_⟩,
  ⟨wRun.setF F.scpStallState_STATE 2 1, .debugger, 0x10, 0, 1, 2, ?_⟩⟩ <;> and_intros <;> decide +kernel

theorem witness_OutputRequest :
  (∃ (s : State) (a : Accessor) (x : Target) (v : Word32) (c : Nat), (s.permits a .swcOutCmd x 0 (withField v 0 1 1)) ∧ ((s.outCheck x (s.outRegs a.num
    x) (match accThread a with | some u => ((s.th u).current).isSome | none => false) = some c))) ∧
  (∃ (s s1 : State) (a : Accessor) (x : Target) (v : Word32) (cur : Option SlotPkt) (r : OutRegs) (course : Nat), (s.permits a .swcOutCmd x 0 (withField
    v 0 1 1)) ∧ ((cur = (match accThread a with | some u => ((s.th u).current).map (·.2) | none => none)) ∧ ((r = s.outRegs a.num x) ∧ ((s.outCheck x
    r cur.isSome = none) ∧ ((r.flag 0 = false) ∧ ((course = (s.outOrder cur).2.2.2.2) ∧ ((s.needBank course = some s1) ∧ (((s1.bankOuts course).length
    < 32768))))))))) :=
  by
  refine ⟨⟨wRun, .session 2, 2, 0, 1, ?_⟩,
  ⟨wOutput, (wOutput.needBank 0).getD wOutput, .session 2, 2, 0, none, wOutput.outRegs 1034 2, 0, ?_, ?_, (rfl), ?_⟩⟩ <;> and_intros <;> decide +kernel

theorem witness_SwitchLoading :
  (∃ (s : State) (a : Accessor) (x : Target) (v : Word32) (tb port i : Nat), (s.permits a .swcLoadData x 0 v.toNat) ∧ ((s.swcPtr x = (tb, port, i)) ∧
    ((port ≤ 9) ∧ ((s.swcMayWrite x tb port i v.toNat = true))))) ∧
  (∃ (s : State) (a : Accessor) (x : Target) (v : Word32) (tb port i : Nat), (s.permits a .swcLoadData x 0 v.toNat) ∧ ((s.swcPtr x = (tb, port, i)) ∧
    (((9 < port ∨ s.swcMayWrite x tb port i v.toNat = false))))) :=
  by
  refine ⟨⟨(wRun.setF F.swcLoadPtr_PORT 16 9).setF F.swcLoadPtr_INDEX 16 63, .debugger, 16, 5, 0, 9, 63, ?_⟩,
  ⟨wRun.setF F.swcLoadPtr_PORT 16 10, .debugger, 16, 5, 0, 10, 0, ?_⟩⟩ <;> and_intros <;> decide +kernel

theorem witness_RegisterOps :
  (∃ e, e ∈ ([(Instr.mov, 0x01, fun fl _ y => ⟨y, fl⟩), (Instr.add, 0x02, fun fl x y => add16 fl x y 0), (Instr.sub, 0x04, fun fl x y => sub16 fl x y 0),
    (Instr.and, 0x07, fun fl x y => logic16 fl (Nat.land x y)), (Instr.or, 0x08, fun fl x y => logic16 fl (Nat.lor x y)), (Instr.xor, 0x09, fun fl x y
    => logic16 fl (Nat.xor x y)), (Instr.dshl, 0x12, dshl16), (Instr.dshr, 0x13, dshr16)] : List ((Tid → Fin 32 → Fin 32 → Instr) × Nat × (Nat → Nat →
    Nat → Res16))) ∧ (∃ (s : State) (u : Tid) (a b : Fin 32) (x y : Nat), (s.canIssue u [enc e.2.1 a b]) ∧ ((regOk a = true) ∧ ((regOk b = true) ∧
    ((s.reads2 u a b x y)))))) ∧
  (∃ e, e ∈ ([(Instr.adc, 0x03, 16, fun fl x y => add16 fl x y (boolNat (flC fl))), (Instr.sbc, 0x05, 16, fun fl x y => sub16 fl x y (boolNat (flC fl))),
    (Instr.dadd, 0x0F, 6, dec16 false), (Instr.dsub, 0x10, 6, dec16 true), (Instr.daj, 0x11, 14, daj16)] : List ((Tid → Fin 32 → Fin 32 → Instr) × Nat
    × Nat × (Nat → Nat → Nat → Res16))) ∧ (∃ (s : State) (u : Tid) (a b : Fin 32) (x y fl : Nat), (s.canIssue u [enc e.2.1 a b]) ∧ ((regOk a = true) ∧
    ((regOk b = true) ∧ ((s.reads3 u a b x y fl)))))) ∧
  (∃ e, e ∈ ([(Instr.shl, 0x0A, ShiftKind.shl), (Instr.shr, 0x0B, ShiftKind.shr), (Instr.sar, 0x0C, ShiftKind.sar)] : List ((Tid → Fin 32 → Fin 32 →
    Instr) × Nat × ShiftKind)) ∧ (∃ (s : State) (u : Tid) (a b : Fin 32) (x y : Nat), (s.canIssue u [enc e.2.1 a b]) ∧ ((regOk a = true) ∧ ((regOk b =
    true) ∧ ((s.reads2 u a b x y)))))) :=
  by
  refine ⟨⟨_, List.mem_of_getElem? (i := 0) rfl, wCpu [enc 1 1 2], 1024, 1, 2, 0, 0, ?_, ?_, ?_, wReads2 ?_ ?_⟩,
  ⟨_, List.mem_of_getElem? (i := 0) rfl, wCpu [enc 3 1 2], 1024, 1, 2, 0, 0, 0, ?_, ?_, ?_, wReads3 ?_ ?_ ?_⟩,
  ⟨_, List.mem_of_getElem? (i := 0) rfl, wCpu [enc 0x0A 1 2], 1024, 1, 2, 0, 0, ?_, ?_, ?_, wReads2 ?_ ?_⟩⟩ <;> and_intros <;> decide +kernel

theorem witness_Compares :
  (∃ (s : State) (u : Tid) (a b : Fin 32) (x y : Nat), (s.canIssue u [enc 0x06 a b]) ∧ ((regOk a = true) ∧ ((regOk b = true) ∧ ((s.reads2 u a b x y))))) ∧
  (∃ (s s1 : State) (u : Tid) (a : Fin 32) (imm : Word) (x : Nat), (s.canIssue u [enc 0x14 a 3, imm.toNat]) ∧ ((regOk a = true) ∧ ((s.readReg u a = (x,
    s1))))) ∧
  (∃ (s s1 : State) (u : Tid) (a : Fin 32) (imm : Word) (x : Nat), (s.canIssue u [enc 0x14 a 7, imm.toNat]) ∧ ((regOk a = true) ∧ ((s.readReg u a = (x,
    s1))))) :=
  by
  refine ⟨⟨wCpu [enc 6 25 2], 1024, 25, 2, 0, 0, ?_, ?_, ?_, wReads2 ?_ ?_⟩,
  ⟨wCpu [enc 0x14 1 3, 0xFFFF], ((wCpu [enc 0x14 1 3, 0xFFFF]).readReg 1024 1).2, 1024, 1, 0xFFFF, ((wCpu [enc 0x14 1 3, 0xFFFF]).readReg 1024 1).1, ?_,
    ?_, rfl⟩,
  ⟨wCpu [enc 0x14 1 7, 0xFFFF], ((wCpu [enc 0x14 1 7, 0xFFFF]).readReg 1024 1).2, 1024, 1, 0xFFFF, ((wCpu [enc 0x14 1 7, 0xFFFF]).readReg 1024 1).1, ?_,
    ?_, rfl⟩⟩ <;> and_intros <;> decide +kernel

theorem witness_ConstantOps :
  (∃ e, e ∈ ([(Instr.movi, 0, fun fl _ y => ⟨y, fl⟩), (Instr.addi, 1, fun fl x y => add16 fl x y 0), (Instr.subi, 2, fun fl x y => sub16 fl x y 0),
    (Instr.andi, 4, fun fl x y => logic16 fl (Nat.land x y)), (Instr.ori, 5, fun fl x y => logic16 fl (Nat.lor x y)), (Instr.xori, 6, fun fl x y =>
    logic16 fl (Nat.xor x y))] : List ((Tid → Fin 32 → Word → Instr) × Nat × (Nat → Nat → Nat → Res16))) ∧ (∃ (s s1 : State) (u : Tid) (a : Fin 32)
    (imm : Word) (x : Nat), (s.canIssue u [enc 0x14 a e.2.1, imm.toNat]) ∧ ((regOk a = true) ∧ ((s.readReg u a = (x, s1)))))) ∧
  (∃ e, e ∈ ([(Instr.shlq, 0x15, ShiftKind.shl), (Instr.shrq, 0x16, ShiftKind.shr), (Instr.sarq, 0x17, ShiftKind.sar)] : List ((Tid → Fin 32 → Fin 32 →
    Instr) × Nat × ShiftKind)) ∧ (∃ (s s1 : State) (u : Tid) (a n : Fin 32) (x : Nat), (s.canIssue u [enc e.2.1 a n]) ∧ ((regOk a = true) ∧
    ((s.readReg u a = (x, s1)))))) ∧
  (∃ e, e ∈ ([(Instr.not, 0, fun fl x => unary16 fl (65535 - x)), (Instr.neg, 1, fun fl x => sub16 fl 0 x 0), (Instr.swapb, 2, fun fl x => unary16 fl (x
    / 256 + x % 256 * 256)), (Instr.zxb, 3, fun fl x => unary16 fl (x % 256)), (Instr.sxb, 4, fun fl x => unary16 fl (unsigned 16 (signed 8 x)))] :
    List ((Tid → Fin 32 → Instr) × Nat × (Nat → Nat → Res16))) ∧ (∃ (s s1 : State) (u : Tid) (a : Fin 32) (x : Nat), (s.canIssue u [enc 0x18 a e.2.1])
    ∧ ((regOk a = true) ∧ ((s.readReg u a = (x, s1)))))) ∧
  (∃ (s : State) (u : Tid) (a : Fin 32) (n : Fin 4), (s.canIssue u [enc 0x18 a (8 + n.val)]) ∧ ((regOk a = true))) :=
  by
  refine ⟨⟨_, List.mem_of_getElem? (i := 0) rfl, wCpu [enc 0x14 1 0, 0xFFFF], ((wCpu [enc 0x14 1 0, 0xFFFF]).readReg 1024 1).2, 1024, 1, 0xFFFF,
    ((wCpu [enc 0x14 1 0, 0xFFFF]).readReg 1024 1).1, ?_, ?_, rfl⟩,
  ⟨_, List.mem_of_getElem? (i := 0) rfl, wCpu [enc 0x15 1 31], ((wCpu [enc 0x15 1 31]).readReg 1024 1).2, 1024, 1, 31,
    ((wCpu [enc 0x15 1 31]).readReg 1024 1).1, ?_, ?_, rfl⟩,
  ⟨_, List.mem_of_getElem? (i := 0) rfl, wCpu [enc 0x18 24 0], ((wCpu [enc 0x18 24 0]).readReg 1024 24).2, 1024, 24,
    ((wCpu [enc 0x18 24 0]).readReg 1024 24).1, ?_, ?_, rfl⟩,
  ⟨wCpu [enc 0x18 25 11], 1024, 25, 3, ?_⟩⟩ <;> and_intros <;> decide +kernel

theorem witness_Multiply :
  ∃ e, e ∈ ([(Instr.mul, 0x0D, false), (Instr.muls, 0x0E, true)] : List ((Tid → Fin 32 → Fin 32 → Instr) × Nat × Bool)) ∧ (∃ (s : State) (u : Tid) (a b
    : Fin 32) (x y : Nat), (s.canIssue u [enc e.2.1 a b]) ∧ ((pairOk a = true) ∧ ((regOk b = true) ∧ ((s.reads2 u a b x y))))) :=
  by
  refine ⟨_, List.mem_of_getElem? (i := 0) rfl, wCpu [enc 0x0D 24 0], 1024, 24, 0, 0, 0, ?_, ?_, ?_, wReads2 ?_ ?_⟩ <;> and_intros <;> decide +kernel

theorem witness_RegisterArithmetic :
  ∃ e, e ∈ ([(Instr.mov, 0x01, fun _ kept _ y v fl' => v = y ∧ fl' = kept), (Instr.add, 0x02, fun _ kept x y v fl' => v = (x + y) % 65536 ∧ (flC fl' =
    true ↔ 65536 ≤ x + y) ∧ (flV fl' = true ↔ signed 16 v ≠ signed 16 x + signed 16 y) ∧ signs v fl' ∧ flDC fl' = flDC kept), (Instr.adc, 0x03, fun fl
    kept x y v fl' => v = (x + y + boolNat (flC fl)) % 65536 ∧ (flC fl' = true ↔ 65536 ≤ x + y + boolNat (flC fl)) ∧ (flV fl' = true ↔ signed 16 v ≠
    signed 16 x + signed 16 y + boolNat (flC fl)) ∧ signs v fl' ∧ flDC fl' = flDC kept), (Instr.sub, 0x04, fun _ kept x y v fl' => (v + y) % 65536 = x
    ∧ (flC fl' = true ↔ x < y) ∧ (flV fl' = true ↔ signed 16 v ≠ signed 16 x - signed 16 y) ∧ signs v fl' ∧ flDC fl' = flDC kept), (Instr.sbc, 0x05,
    fun fl kept x y v fl' => (v + y + boolNat (flC fl)) % 65536 = x ∧ (flC fl' = true ↔ x < y + boolNat (flC fl)) ∧ (flV fl' = true ↔ signed 16 v ≠
    signed 16 x - signed 16 y - boolNat (flC fl)) ∧ signs v fl' ∧ flDC fl' = flDC kept), (Instr.cmp, 0x06, fun _ kept x y v fl' => (v + y) % 65536 = x
    ∧ (flC fl' = true ↔ x < y) ∧ (flV fl' = true ↔ signed 16 v ≠ signed 16 x - signed 16 y) ∧ signs v fl' ∧ flDC fl' = flDC kept), (Instr.and, 0x07,
    fun _ kept x y v fl' => v = Nat.land x y ∧ flV fl' = false ∧ signs v fl' ∧ flC fl' = flC kept ∧ flDC fl' = flDC kept), (Instr.or, 0x08, fun _ kept
    x y v fl' => v = Nat.lor x y ∧ flV fl' = false ∧ signs v fl' ∧ flC fl' = flC kept ∧ flDC fl' = flDC kept), (Instr.xor, 0x09, fun _ kept x y v fl'
    => v = Nat.xor x y ∧ flV fl' = false ∧ signs v fl' ∧ flC fl' = flC kept ∧ flDC fl' = flDC kept)] : List ((Tid → Fin 32 → Fin 32 → Instr) × Nat ×
    (Nat → Nat → Nat → Nat → Nat → Nat → Prop))) ∧ (∃ (s : State) (u : Tid) (a b : Fin 32) (x y fl : Nat), (s.canIssue u [enc e.2.1 a b]) ∧ ((regOk a
    = true) ∧ ((regOk b = true) ∧ ((s.reads3 u a b x y fl) ∧ ((x < 65536) ∧ ((y < 65536))))))) :=
  by
  refine ⟨_, List.mem_of_getElem? (i := 0) rfl, wCpu [enc 1 25 24], 1024, 25, 24, 0, 0, 0, ?_, ?_, ?_, wReads3 ?_ ?_ ?_, ?_⟩ <;> and_intros <;> decide +kernel

theorem witness_ConditionCodes :
  ∃ (fl a b : Nat), (a < 65536) ∧ ((b < 65536)) :=
  by
  refine ⟨0, 65535, 0, ?_⟩ <;> and_intros <;> decide +kernel

theorem witness_PackedDecimal :
  (∃ e, e ∈ ([(Instr.dadd, 0x0F, fun (x y c : Int) => x + y + c, fun (n : Int) => decide (10 ≤ n)), (Instr.dsub, 0x10, fun x y c => x - y - c, fun n =>
    decide (n < 0))] : List ((Tid → Fin 32 → Fin 32 → Instr) × Nat × (Int → Int → Int → Int) × (Int → Bool))) ∧ (∃ (s : State) (u : Tid) (a b : Fin
    32) (x y fl : Nat), (s.canIssue u [enc e.2.1 a b]) ∧ ((regOk a = true) ∧ ((regOk b = true) ∧ ((s.reads3 u a b x y fl) ∧ ((x < 65536) ∧ ((y <
    65536)))))))) ∧
  (∃ (fl a b : Nat), (a < 65536) ∧ ((b < 65536) ∧ (((∀ i, i < 4 → digit a i ≤ 9 ∧ digit b i ≤ 9))))) :=
  by
  refine ⟨⟨_, List.mem_of_getElem? (i := 0) rfl, wCpu [enc 0x0F 1 2], 1024, 1, 2, 0, 0, 0, ?_, ?_, ?_, wReads3 ?_ ?_ ?_, ?_⟩,
  ⟨16, 0x9999, 0, ?_⟩⟩ <;> and_intros <;> decide +kernel

theorem witness_NearLoads :
  ∃ (s s1 s2 : State) (u : Tid) (a b : Fin 32) (d w : Word), ∃ e, e ∈ ([(Instr.ldReg u a b .ok, 0x25, false, Mode.reg), (Instr.ldPostinc u a b .ok,
    0x26, false, .postInc), (Instr.ldDisp u a b d .ok, 0x27, false, .disp d.toNat), (Instr.ldIndex u a b w .ok, 0x28, false, .index w.toNat),
    (Instr.ldpPostinc u a b .ok, 0x2E, true, .postInc), (Instr.ldpDisp u a b d .ok, 0x2F, true, .disp d.toNat)] : List (Instr × Nat × Bool × Mode)) ∧
    (∃ (base x n ea : Nat) (nb : Option Nat), (s.canIssue u (enc e.2.1 a b :: e.2.2.2.words)) ∧ (((if e.2.2.1 then pairOk a else regOk a) = true) ∧
    ((regOk b = true) ∧ ((e.2.2.2.legal = true) ∧ ((s.readReg u b = (base, s1)) ∧ ((s1.readIndex u e.2.2.2 = (x, s2)) ∧ ((n = (if e.2.2.1 then 2 else
    1)) ∧ ((e.2.2.2.address base x n 65536 = (ea, nb)) ∧ ((ea < 65536) ∧ ((s.nearFault u ea e.2.2.1 false = none) ∧ ((nearRegion ea ≤ 2) ∧ ((overlap
    (s.core (coreOf u)).sb ea n = none))))))))))))) :=
  by
  refine ⟨wCpu [enc 0x25 1 2], ((wCpu [enc 0x25 1 2]).readReg 1024 2).2, ((wCpu [enc 0x25 1 2]).readReg 1024 2).2, 1024, 1, 2, 0, 0, _,
    List.mem_of_getElem? (i := 0) rfl, ((wCpu [enc 0x25 1 2]).readReg 1024 2).1, 0, 1, 0, none, ?_, ?_, ?_, ?_, rfl, rfl, ?_, (by decide +kernel), ?_⟩ <;> and_intros <;> decide +kernel

theorem witness_NearStores :
  ∃ (s s1 s2 s3 : State) (u : Tid) (a b : Fin 32) (d w : Word), ∃ e, e ∈ ([(Instr.stReg u a b, 0x29, false, Mode.reg), (Instr.stPostinc u a b, 0x2A,
    false, .postInc), (Instr.stPredec u a b, 0x2B, false, .preDec), (Instr.stDisp u a b d, 0x2C, false, .disp d.toNat), (Instr.stIndex u a b w, 0x2D,
    false, .index w.toNat), (Instr.stpPredec u a b, 0x30, true, .preDec), (Instr.stpPostinc u a b, 0x31, true, .postInc), (Instr.stpDisp u a b d,
    0x32, true, .disp d.toNat)] : List (Instr × Nat × Bool × Mode)) ∧ (∃ (base x v n ea : Nat) (nb : Option Nat), (s.canIssue u (enc e.2.1 a b ::
    e.2.2.2.words)) ∧ (((if e.2.2.1 then pairOk a else regOk a) = true) ∧ ((regOk b = true) ∧ ((e.2.2.2.legal = true) ∧ ((s.readReg u b = (base, s1))
    ∧ ((s1.readIndex u e.2.2.2 = (x, s2)) ∧ (((if e.2.2.1 then s2.readPair u a else s2.readReg u a) = (v, s3)) ∧ ((n = (if e.2.2.1 then 2 else 1)) ∧
    ((e.2.2.2.address base x n 65536 = (ea, nb)) ∧ ((ea < 65536) ∧ ((s.nearFault u ea e.2.2.1 true = none) ∧ ((nearRegion ea ≤ 2) ∧ (((s.core (coreOf
    u)).sb.length < 8)))))))))))))) :=
  by
  refine ⟨wCpu [enc 0x29 1 2], ((wCpu [enc 0x29 1 2]).readReg 1024 2).2, ((wCpu [enc 0x29 1 2]).readReg 1024 2).2,
    (((wCpu [enc 0x29 1 2]).readReg 1024 2).2.readReg 1024 1).2, 1024, 1, 2, 0, 0, _, List.mem_of_getElem? (i := 0) rfl,
    ((wCpu [enc 0x29 1 2]).readReg 1024 2).1, 0, (((wCpu [enc 0x29 1 2]).readReg 1024 2).2.readReg 1024 1).1, 1, 0, none, ?_, ?_, ?_, ?_, rfl, rfl,
    rfl, ?_, (by decide +kernel), ?_⟩ <;> and_intros <;> decide +kernel

theorem witness_NearAccessTrap :
  ∃ (s s1 s2 : State) (u : Tid) (a b : Fin 32) (d : Word) (base x hi ea : Nat) (nb : Option Nat), (s.canIssue u [enc 0x27 a b, d.toNat]) ∧ ((regOk a =
    true) ∧ ((regOk b = true) ∧ ((s.readReg u b = (base, s1)) ∧ ((s1.readIndex u (.disp d.toNat) = (x, s2)) ∧ ((Mode.address (.disp d.toNat) base x 1
    65536 = (ea, nb)) ∧ ((ea < 65536) ∧ ((s.nearFault u ea false false = some hi) ∧ ((s.trapReady u))))))))) :=
  by
  refine ⟨wCpu [enc 0x27 1 2, 0xC000], ((wCpu [enc 0x27 1 2, 0xC000]).readReg 1024 2).2, ((wCpu [enc 0x27 1 2, 0xC000]).readReg 1024 2).2, 1024, 1, 2, 0xC000,
    ((wCpu [enc 0x27 1 2, 0xC000]).readReg 1024 2).1, 0, 0, 0xC000, none, ?_, ?_, ?_, rfl, rfl, (by decide +kernel), ?_⟩ <;> and_intros <;> decide +kernel

theorem witness_FarAccesses :
  ∃ (s s1 s2 s3 : State) (u : Tid) (a b : Fin 32) (d w : Word), ∃ e, e ∈ ([(Instr.ldfDisp u a b d, 0x33, true, false, Mode.disp d.toNat),
    (Instr.ldfPostinc u a b, 0x34, true, false, .postInc), (Instr.ldfIndex u a b w, 0x35, true, false, .index w.toNat), (Instr.stfDisp u a b d, 0x36,
    false, false, .disp d.toNat), (Instr.stfPostinc u a b, 0x37, false, false, .postInc), (Instr.ldfpDisp u a b d, 0x38, true, true, .disp d.toNat),
    (Instr.ldfpPostinc u a b, 0x39, true, true, .postInc), (Instr.stfpDisp u a b d, 0x3A, false, true, .disp d.toNat), (Instr.stfpPostinc u a b, 0x3B,
    false, true, .postInc)] : List (Instr × Nat × Bool × Bool × Mode)) ∧ (∃ (base x v n ea : Nat) (nb : Option Nat) (pl : Place), (s.canIssue u (enc
    e.2.1 a b :: e.2.2.2.2.words)) ∧ (((if e.2.2.2.1 then pairOk a else regOk a) = true) ∧ ((pairOk b = true) ∧ ((e.2.2.2.2.legal = true) ∧
    ((s.readPair u b = (base, s1)) ∧ ((s1.readIndex u e.2.2.2.2 = (x, s2)) ∧ (((if e.2.2.1 then (0, s2) else if e.2.2.2.1 then s2.readPair u a else
    s2.readReg u a) = (v, s3)) ∧ ((n = (if e.2.2.2.1 then 2 else 1)) ∧ ((e.2.2.2.2.address base x n (2 ^ 32) = (ea, nb)) ∧ ((ea < 2 ^ 32) ∧
    ((s.farCheck (s.tidOwner u) ea (!e.2.2.1) e.2.2.2.1 = .inl pl)))))))))))) :=
  by
  refine ⟨wFarCpu [enc 0x33 1 2, 0x7FF], ((wFarCpu [enc 0x33 1 2, 0x7FF]).readPair 1024 2).2, ((wFarCpu [enc 0x33 1 2, 0x7FF]).readPair 1024 2).2,
    ((wFarCpu [enc 0x33 1 2, 0x7FF]).readPair 1024 2).2, 1024, 1, 2, 0x7FF, 0, _, List.mem_of_getElem? (i := 0) rfl,
    ((wFarCpu [enc 0x33 1 2, 0x7FF]).readPair 1024 2).1, 0, 0, 1, 0x7FF, none, .dram 0xFFE, ?_, ?_, ?_, ?_, rfl, rfl, rfl, ?_, (by decide +kernel),
    ?_⟩ <;> and_intros <;> decide +kernel

theorem witness_Jumps :
  (∃ (s s1 : State) (u : Tid) (cc : Fin 16) (off : Fin 64) (fl : Nat), (s.canIssue u [0x1B * 1024 + cc.val * 64 + off.val]) ∧ ((s.readReg u 25 = (fl,
    s1)))) ∧
  (∃ (s s1 : State) (u : Tid) (cc : Fin 16) (target : Fin 131072) (fl : Nat), (s.canIssue u (encBL 0x1C cc 0 target)) ∧ ((s.readReg u 25 = (fl, s1)))) ∧
  (∃ (s s1 : State) (u : Tid) (a : Fin 32) (v : Nat), (s.canIssue u [enc 0x19 a 5]) ∧ ((pairOk a = true) ∧ ((s.readPair u a = (v, s1)) ∧ ((v < 131072))))) ∧
  (∃ (s s1 : State) (u : Tid) (a : Fin 32) (v : Nat), (s.canIssue u [enc 0x19 a 5]) ∧ ((pairOk a = true) ∧ ((s.readPair u a = (v, s1)) ∧ ((131072 ≤ v) ∧
    ((s.trapReady u)))))) ∧
  (∃ (s : State) (u : Tid), (s.canIssue u [enc 0x19 0 0])) :=
  by
  refine ⟨⟨wCpu [0x1B * 1024 + 15 * 64 + 63], ((wCpu [0x1B * 1024 + 15 * 64 + 63]).readReg (1024 : Tid) 25).2, 1024, 15, 63,
    ((wCpu [0x1B * 1024 + 15 * 64 + 63]).readReg (1024 : Tid) 25).1, ?_, rfl⟩,
  ⟨wCpu (encBL 0x1C 0 0 131071), ((wCpu (encBL 0x1C 0 0 131071)).readReg (1024 : Tid) 25).2, 1024, 0, 131071,
    ((wCpu (encBL 0x1C 0 0 131071)).readReg (1024 : Tid) 25).1, ?_, rfl⟩,
  ⟨wCpu [enc 0x19 2 5], ((wCpu [enc 0x19 2 5]).readPair 1024 2).2, 1024, 2, ((wCpu [enc 0x19 2 5]).readPair 1024 2).1, ?_, ?_, rfl, ?_⟩,
  ⟨(wCpu [enc 0x19 2 5]).setTh 1024 fun th => th.putReg 3 2,
    (((wCpu [enc 0x19 2 5]).setTh 1024 fun th => th.putReg 3 2).readPair (1024 : Tid) (2 : Fin 32)).2, 1024, 2,
    (((wCpu [enc 0x19 2 5]).setTh 1024 fun th => th.putReg 3 2).readPair (1024 : Tid) (2 : Fin 32)).1, ?_, ?_, rfl, ?_⟩,
  ⟨wCpu [enc 0x19 0 0], 1024, ?_⟩⟩ <;> and_intros <;> decide +kernel

theorem witness_Calls :
  (∃ (s s1 : State) (u : Tid) (cc : Fin 16) (target : Fin 131072) (o : Ecc) (fl : Nat), (s.canIssue u (encBL 0x1D cc 0 target)) ∧ ((s.readReg u 25 = (fl,
    s1)) ∧ ((condTrue fl cc = false)))) ∧
  (∃ (s : State) (u : Tid) (i : Instr) (len target : Nat) (o : Ecc), (((∃ cc tg fl s1, i = .call u cc 0 tg o ∧ s.canIssue u (encBL 0x1D cc 0 tg) ∧
    s.readReg u 25 = (fl, s1) ∧ condTrue fl cc = true ∧ len = 2 ∧ target = tg.val) ∨ (∃ a s1, i = .callr u a o ∧ s.canIssue u [enc 0x19 a 6] ∧ pairOk
    a = true ∧ s.readPair u a = (target, s1) ∧ len = 1))) ∧ (((s.th u).spillDue = false ∨ ((s.th u).spilled ≠ 73 ∧ o ≠ .double)) ∧ ((target <
    131072)))) ∧
  (∃ (s : State) (u : Tid) (i : Instr) (len target : Nat) (o : Ecc), (((∃ cc tg fl s1, i = .call u cc 0 tg o ∧ s.canIssue u (encBL 0x1D cc 0 tg) ∧
    s.readReg u 25 = (fl, s1) ∧ condTrue fl cc = true ∧ len = 2 ∧ target = tg.val) ∨ (∃ a s1, i = .callr u a o ∧ s.canIssue u [enc 0x19 a 6] ∧ pairOk
    a = true ∧ s.readPair u a = (target, s1) ∧ len = 1))) ∧ (((s.th u).spillDue = true) ∧ (((s.th u).spilled ≠ 73) ∧ ((o = .double))))) ∧
  (∃ (s : State) (u : Tid) (i : Instr) (len target : Nat) (o : Ecc), (((∃ cc tg fl s1, i = .call u cc 0 tg o ∧ s.canIssue u (encBL 0x1D cc 0 tg) ∧
    s.readReg u 25 = (fl, s1) ∧ condTrue fl cc = true ∧ len = 2 ∧ target = tg.val) ∨ (∃ a s1, i = .callr u a o ∧ s.canIssue u [enc 0x19 a 6] ∧ pairOk
    a = true ∧ s.readPair u a = (target, s1) ∧ len = 1))) ∧ (((s.th u).spillDue = true) ∧ (((s.th u).spilled = 73) ∧ (((s.th u).inTrap = false) ∧
    ((s.regsFinal u)))))) ∧
  (∃ (s : State) (u : Tid) (i : Instr) (len target : Nat) (o : Ecc), (((∃ cc tg fl s1, i = .call u cc 0 tg o ∧ s.canIssue u (encBL 0x1D cc 0 tg) ∧
    s.readReg u 25 = (fl, s1) ∧ condTrue fl cc = true ∧ len = 2 ∧ target = tg.val) ∨ (∃ a s1, i = .callr u a o ∧ s.canIssue u [enc 0x19 a 6] ∧ pairOk
    a = true ∧ s.readPair u a = (target, s1) ∧ len = 1))) ∧ (((s.th u).spillDue = false ∨ ((s.th u).spilled ≠ 73 ∧ o ≠ .double)) ∧ ((131072 ≤ target)
    ∧ (((s.th u).inTrap = false))))) :=
  by
  refine ⟨⟨wCpu (encBL 0x1D 0 0 131071), ((wCpu (encBL 0x1D 0 0 131071)).readReg (1024 : Tid) 25).2, 1024, 0, 131071, .ok,
    ((wCpu (encBL 0x1D 0 0 131071)).readReg (1024 : Tid) 25).1, ?_, rfl, ?_⟩,
  ⟨wCpu (encBL 0x1D 15 0 131071), 1024, .call 1024 15 0 131071 .ok, 2, 131071, .ok,
    (Or.inl ⟨15, 131071, ((wCpu (encBL 0x1D 15 0 131071)).readReg (1024 : Tid) 25).1, ((wCpu (encBL 0x1D 15 0 131071)).readReg (1024 : Tid) 25).2, rfl, ⟨?_, ?_, ?_, ?_⟩, rfl, ?_, rfl, rfl⟩),
    ?_⟩,
  ⟨(wCpu [enc 0x19 24 6]).setTh 1024 fun th => { th with low := 2 }, 1024, .callr 1024 24 .double, 1,
    (((wCpu [enc 0x19 24 6]).setTh 1024 fun th => { th with low := 2 }).readPair (1024 : Tid) (24 : Fin 32)).1, .double,
    (Or.inr ⟨_, (((wCpu [enc 0x19 24 6]).setTh 1024 fun th => { th with low := 2 }).readPair (1024 : Tid) (24 : Fin 32)).2, rfl, ⟨?_, ?_, ?_, ?_⟩, ?_, rfl, rfl⟩),
    ?_⟩,
  ⟨(wCpu [enc 0x19 24 6]).setTh 1024 fun th => { th with low := 2, spilled := 73 }, 1024, .callr 1024 24 .ok, 1,
    (((wCpu [enc 0x19 24 6]).setTh 1024 fun th => { th with low := 2, spilled := 73 }).readPair (1024 : Tid) (24 : Fin 32)).1, .ok,
    (Or.inr ⟨_, (((wCpu [enc 0x19 24 6]).setTh 1024 fun th => { th with low := 2, spilled := 73 }).readPair (1024 : Tid) (24 : Fin 32)).2, rfl, ⟨?_, ?_, ?_, ?_⟩, ?_, rfl, rfl⟩),
    ?_⟩,
  ⟨(wCpu [enc 0x19 2 6]).setTh 1024 fun th => th.putReg 3 2, 1024, .callr 1024 2 .ok, 1,
    (((wCpu [enc 0x19 2 6]).setTh 1024 fun th => th.putReg 3 2).readPair (1024 : Tid) (2 : Fin 32)).1, .ok,
    (Or.inr ⟨_, (((wCpu [enc 0x19 2 6]).setTh 1024 fun th => th.putReg 3 2).readPair (1024 : Tid) (2 : Fin 32)).2, rfl, ⟨?_, ?_, ?_, ?_⟩, ?_, rfl, rfl⟩),
    ?_⟩⟩ <;> and_intros <;> decide +kernel

theorem witness_Returns :
  (∃ (s s1 : State) (u : Tid) (o : Ecc) (target : Nat), (s.canIssue u [enc 0x19 0 1]) ∧ (((s.th u).bottom = false) ∧ ((s.linkTarget u = (target, s1)) ∧
    ((((s.th u).fillDue = false ∨ o ≠ .double)) ∧ ((target < 131072)))))) ∧
  (∃ (s s1 : State) (u : Tid) (o : Ecc) (target : Nat), (s.canIssue u [enc 0x19 0 1]) ∧ (((s.th u).bottom = false) ∧ ((s.linkTarget u = (target, s1)) ∧
    ((((s.th u).fillDue = false ∨ o ≠ .double)) ∧ ((131072 ≤ target) ∧ (((s.th u).inTrap = false))))))) ∧
  (∃ (s : State) (u : Tid) (o : Ecc), (s.canIssue u [enc 0x19 0 1]) ∧ (((s.th u).bottom = true) ∧ ((s.trapReady u)))) ∧
  (∃ (s : State) (u : Tid) (o : Ecc), (s.canIssue u [enc 0x19 0 2]) ∧ (((s.th u).inTrap = true) ∧ (((s.th u).bottom = false) ∧ ((((s.th u).fillDue =
    false ∨ o ≠ .double)) ∧ (((s.th u).heldOverrun = none) ∧ (((s.th u).heldStill = false))))))) ∧
  (∃ (s : State) (u : Tid) (o : Ecc), (s.canIssue u [enc 0x19 0 2]) ∧ (((s.th u).inTrap = true) ∧ (((s.th u).bottom = false) ∧ ((((s.th u).fillDue =
    false ∨ o ≠ .double)) ∧ (∃ i, ((s.th u).heldOverrun = some i)))))) ∧
  (∃ (s : State) (u : Tid) (o : Ecc), (s.canIssue u [enc 0x19 0 2]) ∧ ((s.trapReady u))) ∧
  (∃ (s : State) (u : Tid) (o : Ecc), (s.canIssue u [enc 0x19 0 2]) ∧ (((s.th u).inTrap = true) ∧ (((s.th u).bottom = true)))) ∧
  (∃ (s : State) (u : Tid), ∃ e, e ∈ ([(Instr.ret u 0 .double, 1), (Instr.rett u 0 .double, 2)] : List (Instr × Nat)) ∧ ((s.canIssue u [enc 0x19 0 e.2])
    ∧ (((s.th u).bottom = false) ∧ (((s.th u).fillDue = true) ∧ (((e.2 = 2 → (s.th u).inTrap = true))))))) :=
  by
  refine ⟨⟨(wCpu [enc 0x19 0 1]).setTh 1024 fun th => { th with frame := 2 },
    (((wCpu [enc 0x19 0 1]).setTh 1024 fun th => { th with frame := 2 }).linkTarget (1024 : Tid)).2, 1024, .double,
    (((wCpu [enc 0x19 0 1]).setTh 1024 fun th => { th with frame := 2 }).linkTarget (1024 : Tid)).1, ?_, ?_, rfl, ?_⟩,
  ⟨wRet, ((wRet).linkTarget (1024 : Tid)).2, 1024, .ok, ((wRet).linkTarget (1024 : Tid)).1, ?_, ?_, rfl, ?_⟩,
  ⟨wCpu [enc 0x19 0 1], 1024, .ok, ?_⟩,
  ⟨(wCpu [enc 0x19 0 2]).setTh 1024 fun th => { th with frame := 2, inTrap := true }, 1024, .ok, ?_⟩,
  ⟨(wCpu [enc 0x19 0 2]).setTh 1024 fun th => { th with frame := 2, inTrap := true, heldOverrun := some 3 }, 1024, .ok, ?_, ?_, ?_, ?_, 3, ?_⟩,
  ⟨wCpu [enc 0x19 0 2], 1024, .ok, ?_⟩,
  ⟨(wCpu [enc 0x19 0 2]).setTh 1024 fun th => { th with inTrap := true }, 1024, .ok, ?_⟩,
  ⟨(wCpu [enc 0x19 0 1]).setTh 1024 fun th => { th with spilled := 1 }, 1024, _, List.mem_of_getElem? (i := 0) rfl, ?_⟩⟩ <;> and_intros <;> decide +kernel

theorem witness_Traps :
  (∃ (s : State) (u : Tid) (n : Fin 32), (s.canIssue u [enc 0x19 n 3]) ∧ ((s.trapReady u))) ∧
  (∃ (s : State) (u : Tid) (a b : Fin 32), (s.selected u = true) ∧ ((assigned (s.codeWord u (s.th u).pc) = false) ∧ ((s.trapReady u)))) ∧
  (∃ (s : State) (u : Tid) (a b : Fin 32) (cc : Fin 16) (target : Fin 131072) (w : Word) (o : Ecc), ∃ e, e ∈ ([(Instr.add u a b, [enc 0x02 a b], regOk a
    && regOk b), (.mul u a b, [enc 0x0D a b], pairOk a && regOk b), (.movi u a w, [enc 0x14 a 0, w.toNat], regOk a), (.not u a, [enc 0x18 a 0], regOk
    a), (.shlq u a b, [enc 0x15 a b], regOk a), (.ldReg u a b o, [enc 0x25 a b], regOk a && regOk b), (.ldIndex u a b w o, [enc 0x28 a b, w.toNat],
    regOk a && regOk b && Mode.legal (.index w.toNat)), (.stpPostinc u a b, [enc 0x31 a b], pairOk a && regOk b), (.ldfPostinc u a b, [enc 0x34 a b],
    regOk a && pairOk b), (.nop u a, [enc 0x19 a 0], a.val == 0), (.ret u a o, [enc 0x19 a 1], a.val == 0), (.jmpr u a, [enc 0x19 a 5], pairOk a), (.j
    u cc a target, encBL 0x1C cc a target, a.val == 0), (.call u cc a target o, encBL 0x1D cc a target, a.val == 0), (.chw u a b, [enc 0x21 a b],
    regOk a && regOk b), (.lka u a, [enc 0x1A a 0], pairOk a), (.tlock u a, [enc 0x3C a 0], a.val == 0 && decide (u.val < 1024))] : List (Instr × List
    Nat × Bool)) ∧ ((s.canIssue u e.2.1) ∧ ((e.2.2 = false) ∧ ((s.trapReady u))))) :=
  by
  refine ⟨⟨wCpu [enc 0x19 31 3], 1024, 31, ?_⟩,
  ⟨wCpu [0], 1024, 0, 0, ?_⟩,
  ⟨wCpu [enc 0x19 1 0], 1024, 1, 0, 0, 0, 0, .ok, _, List.mem_of_getElem? (i := 9) rfl, ?_⟩⟩ <;> and_intros <;> decide +kernel

theorem witness_ThreadControl :
  (∃ (s s1 s2 : State) (u : Tid) (a b : Fin 32) (c : Word) (v n : Nat), (s.canIssue u [enc 0x1E a b, c.toNat]) ∧ ((regOk a = true) ∧ ((regOk b = true) ∧
    (((c.toNat < 24 ∨ c.toNat = 25)) ∧ ((s.readReg u a = (v, s1)) ∧ ((s1.readReg u b = (n, s2)) ∧ ((s.startable u n = none)))))))) ∧
  (∃ (s s1 s2 : State) (u : Tid) (a b : Fin 32) (c : Word) (v n : Nat), (s.canIssue u [enc 0x1E a b, c.toNat]) ∧ ((regOk a = true) ∧ ((regOk b = true) ∧
    (((c.toNat < 24 ∨ c.toNat = 25)) ∧ ((s.readReg u a = (v, s1)) ∧ ((s1.readReg u b = (n, s2)) ∧ (∃ w, (s.startable u n = some w)))))))) ∧
  (∃ (s s1 s2 : State) (u : Tid) (a b : Fin 32) (v n : Nat), (s.canIssue u [enc 0x1F a b]) ∧ ((pairOk a = true) ∧ ((regOk b = true) ∧ ((s.readPair u a =
    (v, s1)) ∧ ((s1.readReg u b = (n, s2)) ∧ (((s.th u).posted ≠ []))))))) ∧
  (∃ (s s1 s2 : State) (u : Tid) (a b : Fin 32) (v n : Nat), (s.canIssue u [enc 0x1F a b]) ∧ ((pairOk a = true) ∧ ((regOk b = true) ∧ ((s.readPair u a =
    (v, s1)) ∧ ((s1.readReg u b = (n, s2)) ∧ (∃ w, ((s.th u).posted = []) ∧ ((s.startable u n = some w) ∧ ((131072 ≤ v) ∧ (((s.th w).inTrap = false) ∧
    ((s.tallyPending w = false))))))))))) ∧
  (∃ (s s1 s2 : State) (u : Tid) (a b : Fin 32) (v n : Nat), (s.canIssue u [enc 0x1F a b]) ∧ ((pairOk a = true) ∧ ((regOk b = true) ∧ ((s.readPair u a =
    (v, s1)) ∧ ((s1.readReg u b = (n, s2)) ∧ (((s.th u).posted = []) ∧ ((s.startable u n = none)))))))) ∧
  (∃ (s s1 s2 : State) (u : Tid) (a b : Fin 32) (v n : Nat), (s.canIssue u [enc 0x1F a b]) ∧ ((pairOk a = true) ∧ ((regOk b = true) ∧ ((s.readPair u a =
    (v, s1)) ∧ ((s1.readReg u b = (n, s2)) ∧ (∃ w, ((s.th u).posted = []) ∧ ((s.startable u n = some w) ∧ ((v < 131072))))))))) ∧
  (∃ (s s1 : State) (u : Tid) (a b : Fin 32) (v : Nat), (s.canIssue u [enc 0x20 a b]) ∧ ((pairOk a = true) ∧ ((regOk b = true) ∧ ((s.readPair u a = (v,
    s1)) ∧ (((∀ i, i < 8 → (s.th (coreOf u * 8 + i)).st = .parked → s.classOf (coreOf u * 8 + i) ≠ 2))))))) ∧
  (∃ (s s1 : State) (u : Tid) (a b : Fin 32) (v : Nat), (s.canIssue u [enc 0x20 a b]) ∧ ((pairOk a = true) ∧ ((regOk b = true) ∧ ((s.readPair u a = (v,
    s1)) ∧ (∃ i, (i < 8) ∧ (((s.th (coreOf u * 8 + i)).st = .parked) ∧ ((s.classOf (coreOf u * 8 + i) = 2) ∧ (((∀ j, j < i → (s.th (coreOf u * 8 +
    j)).st ≠ .parked ∨ s.classOf (coreOf u * 8 + j) ≠ 2)) ∧ ((v < 131072)))))))))) ∧
  (∃ (s s1 : State) (u : Tid) (a b : Fin 32) (v : Nat), (s.canIssue u [enc 0x20 a b]) ∧ ((pairOk a = true) ∧ ((regOk b = true) ∧ ((s.readPair u a = (v,
    s1)) ∧ (∃ i, (i < 8) ∧ (((s.th (coreOf u * 8 + i)).st = .parked) ∧ ((s.classOf (coreOf u * 8 + i) = 2) ∧ (((∀ j, j < i → (s.th (coreOf u * 8 +
    j)).st ≠ .parked ∨ s.classOf (coreOf u * 8 + j) ≠ 2)) ∧ ((131072 ≤ v) ∧ (((s.th (coreOf u * 8 + i)).inTrap = false) ∧ ((s.tallyPending (coreOf u *
    8 + i) = false)))))))))))) ∧
  (∃ (s s1 : State) (u : Tid) (a : Fin 32) (v : Nat), (s.canIssue u [enc 0x19 a 7]) ∧ ((regOk a = true) ∧ ((s.readReg u a = (v, s1)) ∧ (((7 < v ∨ (s.th
    (coreOf u * 8 + v)).parent ≠ some u.val ∨ (s.th (coreOf u * 8 + v)).st = .parked)))))) ∧
  (∃ (s s1 : State) (u : Tid) (a : Fin 32) (v : Nat), (s.canIssue u [enc 0x19 a 7]) ∧ ((regOk a = true) ∧ ((s.readReg u a = (v, s1)) ∧ ((v ≤ 7) ∧ (((s.th
    (coreOf u * 8 + v)).parent = some u.val) ∧ (((s.th (coreOf u * 8 + v)).st ≠ .parked))))))) ∧
  (∃ (s : State) (u : Tid), (s.canIssue u [enc 0x19 0 4]) ∧ (((∀ p, (s.th u).parent = some p → p ≠ u.val)))) :=
  by
  refine ⟨⟨wCpu [enc 0x1E 1 2, 25], ((wCpu [enc 0x1E 1 2, 25]).readReg 1024 1).2, (((wCpu [enc 0x1E 1 2, 25]).readReg 1024 1).2.readReg 1024 2).2, 1024, 1, 2,
    25, ((wCpu [enc 0x1E 1 2, 25]).readReg 1024 1).1, (((wCpu [enc 0x1E 1 2, 25]).readReg 1024 1).2.readReg 1024 2).1, ?_, ?_, ?_, ?_, rfl, rfl, ?_⟩,
  ⟨(wCpu [enc 0x1E 1 2, 23]).setTh 1024 fun th => th.putReg 2 7, (((wCpu [enc 0x1E 1 2, 23]).setTh 1024 fun th => th.putReg 2 7).readReg 1024 1).2,
    ((((wCpu [enc 0x1E 1 2, 23]).setTh 1024 fun th => th.putReg 2 7).readReg 1024 1).2.readReg 1024 2).2, 1024, 1, 2, 23,
    (((wCpu [enc 0x1E 1 2, 23]).setTh 1024 fun th => th.putReg 2 7).readReg 1024 1).1,
    ((((wCpu [enc 0x1E 1 2, 23]).setTh 1024 fun th => th.putReg 2 7).readReg 1024 1).2.readReg 1024 2).1, ?_, ?_, ?_, ?_, rfl, rfl, 1031, ?_⟩,
  ⟨(wCpu [enc 0x1F 24 2]).setTh 1024 fun th => { th with posted := [wFar] },
    (((wCpu [enc 0x1F 24 2]).setTh 1024 fun th => { th with posted := [wFar] }).readPair (1024 : Tid) (24 : Fin 32)).2,
    (((((wCpu [enc 0x1F 24 2]).setTh 1024 fun th => { th with posted := [wFar] }).readPair (1024 : Tid) (24 : Fin 32)).2).readReg (1024 : Tid) (2 : Fin 32)).2,
    1024, 24, 2, (((wCpu [enc 0x1F 24 2]).setTh 1024 fun th => { th with posted := [wFar] }).readPair (1024 : Tid) (24 : Fin 32)).1,
    (((((wCpu [enc 0x1F 24 2]).setTh 1024 fun th => { th with posted := [wFar] }).readPair (1024 : Tid) (24 : Fin 32)).2).readReg (1024 : Tid) (2 : Fin 32)).1,
    ?_, ?_, ?_, rfl, rfl, ?_⟩,
  ⟨(wCpu [enc 0x1F 4 2]).setTh 1024 fun th => (th.putReg 5 2).putReg 2 1,
    (((wCpu [enc 0x1F 4 2]).setTh 1024 fun th => (th.putReg 5 2).putReg 2 1).readPair (1024 : Tid) (4 : Fin 32)).2,
    (((((wCpu [enc 0x1F 4 2]).setTh 1024 fun th => (th.putReg 5 2).putReg 2 1).readPair (1024 : Tid) (4 : Fin 32)).2).readReg (1024 : Tid) (2 : Fin 32)).2,
    1024, 4, 2, (((wCpu [enc 0x1F 4 2]).setTh 1024 fun th => (th.putReg 5 2).putReg 2 1).readPair (1024 : Tid) (4 : Fin 32)).1,
    (((((wCpu [enc 0x1F 4 2]).setTh 1024 fun th => (th.putReg 5 2).putReg 2 1).readPair (1024 : Tid) (4 : Fin 32)).2).readReg (1024 : Tid) (2 : Fin 32)).1,
    ?_, ?_, ?_, rfl, rfl, 1025, ?_⟩,
  ⟨wCpu [enc 0x1F 24 2], ((wCpu [enc 0x1F 24 2]).readPair 1024 24).2, (((wCpu [enc 0x1F 24 2]).readPair 1024 24).2.readReg 1024 2).2, 1024, 24, 2,
    ((wCpu [enc 0x1F 24 2]).readPair 1024 24).1, (((wCpu [enc 0x1F 24 2]).readPair 1024 24).2.readReg 1024 2).1, ?_, ?_, ?_, rfl, rfl, ?_⟩,
  ⟨(wCpu [enc 0x1F 24 2]).setTh 1024 fun th => th.putReg 2 1, (((wCpu [enc 0x1F 24 2]).setTh 1024 fun th => th.putReg 2 1).readPair 1024 24).2,
    ((((wCpu [enc 0x1F 24 2]).setTh 1024 fun th => th.putReg 2 1).readPair 1024 24).2.readReg 1024 2).2, 1024, 24, 2,
    (((wCpu [enc 0x1F 24 2]).setTh 1024 fun th => th.putReg 2 1).readPair 1024 24).1,
    ((((wCpu [enc 0x1F 24 2]).setTh 1024 fun th => th.putReg 2 1).readPair 1024 24).2.readReg 1024 2).1, ?_, ?_, ?_, rfl, rfl, 1025, ?_⟩,
  ⟨wCpu [enc 0x20 24 2], ((wCpu [enc 0x20 24 2]).readPair 1024 24).2, 1024, 24, 2, ((wCpu [enc 0x20 24 2]).readPair 1024 24).1, ?_, ?_, ?_, rfl, ?_⟩,
  ⟨(wCpu [enc 0x20 24 2]).setF F.schHthread_CLASS 7 2, (((wCpu [enc 0x20 24 2]).setF F.schHthread_CLASS 7 2).readPair 1024 24).2, 1024, 24, 2,
    (((wCpu [enc 0x20 24 2]).setF F.schHthread_CLASS 7 2).readPair 1024 24).1, ?_, ?_, ?_, rfl, 7, ?_⟩,
  ⟨((wCpu [enc 0x20 4 2]).setF F.schHthread_CLASS 7 2).setTh 1024 fun th => th.putReg 5 2,
    ((((wCpu [enc 0x20 4 2]).setF F.schHthread_CLASS 7 2).setTh 1024 fun th => th.putReg 5 2).readPair (1024 : Tid) (4 : Fin 32)).2, 1024, 4, 2,
    ((((wCpu [enc 0x20 4 2]).setF F.schHthread_CLASS 7 2).setTh 1024 fun th => th.putReg 5 2).readPair (1024 : Tid) (4 : Fin 32)).1, ?_, ?_, ?_, rfl,
    7, ?_⟩,
  ⟨(wCpu [enc 0x19 1 7]).setTh 1024 fun th => th.putReg 1 8, (((wCpu [enc 0x19 1 7]).setTh 1024 fun th => th.putReg 1 8).readReg 1024 1).2, 1024, 1,
    (((wCpu [enc 0x19 1 7]).setTh 1024 fun th => th.putReg 1 8).readReg 1024 1).1, ?_, ?_, rfl, ?_⟩,
  ⟨((wCpu [enc 0x19 1 7]).setTh 1024 fun th => th.putReg 1 7).setTh 1031 fun th => { th with st := .stopped, parent := some 1024 },
    ((((wCpu [enc 0x19 1 7]).setTh 1024 fun th => th.putReg 1 7).setTh 1031 fun th => { th with st := .stopped, parent := some 1024 }).readReg 1024 1).2,
    1024, 1,
    ((((wCpu [enc 0x19 1 7]).setTh 1024 fun th => th.putReg 1 7).setTh 1031 fun th => { th with st := .stopped, parent := some 1024 }).readReg 1024 1).1,
    ?_, ?_, rfl, ?_⟩,
  ⟨wCpu [enc 0x19 0 4], 1024, ?_,
    (by intro p h; have e : ((wCpu [enc 0x19 0 4]).th 1024).parent = none := (by decide +kernel); exact absurd (e.symm.trans h) (by simp))⟩⟩ <;> and_intros <;> decide +kernel

theorem witness_ChannelInstructions :
  (∃ (s : State) (u : Tid) (a b : Fin 32) (v w k : Nat), (s.canIssue u [enc 0x21 a b]) ∧ ((regOk a = true) ∧ ((regOk b = true) ∧ ((s.reads2 u a b v w) ∧
    ((s.chanPut u w false = .inl k)))))) ∧
  (∃ (s : State) (u : Tid) (a b : Fin 32) (v w d : Nat), ∃ e, e ∈ ([(Instr.chw u a b, 0x21, s.chanPut u w false), (.che u a b, 0x22, s.chanPut u w true),
    (.chr u a b, 0x23, s.chanTake u w), (.chp u a b, 0x24, s.chanTake u w)] : List (Instr × Nat × (Nat ⊕ Nat))) ∧ ((s.canIssue u [enc e.2.1 a b]) ∧
    ((regOk a = true) ∧ ((regOk b = true) ∧ ((s.reads2 u a b v w) ∧ ((e.2.2 = .inr d) ∧ ((s.trapReady u)))))))) ∧
  (∃ (s : State) (u : Tid) (a b : Fin 32) (v w k : Nat) (msg : List Word), (s.canIssue u [enc 0x22 a b]) ∧ ((regOk a = true) ∧ ((regOk b = true) ∧
    ((s.reads2 u a b v w) ∧ ((s.chanPut u w true = .inl k) ∧ ((msg = s.withSender u k ((match (s.th u).staging with | some (_, ws) => ws | none => [])
    ++ [word v])) ∧ (((s.th u).posted ≠ [])))))))) ∧
  (∃ (s : State) (u : Tid) (a b : Fin 32) (v w k : Nat) (msg : List Word), (s.canIssue u [enc 0x22 a b]) ∧ ((regOk a = true) ∧ ((regOk b = true) ∧
    ((s.reads2 u a b v w) ∧ ((s.chanPut u w true = .inl k) ∧ ((msg = s.withSender u k ((match (s.th u).staging with | some (_, ws) => ws | none => [])
    ++ [word v])) ∧ (((s.th u).posted = []) ∧ ((s.chanRoom k msg.length = true) ∧ ((s.firstWriter u k = true) ∧ ((k % 1024 ≠ 1))))))))))) ∧
  (∃ (s : State) (u : Tid) (a b : Fin 32) (v w k : Nat) (msg : List Word), (s.canIssue u [enc 0x22 a b]) ∧ ((regOk a = true) ∧ ((regOk b = true) ∧
    ((s.reads2 u a b v w) ∧ ((s.chanPut u w true = .inl k) ∧ ((msg = s.withSender u k ((match (s.th u).staging with | some (_, ws) => ws | none => [])
    ++ [word v])) ∧ (∃ i c, ((s.th u).posted = []) ∧ ((s.firstWriter u k = true) ∧ ((k % 1024 = 1) ∧ ((i = (msg.headD 0).toNat % 4) ∧ ((c = bits
    (msg.headD 0).toNat 2 2) ∧ (∃ p, ((s.th u).slot i = some p) ∧ ((p.phase = 2) ∧ (((c = 1 ∨ c = 2)))))))))))))))) ∧
  (∃ (s : State) (u : Tid) (a b : Fin 32) (v w k : Nat) (msg : List Word), (s.canIssue u [enc 0x22 a b]) ∧ ((regOk a = true) ∧ ((regOk b = true) ∧
    ((s.reads2 u a b v w) ∧ ((s.chanPut u w true = .inl k) ∧ ((msg = s.withSender u k ((match (s.th u).staging with | some (_, ws) => ws | none => [])
    ++ [word v])) ∧ (∃ i c, ((s.th u).posted = []) ∧ ((s.firstWriter u k = true) ∧ ((k % 1024 = 1) ∧ ((i = (msg.headD 0).toNat % 4) ∧ ((c = bits
    (msg.headD 0).toNat 2 2) ∧ (((∀ p, (s.th u).slot i = some p → p.phase ≠ 2 ∨ (c ≠ 1 ∧ c ≠ 2))))))))))))))) ∧
  (∃ (s : State) (u : Tid) (a b : Fin 32) (v w k : Nat) (msg : List Word), (s.canIssue u [enc 0x22 a b]) ∧ ((regOk a = true) ∧ ((regOk b = true) ∧
    ((s.reads2 u a b v w) ∧ ((s.chanPut u w true = .inl k) ∧ ((msg = s.withSender u k ((match (s.th u).staging with | some (_, ws) => ws | none => [])
    ++ [word v])) ∧ (((s.th u).posted = []) ∧ (((s.chanRoom k msg.length = false ∨ s.firstWriter u k = false)))))))))) ∧
  (∃ (s : State) (u : Tid) (a b : Fin 32) (v w k idx : Nat) (m : Msg), ∃ e, e ∈ ([(Instr.chr u a b, 0x23), (.chp u a b, 0x24)] : List (Instr × Nat)) ∧
    ((s.canIssue u [enc e.2 a b]) ∧ ((regOk a = true) ∧ ((regOk b = true) ∧ ((s.reads2 u a b v w) ∧ ((s.chanTake u w = .inl k) ∧ ((s.messageFor u k =
    some (idx, m)) ∧ ((copyOk v m.words.length = true) ∧ (((s.core (coreOf u)).sb = [])))))))))) ∧
  (∃ (s : State) (u : Tid) (a b : Fin 32) (v w k idx : Nat) (m : Msg), ∃ e, e ∈ ([(Instr.chr u a b, 0x23), (.chp u a b, 0x24)] : List (Instr × Nat)) ∧
    ((s.canIssue u [enc e.2 a b]) ∧ ((regOk a = true) ∧ ((regOk b = true) ∧ ((s.reads2 u a b v w) ∧ ((s.chanTake u w = .inl k) ∧ ((s.messageFor u k =
    some (idx, m)) ∧ ((copyOk v m.words.length = true))))))))) ∧
  (∃ (s : State) (u : Tid) (a b : Fin 32) (v w k idx : Nat) (m : Msg), ∃ e, e ∈ ([(Instr.chr u a b, 0x23), (.chp u a b, 0x24)] : List (Instr × Nat)) ∧
    ((s.canIssue u [enc e.2 a b]) ∧ ((regOk a = true) ∧ ((regOk b = true) ∧ ((s.reads2 u a b v w) ∧ ((s.chanTake u w = .inl k) ∧ ((s.messageFor u k =
    some (idx, m)) ∧ ((copyOk v m.words.length = false) ∧ ((s.trapReady u)))))))))) ∧
  (∃ (s : State) (u : Tid) (a b : Fin 32) (v w k : Nat), (s.canIssue u [enc 0x23 a b]) ∧ ((regOk a = true) ∧ ((regOk b = true) ∧ ((s.reads2 u a b v w) ∧
    ((s.chanTake u w = .inl k) ∧ ((s.messageFor u k = none))))))) ∧
  (∃ (s : State) (u : Tid) (a b : Fin 32) (v w k : Nat), (s.canIssue u [enc 0x24 a b]) ∧ ((regOk a = true) ∧ ((regOk b = true) ∧ ((s.reads2 u a b v w) ∧
    ((s.chanTake u w = .inl k) ∧ ((s.messageFor u k = none))))))) :=
  by
  refine ⟨⟨wChan [enc 0x21 1 2] (127 * 4096 + 65), 1024, 1, 2, 0, 0x8010, 16400, ?_, ?_, ?_, wReads2 ?_ ?_, ?_⟩,
  ⟨wChan [enc 0x21 1 2] (127 * 4096), 1024, 1, 2, 0, 0x8010, 5, _, List.mem_of_getElem? (i := 0) rfl, ?_, ?_, ?_, wReads2 ?_ ?_, ?_⟩,
  ⟨(wChan [enc 0x22 1 2] (127 * 4096 + 65)).setTh 1024 fun th => { th with posted := [wFar] }, 1024, 1, 2, 0, 0x8010, 16400, [0], ?_, ?_, ?_,
    wReads2 ?_ ?_, ?_⟩,
  ⟨wChan [enc 0x22 1 2] (127 * 4096 + 65), 1024, 1, 2, 0, 0x8010, 16400, [0], ?_, ?_, ?_, wReads2 ?_ ?_, ?_⟩,
  ⟨((wWk [enc 0x22 1 2]).setTh 63 fun th => ({ th with slots := [(3, some (wSlotPkt 2))] }.putReg 1 11).putReg 2 0x8001), 63, 1, 2, 11, 0x8001, 1, [11],
    ?_, ?_, ?_, wReads2 ?_ ?_, ?_, ?_, 3, 2, ?_, ?_, ?_, ?_, ?_, wSlotPkt 2, ?_⟩,
  ⟨((wWk [enc 0x22 1 2]).setTh 63 fun th => ({ th with slots := [(3, some (wSlotPkt 2))] }.putReg 1 15).putReg 2 0x8001), 63, 1, 2, 15, 0x8001, 1, [15],
    ?_, ?_, ?_, wReads2 ?_ ?_, ?_, ?_, 3, 3, ?_⟩,
  ⟨{ wChan [enc 0x22 1 2] (127 * 4096 + 65) with chans := [(16400, [wMsg])] }, 1024, 1, 2, 0, 0x8010, 16400, [0], ?_, ?_, ?_, wReads2 ?_ ?_, ?_⟩,
  ⟨{ wChan [enc 0x23 1 2] (127 * 4096 + 65) with chans := [(16400, [wMsg])] }, 1024, 1, 2, 0, 0x8010, 16400, 0, wMsg, _,
    List.mem_of_getElem? (i := 0) rfl, ?_, ?_, ?_, wReads2 ?_ ?_, ?_⟩,
  ⟨{ wChan [enc 0x24 1 2] (127 * 4096 + 65) with chans := [(16400, [wMsg])] }, 1024, 1, 2, 0, 0x8010, 16400, 0, wMsg, _,
    List.mem_of_getElem? (i := 1) rfl, ?_, ?_, ?_, wReads2 ?_ ?_, ?_⟩,
  ⟨({ wChan [enc 0x23 1 2] (127 * 4096 + 65) with chans := [(16400, [wMsg])] } : State).setTh 1024 fun th => th.putReg 1 0x4000, 1024, 1, 2, 16384,
    0x8010, 16400, 0, wMsg, _, List.mem_of_getElem? (i := 0) rfl, ?_, ?_, ?_, wReads2 ?_ ?_, ?_⟩,
  ⟨wChan [enc 0x23 1 2] (127 * 4096 + 65), 1024, 1, 2, 0, 0x8010, 16400, ?_, ?_, ?_, wReads2 ?_ ?_, ?_⟩,
  ⟨wChan [enc 0x24 1 2] (127 * 4096 + 65), 1024, 1, 2, 0, 0x8010, 16400, ?_, ?_, ?_, wReads2 ?_ ?_, ?_⟩⟩ <;> and_intros <;> decide +kernel

theorem witness_ChannelWaits :
  (∃ (s : State) (u : Tid) (k dst r idx : Nat) (m : Msg) (rest : List (Nat × Msg)), ((s.th u).st = .blocked) ∧ (((s.th u).wait = .chr k dst r) ∧
    ((s.readable u k = (idx, m) :: rest) ∧ ((((s.chrWaiters k).all (fun w => (s.th u).blockedAt ≤ (s.th w).blockedAt) = true ∨ (k % 1024 = 0 ∧ k <
    16384))) ∧ ((copyOk dst m.words.length = true) ∧ (((s.core (coreOf u)).sb = []) ∧ (((s.th u).mchk = false)))))))) ∧
  (∃ (s : State) (u : Tid) (k dst r idx : Nat) (m : Msg) (rest : List (Nat × Msg)), ((s.th u).st = .blocked) ∧ (((s.th u).wait = .chr k dst r) ∧
    ((s.readable u k = (idx, m) :: rest) ∧ ((((s.chrWaiters k).all (fun w => (s.th u).blockedAt ≤ (s.th w).blockedAt) = true ∨ (k % 1024 = 0 ∧ k <
    16384))) ∧ ((copyOk dst m.words.length = false) ∧ ((s.trapReady u))))))) ∧
  (∃ (s : State) (u : Tid) (k dst r : Nat), ((s.th u).wait = .chr k dst r) ∧ ((s.readable u k = []))) ∧
  (∃ (s : State) (u : Tid) (k : Nat) (ws : List Word) (stores : Bool), ((s.th u).st = .blocked) ∧ (((s.th u).wait = .che k ws stores) ∧ (((1024 ≤ u.val ∨
    s.inService (k / 1024) (s.tidOwner u) = true ∨ k / 1024 = clusterOf u)) ∧ (((stores = true → (s.th u).posted = [])) ∧ ((k % 1024 ≠ 1) ∧
    ((s.chanRoom k ws.length = true) ∧ ((s.firstWriter u k = true) ∧ (((s.th u).mchk = false))))))))) ∧
  (∃ (s : State) (u : Tid) (k : Nat) (ws : List Word) (stores : Bool), ((s.th u).st = .blocked) ∧ (((s.th u).wait = .che k ws stores) ∧ (((1024 ≤ u.val ∨
    s.inService (k / 1024) (s.tidOwner u) = true ∨ k / 1024 = clusterOf u)) ∧ ((stores = true) ∧ (((s.th u).posted = []) ∧ (((s.chanRoom k ws.length =
    false ∨ s.firstWriter u k = false)))))))) ∧
  (∃ (s : State) (u : Tid) (k : Nat) (ws : List Word) (stores : Bool), ((s.th u).st = .blocked) ∧ (((s.th u).wait = .che k ws stores) ∧ (((1024 ≤ u.val ∨
    s.inService (k / 1024) (s.tidOwner u) = true ∨ k / 1024 = clusterOf u)) ∧ (((stores = true ∧ (s.th u).posted ≠ []) ∨ (stores = false ∧ s.chanRoom
    k ws.length = false)))))) ∧
  (∃ (s : State) (u : Tid) (k : Nat) (ws : List Word) (stores : Bool), ((s.th u).st = .blocked) ∧ (((s.th u).wait = .che k ws stores) ∧ ((u.val < 1024) ∧
    ((s.inService (k / 1024) (s.tidOwner u) = false) ∧ ((k / 1024 ≠ clusterOf u) ∧ ((s.trapReady u))))))) :=
  by
  refine ⟨⟨{ wWait wM 1024 (.chr 16400 0x3FFF 3) with chans := [(16400, [wMsg])] }, 1024, 16400, 0x3FFF, 3, 0, wMsg, [], ?_⟩,
  ⟨{ wWait wM 1024 (.chr 16400 0x4000 3) with chans := [(16400, [wMsg])] }, 1024, 16400, 0x4000, 3, 0, wMsg, [], ?_⟩,
  ⟨wWait wM 1024 (.chr 16400 0 3), 1024, 16400, 0, 3, ?_⟩,
  ⟨{ wWait wM 1024 (.che 16400 [5] true) with chanCfg := [(16400, 127 * 4096 + 65)] }, 1024, 16400, [5], true, ?_⟩,
  ⟨{ wWait wM 1024 (.che 16400 [5] true) with chanCfg := [(16400, 127 * 4096 + 65)], chans := [(16400, [wMsg])] }, 1024, 16400, [5], true, ?_⟩,
  ⟨{ wWait wM 1024 (.che 16400 [5] false) with chanCfg := [(16400, 127 * 4096 + 65)], chans := [(16400, [wMsg])] }, 1024, 16400, [5], false, ?_⟩,
  ⟨wWait wRun 63 (.che 5136 [5] false), 63, 5136, [5], false, ?_⟩⟩ <;> and_intros <;> decide +kernel

theorem witness_Timers :
  (∃ (s : State) (u : Tid) (i : Fin 8) (n : Word), ((s.th u).st = .running) ∧ ((n.toNat ≠ 0) ∧ (∃ k, (s.timerChan u i = .inl k)))) ∧
  (∃ (s : State) (u : Tid) (i : Fin 8) (n : Word), ((s.th u).st = .running) ∧ ((n.toNat ≠ 0) ∧ (∃ d, (s.timerChan u i = .inr d) ∧ ((s.trapReady u))))) ∧
  (∃ (s : State) (u : Tid) (i : Fin 8) (v : Word), ((s.th u).st = .running)) ∧
  (∃ (s : State) (u : Tid) (i : Fin 8), (s.timerNext u i = true) ∧ (∃ k, (s.timerChan u i = .inl k) ∧ ((s.chanRoom k 1 = true)))) ∧
  (∃ (s : State) (u : Tid) (i : Fin 8), (s.timerNext u i = true) ∧ (((∀ k, s.timerChan u i = .inl k → s.chanRoom k 1 = false)))) ∧
  (∃ (s : State) (u : Tid) (i : Fin 8), (s.timerNext u i = false)) :=
  by
  refine ⟨⟨{ wM.setTh 1024 fun th => { th with st := .running, timers := [(7, { ch := 0x8010, tag := 9, due := 0, order := 0, late := false })] } with chanCfg := [(16400, 127 * 4096 + 65)] },
    1024, 7, 0xFFFF, ?_, ?_, 16400, ?_⟩,
  ⟨wM.setTh 1024 fun th => { th with st := .running, timers := [(7, { ch := 0x4010, tag := 9, due := 0, order := 0, late := false })] }, 1024, 7, 1, ?_,
    ?_, 5, ?_⟩,
  ⟨wCpu [], 1024, 0, 5, ?_⟩,
  ⟨{ wM.setTh 1024 fun th => { th with st := .running, timers := [(7, { ch := 0x8010, tag := 9, due := 1, order := 0, late := false })] } with chanCfg := [(16400, 127 * 4096 + 65)] },
    1024, 7, ?_, 16400, ?_⟩,
  ⟨{ wM.setTh 1024 fun th => { th with st := .running, timers := [(7, { ch := 0x8010, tag := 9, due := 1, order := 0, late := false })] } with chanCfg := [(16400, 127 * 4096 + 65)], chans := [(16400, [wMsg])] },
    1024, 7, ?_,
    (by intro k h; have e : State.timerChan { wM.setTh 1024 fun th => { th with st := .running, timers := [(7, { ch := 0x8010, tag := 9, due := 1, order := 0, late := false })] } with chanCfg := [(16400, 127 * 4096 + 65)], chans := [(16400, [wMsg])] } 1024 7 = .inl 16400 := (by decide +kernel); cases Sum.inl.inj (e.symm.trans h); decide +kernel)⟩,
  ⟨wM, 1024, 0, ?_⟩⟩ <;> and_intros <;> decide +kernel

theorem witness_Still :
  ∃ (s : State) (x : StallId), (s.f F.schStillStat_COURSES x = 2) :=
  by
  refine ⟨wM.setF F.schStillStat_COURSES 15 2, 15, ?_⟩ <;> and_intros <;> decide +kernel

theorem witness_LockInstructions :
  (∃ (s s1 : State) (u : Tid) (a : Fin 32) (ea : Nat), ∃ e, e ∈ ([(Instr.lka u a, 0), (.lkt u a, 1), (.lkr u a, 2), (.lkf u a, 3)] : List (Instr × Nat))
    ∧ ((s.canIssue u [enc 0x1A a e.2]) ∧ ((pairOk a = true) ∧ ((s.readPair u a = (ea, s1)) ∧ (∃ l, (s.lockAt u ea = some l) ∧ (((e.2 = 3 →
    s.privileged u = true)) ∧ (((e.2 ≤ 1 → (s.th u).holds l = false ∧ (s.th u).locks.length < 8))))))))) ∧
  (∃ (s s1 : State) (u : Tid) (a : Fin 32) (ea : Nat), ∃ e, e ∈ ([(Instr.lka u a, 0), (.lkt u a, 1), (.lkr u a, 2), (.lkf u a, 3)] : List (Instr × Nat))
    ∧ ((s.canIssue u [enc 0x1A a e.2]) ∧ ((pairOk a = true) ∧ ((s.readPair u a = (ea, s1)) ∧ (∃ l, (s.lockAt u ea = some l) ∧ ((e.2 ≤ 1) ∧ (((s.th
    u).holds l = true)))))))) ∧
  (∃ (s s1 : State) (u : Tid) (a : Fin 32) (ea : Nat), ∃ e, e ∈ ([(Instr.lka u a, 0), (.lkt u a, 1), (.lkr u a, 2), (.lkf u a, 3)] : List (Instr × Nat))
    ∧ ((s.canIssue u [enc 0x1A a e.2]) ∧ ((pairOk a = true) ∧ ((s.readPair u a = (ea, s1)) ∧ (∃ l, (s.lockAt u ea = some l) ∧ ((e.2 ≤ 1) ∧ (((s.th
    u).holds l = false) ∧ ((8 ≤ (s.th u).locks.length) ∧ ((s.trapReady u)))))))))) ∧
  (∃ (s s1 : State) (u : Tid) (a : Fin 32) (ea : Nat), ∃ e, e ∈ ([(Instr.lka u a, 0), (.lkt u a, 1), (.lkr u a, 2), (.lkf u a, 3)] : List (Instr × Nat))
    ∧ ((s.canIssue u [enc 0x1A a e.2]) ∧ ((pairOk a = true) ∧ ((s.readPair u a = (ea, s1)) ∧ ((s.lockAt u ea = none) ∧ (((e.2 = 3 → s.privileged u =
    true)) ∧ ((s.trapReady u)))))))) ∧
  (∃ (s s1 : State) (u : Tid) (a : Fin 32) (ea : Nat), ∃ e, e ∈ ([(Instr.lka u a, 0), (.lkt u a, 1), (.lkr u a, 2), (.lkf u a, 3)] : List (Instr × Nat))
    ∧ ((s.canIssue u [enc 0x1A a e.2]) ∧ ((pairOk a = true) ∧ ((s.readPair u a = (ea, s1)) ∧ ((e.2 = 3) ∧ ((s.privileged u = false) ∧ ((s.trapReady
    u)))))))) :=
  by
  refine ⟨⟨wFarCpu [enc 0x1A 24 0], ((wFarCpu [enc 0x1A 24 0]).readPair (1024 : Tid) (24 : Fin 32)).2, 1024, 24,
    ((wFarCpu [enc 0x1A 24 0]).readPair (1024 : Tid) (24 : Fin 32)).1, _, List.mem_of_getElem? (i := 0) rfl, ?_, ?_, rfl, ⟨none, 0⟩, ?_⟩,
  ⟨(wFarCpu [enc 0x1A 24 1]).setTh 1024 fun th => { th with locks := [{ lock := ⟨none, 0⟩, waited := false }] },
    (((wFarCpu [enc 0x1A 24 1]).setTh 1024 fun th => { th with locks := [{ lock := ⟨none, 0⟩, waited := false }] }).readPair (1024 : Tid) (24 : Fin 32)).2,
    1024, 24,
    (((wFarCpu [enc 0x1A 24 1]).setTh 1024 fun th => { th with locks := [{ lock := ⟨none, 0⟩, waited := false }] }).readPair (1024 : Tid) (24 : Fin 32)).1,
    _, List.mem_of_getElem? (i := 1) rfl, ?_, ?_, rfl, ⟨none, 0⟩, ?_⟩,
  ⟨(wFarCpu [enc 0x1A 24 0]).setTh 1024 fun th => { th with locks := (List.range 8).map fun k => { lock := ⟨none, 4 * k + 4⟩, waited := false } },
    (((wFarCpu [enc 0x1A 24 0]).setTh 1024 fun th => { th with locks := (List.range 8).map fun k => { lock := ⟨none, 4 * k + 4⟩, waited := false } }).readPair (1024 : Tid) (24 : Fin 32)).2,
    1024, 24,
    (((wFarCpu [enc 0x1A 24 0]).setTh 1024 fun th => { th with locks := (List.range 8).map fun k => { lock := ⟨none, 4 * k + 4⟩, waited := false } }).readPair (1024 : Tid) (24 : Fin 32)).1,
    _, List.mem_of_getElem? (i := 0) rfl, ?_, ?_, rfl, ⟨none, 0⟩, ?_⟩,
  ⟨wCpu [enc 0x1A 24 2], ((wCpu [enc 0x1A 24 2]).readPair (1024 : Tid) (24 : Fin 32)).2, 1024, 24,
    ((wCpu [enc 0x1A 24 2]).readPair (1024 : Tid) (24 : Fin 32)).1, _, List.mem_of_getElem? (i := 2) rfl, ?_, ?_, rfl, ?_⟩,
  ⟨wWk [enc 0x1A 24 3], ((wWk [enc 0x1A 24 3]).readPair (63 : Tid) (24 : Fin 32)).2, 63, 24,
    ((wWk [enc 0x1A 24 3]).readPair (63 : Tid) (24 : Fin 32)).1, _, List.mem_of_getElem? (i := 3) rfl, ?_, ?_, rfl, ?_⟩⟩ <;> and_intros <;> decide +kernel

theorem witness_LockOperationDone :
  (∃ (s : State) (u : Tid) (op far : Nat) (l : LockId) (err : Bool), ((s.th u).st = .blocked) ∧ (((s.th u).wait = .lockOp op l far) ∧ (((s.th
    u).lockWaits op far = true)))) ∧
  (∃ (s : State) (u : Tid) (op far : Nat) (l : LockId), ((s.th u).st = .blocked) ∧ (((s.th u).wait = .lockOp op l far) ∧ (((s.th u).lockWaits op far =
    false) ∧ ((l.cluster = none) ∧ ((s.trapReady u)))))) ∧
  (∃ (s : State) (u : Tid) (op far : Nat) (l : LockId) (err : Bool), ((s.th u).st = .blocked) ∧ (((s.th u).wait = .lockOp op l far) ∧ (((s.th
    u).lockWaits op far = false) ∧ (((err = true → l.cluster.isSome = true)) ∧ (((s.th u).mchk = false) ∧ ((op ≤ 1) ∧ ((s.lockHeld l = false) ∧
    ((s.epoch < 4096))))))))) ∧
  (∃ (s : State) (u : Tid) (op far : Nat) (l : LockId) (err : Bool), ((s.th u).st = .blocked) ∧ (((s.th u).wait = .lockOp op l far) ∧ (((s.th
    u).lockWaits op far = false) ∧ (((err = true → l.cluster.isSome = true)) ∧ (((s.th u).mchk = false) ∧ ((op = 1) ∧ ((s.lockHeld l = true)))))))) ∧
  (∃ (s : State) (u : Tid) (op far : Nat) (l : LockId) (err : Bool), ((s.th u).st = .blocked) ∧ (((s.th u).wait = .lockOp op l far) ∧ (((s.th
    u).lockWaits op far = false) ∧ (((err = true → l.cluster.isSome = true)) ∧ (((s.th u).mchk = false) ∧ ((op = 0) ∧ ((s.lockHeld l = true)))))))) ∧
  (∃ (s : State) (u : Tid) (op far : Nat) (l : LockId) (err : Bool), ((s.th u).st = .blocked) ∧ (((s.th u).wait = .lockOp op l far) ∧ (((s.th
    u).lockWaits op far = false) ∧ (((err = true → l.cluster.isSome = true)) ∧ (((s.th u).mchk = false) ∧ ((op = 2) ∧ (((s.th u).holds l = true) ∧
    ((s.lockHeld l = true) ∧ ((s.lockHolder l = u.val) ∧ ((s.nextWaiter l = none))))))))))) ∧
  (∃ (s : State) (u : Tid) (op far : Nat) (l : LockId) (err : Bool), ((s.th u).st = .blocked) ∧ (((s.th u).wait = .lockOp op l far) ∧ (((s.th
    u).lockWaits op far = false) ∧ (((err = true → l.cluster.isSome = true)) ∧ (((s.th u).mchk = false) ∧ ((op = 2) ∧ (((s.th u).holds l =
    false)))))))) ∧
  (∃ (s : State) (u : Tid) (op far : Nat) (l : LockId) (err : Bool), ((s.th u).st = .blocked) ∧ (((s.th u).wait = .lockOp op l far) ∧ (((s.th
    u).lockWaits op far = false) ∧ (((err = true → l.cluster.isSome = true)) ∧ (((s.th u).mchk = false) ∧ (∃ w : Tid, (op = 2) ∧ (((s.th u).holds l =
    true) ∧ ((s.lockHeld l = true) ∧ ((s.lockHolder l = u.val) ∧ ((s.nextWaiter l = some w.val) ∧ ((w ≠ u) ∧ ((s.epoch < 4096) ∧ (((s.th w).mchk =
    false)))))))))))))) ∧
  (∃ (s : State) (u : Tid) (op far : Nat) (l : LockId) (err : Bool), ((s.th u).st = .blocked) ∧ (((s.th u).wait = .lockOp op l far) ∧ (((s.th
    u).lockWaits op far = false) ∧ (((err = true → l.cluster.isSome = true)) ∧ (((s.th u).mchk = false) ∧ ((op = 3) ∧ ((s.lockHeld l = true) ∧
    ((s.nextWaiter l = none))))))))) ∧
  (∃ (s : State) (u : Tid) (op far : Nat) (l : LockId) (err : Bool), ((s.th u).st = .blocked) ∧ (((s.th u).wait = .lockOp op l far) ∧ (((s.th
    u).lockWaits op far = false) ∧ (((err = true → l.cluster.isSome = true)) ∧ (((s.th u).mchk = false) ∧ ((op = 3) ∧ ((s.lockHeld l = false)))))))) :=
  by
  refine ⟨⟨(wWait wM 1031 (.lockOp 1 ⟨some 15, 1048572⟩ 0)).setTh 1031 fun th => { th with posted := [wFar] }, 1031, 1, 0, ⟨some 15, 1048572⟩, false, ?_⟩,
  ⟨wWait wM 1031 (.lockOp 1 ⟨none, 4⟩ 4), 1031, 1, 4, ⟨none, 4⟩, ?_⟩,
  ⟨wWait wM 1031 (.lockOp 1 ⟨some 15, 1048572⟩ 0), 1031, 1, 0, ⟨some 15, 1048572⟩, true, ?_⟩,
  ⟨(wWait wM 1031 (.lockOp 1 ⟨some 15, 0⟩ 0)).setClWord 15 0 0x8000, 1031, 1, 0, ⟨some 15, 0⟩, false, ?_⟩,
  ⟨(wWait wM 1031 (.lockOp 0 ⟨none, 4⟩ 0)).setDramWord 4 0x8000, 1031, 0, 0, ⟨none, 4⟩, false, ?_⟩,
  ⟨((wWait wM 63 (.lockOp 2 ⟨none, 4⟩ 0)).setDramWord 4 0x803F).setTh 63 fun th => { th with locks := [{ lock := ⟨none, 4⟩, waited := false }] }, 63, 2,
    0, ⟨none, 4⟩, false, ?_⟩,
  ⟨(wWait wM 63 (.lockOp 2 ⟨none, 4⟩ 0)).setDramWord 4 0x803F, 63, 2, 0, ⟨none, 4⟩, false, ?_⟩,
  ⟨{ (wWait (wWait wM 63 (.lockOp 2 ⟨none, 4⟩ 0)) 7 (.lka ⟨none, 4⟩)).setDramWord 4 0x883F with lockQ := [(7, ⟨none, 4⟩)] }.setTh 63 fun th => { th with locks := [{ lock := ⟨none, 4⟩, waited := false }] },
    63, 2, 0, ⟨none, 4⟩, false, ?_, ?_, ?_, ?_, ?_, 7, ?_⟩,
  ⟨(wWait wM 1031 (.lockOp 3 ⟨some 15, 0⟩ 0)).setClWord 15 0 0x8000, 1031, 3, 0, ⟨some 15, 0⟩, false, ?_⟩,
  ⟨wWait wM 1031 (.lockOp 3 ⟨some 15, 0⟩ 0), 1031, 3, 0, ⟨some 15, 0⟩, false, ?_⟩⟩ <;> and_intros <;> decide +kernel

theorem witness_CoreEvents :
  (∃ (s : State) (k : Fin 129) (line : Fin 16384), ((s.lineWanted k line ≠ [] ∨ line.val ∈ (s.core k).prefetch))) ∧
  (∃ (s : State) (k : Fin 129) (l : Nat) (u : Nat), ((if k.val < 128 then s.f F.cluCoreCtl_GUARD (k / 8) (k % 8) else 32) ≠ 0) ∧ ((u / 8 = k.val) ∧
    (((s.th u).st = .running) ∧ ((l ∈ s.linesNeeded u) ∧ ((l ∉ (s.core k).lines) ∧ ((l ∉ (s.core k).guarded))))))) ∧
  (∃ (s : State) (k : Fin 129), ((s.core k).sb = [])) ∧
  (∃ (s : State) (k : Fin 129) (e : SbEntry) (rest : List SbEntry), ((s.core k).sb = e :: rest)) :=
  by
  refine ⟨⟨wM.setCore 128 fun c => { c with prefetch := [16383] }, 128, 16383, ?_⟩,
  ⟨(wCpu [enc 1 1 2]).setCore 128 fun c => { c with lines := [] }, 128, 0, 1024, ?_⟩,
  ⟨wM, 128, ?_⟩,
  ⟨wM.setCore 0 fun c => { c with sb := [{ id := 0, thread := 7, addr := 0x3FFF, data := [1] }] }, 0,
    { id := 0, thread := 7, addr := 0x3FFF, data := [1] }, [], ?_⟩⟩ <;> and_intros <;> decide +kernel

theorem witness_TallyOwnership :
  (∃ (s : State) (u : Tid), (s.canIssue u [enc 0x3C 0 0]) ∧ ((hasGroup u (some 2) = true) ∧ ((s.tallyRoom u = true) ∧ ((((s.unit (coreOf u)).owner = none
    ∨ (s.unit (coreOf u)).owner = some (u.val % 8))))))) ∧
  (∃ (s : State) (u : Tid), (s.canIssue u [enc 0x3C 0 0]) ∧ ((hasGroup u (some 2) = true) ∧ ((s.tallyRoom u = true) ∧ (∃ j, ((s.unit (coreOf u)).owner =
    some j) ∧ ((j ≠ u.val % 8)))))) ∧
  (∃ (s : State) (u : Tid), (s.canIssue u [enc 0x3C 0 1]) ∧ ((hasGroup u (some 2) = true) ∧ ((s.tallyRoom u = true) ∧ ((u.val < 1024) ∧ (((s.unit (coreOf
    u)).owner = some (u.val % 8))))))) ∧
  (∃ (s : State) (u : Tid), (s.canIssue u [enc 0x3C 0 1]) ∧ ((hasGroup u (some 2) = true) ∧ ((s.tallyRoom u = true) ∧ ((u.val < 1024) ∧ (((s.unit (coreOf
    u)).owner ≠ some (u.val % 8))))))) ∧
  (∃ (s : State) (u : Tid), (s.canIssue u [enc 0x3C 0 2]) ∧ ((hasGroup u (some 2) = true) ∧ ((s.tallyRoom u = true) ∧ ((s.tallyPending u = false) ∧ (((∀
    e ∈ (s.th u).shades, e.clash = false))))))) ∧
  (∃ (s : State) (u : Tid), (s.canIssue u [enc 0x3C 0 2]) ∧ ((hasGroup u (some 2) = true) ∧ ((s.tallyRoom u = true) ∧ ((s.tallyPending u = true) ∧
    (((s.unit (coreOf u)).failed = false)))))) :=
  by
  refine ⟨⟨wWk [enc 0x3C 0 0], 63, ?_⟩,
  ⟨(wWk [enc 0x3C 0 0]).setUnit 7 fun u => { u with owner := some 6 }, 63, ?_, ?_, ?_, 6, ?_⟩,
  ⟨(wWk [enc 0x3C 0 1]).setUnit 7 fun u => { u with owner := some 7 }, 63, ?_⟩,
  ⟨(wWk [enc 0x3C 0 1]).setUnit 7 fun u => { u with owner := some 6 }, 63, ?_⟩,
  ⟨wWk [enc 0x3C 0 2], 63, ?_⟩,
  ⟨(wWk [enc 0x3C 0 2]).setUnit 7 fun u => { u with owner := some 7, queue := [(63, .top 0 0 0 0 0 0 0)] }, 63, ?_⟩⟩ <;> and_intros <;> decide +kernel

theorem witness_TallyCommands :
  (∃ (s : State) (u : Tid) (b : Fin 32) (w : Word), ∃ e, e ∈ ([(Instr.topClr u b w, 0), (.topMova u b w, 1), (.topAdd u b w, 2), (.topSub u b w, 3),
    (.topMul u b w, 4), (.topDiv u b w, 5), (.topRnd u b w, 6), (.topCmp u b w, 7), (.topNeg u b w, 8), (.topAbs u b w, 9), (.topCvd u b w, 10),
    (.topCvb u b w, 11), (.topHeat u b w, 12)] : List (Instr × Nat)) ∧ ((s.canIssue u [enc 0x3F e.2 b, w.toNat]) ∧ ((hasGroup u (some 2) = true) ∧
    ((w.toNat < 4096) ∧ ((s.tallyRoom u = true) ∧ ((s.tallyFault u = none))))))) ∧
  (∃ (s : State) (u : Tid) (b : Fin 32) (w : Word), ∃ e, e ∈ ([(Instr.topClr u b w, 0), (.topMova u b w, 1), (.topAdd u b w, 2), (.topSub u b w, 3),
    (.topMul u b w, 4), (.topDiv u b w, 5), (.topRnd u b w, 6), (.topCmp u b w, 7), (.topNeg u b w, 8), (.topAbs u b w, 9), (.topCvd u b w, 10),
    (.topCvb u b w, 11), (.topHeat u b w, 12)] : List (Instr × Nat)) ∧ ((s.canIssue u [enc 0x3F e.2 b, w.toNat]) ∧ ((hasGroup u (some 2) = true) ∧
    ((w.toNat < 4096) ∧ (∃ d, (s.tallyRoom u = true) ∧ ((s.tallyFault u = some d) ∧ ((s.trapReady u)))))))) ∧
  (∃ (s : State) (u : Tid) (a b : Fin 32) (w : Word), ∃ e, e ∈ ([(Instr.tlock u 0, [enc 0x3C 0 0], true), (.tfree u 0, [enc 0x3C 0 1], true), (.tsync u
    0, [enc 0x3C 0 2], true), (.mtt u a b w, [enc 0x3D a b, w.toNat], tallyLegal a b w.toNat true), (.mft u a b w, [enc 0x3E a b, w.toNat], tallyLegal
    a b w.toNat false)] ++ ([(Instr.topClr u b w, 0), (.topMova u b w, 1), (.topAdd u b w, 2), (.topSub u b w, 3), (.topMul u b w, 4), (.topDiv u b w,
    5), (.topRnd u b w, 6), (.topCmp u b w, 7), (.topNeg u b w, 8), (.topAbs u b w, 9), (.topCvd u b w, 10), (.topCvb u b w, 11), (.topHeat u b w,
    12)].map fun e => (e.1, [enc 0x3F e.2 b, w.toNat], decide (w.toNat < 4096))) : List (Instr × List Nat × Bool)) ∧ ((s.canIssue u e.2.1) ∧
    ((hasGroup u (some 2) = true) ∧ ((e.2.2 = true) ∧ ((s.tallyRoom u = false)))))) ∧
  (∃ (s : State) (u : Tid) (a b : Fin 32) (w : Word), ∃ e, e ∈ ([(Instr.mtt u a b w, enc 0x3D a b, tallyLegal a b w.toNat true), (.mft u a b w, enc 0x3E
    a b, tallyLegal a b w.toNat false)] : List (Instr × Nat × Bool)) ∧ (∃ d, (s.canIssue u [e.2.1, w.toNat]) ∧ ((hasGroup u (some 2) = true) ∧ ((e.2.2
    = true) ∧ ((s.tallyRoom u = true) ∧ ((s.tallyFault u = some d) ∧ ((s.trapReady u)))))))) ∧
  (∃ (s s1 : State) (u : Tid) (a b : Fin 32) (w : Word) (v : Nat), (s.canIssue u [enc 0x3D a b, w.toNat]) ∧ ((hasGroup u (some 2) = true) ∧ ((tallyLegal
    a b w.toNat true = true) ∧ ((s.tallyRoom u = true) ∧ ((s.tallyFault u = none) ∧ (((if b.val % 2 == 1 then s.readPair u a else s.readReg u a) = (v,
    s1)))))))) ∧
  (∃ (s : State) (u : Tid) (a b : Fin 32) (w : Word), (s.canIssue u [enc 0x3E a b, w.toNat]) ∧ ((hasGroup u (some 2) = true) ∧ ((tallyLegal a b w.toNat
    false = true) ∧ ((s.tallyRoom u = true) ∧ ((s.tallyFault u = none) ∧ (((s.th u).synced = false ∨ (s.unit (coreOf u)).queue ≠ []))))))) ∧
  (∃ (s : State) (u : Tid) (a b : Fin 32) (w : Word), (s.canIssue u [enc 0x3E a b, w.toNat]) ∧ ((hasGroup u (some 2) = true) ∧ ((tallyLegal a b w.toNat
    false = true) ∧ ((s.tallyRoom u = true) ∧ ((s.tallyFault u = none) ∧ (∃ ws, ((s.th u).synced = true) ∧ (((s.unit (coreOf u)).queue = []) ∧
    (((s.unit (coreOf u)).mftWords (bits w.toNat 7 2) (bits w.toNat 4 3) (w.toNat % 16) (b.val % 2 == 1) = ws))))))))) :=
  by
  refine ⟨⟨(wWk [enc 0x3F 0 31, 4095]).setUnit 7 fun u => { u with owner := some 7 }, 63, 31, 4095, _, List.mem_of_getElem? (i := 0) rfl, ?_⟩,
  ⟨wWk [enc 0x3F 0 31, 4095], 63, 31, 4095, _, List.mem_of_getElem? (i := 0) rfl, ?_, ?_, ?_, 1, ?_⟩,
  ⟨(wWk [enc 0x3C 0 0]).setUnit 7 fun u => { u with owner := some 7, queue := List.replicate 5 (63, .top 0 0 0 0 0 0 0) }, 63, 0, 0, 0, _,
    List.mem_of_getElem? (i := 0) rfl, ?_⟩,
  ⟨wWk [enc 0x3D 24 1, 10], 63, 24, 1, 10, _, List.mem_of_getElem? (i := 0) rfl, 1, ?_⟩,
  ⟨wMtt, (wMtt.readPair (63 : Tid) (24 : Fin 32)).2, 63, 24, 1, 10, (wMtt.readPair (63 : Tid) (24 : Fin 32)).1, ?_, ?_, ?_, ?_, ?_, rfl⟩,
  ⟨(wWk [enc 0x3E 1 0, 11]).setUnit 7 fun u => { u with owner := some 7 }, 63, 1, 0, 11, ?_⟩,
  ⟨((wWk [enc 0x3E 1 0, 11]).setUnit 7 fun u => { u with owner := some 7 }).setTh 63 fun th => { th with synced := true }, 63, 1, 0, 11, ?_, ?_, ?_, ?_,
    ?_, [0], ?_⟩⟩ <;> and_intros <;> decide +kernel

theorem witness_TallyCompletion :
  (∃ (s : State) (k : Fin 128) (v : Nat) (rest : List (Nat × TallyCmd)) (kind n w : Nat) (pair clr : Bool) (vals : List Word), ((s.unit k).queue = (v,
    .mtt kind n w pair clr vals) :: rest) ∧ (((∀ i, i < 8 → (s.th (k.val * 8 + i)).wait ≠ .tsync)) ∧ (((s.th v).mchk = false)))) ∧
  (∃ (s : State) (k : Fin 128) (v : Nat) (rest : List (Nat × TallyCmd)) (f dst n sa sb sc sd : Nat), ((s.unit k).queue = (v, .top f dst n sa sb sc sd) ::
    rest) ∧ ((s.microEntry k f = none) ∧ (((∀ i, i < 8 → (s.th (k.val * 8 + i)).wait ≠ .tsync)) ∧ (((s.th v).mchk = false))))) ∧
  (∃ (s : State) (k : Fin 128) (v : Nat) (rest : List (Nat × TallyCmd)) (f dst n sa sb sc sd : Nat), ((s.unit k).queue = (v, .top f dst n sa sb sc sd) ::
    rest) ∧ (∃ a, (s.microEntry k f = some a))) ∧
  (∃ (s : State) (k : Fin 128) (v : Nat) (rest : List (Nat × TallyCmd)) (kind n w d : Nat) (pair : Bool), ((s.unit k).queue = (v, .mft kind n w pair [d])
    :: rest) ∧ (((∀ i, i < 8 → (s.th (k.val * 8 + i)).wait ≠ .tsync)) ∧ (((s.th v).mchk = false)))) ∧
  (∃ (s : State) (k : Fin 128) (v : Nat) (c : TallyCmd) (rest : List (Nat × TallyCmd)), ((s.unit k).queue = (v, c) :: rest) ∧ (((s.th v).st = .blocked) ∧
    (((s.th v).wait = .tsync) ∧ (((s.th v).mchk = false) ∧ ((v / 8 = k.val) ∧ (((∀ e ∈ rest, e.1 ≠ v)) ∧ (((∀ f dst n sa sb sc sd, c = .top f dst n sa
    sb sc sd → s.microEntry k f = none))))))))) ∧
  (∃ (s : State) (k : Fin 128) (a : Fin 2048), ((s.unit k).queue ≠ []) ∧ (((s.unit k).bank ≤ 1))) :=
  by
  refine ⟨⟨wRun.setUnit 127 fun u => { u with queue := [(1023, .mtt 0 7 11 false false [5])] }, 127, 1023, [], 0, 7, 11, false, false, [5], ?_⟩,
  ⟨wRun.setUnit 127 fun u => { u with queue := [(1023, .top 2 7 3 0 1 0 0)] }, 127, 1023, [], 2, 7, 3, 0, 1, 0, 0, ?_⟩,
  ⟨({ wRun with patches := [(514, 2047)] } : State).setUnit 127 fun u => { u with queue := [(1023, .top 2 7 3 0 1 0 0)] }, 127, 1023, [], 2, 7, 3, 0, 1,
    0, 0, ?_, 2047, ?_⟩,
  ⟨wRun.setUnit 0 fun u => { u with queue := [(0, .mft 2 0 0 false [25])] }, 0, 0, [], 2, 0, 0, 25, false, ?_⟩,
  ⟨(wWait wRun 7 .tsync).setUnit 0 fun u => { u with queue := [(7, .top 0 0 0 0 0 0 0), (6, .top 0 0 0 0 0 0 0)] }, 0, 7, .top 0 0 0 0 0 0 0,
    [(6, .top 0 0 0 0 0 0 0)], ?_, ?_, ?_, ?_, ?_, ?_, (by intro f dst n sa sb sc sd h; cases h; decide +kernel)⟩,
  ⟨wRun.setUnit 0 fun u => { u with queue := [(7, .top 0 0 0 0 0 0 0)], bank := 1 }, 0, 2047, ?_⟩⟩ <;> and_intros <;> decide +kernel

theorem witness_TallyPatch :
  (∃ (s : State) (a : Accessor) (v : Word32) (i w : Nat), (s.permits a .tlyPloadD2 0 0 v.toNat) ∧ ((i = s.f F.tlyPloadAddr_ADDR) ∧ ((i < 528) ∧
    ((s.patchFrom = none) ∧ ((w = s.rd .tlyPloadD0 + s.rd .tlyPloadD1 * 2 ^ 32 + v.toNat * 2 ^ 64)))))) ∧
  (∃ (s : State) (a : Accessor) (v : Word32), (s.permits a .tlyPloadD2 0 0 v.toNat) ∧ (((528 ≤ s.f F.tlyPloadAddr_ADDR ∨ s.patchFrom ≠ none)))) ∧
  (∃ (s : State) (a : Accessor) (v : Word32), (s.permits a .tlyPatch 0 0 (withField v 16 1 1)) ∧ ((s.maintBusy 0x60 = none) ∧ ((s.time.live = true)))) ∧
  (∃ (s : State) (a : Accessor) (v : Word32), (s.permits a .tlyPatch 0 0 (withField v 16 1 1)) ∧ ((s.maintBusy 0x60 = none) ∧ ((s.time.live = false)))) ∧
  (∃ (s : State) (a : Accessor) (v : Word32), (s.permits a .tlyPatch 0 0 (withField v 16 1 1)) ∧ (∃ b, (s.maintBusy 0x60 = some b) ∧ ((b < 256)))) ∧
  (∃ (s : State) (k : Fin 128) (c : Nat), ((s.unit k).exchange = true) ∧ (((s.unit k).queue = []) ∧ ((s.patchFrom = some c) ∧ ((c ≤ s.course))))) :=
  by
  refine ⟨⟨wM.setF F.tlyPloadAddr_ADDR 0 511, .house 0, 5, 511, 92233720368547758080, ?_⟩,
  ⟨wM.setF F.tlyPloadAddr_ADDR 0 528, .house 0, 5, ?_⟩,
  ⟨wM, .house 0, 0, ?_⟩,
  ⟨State.reset, .house 0, 0, ?_⟩,
  ⟨{ wM with maint := [0x60] }, .house 0, 0, ?_, 0x60, ?_⟩,
  ⟨{ wM.setUnit 127 fun u => { u with exchange := true } with patchFrom := some 0 }, 127, 0, ?_⟩⟩ <;> and_intros <;> decide +kernel

theorem witness_ThreadAndChannelSetup :
  (∃ (s : State) (a : Accessor) (u : Tid) (v : Word32), (u.val < 1024) ∧ ((s.permits a .schThread u 0 v.toNat))) ∧
  (∃ (s : State) (a : Accessor) (x : Target) (v : Word32) (c n : Nat), (s.permits a .schChanCfg x 0 v.toNat) ∧ ((c = (if x.val = 16 ∧ bits (s.rd
    .schChanPtr x) 14 1 = 1 then 16 else bits (s.rd .schChanPtr x) 10 4)) ∧ ((n = bits (s.rd .schChanPtr x) 0 10) ∧ (((x.val = 16 ∨ s.clusterOwner c =
    x.val)) ∧ ((16 ≤ n) ∧ ((s.chanQ (chanKey c n) = []) ∧ (((∀ e ∈ s.threads, (∀ d r, e.2.wait ≠ .chr (chanKey c n) d r) ∧ ∀ m f, e.2.wait ≠ .che
    (chanKey c n) m f))))))))) ∧
  (∃ (s : State) (a : Accessor) (x : Target) (v : Word32) (c n : Nat), (s.permits a .schChanCfg x 0 v.toNat) ∧ ((c = (if x.val = 16 ∧ bits (s.rd
    .schChanPtr x) 14 1 = 1 then 16 else bits (s.rd .schChanPtr x) 10 4)) ∧ ((n = bits (s.rd .schChanPtr x) 0 10) ∧ (∃ r, (r = (if x.val ≠ 16 ∧
    s.clusterOwner c ≠ x.val then 2 else if n < 16 then 3 else 1)) ∧ (((r = 1 → s.chanQ (chanKey c n) ≠ [] ∨ ∃ e ∈ s.threads, (∃ d q, e.2.wait = .chr
    (chanKey c n) d q) ∨ ∃ m f, e.2.wait = .che (chanKey c n) m f))))))) :=
  by
  refine ⟨⟨wRun, .debugger, 1023, 0, ?_⟩,
  ⟨wM.wr .schChanPtr 16 0 0x43FF, .debugger, 16, 0x41, 16, 1023, ?_, ?_, ?_, ?_, ?_, ?_,
    (by intro e he; exact absurd he (by have h : ((wM.wr .schChanPtr 16 0 0x43FF).threads) = [] := (by decide +kernel); rw [h]; simp))⟩,
  ⟨{ wRun.wr .schChanPtr 2 0 16 with chans := [(16, [wMsg])] }, .session 2, 2, 0x41, 0, 16, ?_, ?_, ?_, 1, ?_, (fun _ => Or.inl (by decide +kernel))⟩⟩ <;> and_intros <;> decide +kernel

theorem witness_FarAccessEnds :
  (∃ (s : State) (u : Tid) (r : FarReq) (ws : List Word) (n : Nat), (s.farLoadDue u = some r) ∧ (((s.th u).st = .blocked) ∧ (((s.th u).mchk = false) ∧
    ((n = (if r.pair then 2 else 1)) ∧ ((((∃ z, r.place = .dram z ∧ r.answer = some (some ws)) ∨ (r.split = false ∧ ∃ c o, r.place = .cluster c o ∧ ws
    = (List.range n).map fun i => word (s.clWord c (o + i))) ∨ (r.split = false ∧ ∃ c o, r.place = .packet c o ∧ s.cellReach (s.accOwner u.acc) c =
    true ∧ ws = (List.range n).map fun i => word (s.placeRead (.packet c (o + i)))) ∨ (r.split = false ∧ ∃ i w, r.place = .sa i w ∧ s.saReach
    (s.accOwner u.acc) i = true ∧ ws = (List.range n).map fun k => word (s.saWord i (w + k)))))))))) ∧
  (∃ (s s1 : State) (u : Tid) (r : FarReq) (ws : List Word), (s.farLoadDue u = some r) ∧ (((s.th u).st = .blocked) ∧ (((s.th u).mchk = false) ∧ ((((∃ h
    w, r.place = .station h w) ∨ ∃ o, r.place = .control o)) ∧ ((s.placeReady r.target = true) ∧ ((r.split = false) ∧ ((s.placeLoad u.acc (some u.val)
    r.target (if r.pair then 2 else 1) = (some ws, s1)) ∧ ((s1.threads = s.threads))))))))) ∧
  (∃ (s : State) (u : Tid) (r : FarReq) (c o : Nat), (s.farLoadDue u = some r) ∧ (((s.th u).st = .blocked) ∧ ((r.place = .cluster c o) ∧ ((r.split =
    true) ∧ ((r.low = none)))))) ∧
  (∃ (s : State) (u : Tid) (r : FarReq), (s.farLoadDue u = some r) ∧ (((s.th u).st = .blocked) ∧ ((s.trapReady u) ∧ (((∃ z, r.place = .dram z)) ∧
    ((r.answer = some none)))))) ∧
  (∃ (s : State) (u : Tid) (r : FarReq) (h w : Nat), (s.farLoadDue u = some r) ∧ (((s.th u).st = .blocked) ∧ ((s.trapReady u) ∧ (((∀ z, r.place ≠ .dram
    z)) ∧ ((r.target = .station h w) ∧ ((s.stnReady h = true) ∧ ((s.stnReach (s.accOwner u.acc) h = false)))))))) ∧
  (∃ (s : State) (u : Tid) (r : FarReq) (c o : Nat), (s.farStoreDue u = some r) ∧ (((s.th u).st = .blocked) ∧ (((s.th u).mchk = false) ∧ ((r.target =
    .packet c o) ∧ ((s.cellReach (s.accOwner u.acc) c = true) ∧ ((r.words.length ≤ 2) ∧ ((o + r.words.length ≤ 128)))))))) ∧
  (∃ (s s1 : State) (u : Tid) (r : FarReq), (s.farStoreDue u = some r) ∧ ((s.placeReady r.target = true) ∧ ((r.split = false) ∧ ((s.placeStore u.acc
    (some u.val) r.target r.words = (.ok, s1)) ∧ (((s1.th u).wait = .far r) ∧ (((s1.th u).st = .blocked) ∧ (((s1.th u).mchk = false)))))))) ∧
  (∃ (s : State) (u : Tid) (r : FarReq) (h w : Nat), (s.farStoreDue u = some r) ∧ (((s.th u).st = .blocked) ∧ ((s.trapReady u) ∧ ((r.target = .station h
    w) ∧ ((s.stnReady h = true) ∧ ((s.stnReach (s.accOwner u.acc) h = false))))))) ∧
  (∃ (s : State) (u : Tid) (r : FarReq), (s.failedStore u = some r)) ∧
  (∃ (s : State) (u : Tid) (r : FarReq) (c o : Nat), (s.clusterStore u = some (r, c, o)) ∧ ((o + r.words.length ≤ 524288))) :=
  by
  refine ⟨⟨wWait (wRun) 63 (.far (wAcc 63 true (.dram 0) (some (some [7])))), 63, wAcc 63 true (.dram 0) (some (some [7])), [7], 1, ?_, ?_, ?_, ?_,
    (Or.inl ⟨0, rfl, rfl⟩)⟩,
  ⟨wCtl, (wCtl.placeLoad (.worker 63) (some 63) (.control 0) 1).2, 63, wAcc 63 true (.control 0) none,
    ((wCtl.placeLoad (.worker 63) (some 63) (.control 0) 1).1).getD [], ?_, ?_, ?_, (Or.inr ⟨0, rfl⟩), ?_, ?_, (Prod.ext ?_ rfl), ?_⟩,
  ⟨wWait (wRun) 63 (.far ({ wAcc 63 true (.cluster 0 1) none with pair := true, off := 1 })), 63,
    { wAcc 63 true (.cluster 0 1) none with pair := true, off := 1 }, 0, 1, ?_⟩,
  ⟨wWait (wRun) 63 (.far (wAcc 63 true (.dram 0) (some none))), 63, wAcc 63 true (.dram 0) (some none), ?_, ?_, ?_, (⟨0, rfl⟩), ?_⟩,
  ⟨wWait (wRun) 63 (.far (wAcc 63 true (.station 1048575 127) none)), 63, wAcc 63 true (.station 1048575 127) none, 1048575, 127, ?_, ?_, ?_,
    (by intro z h; cases h), ?_⟩,
  ⟨wWait (wCell 7 2 0 1034 2) 63 (.far (wAcc 63 false (.packet 7 127) none)), 63, wAcc 63 false (.packet 7 127) none, 7, 127, ?_⟩,
  ⟨wWait (wCell 7 2 0 1034 2) 63 (.far (wAcc 63 false (.packet 7 127) none)),
    ((wWait (wCell 7 2 0 1034 2) 63 (.far (wAcc 63 false (.packet 7 127) none))).placeStore (.worker 63) (some 63) (.packet 7 127) [7]).2, 63,
    wAcc 63 false (.packet 7 127) none, ?_, ?_, ?_, (Prod.ext ?_ rfl), ?_⟩,
  ⟨wWait wRun 63 (.far (wAcc 63 false (.station 0 0) none)), 63, wAcc 63 false (.station 0 0) none, 0, 0, ?_⟩,
  ⟨wRun.setTh 63 fun th => { th with posted := [wAcc 63 false (.dram 4) (some none)] }, 63, wAcc 63 false (.dram 4) (some none), ?_⟩,
  ⟨wRun.setTh 63 fun th => { th with posted := [wAcc 63 false (.cluster 15 524287) none] }, 63, wAcc 63 false (.cluster 15 524287) none, 15, 524287, ?_⟩⟩ <;> and_intros <;> decide +kernel

theorem witness_ForeignElvant :
  (∃ (s : State) (f : Elvant) (rest : List (List Byte)), ∃ e, e ∈ ([(.heartbeat f, 1, true), (.settle f, 2, false), (.ack f, 3, false), (.fillReq f, 4,
    false), (.fillData f, 5, false), (.mark f, 6, false), (.abandon f, 7, false), (.joinReq f, 8, true), (.joinCopy f, 9, false), (.joinDone f, 10,
    false)] : List (Instr × Nat × Bool)) ∧ ((s.arrives e.2.1 f rest) ∧ ((f.pair.toNat ≠ s.f F.stlPair_PAIR_ID ∨ f.version ≠ 1)))) ∧
  (∃ (s : State) (f : Elvant) (rest : List (List Byte)), ∃ e, e ∈ ([(.heartbeat f, 1, true), (.settle f, 2, false), (.ack f, 3, false), (.fillReq f, 4,
    false), (.fillData f, 5, false), (.mark f, 6, false), (.abandon f, 7, false), (.joinReq f, 8, true), (.joinCopy f, 9, false), (.joinDone f, 10,
    false)] : List (Instr × Nat × Bool)) ∧ ((s.arrives e.2.1 f rest) ∧ ((f.pair.toNat = s.f F.stlPair_PAIR_ID) ∧ ((f.version = 1) ∧ ((s.elvantCourseOk
    e.2.2 f = false)))))) :=
  by
  refine ⟨⟨wHear 2 ({ wElv (.words [5]) with version := 2 }) (wStl 3), { wElv (.words [5]) with version := 2 }, [[0]], _, List.mem_of_getElem? (i := 1) rfl,
    wArr ?_, ?_⟩,
  ⟨wHear 3 ({ wElv (.words []) with course := 9 }) (wStl 3), { wElv (.words []) with course := 9 }, [[0]], _, List.mem_of_getElem? (i := 2) rfl,
    wArr ?_, ?_⟩⟩ <;> and_intros <;> decide +kernel

theorem witness_ElvantSettlement :
  (∃ (s : State) (f : Elvant) (rest : List (List Byte)), (s.hears 1 true f rest)) ∧
  (∃ (s : State) (f : Elvant) (rest : List (List Byte)) (ws : List Word), (s.hears 2 false f rest) ∧ ((f.body = .words ws) ∧ ((s.stlState = 4 ∨
    (s.stlState = 2 ∨ s.stlState = 6) ∧ s.stl.join.isSome = true) ∧ ((f.segment = 0) ∧ ((f.last = false) ∧ ((s.stl.inbox.find? (fun x => x.course ==
    f.course.toNat) = none))))))) ∧
  (∃ (s : State) (f : Elvant) (rest : List (List Byte)) (ws : List Word), (s.hears 2 false f rest) ∧ ((f.body = .words ws) ∧ ((s.stlState = 4 ∨
    (s.stlState = 2 ∨ s.stlState = 6) ∧ s.stl.join.isSome = true) ∧ (∃ x, (s.stl.inbox.find? (fun x => x.course == f.course.toNat) = some x) ∧
    ((x.body = none) ∧ ((x.segs = f.segment.toNat) ∧ ((f.last = false)))))))) ∧
  (∃ (s : State) (f : Elvant) (rest : List (List Byte)) (ws : List Word), (s.hears 2 false f rest) ∧ ((f.body = .words ws) ∧ ((s.stlState = 4 ∨
    (s.stlState = 2 ∨ s.stlState = 6) ∧ s.stl.join.isSome = true) ∧ (∃ x, (s.stl.inbox.find? (fun x => x.course == f.course.toNat) = some x) ∧
    ((x.body = none) ∧ ((x.segs = f.segment.toNat) ∧ ((f.last = true) ∧ ((readSettlement (x.words ++ ws) = none))))))))) ∧
  (∃ (s : State) (f : Elvant) (rest : List (List Byte)) (ws : List Word), (s.hears 2 false f rest) ∧ ((f.body = .words ws) ∧ ((s.stlState = 4 ∨
    (s.stlState = 2 ∨ s.stlState = 6) ∧ s.stl.join.isSome = true) ∧ (∃ x, (s.stl.inbox.find? (fun x => x.course == f.course.toNat) = some x) ∧
    ((x.body = none) ∧ ((x.segs = f.segment.toNat) ∧ (∃ b, (f.last = true) ∧ ((readSettlement (x.words ++ ws) = some b) ∧ ((s.stlState = 4)))))))))) ∧
  (∃ (s : State) (f : Elvant) (rest : List (List Byte)) (ws : List Word), (s.hears 2 false f rest) ∧ ((f.body = .words ws) ∧ ((s.stlState = 4 ∨
    (s.stlState = 2 ∨ s.stlState = 6) ∧ s.stl.join.isSome = true) ∧ (∃ x, (s.stl.inbox.find? (fun x => x.course == f.course.toNat) = some x) ∧
    ((x.body = none) ∧ ((x.segs < f.segment.toNat))))))) ∧
  (∃ (s : State) (f : Elvant) (rest : List (List Byte)) (ws : List Word), (s.hears 2 false f rest) ∧ ((f.body = .words ws) ∧ ((¬(s.stlState = 4 ∨
    (s.stlState = 2 ∨ s.stlState = 6) ∧ s.stl.join.isSome = true))))) ∧
  (∃ (s : State) (f : Elvant) (rest : List (List Byte)) (b : Settlement) (bs : List Settlement), (s.hears 3 false f rest) ∧ ((s.stlState = 3) ∧
    ((s.stl.settled = b :: bs) ∧ ((b.course = f.course.toNat) ∧ ((s.stl.ackFrom ≤ b.course) ∧ ((wAt (elvantWords f) 0 ≠ 1))))))) ∧
  (∃ (s : State) (f : Elvant) (rest : List (List Byte)) (b : Settlement) (bs : List Settlement), (s.hears 3 false f rest) ∧ ((s.stlState = 3) ∧
    ((s.stl.settled = b :: bs) ∧ ((wAt (elvantWords f) 0 = 1))))) ∧
  (∃ (s : State) (f : Elvant) (rest : List (List Byte)) (b : Settlement) (bs : List Settlement), (s.hears 3 false f rest) ∧ ((s.stlState = 3) ∧
    ((s.stl.settled = b :: bs) ∧ ((b.course ≠ f.course.toNat ∨ b.course < s.stl.ackFrom) ∧ ((wAt (elvantWords f) 0 ≠ 1)))))) ∧
  (∃ (s : State) (f : Elvant) (rest : List (List Byte)), (s.hears 3 false f rest) ∧ ((s.stlState ≠ 3 ∨ s.stl.settled = []))) :=
  by
  refine ⟨⟨wHear 1 (wElv (.words [])) (wStl 3), wElv (.words []), [[0]], ⟨wArr ?_, ?_, ?_, ?_⟩⟩,
  ⟨wHear 2 ({ wElv (.words [1]) with course := 1 }) (wStl 4), { wElv (.words [1]) with course := 1 }, [[0]], [1], ⟨wArr ?_, ?_, ?_, ?_⟩, ?_⟩,
  ⟨wHear 2 (wElv (.words [1])) ({ wStl 4 with stl := { Stl.reset with inbox := [wInbox] } }), wElv (.words [1]), [[0]], [1], ⟨wArr ?_, ?_, ?_, ?_⟩, ?_,
    ?_, wInbox, ?_⟩,
  ⟨wHear 2 ({ wElv (.words [1]) with last := true }) ({ wStl 4 with stl := { Stl.reset with inbox := [wInbox] } }),
    { wElv (.words [1]) with last := true }, [[0]], [1], ⟨wArr ?_, ?_, ?_, ?_⟩, ?_, ?_, wInbox, ?_⟩,
  ⟨wHear 2 (wEnd) ({ wStl 4 with stl := { Stl.reset with inbox := [wHalf] } }), wEnd, [[0]], (wBody 0).words.drop 7, ⟨wArr ?_, ?_, ?_, ?_⟩, ?_, ?_,
    wHalf, ?_, ?_, ?_, wBody 0, ?_⟩,
  ⟨wHear 2 ({ wElv (.words [1]) with segment := 1 }) ({ wStl 4 with stl := { Stl.reset with inbox := [wInbox] } }),
    { wElv (.words [1]) with segment := 1 }, [[0]], [1], ⟨wArr ?_, ?_, ?_, ?_⟩, ?_, ?_, wInbox, ?_⟩,
  ⟨wHear 2 (wElv (.words [1])) (wStl 1), wElv (.words [1]), [[0]], [1], ⟨wArr ?_, ?_, ?_, ?_⟩, ?_⟩,
  ⟨wHear 3 (wElv (.words [2])) ({ wStl 3 with stl := { Stl.reset with settled := [wBody 0] } }), wElv (.words [2]), [[0]], wBody 0, [],
    ⟨wArr ?_, ?_, ?_, ?_⟩, ?_⟩,
  ⟨wHear 3 (wElv (.words [1, 0])) ({ wStl 3 with stl := { Stl.reset with settled := [wBody 0] } }), wElv (.words [1, 0]), [[0]], wBody 0, [],
    ⟨wArr ?_, ?_, ?_, ?_⟩, ?_⟩,
  ⟨wHear 3 ({ wElv (.words [2]) with course := 1 }) ({ wStl 3 with stl := { Stl.reset with settled := [wBody 0] } }),
    { wElv (.words [2]) with course := 1 }, [[0]], wBody 0, [], ⟨wArr ?_, ?_, ?_, ?_⟩, ?_⟩,
  ⟨wHear 3 (wElv (.words [])) (wStl 4), wElv (.words []), [[0]], ⟨wArr ?_, ?_, ?_, ?_⟩, ?_⟩⟩ <;> and_intros <;> decide +kernel

theorem witness_ElvantFrames :
  (∃ (s : State) (f : Elvant) (rest : List (List Byte)) (port i l : Nat) (ls : List Nat) (b : Settlement) (e : Ident), (s.hears 4 false f rest) ∧
    ((f.body = .fillReq port i) ∧ ((stlRuns s.stlState = true) ∧ ((s.upLanes = l :: ls) ∧ ((s.stl.settled.find? (fun b => b.course == f.course.toNat)
    = some b) ∧ (((identsOf b.idents port)[i]? = some e))))))) ∧
  (∃ (s : State) (f : Elvant) (rest : List (List Byte)) (port i : Nat), (s.hears 4 false f rest) ∧ ((f.body = .fillReq port i) ∧ ((stlRuns s.stlState =
    false ∨ s.stl.settled.find? (fun b => b.course == f.course.toNat) = none)))) ∧
  (∃ (s : State) (f : Elvant) (rest : List (List Byte)) (port i : Nat) (stamp : Word64) (seq : Word32) (frame bytes : List Byte) (inner : Option (List
    Byte)) (x : Inbox) (b : Settlement), (s.hears 5 false f rest) ∧ ((f.body = .fillData port i stamp seq frame inner) ∧ ((s.stlState = 4) ∧ ((bytes =
    inner.getD frame) ∧ ((s.stl.inbox.find? (fun x => x.course == f.course.toNat && x.fills.contains (port, i)) = some x) ∧ ((x.body = some b) ∧
    ((b.course = f.course.toNat) ∧ (((s.takeCells none 16 (cellsFor bytes.length)).isSome = true))))))))) ∧
  (∃ (s : State) (f : Elvant) (rest : List (List Byte)) (port i : Nat) (stamp : Word64) (seq : Word32) (frame bytes : List Byte) (inner : Option (List
    Byte)) (x : Inbox) (b : Settlement), (s.hears 5 false f rest) ∧ ((f.body = .fillData port i stamp seq frame inner) ∧ ((s.stlState = 4) ∧ ((bytes =
    inner.getD frame) ∧ ((s.stl.inbox.find? (fun x => x.course == f.course.toNat && x.fills.contains (port, i)) = some x) ∧ ((x.body = some b) ∧
    ((b.course = f.course.toNat) ∧ ((s.takeCells none 16 (cellsFor bytes.length) = none))))))))) ∧
  (∃ (s : State) (f : Elvant) (rest : List (List Byte)), (s.hears 5 false f rest) ∧ ((s.stlState ≠ 4))) ∧
  (∃ (s : State) (f : Elvant) (rest : List (List Byte)), (s.hears 6 false f rest) ∧ ((f.released = true))) ∧
  (∃ (s : State) (f : Elvant) (rest : List (List Byte)), (s.hears 6 false f rest) ∧ ((f.released = false))) ∧
  (∃ (s : State) (f : Elvant) (rest : List (List Byte)), (s.hears 7 false f rest)) :=
  by
  refine ⟨⟨wHear 4 (wElv (.fillReq 3 0)) ({ wStl 3 with stl := { Stl.reset with settled := [{ wBody 0 with idents := [wIdent] }] } }), wElv (.fillReq 3 0),
    [[0]], 3, 0, 1, [], { wBody 0 with idents := [wIdent] }, wIdent, ⟨wArr ?_, ?_, ?_, ?_⟩, ?_⟩,
  ⟨wHear 4 (wElv (.fillReq 3 0)) (wStl 3), wElv (.fillReq 3 0), [[0]], 3, 0, ⟨wArr ?_, ?_, ?_, ?_⟩, ?_⟩,
  ⟨wHear 5 (wElv (.fillData 3 0 5 7 wBytes none)) ({ wStl 4 with stl := { Stl.reset with inbox := [{ wInbox with body := some (wBody 0), applied := true, fills := [(3, 0)] }] } }),
    wElv (.fillData 3 0 5 7 wBytes none), [[0]], 3, 0, 5, 7, wBytes, wBytes, none,
    { wInbox with body := some (wBody 0), applied := true, fills := [(3, 0)] }, wBody 0, ⟨wArr ?_, ?_, ?_, ?_⟩, ?_⟩,
  ⟨wHear 5 (wElv (.fillData 3 0 5 7 wBytes none)) ({ wNoCells with stl := { Stl.reset with inbox := [{ wInbox with body := some (wBody 0), applied := true, fills := [(3, 0)] }] } }),
    wElv (.fillData 3 0 5 7 wBytes none), [[0]], 3, 0, 5, 7, wBytes, wBytes, none,
    { wInbox with body := some (wBody 0), applied := true, fills := [(3, 0)] }, wBody 0, ⟨wArr ?_, ?_, ?_, ?_⟩, ?_, ?_, ?_, ?_, ?_, ?_,
    (wNone rfl ?_)⟩,
  ⟨wHear 5 (wElv (.words [])) (wStl 3), wElv (.words []), [[0]], ⟨wArr ?_, ?_, ?_, ?_⟩, ?_⟩,
  ⟨wHear 6 (wElv (.words [])) (wStl 4), wElv (.words []), [[0]], ⟨wArr ?_, ?_, ?_, ?_⟩, ?_⟩,
  ⟨wHear 6 ({ wElv (.words []) with released := false }) (wStl 4), { wElv (.words []) with released := false }, [[0]], ⟨wArr ?_, ?_, ?_, ?_⟩, ?_⟩,
  ⟨wHear 7 (wElv (.words [])) (wStl 4), wElv (.words []), [[0]], ⟨wArr ?_, ?_, ?_, ?_⟩⟩⟩ <;> and_intros <;> decide +kernel

theorem witness_Joining :
  (∃ (s : State) (f : Elvant) (rest : List (List Byte)) (strap : Bool) (tver : Nat) (ds : List Word32), (s.hears 8 true f rest) ∧ ((f.body = .joinReq
    strap tver ds) ∧ ((s.stlState = 5) ∧ ((s.f F.stlCfg_JOIN_EN ≠ 0) ∧ ((s.stl.join = none) ∧ ((s.joinReason f.course.toNat ds = 0))))))) ∧
  (∃ (s : State) (f : Elvant) (rest : List (List Byte)) (strap : Bool) (tver : Nat) (ds : List Word32), (s.hears 8 true f rest) ∧ ((f.body = .joinReq
    strap tver ds) ∧ (∃ r, (s.stlState = 5) ∧ ((s.f F.stlCfg_JOIN_EN ≠ 0) ∧ ((s.stl.join = none) ∧ ((s.joinReason f.course.toNat ds = r) ∧ ((r ≠
    0)))))))) ∧
  (∃ (s : State) (f : Elvant) (rest : List (List Byte)) (strap : Bool) (tver : Nat) (ds : List Word32), (s.hears 8 true f rest) ∧ ((f.body = .joinReq
    strap tver ds) ∧ ((s.stlState = 2)))) ∧
  (∃ (s : State) (f : Elvant) (rest : List (List Byte)) (strap : Bool) (tver : Nat) (ds : List Word32), (s.hears 8 true f rest) ∧ ((f.body = .joinReq
    strap tver ds) ∧ ((s.stlState ≠ 2) ∧ ((s.stlState ≠ 5 ∨ s.f F.stlCfg_JOIN_EN = 0 ∨ s.stl.join.isSome = true))))) ∧
  (∃ (s : State) (f : Elvant) (rest : List (List Byte)) (x q tag h : Nat) (v : Bool) (data : List Byte), (s.hears 9 false f rest) ∧ ((f.body = .joinCopy
    (.ledger x q tag h v data)) ∧ ((s.stlState = 2 ∨ s.stlState = 6) ∧ ((x < 16))))) ∧
  (∃ (s : State) (f : Elvant) (rest : List (List Byte)) (i : Nat) (g : Nat → Word), (s.hears 9 false f rest) ∧ ((f.body = .joinCopy (.sa i ((List.range
    56).map fun w => (w, g w)))) ∧ ((s.stlState = 2 ∨ s.stlState = 6) ∧ ((i < 2 ^ 21))))) ∧
  (∃ (s : State) (f : Elvant) (rest : List (List Byte)) (h : Nat) (ws : List (Nat × Word)), (s.hears 9 false f rest) ∧ ((f.body = .joinCopy (.station h
    ws)) ∧ ((s.stlState = 2 ∨ s.stlState = 6)))) ∧
  (∃ (s : State) (f : Elvant) (rest : List (List Byte)) (k : Word64), (s.hears 10 false f rest) ∧ ((f.body = .joinDone k) ∧ ((s.stlState = 2 ∨ s.stlState
    = 6)))) ∧
  (∃ (s : State) (f : Elvant) (rest : List (List Byte)), (s.stlState ≠ 2) ∧ ((s.stlState ≠ 6) ∧ ((s.hears 9 false f rest)))) ∧
  (∃ (s : State) (f : Elvant) (rest : List (List Byte)), (s.stlState ≠ 2) ∧ ((s.stlState ≠ 6) ∧ ((s.hears 10 false f rest)))) ∧
  (∃ (s : State) (j : JoinRun), (s.stl.join = some j) ∧ ((j.joiner = false) ∧ ((s.stlState = 5)))) ∧
  (∃ s : State, (s.joinWaitOver = true)) :=
  by
  refine ⟨⟨wHear 8 (wElv (.joinReq true 1 [])) (((wStl 5).setF F.stlCfg_JOIN_EN 0 1).setF F.scpStallState_STATE 2 1), wElv (.joinReq true 1 []), [[0]], true, 1,
    [], ⟨wArr ?_, ?_, ?_, ?_⟩, ?_⟩,
  ⟨wHear 8 ({ wElv (.joinReq true 1 []) with course := 1 }) ((wStl 5).setF F.stlCfg_JOIN_EN 0 1), { wElv (.joinReq true 1 []) with course := 1 }, [[0]],
    true, 1, [], ⟨wArr ?_, ?_, ?_, ?_⟩, ?_, 1, ?_⟩,
  ⟨wHear 8 (wElv (.joinReq true 1 [])) (wStl 2), wElv (.joinReq true 1 []), [[0]], true, 1, [], ⟨wArr ?_, ?_, ?_, ?_⟩, ?_⟩,
  ⟨wHear 8 (wElv (.joinReq true 1 [])) (wStl 3), wElv (.joinReq true 1 []), [[0]], true, 1, [], ⟨wArr ?_, ?_, ?_, ?_⟩, ?_⟩,
  ⟨wHear 9 (wElv (.joinCopy (.ledger 15 1 9 4 true [7]))) (wStl 2), wElv (.joinCopy (.ledger 15 1 9 4 true [7])), [[0]], 15, 1, 9, 4, true, [7],
    ⟨wArr ?_, ?_, ?_, ?_⟩, ?_⟩,
  ⟨wHear 9 (wElv (.joinCopy (.sa 2097151 ((List.range 56).map fun w => (w, 5))))) (wStl 6),
    wElv (.joinCopy (.sa 2097151 ((List.range 56).map fun w => (w, 5)))), [[0]], 2097151, fun _ => 5, ⟨wArr ?_, ?_, ?_, ?_⟩, ?_⟩,
  ⟨wHear 9 (wElv (.joinCopy (.station 1 [(0, 1)]))) (wStl 2), wElv (.joinCopy (.station 1 [(0, 1)])), [[0]], 1, [(0, 1)], ⟨wArr ?_, ?_, ?_, ?_⟩, ?_⟩,
  ⟨wHear 10 (wElv (.joinDone 7)) (wStl 6), wElv (.joinDone 7), [[0]], 7, ⟨wArr ?_, ?_, ?_, ?_⟩, ?_⟩,
  ⟨wHear 9 (wElv (.words [])) (wStl 3), wElv (.words []), [[0]], ?_, ?_, ⟨wArr ?_, ?_, ?_, ?_⟩⟩,
  ⟨wHear 10 (wElv (.words [])) (wStl 3), wElv (.words []), [[0]], ?_, ?_, ⟨wArr ?_, ?_, ?_, ?_⟩⟩,
  ⟨{ wStl 5 with stl := { Stl.reset with join := some { joiner := false, at_ := none } } }, { joiner := false, at_ := none }, ?_⟩,
  ⟨(wStl 2).setTime fun t => { t with timeline := 4096000 }, ?_⟩⟩ <;> and_intros <;> decide +kernel

theorem witness_SettlementEvents :
  (∃ (s : State) (x : Inbox), (s.stlState = 4) ∧ ((s.stl.inbox.find? (fun x => x.course == s.acceptedPlus && x.ready) = some x))) ∧
  (∃ s : State, (s.ackLate = true)) ∧
  (∃ s : State, (s.linkQuiet = true)) ∧
  (∃ s : State, (s.stl.aliveNote = true) ∧ ((s.aliveIn = false))) ∧
  (∃ s : State, (s.shadowStale ≠ [])) ∧
  (∃ (s : State) (r : JRec), (s.journalDue = true) ∧ ((s.journal.find? (fun r => !r.complete) = some r))) ∧
  (∃ (s : State) (g : Nat), (s.stl.recover = some g) ∧ ((s.sup.ready = true))) :=
  by
  refine ⟨⟨{ wStl 4 with stl := { Stl.reset with inbox := [{ wInbox with applied := true }] } }, { wInbox with applied := true }, ?_⟩,
  ⟨{ wStl 3 with stl := { Stl.reset with settled := [wBody 0] } }.setTime fun t => { t with course := 3 }, ?_⟩,
  ⟨(wStl 2).setTime fun t => { t with timeline := BitVec.ofNat 64 (2 * courseUnits t.len) }, ?_⟩,
  ⟨{ wStl 3 with stl := { Stl.reset with aliveNote := true, aliveAt := 1 } }.setTime fun t => { t with timeline := 4096 }, ?_⟩,
  ⟨{ wStl 4 with heldFrames := [heldOf wPkt 0 68 false] }.setTime fun t => { t with course := 3 }, ?_⟩,
  ⟨{ wStl 5 with journal := [{ body := wBody 0, gen := 0, words := 0, at_ := 0, stage := 2, released := false, complete := false }] },
    { body := wBody 0, gen := 0, words := 0, at_ := 0, stage := 2, released := false, complete := false }, ?_⟩,
  ⟨{ wStl 5 with stl := { Stl.reset with recover := some 5 }, sup := { Sup.reset with ready := true } }, 5, ?_⟩⟩ <;> and_intros <;> decide +kernel

theorem witness_SettlementCommands :
  (∃ (s : State) (a : Accessor) (v : Word32), (s.permits a .stlCtl 0 0 (withField v 0 1 1))) ∧
  (∃ (s : State) (a : Accessor) (x : Target) (v : Word32) (h len off y c : Nat), (s.permits a .stlAppendCmd x 0 (withField v 0 1 1)) ∧ ((h = s.fA a.num
    F.stlAppendHandle_HANDLE x) ∧ ((len = s.fA a.num F.stlAppendLen_LENGTH x) ∧ ((off = s.fA a.num F.stlAppendLen_OFFSET x) ∧ ((y = (if x.val = 16
    then s.fA a.num F.stlAppendTag_STALL x else x.val)) ∧ ((s.appendCheck y h off len = c) ∧ ((c ≠ 0) ∧ ((c ≠ 4))))))))) ∧
  (∃ (s : State) (a : Accessor) (x : Target) (v : Word32) (h len off y c : Nat), (s.permits a .stlAppendCmd x 0 (withField v 0 1 1)) ∧ ((h = s.fA a.num
    F.stlAppendHandle_HANDLE x) ∧ ((len = s.fA a.num F.stlAppendLen_LENGTH x) ∧ ((off = s.fA a.num F.stlAppendLen_OFFSET x) ∧ ((y = (if x.val = 16
    then s.fA a.num F.stlAppendTag_STALL x else x.val)) ∧ ((s.appendCheck y h off len = c) ∧ ((c = 4)))))))) ∧
  (∃ (s : State) (a : Accessor) (x : Target) (v : Word32) (h len off y c : Nat), (s.permits a .stlAppendCmd x 0 (withField v 0 1 1)) ∧ ((h = s.fA a.num
    F.stlAppendHandle_HANDLE x) ∧ ((len = s.fA a.num F.stlAppendLen_LENGTH x) ∧ ((off = s.fA a.num F.stlAppendLen_OFFSET x) ∧ ((y = (if x.val = 16
    then s.fA a.num F.stlAppendTag_STALL x else x.val)) ∧ ((s.appendCheck y h off len = c) ∧ ((c = 0)))))))) :=
  by
  refine ⟨⟨wStl 6, .debugger, 0, ?_⟩,
  ⟨wRun, .session 2, 2, 0, 0, 0, 0, 2, 1, ?_⟩,
  ⟨(wCell 0 2 0 1034 2).setFA 1034 F.stlAppendLen_LENGTH 2 1, .session 2, 2, 0, 0, 1, 0, 2, 4, ?_⟩,
  ⟨((wCell 0 2 0 1034 2).setFA 1034 F.stlAppendLen_LENGTH 2 256).setF F.stlLedgerSize_SIZE 2 1, .session 2, 2, 0, 0, 256, 0, 2, 0, ?_⟩⟩ <;> and_intros <;> decide +kernel

theorem witness_DramRegisters :
  (∃ (s : State) (a : Accessor) (ch : Fin 4) (v : Word32) (w : Nat), (w = withField v 16 1 1) ∧ ((s.permits a .drcCfg ch 0 w) ∧ ((s.b F.drcCfg_ENABLE ch
    = false) ∧ ((cfgGib w = none))))) ∧
  (∃ (s : State) (a : Accessor) (ch : Fin 4) (v : Word32) (w : Nat), (w = withField v 16 1 1) ∧ ((s.permits a .drcCfg ch 0 w) ∧ ((s.b F.drcCfg_ENABLE ch
    = false) ∧ ((cfgGib w ≠ none) ∧ ((s.mapValid w = false)))))) ∧
  (∃ (s : State) (a : Accessor) (ch : Fin 4) (v : Word32) (w : Nat), (w = withField v 16 1 1) ∧ ((s.permits a .drcCfg ch 0 w) ∧ ((s.b F.drcCfg_ENABLE ch
    = false) ∧ ((cfgGib w ≠ none) ∧ ((s.mapValid w = true)))))) ∧
  (∃ (s : State) (a : Accessor) (ch : Fin 4) (v : Word32), (s.permits a .drcCfg ch 0 (withField v 16 1 1)) ∧ ((s.b F.drcCfg_ENABLE ch = true))) ∧
  (∃ (s : State) (a : Accessor) (ch : Fin 4) (v : Word32), (s.permits a .drcTrain ch 0 (withField v 16 1 1)) ∧ ((s.dstate ch = 2) ∧ ((s.maintBusy (0x10 +
    ch) = none)))) ∧
  (∃ (s : State) (a : Accessor) (ch : Fin 4) (v : Word32), (s.permits a .drcTrain ch 0 (withField v 16 1 1)) ∧ ((s.dstate ch ≠ 2))) ∧
  (∃ (s : State) (a : Accessor) (ch : Fin 4) (v : Word32), (s.permits a .drcTrain ch 0 (withField v 16 1 1)) ∧ (∃ b, (s.dstate ch = 2) ∧ ((s.maintBusy
    (0x10 + ch) = some b) ∧ ((b < 256))))) ∧
  (∃ (s : State) (a : Accessor) (ch : Fin 4) (v : Word32) (h : Nat), (s.permits a .drcScrub ch 0 v.toNat) ∧ ((h = v.toNat % 256) ∧ ((h ≠ 0) ∧ ((s.f
    F.drcScrub_STATUS ch ≠ 1) ∧ ((s.maintBusy (0x20 + ch) = none)))))) ∧
  (∃ (s : State) (a : Accessor) (ch : Fin 4) (v : Word32) (h : Nat), (s.permits a .drcScrub ch 0 v.toNat) ∧ ((h = v.toNat % 256) ∧ (∃ b, (h ≠ 0) ∧ ((s.f
    F.drcScrub_STATUS ch ≠ 1) ∧ ((s.maintBusy (0x20 + ch) = some b) ∧ ((b < 256))))))) ∧
  (∃ (s : State) (a : Accessor) (ch : Fin 4) (v : Word32) (h : Nat), (s.permits a .drcScrub ch 0 v.toNat) ∧ ((h = v.toNat % 256) ∧ ((h ≠ 0) ∧ ((s.f
    F.drcScrub_STATUS ch = 1))))) ∧
  (∃ (s : State) (a : Accessor) (ch : Fin 4) (v : Word32) (h : Nat), (s.permits a .drcScrub ch 0 v.toNat) ∧ ((h = v.toNat % 256) ∧ ((h = 0) ∧ ((s.f
    F.drcScrub_STATUS ch ≠ 1))))) ∧
  (∃ (s : State) (a : Accessor) (ch : Fin 4) (v : Word32) (h : Nat), (s.permits a .drcScrub ch 0 v.toNat) ∧ ((h = v.toNat % 256) ∧ ((h = 0) ∧ ((s.f
    F.drcScrub_STATUS ch = 1))))) :=
  by
  refine ⟨⟨wRun, .debugger, 3, 0, 65536, ?_⟩,
  ⟨wRun, .debugger, 3, 0xC4, 0x100C4, ?_⟩,
  ⟨wDram, .debugger, 3, 0xC4, 0x100C4, ?_⟩,
  ⟨wDram, .debugger, 0, 0, ?_⟩,
  ⟨wDram, .debugger, 0, 0, ?_⟩,
  ⟨wDram, .debugger, 3, 0, ?_⟩,
  ⟨{ wDram with maint := [0x10] }, .debugger, 0, 0, ?_, 0x10, ?_⟩,
  ⟨wDram, .debugger, 3, 255, 255, ?_⟩,
  ⟨{ wDram with maint := [0x10] }, .debugger, 0, 1, 1, ?_, ?_, 0x10, ?_⟩,
  ⟨wDram.setF F.drcScrub_STATUS 3 1, .debugger, 3, 7, 7, ?_⟩,
  ⟨wDram, .debugger, 3, 0, 0, ?_⟩,
  ⟨{ wDram.setF F.drcScrub_STATUS 3 1 with maint := [0x23] }, .debugger, 3, 0, 0, ?_⟩⟩ <;> and_intros <;> decide +kernel

theorem witness_DramUpkeep :
  (∃ (s : State) (ch : Fin 4), (s.dstate ch = 1 ∨ s.dstate ch = 3 ∧ s.f F.supPwr_STATE ≠ 2)) ∧
  (∃ (s : State) (ch : Fin 4), (s.dstate ch = 1 ∨ s.dstate ch = 3 ∧ s.f F.supPwr_STATE ≠ 2) ∧ (∃ n : Fin 3, (n ≠ 0))) ∧
  (∃ (s : State) (ch : Fin 4) (temp : Fin 128), (s.retrainAutoDue ch temp = true) ∧ ((s.maintBusy (0x10 + ch) = none))) ∧
  (∃ (s : State) (ch : Fin 4) (temp : Fin 128) (b : Nat), (s.retrainAutoDue ch temp = true) ∧ ((s.maintBusy (0x10 + ch) = some b) ∧ ((b < 256)))) ∧
  (∃ (s : State) (ch : Fin 4), (s.f F.drcTrain_STATUS ch = 1) ∧ (((s.ctl.outSub.get (0, 0) ch).1 = 1))) ∧
  (∃ (s : State) (ch : Fin 4) (sub rank : Fin 2) (ba : Fin 4), (s.dstate ch = 2 ∨ s.dstate ch = 4) ∧ ((((∀ q ∈ s.subQueue ch sub, q.place.rank = rank.val
    → q.place.ba = ba.val → (s.f F.drcRef_URGENT_NS ch : Int) < signed 32 (q.deadline + 2 ^ 32 - s.now8) * 8) ∨ min 8 (s.f F.drcRef_MAX ch) ≤
    (s.ctl.postponed.get [] ch).length)))) ∧
  (∃ (s : State) (ch : Fin 4) (sub rank : Fin 2) (ba : Fin 4) (q : DReq), (s.dstate ch = 2 ∨ s.dstate ch = 4) ∧ ((q ∈ s.subQueue ch sub) ∧ ((q.place.rank
    = rank.val) ∧ ((q.place.ba = ba.val) ∧ ((signed 32 (q.deadline + 2 ^ 32 - s.now8) * 8 ≤ (s.f F.drcRef_URGENT_NS ch : Int)) ∧
    (((s.ctl.postponed.get [] ch).length < min 8 (s.f F.drcRef_MAX ch)))))))) ∧
  (∃ (s : State) (ch : Fin 4) (code : Fin 8) (beyond : Bool), (s.dstate ch = 2)) ∧
  (∃ (s : State) (r : Fin 64) (ch : Fin 4), (s.ctl.throttled.get 0 (ch * 64 + r) ≠ 0) ∧ ((s.ctl.throttled.get 0 (ch * 64 + r) ≤ s.course))) :=
  by
  refine ⟨⟨wDram.setF F.drcStatus_STATE 3 1, 3, ?_⟩,
  ⟨wDram.setF F.drcStatus_STATE 0 1, 0, ?_, 2, ?_⟩,
  ⟨wDram.setF F.drcTrain_TEMP_DELTA 0 127, 0, 127, ?_⟩,
  ⟨{ wDram.setF F.drcTrain_TEMP_DELTA 0 127 with maint := [0x10] }, 0, 127, 0x10, ?_⟩,
  ⟨{ wDram.setF F.drcTrain_STATUS 3 1 with ctl := { Dram.reset with outSub := [(3, (1, 0))] } }, 3, ?_⟩,
  ⟨{ wDram with ctl := { Dram.reset with postponed := [(0, List.replicate 8 (0, 0, 0))] } }, 0, 1, 1, 3, ?_⟩,
  ⟨{ wDram.setF F.drcRef_MAX 0 1 with ctl := { Dram.reset with queue := [wDReq] } }, 0, 0, 0, 0, wDReq, ?_⟩,
  ⟨wDram, 0, 7, true, ?_⟩,
  ⟨{ wDram with ctl := { Dram.reset with throttled := [(255, 1)] } }.setTime fun t => { t with course := 1 }, 63, 3, ?_⟩⟩ <;> and_intros <;> decide +kernel

theorem witness_DramAccesses :
  (∃ (s : State) (ch : Fin 4) (chk : DramCheck) (w : Waiting) (p : DPlace), ((ch.val = 0 → s.badWaiting = none)) ∧ ((s.dstate ch = 2 ∨ s.dstate ch = 4) ∧
    ((s.arbPick ch = some (w, p)) ∧ (∃ u r, (w.who = some (u, r)) ∧ ((r.load = true) ∧ (((s.th u).wait = .far r))))))) ∧
  (∃ (s : State) (ch : Fin 4) (chk : DramCheck) (w : Waiting) (p : DPlace), ((ch.val = 0 → s.badWaiting = none)) ∧ ((s.dstate ch = 2 ∨ s.dstate ch = 4) ∧
    ((s.arbPick ch = some (w, p)) ∧ (∃ u r, (w.who = some (u, r)) ∧ ((r.load = false) ∧ ((r.words.length ≤ 2) ∧ ((chk = .ok)))))))) ∧
  (∃ (s : State) (ch : Fin 4) (chk : DramCheck) (w : Waiting) (p : DPlace), ((ch.val = 0 → s.badWaiting = none)) ∧ ((s.dstate ch = 2 ∨ s.dstate ch = 4) ∧
    ((s.arbPick ch = some (w, p)) ∧ (∃ u r, (w.who = some (u, r)) ∧ ((r.load = false) ∧ ((r.words.length ≤ 2) ∧ ((chk = .uncorrectable ∨ chk =
    .failed)))))))) ∧
  (∃ (s : State) (ch : Fin 4) (chk : DramCheck) (w : Waiting) (p : DPlace), ((ch.val = 0 → s.badWaiting = none)) ∧ ((s.dstate ch = 2 ∨ s.dstate ch = 4) ∧
    ((s.arbPick ch = some (w, p)) ∧ ((w.who = none) ∧ ((w.req.read = true)))))) ∧
  (∃ (s : State) (ch : Fin 4) (chk : DramCheck) (w : Waiting) (p : DPlace), ((ch.val = 0 → s.badWaiting = none)) ∧ ((s.dstate ch = 2 ∨ s.dstate ch = 4) ∧
    ((s.arbPick ch = some (w, p)) ∧ ((w.who = none) ∧ ((w.req.read = false) ∧ ((chk = .ok))))))) ∧
  (∃ (s : State) (chk : DramCheck) (w : Waiting), (s.badWaiting = some w) ∧ (∃ u r, (w.who = some (u, r)) ∧ ((r.load = true) ∧ (((s.th u).wait = .far
    r))))) ∧
  (∃ (s : State) (chk : DramCheck) (w : Waiting), (s.badWaiting = some w) ∧ (∃ u r, (w.who = some (u, r)) ∧ ((r.load = false)))) ∧
  (∃ (s : State) (chk : DramCheck) (w : Waiting), (s.badWaiting = some w) ∧ ((w.who = none))) ∧
  (∃ (s : State) (ch : Fin 4) (sub : Fin 2) (q : DReq), (s.dstate ch = 2 ∨ s.dstate ch = 4 ∧ s.subOut ch sub = false) ∧ ((s.ctl.postponed.get [] ch = [])
    ∧ ((1 ≤ s.f F.drcRef_MAX ch) ∧ ((s.subQueue ch sub = [q]) ∧ (((s.bankOf q.place).opened = some q.place.row)))))) ∧
  (∃ (s : State) (ch : Fin 4) (sub : Fin 2) (q : DReq), (s.dstate ch = 2 ∨ s.dstate ch = 4 ∧ s.subOut ch sub = false) ∧ ((s.ctl.postponed.get [] ch = [])
    ∧ ((1 ≤ s.f F.drcRef_MAX ch) ∧ ((s.subQueue ch sub = [q]) ∧ (((s.bankOf q.place).opened = some q.place.row) ∧ (∃ u r, (q.read = true) ∧ ((q.thread
    = some u) ∧ (((s.th u).wait = .far r))))))))) ∧
  (∃ (s : State) (ch : Fin 4) (sub : Fin 2) (q : DReq), (s.dstate ch = 2 ∨ s.dstate ch = 4 ∧ s.subOut ch sub = false) ∧ ((s.ctl.postponed.get [] ch = [])
    ∧ ((1 ≤ s.f F.drcRef_MAX ch) ∧ ((s.subQueue ch sub = [q]) ∧ (((s.bankOf q.place).opened = none) ∧ (((s.bankOf q.place).rfm = false) ∧ ((s.f
    F.drcTim_PARAM1 q.place.ch 5 = 0) ∧ ((s.f F.drcHot_ROW_THR q.place.ch = 0))))))))) ∧
  (∃ (s : State) (ch : Fin 4) (sub : Fin 2) (q : DReq), (s.dstate ch = 2 ∨ s.dstate ch = 4 ∧ s.subOut ch sub = false) ∧ ((s.ctl.postponed.get [] ch = [])
    ∧ ((1 ≤ s.f F.drcRef_MAX ch) ∧ ((s.subQueue ch sub = [q]) ∧ (∃ y, ((s.bankOf q.place).opened = some y) ∧ ((y ≠ q.place.row))))))) ∧
  (∃ (s : State) (ch : Fin 4) (q : DReq), (s.ctl.issued.find? (fun q => q.place.ch == ch.val) = some q) ∧ (∃ (u : Nat) (r : FarReq) (z : Nat), (q.thread
    = some u) ∧ (((s.th u).wait = .far r) ∧ ((r.place = .dram z) ∧ ((r.admitted = true)))))) ∧
  (∃ (s : State) (ch : Fin 4) (q : DReq), (s.ctl.issued.find? (fun q => q.place.ch == ch.val) = some q) ∧ ((q.thread = none))) :=
  by
  refine ⟨⟨wWait wDram 63 (.far (wNew true 0)), 0, .ok, wPicked (wWait wDram 63 (.far (wNew true 0))), wPlace, ?_, ?_, ?_, 63, wNew true 0, ?_⟩,
  ⟨wDram.setTh 63 fun th => { th with posted := [wNew false 0] }, 0, .ok, wPicked (wDram.setTh 63 fun th => { th with posted := [wNew false 0] }),
    wPlace, ?_, ?_, ?_, 63, wNew false 0, ?_⟩,
  ⟨wDram.setTh 63 fun th => { th with posted := [wNew false 0] }, 0, .failed, wPicked (wDram.setTh 63 fun th => { th with posted := [wNew false 0] }),
    wPlace, ?_, ?_, ?_, 63, wNew false 0, ?_⟩,
  ⟨wUnits (wUnit true 0), 0, .ok, wPicked (wUnits (wUnit true 0)), wPlace, ?_⟩,
  ⟨wUnits (wUnit false 0), 0, .ok, wPicked (wUnits (wUnit false 0)), wPlace, ?_⟩,
  ⟨wWait wDram 63 (.far (wNew true (2 ^ 39))), .ok, wBad (wWait wDram 63 (.far (wNew true (2 ^ 39)))), ?_, 63, wNew true (2 ^ 39), ?_⟩,
  ⟨wDram.setTh 63 fun th => { th with posted := [wNew false (2 ^ 39)] }, .ok,
    wBad (wDram.setTh 63 fun th => { th with posted := [wNew false (2 ^ 39)] }), ?_, 63, wNew false (2 ^ 39), ?_⟩,
  ⟨wUnits (wUnit true (2 ^ 39)), .ok, wBad (wUnits (wUnit true (2 ^ 39))), ?_⟩,
  ⟨{ wWait (wDram.setF F.drcRef_MAX 0 1) 63 (.far (wAcc 63 true (.dram 0) none)) with ctl := { Dram.reset with queue := [wDReq], banks := [(0, { BankSt.reset with opened := some 0 })] } },
    0, 0, wDReq, ?_⟩,
  ⟨{ wWait (wDram.setF F.drcRef_MAX 0 1) 63 (.far (wAcc 63 true (.dram 0) none)) with ctl := { Dram.reset with queue := [wDReq], banks := [(0, { BankSt.reset with opened := some 0 })] } },
    0, 0, wDReq, ?_, ?_, ?_, ?_, ?_, 63, wAcc 63 true (.dram 0) none, ?_⟩,
  ⟨{ wWait ((wDram.setF F.drcRef_MAX 0 1).setF F.drcHot_ROW_THR 0 0) 63 (.far (wAcc 63 true (.dram 0) none)) with ctl := { Dram.reset with queue := [wDReq], banks := [(0, { BankSt.reset with opened := none })] } },
    0, 0, wDReq, ?_⟩,
  ⟨{ wWait (wDram.setF F.drcRef_MAX 0 1) 63 (.far (wAcc 63 true (.dram 0) none)) with ctl := { Dram.reset with queue := [wDReq], banks := [(0, { BankSt.reset with opened := some 1 })] } },
    0, 0, wDReq, ?_, ?_, ?_, ?_, 1, ?_⟩,
  ⟨{ wWait wDram 63 (.far (wAcc 63 true (.dram 0) none)) with ctl := { Dram.reset with issued := [wDReq] } }, 0, wDReq, ?_, 63,
    wAcc 63 true (.dram 0) none, 0, ?_⟩,
  ⟨{ wWait wDram 63 (.far (wAcc 63 true (.dram 0) none)) with ctl := { Dram.reset with issued := [{ wDReq with thread := none }] } }, 0,
    { wDReq with thread := none }, ?_⟩⟩ <;> and_intros <;> decide +kernel

theorem witness_BulkMovers :
  (∃ (s h : State) (a : Accessor) (m : Fin 32) (v : Word32) (st : Nat), (s.permits a .arbMoveCtl m 0 (withField v 21 1 1)) ∧ ((bits v.toNat 22 1 = 0) ∧
    ((st = s.f F.arbMoveStatus_STATUS m) ∧ ((h = (if a.isHouse then s.setF F.arbMoveCtl_OWNER m (bits v.toNat 16 5) else s)) ∧ ((st = 1)))))) ∧
  (∃ (s h : State) (a : Accessor) (m : Fin 32) (v : Word32) (st : Nat), (s.permits a .arbMoveCtl m 0 (withField v 21 1 1)) ∧ ((bits v.toNat 22 1 = 0) ∧
    ((st = s.f F.arbMoveStatus_STATUS m) ∧ ((h = (if a.isHouse then s.setF F.arbMoveCtl_OWNER m (bits v.toNat 16 5) else s)) ∧ ((st = 2) ∧ (((s.mover
    m).fresh = false))))))) ∧
  (∃ (s h : State) (a : Accessor) (m : Fin 32) (v : Word32) (st : Nat), (s.permits a .arbMoveCtl m 0 (withField v 21 1 1)) ∧ ((bits v.toNat 22 1 = 0) ∧
    ((st = s.f F.arbMoveStatus_STATUS m) ∧ ((h = (if a.isHouse then s.setF F.arbMoveCtl_OWNER m (bits v.toNat 16 5) else s)) ∧ ((st ≠ 1) ∧ (((st = 2 →
    (s.mover m).fresh = true)) ∧ ((s.f F.arbMoveLen_LEN m = 0)))))))) ∧
  (∃ (s h : State) (a : Accessor) (m : Fin 32) (v : Word32) (st : Nat), (s.permits a .arbMoveCtl m 0 (withField v 21 1 1)) ∧ ((bits v.toNat 22 1 = 0) ∧
    ((st = s.f F.arbMoveStatus_STATUS m) ∧ ((h = (if a.isHouse then s.setF F.arbMoveCtl_OWNER m (bits v.toNat 16 5) else s)) ∧ ((st ≠ 1) ∧ (((st = 2 →
    (s.mover m).fresh = true)) ∧ ((s.f F.arbMoveLen_LEN m ≠ 0) ∧ ((h.moveCheckGo m = 0))))))))) ∧
  (∃ (s h : State) (a : Accessor) (m : Fin 32) (v : Word32) (st : Nat), (s.permits a .arbMoveCtl m 0 (withField v 21 1 1)) ∧ ((bits v.toNat 22 1 = 0) ∧
    ((st = s.f F.arbMoveStatus_STATUS m) ∧ ((h = (if a.isHouse then s.setF F.arbMoveCtl_OWNER m (bits v.toNat 16 5) else s)) ∧ ((st ≠ 1) ∧ (((st = 2 →
    (s.mover m).fresh = true)) ∧ (∃ c, (s.f F.arbMoveLen_LEN m ≠ 0) ∧ ((h.moveCheckGo m = c) ∧ ((c ≠ 0)))))))))) ∧
  (∃ (s : State) (a : Accessor) (m : Fin 32) (v : Word32), (s.permits a .arbMoveCtl m 0 (withField v 22 1 1)) ∧ ((bits v.toNat 21 1 = 0))) ∧
  (∃ (s : State) (m : Fin 32) (done n : Nat), (s.moveReady m = true) ∧ ((done = s.f F.arbMoveProgress_BYTES m) ∧ ((n = min 256 (s.f F.arbMoveLen_LEN m -
    done)) ∧ ((s.moveAllowed m = false))))) ∧
  (∃ (s : State) (m : Fin 32) (done n : Nat), (s.moveReady m = true) ∧ ((done = s.f F.arbMoveProgress_BYTES m) ∧ ((n = min 256 (s.f F.arbMoveLen_LEN m -
    done)) ∧ ((s.moveAllowed m = true) ∧ (((s.mover m).err = true)))))) ∧
  (∃ (s : State) (m : Fin 32) (done n : Nat), (s.moveReady m = true) ∧ ((done = s.f F.arbMoveProgress_BYTES m) ∧ ((n = min 256 (s.f F.arbMoveLen_LEN m -
    done)) ∧ ((s.moveAllowed m = true) ∧ (((s.mover m).err = false) ∧ (((s.mover m).kill = true))))))) ∧
  (∃ (s : State) (m : Fin 32) (done n : Nat), (s.moveReady m = true) ∧ ((done = s.f F.arbMoveProgress_BYTES m) ∧ ((n = min 256 (s.f F.arbMoveLen_LEN m -
    done)) ∧ ((s.moveAllowed m = true) ∧ (((s.mover m).err = false) ∧ (((s.mover m).kill = false))))))) :=
  by
  refine ⟨⟨(wDram.setF F.arbMoveCtl_OWNER 0 2).setF F.arbMoveStatus_STATUS 0 1, (wDram.setF F.arbMoveCtl_OWNER 0 2).setF F.arbMoveStatus_STATUS 0 1, .session 2,
    0, 0x20000, 1, ?_⟩,
  ⟨(wDram.setF F.arbMoveCtl_OWNER 0 2).setF F.arbMoveStatus_STATUS 0 2, (wDram.setF F.arbMoveCtl_OWNER 0 2).setF F.arbMoveStatus_STATUS 0 2, .session 2,
    0, 0x20000, 2, ?_⟩,
  ⟨wDram.setF F.arbMoveCtl_OWNER 0 2, wDram.setF F.arbMoveCtl_OWNER 0 2, .session 2, 0, 0x20000, 0, ?_⟩,
  ⟨((wDram.setF F.arbMoveCtl_OWNER 0 2).setF F.arbMoveLen_LEN 0 64).setF F.arbMoveDst_DST 0 32 |>.wr .scpSegHi 2 0 (1 + 2 ^ 18 + 2 ^ 21),
    ((wDram.setF F.arbMoveCtl_OWNER 0 2).setF F.arbMoveLen_LEN 0 64).setF F.arbMoveDst_DST 0 32 |>.wr .scpSegHi 2 0 (1 + 2 ^ 18 + 2 ^ 21), .session 2,
    0, 0x20000, 0, ?_⟩,
  ⟨(wDram.setF F.arbMoveCtl_OWNER 0 2).setF F.arbMoveLen_LEN 0 32, (wDram.setF F.arbMoveCtl_OWNER 0 2).setF F.arbMoveLen_LEN 0 32, .session 2, 0,
    0x20000, 0, ?_, ?_, ?_, ?_, ?_, ?_, 4, ?_⟩,
  ⟨wDram.setF F.arbMoveCtl_OWNER 0 2, .session 2, 0, 0x20000, ?_⟩,
  ⟨{ ((wDram.setF F.arbMoveCtl_OWNER 0 2).setF F.arbMoveLen_LEN 0 64).setF F.arbMoveStatus_STATUS 0 1 with ctl := { Dram.reset with movers := [(0, { Mover.reset with writing := true })] } },
    0, 0, 64, ?_⟩,
  ⟨{ ((((wDram.setF F.arbMoveCtl_OWNER 0 2).setF F.arbMoveLen_LEN 0 64).setF F.arbMoveDst_DST 0 (2 ^ 28)).setF F.arbMoveStatus_STATUS 0 1).wr .scpSegHi 2 0 (1 + 2 ^ 18 + 2 ^ 21) |>.wr .scpSegHi 2 1 (1 + 2 ^ 19 + 2 ^ 21) with ctl := { Dram.reset with movers := [(0, { Mover.reset with writing := true, err := true })] } },
    0, 0, 64, ?_⟩,
  ⟨{ ((((wDram.setF F.arbMoveCtl_OWNER 0 2).setF F.arbMoveLen_LEN 0 64).setF F.arbMoveDst_DST 0 (2 ^ 28)).setF F.arbMoveStatus_STATUS 0 1).wr .scpSegHi 2 0 (1 + 2 ^ 18 + 2 ^ 21) |>.wr .scpSegHi 2 1 (1 + 2 ^ 19 + 2 ^ 21) with ctl := { Dram.reset with movers := [(0, { Mover.reset with writing := true, kill := true })] } },
    0, 0, 64, ?_⟩,
  ⟨{ ((((wDram.setF F.arbMoveCtl_OWNER 0 2).setF F.arbMoveLen_LEN 0 64).setF F.arbMoveDst_DST 0 (2 ^ 28)).setF F.arbMoveStatus_STATUS 0 1).wr .scpSegHi 2 0 (1 + 2 ^ 18 + 2 ^ 21) |>.wr .scpSegHi 2 1 (1 + 2 ^ 19 + 2 ^ 21) with ctl := { Dram.reset with movers := [(0, { Mover.reset with writing := true, buf := List.replicate 32 7 })] } },
    0, 0, 64, ?_⟩⟩ <;> and_intros <;> decide +kernel

theorem witness_ScpReception :
  (∃ (s : State) (p : Fin 2) (bs : List Byte) (rest : List (List Byte)) (f : ScpFrame), ((s.port (8 + p)).ctlQ = bs :: rest) ∧ ((s.scpParse bs = f) ∧
    (((s.b F.scpCfg_ENABLE = false ∨ f.cls ≠ 5 ∨ f.version ≠ 1 ∨ 17 ≤ f.target ∨ (f.target < 16 ∧ s.stallState f.target = 0) ∨ f.fits = false ∨ 256 ≤
    s.portQueue (8 + p)))))) ∧
  (∃ (s : State) (p : Fin 2) (f : ScpFrame) (rest : List (List Byte)) (x : Nat), (s.scpTakes p f rest) ∧ ((x = f.target) ∧ ((f.op = 1) ∧ ((f.seq = 0) ∧
    ((f.auth = true) ∧ ((8 ≤ f.body.length) ∧ (((s.longKey x).isSome = true) ∧ (((s.sess x).nonces.contains (helloNonce f.body) = false))))))))) ∧
  (∃ (s : State) (p : Fin 2) (f : ScpFrame) (rest : List (List Byte)) (x : Nat), (s.scpTakes p f rest) ∧ ((x = f.target) ∧ ((f.op = 1) ∧ ((f.seq ≠ 0 ∨
    f.auth = false ∨ f.body.length < 8 ∨ s.longKey x = none ∨ (s.sess x).nonces.contains (helloNonce f.body) = true))))) ∧
  (∃ (s : State) (p : Fin 2) (f : ScpFrame) (rest : List (List Byte)) (x : Nat), (s.scpTakes p f rest) ∧ ((x = f.target) ∧ ((f.op ≠ 1) ∧ (((s.sessionOpen
    x = false ∨ f.auth = false)))))) ∧
  (∃ (s : State) (p : Fin 2) (f : ScpFrame) (rest : List (List Byte)) (x : Nat), (s.scpTakes p f rest) ∧ ((x = f.target) ∧ ((f.op ≠ 1) ∧ ((s.sessionOpen
    x = true) ∧ ((f.auth = true) ∧ (∃ c : ScpCmd, ((∀ d ∈ (s.sess x).waiting, s.lastSeq x + 1 < d.seq)) ∧ ((c =
    { port := 8 + p.val, seq := f.seq, op := f.op, len := f.length, body := f.body }) ∧ ((s.lastSeq x < c.seq) ∧ ((c.seq ≤ s.lastSeq x + 16) ∧ ((c.seq
    ≠ 0xFFFFFFFF) ∧ (((c.seq = s.lastSeq x + 1 → s.early x c = none))))))))))))) ∧
  (∃ (s : State) (p : Fin 2) (f : ScpFrame) (rest : List (List Byte)) (x : Nat), (s.scpTakes p f rest) ∧ ((x = f.target) ∧ ((f.op ≠ 1) ∧ ((s.sessionOpen
    x = true) ∧ ((f.auth = true) ∧ (∃ c : ScpCmd, ((∀ d ∈ (s.sess x).waiting, s.lastSeq x + 1 < d.seq)) ∧ ((c =
    { port := 8 + p.val, seq := f.seq, op := f.op, len := f.length, body := f.body }) ∧ ((s.lastSeq x < c.seq) ∧ ((c.seq ≤ s.lastSeq x + 16) ∧ ((c.seq
    ≠ 0xFFFFFFFF) ∧ (∃ st, ((s.sess x).waiting = []) ∧ ((c.seq = s.lastSeq x + 1) ∧ ((c.seq < 2 ^ 32) ∧ ((s.early x c = some st) ∧ ((s.rateOver x =
    false)))))))))))))))) ∧
  (∃ (s : State) (p : Fin 2) (f : ScpFrame) (rest : List (List Byte)) (x : Nat), (s.scpTakes p f rest) ∧ ((x = f.target) ∧ ((f.op ≠ 1) ∧ ((s.sessionOpen
    x = true) ∧ ((f.auth = true) ∧ (∃ o : ScpOut, (f.seq ≠ 0) ∧ ((f.seq ≤ s.lastSeq x) ∧ ((s.lastSeq x < f.seq + 16) ∧ ((f.seq ≠ 0xFFFFFFFF) ∧
    (((s.sess x).stored.find? (fun r => r.seq == f.seq) = some o))))))))))) ∧
  (∃ (s : State) (p : Fin 2) (f : ScpFrame) (rest : List (List Byte)) (x : Nat), (s.scpTakes p f rest) ∧ ((x = f.target) ∧ ((f.op ≠ 1) ∧ ((s.sessionOpen
    x = true) ∧ ((f.auth = true) ∧ ((f.seq = 0 ∨ f.seq = 0xFFFFFFFF ∨ s.lastSeq x + 16 < f.seq ∨ f.seq + 16 ≤ s.lastSeq x))))))) ∧
  (∃ (s : State) (x : Target) (p : Nat) (nh : BitVec 128) (rest : List (Nat × BitVec 128)), ((s.sess x).hellos = (p, nh) :: rest) ∧ (∃ k, (s.longKey x =
    some k) ∧ (((s.sess x).nonces.contains nh = false)))) ∧
  (∃ (s : State) (x : Target) (p : Nat) (nh : BitVec 128) (rest : List (Nat × BitVec 128)), ((s.sess x).hellos = (p, nh) :: rest) ∧ ((s.longKey x = none
    ∨ (s.sess x).nonces.contains nh = true))) :=
  by
  refine ⟨⟨wScpIn (List.replicate 64 0) (wUp 8), 0, List.replicate 64 0, [[0]], (wScpIn (List.replicate 64 0) (wUp 8)).scpParse (List.replicate 64 0), ?_⟩,
  ⟨wScpIn (wScpBytes (wHost 2 0) 2 1 0 [0, 0, 0, 0, 0, 0, 0, 3]) (wHost 2 0), 0,
    ((wScpIn (wScpBytes (wHost 2 0) 2 1 0 [0, 0, 0, 0, 0, 0, 0, 3]) (wHost 2 0)).scpParse (wScpBytes (wHost 2 0) 2 1 0 [0, 0, 0, 0, 0, 0, 0, 3])),
    [[0]], 2, wTakes ?_, ?_⟩,
  ⟨wScpIn (wScpBytes (wHost 2 0) 2 1 1 [0, 0, 0, 0, 0, 0, 0, 3]) (wHost 2 0), 0,
    ((wScpIn (wScpBytes (wHost 2 0) 2 1 1 [0, 0, 0, 0, 0, 0, 0, 3]) (wHost 2 0)).scpParse (wScpBytes (wHost 2 0) 2 1 1 [0, 0, 0, 0, 0, 0, 0, 3])),
    [[0]], 2, wTakes ?_, ?_⟩,
  ⟨wScpIn (wScpBytes (wHost 2 0) 2 2 1 [4, 0]) (wHost 2 0), 0,
    ((wScpIn (wScpBytes (wHost 2 0) 2 2 1 [4, 0]) (wHost 2 0)).scpParse (wScpBytes (wHost 2 0) 2 2 1 [4, 0])), [[0]], 2, wTakes ?_, ?_⟩,
  ⟨wScpIn (wScpBytes (wHost 2 1) 2 2 1 [4, 0]) (wHost 2 1), 0,
    ((wScpIn (wScpBytes (wHost 2 1) 2 2 1 [4, 0]) (wHost 2 1)).scpParse (wScpBytes (wHost 2 1) 2 2 1 [4, 0])), [[0]], 2, wTakes ?_, ?_, ?_, ?_, ?_,
    { port := 8, seq := ((wScpIn (wScpBytes (wHost 2 1) 2 2 1 [4, 0]) (wHost 2 1)).scpParse (wScpBytes (wHost 2 1) 2 2 1 [4, 0])).seq, op := ((wScpIn (wScpBytes (wHost 2 1) 2 2 1 [4, 0]) (wHost 2 1)).scpParse (wScpBytes (wHost 2 1) 2 2 1 [4, 0])).op, len := ((wScpIn (wScpBytes (wHost 2 1) 2 2 1 [4, 0]) (wHost 2 1)).scpParse (wScpBytes (wHost 2 1) 2 2 1 [4, 0])).length, body := ((wScpIn (wScpBytes (wHost 2 1) 2 2 1 [4, 0]) (wHost 2 1)).scpParse (wScpBytes (wHost 2 1) 2 2 1 [4, 0])).body },
    ?_⟩,
  ⟨wScpIn (wScpBytes (wHost 2 1) 2 9 1 []) (wHost 2 1), 0,
    ((wScpIn (wScpBytes (wHost 2 1) 2 9 1 []) (wHost 2 1)).scpParse (wScpBytes (wHost 2 1) 2 9 1 [])), [[0]], 2, wTakes ?_, ?_, ?_, ?_, ?_,
    { port := 8, seq := ((wScpIn (wScpBytes (wHost 2 1) 2 9 1 []) (wHost 2 1)).scpParse (wScpBytes (wHost 2 1) 2 9 1 [])).seq, op := ((wScpIn (wScpBytes (wHost 2 1) 2 9 1 []) (wHost 2 1)).scpParse (wScpBytes (wHost 2 1) 2 9 1 [])).op, len := ((wScpIn (wScpBytes (wHost 2 1) 2 9 1 []) (wHost 2 1)).scpParse (wScpBytes (wHost 2 1) 2 9 1 [])).length, body := ((wScpIn (wScpBytes (wHost 2 1) 2 9 1 []) (wHost 2 1)).scpParse (wScpBytes (wHost 2 1) 2 9 1 [])).body },
    ?_, ?_, ?_, ?_, ?_, 1, ?_⟩,
  ⟨wScpIn (wScpBytes ({ (wHost 2 1).setF F.scpStallLast_SEQ 2 1 with sessions := [(2, { Session.reset with stored := [{ wOut with session := 2, seq := 1 }] })] }) 2 2 1 []) ({ (wHost 2 1).setF F.scpStallLast_SEQ 2 1 with sessions := [(2, { Session.reset with stored := [{ wOut with session := 2, seq := 1 }] })] }),
    0,
    ((wScpIn (wScpBytes ({ (wHost 2 1).setF F.scpStallLast_SEQ 2 1 with sessions := [(2, { Session.reset with stored := [{ wOut with session := 2, seq := 1 }] })] }) 2 2 1 []) ({ (wHost 2 1).setF F.scpStallLast_SEQ 2 1 with sessions := [(2, { Session.reset with stored := [{ wOut with session := 2, seq := 1 }] })] })).scpParse (wScpBytes ({ (wHost 2 1).setF F.scpStallLast_SEQ 2 1 with sessions := [(2, { Session.reset with stored := [{ wOut with session := 2, seq := 1 }] })] }) 2 2 1 [])),
    [[0]], 2, wTakes ?_, ?_, ?_, ?_, ?_, { wOut with session := 2, seq := 1 }, ?_⟩,
  ⟨wScpIn (wScpBytes (wHost 2 1) 2 2 17 []) (wHost 2 1), 0,
    ((wScpIn (wScpBytes (wHost 2 1) 2 2 17 []) (wHost 2 1)).scpParse (wScpBytes (wHost 2 1) 2 2 17 [])), [[0]], 2, wTakes ?_, ?_⟩,
  ⟨{ wHost 2 0 with sessions := [(2, { Session.reset with hellos := [(8, 3)] })] }, 2, 8, 3, [], ?_, List.replicate 8 0, ?_⟩,
  ⟨{ (wHost 2 0).setF F.scpStallState_KEY_SET 2 0 with sessions := [(2, { Session.reset with hellos := [(8, 3)] })] }, 2, 8, 3, [], ?_⟩⟩ <;> and_intros <;> decide +kernel

theorem witness_ScpData :
  (∃ (s : State) (x : Target) (c : ScpCmd), (s.scpReady x c) ∧ ((c.op = 2) ∧ (((c.body.length < 2 ∨ capHeaders.contains (cmdLong c 0) = false))))) ∧
  (∃ (s : State) (x : Target) (c : ScpCmd), (s.scpReady x c) ∧ ((c.op = 2) ∧ ((2 ≤ c.body.length) ∧ ((capHeaders.contains (cmdLong c 0) = true))))) ∧
  (∃ (s : State) (x : Target) (c : ScpCmd) (cl addr : Nat), (s.scpReady x c) ∧ ((c.op = 3) ∧ ((3 ≤ c.body.length) ∧ ((addr = cmdLong c 1) ∧ ((cl = addr /
    2 ^ 28) ∧ ((cmdWord c 0 ≤ 1) ∧ ((x.val < 16) ∧ ((s.clusterOwner cl ≠ x.val))))))))) ∧
  (∃ (s : State) (x : Target) (c : ScpCmd) (cl addr : Nat), (s.scpReady x c) ∧ ((c.op = 3) ∧ ((3 ≤ c.body.length) ∧ ((addr = cmdLong c 1) ∧ ((cl = addr /
    2 ^ 28) ∧ ((cmdWord c 0 = 0) ∧ (((x.val = 16 ∨ s.clusterOwner cl = x.val)) ∧ ((addr % 131072 + (c.body.length - 3) ≤ 131072))))))))) ∧
  (∃ (s : State) (x : Target) (c : ScpCmd) (cl addr : Nat), (s.scpReady x c) ∧ ((c.op = 3) ∧ ((3 ≤ c.body.length) ∧ ((addr = cmdLong c 1) ∧ ((cl = addr /
    2 ^ 28) ∧ ((cmdWord c 0 = 1) ∧ (((x.val = 16 ∨ s.clusterOwner cl = x.val)) ∧ ((addr % 2 ^ 28 + (c.body.length - 3) ≤ 524288))))))))) ∧
  (∃ (s : State) (x : Target) (c : ScpCmd) (cl addr : Nat), (s.scpReady x c) ∧ ((c.op = 3) ∧ ((3 ≤ c.body.length) ∧ ((addr = cmdLong c 1) ∧ ((cl = addr /
    2 ^ 28) ∧ (∃ b, (cmdWord c 0 = 2) ∧ ((c.body.length = 4) ∧ ((s.farCheck x addr true false = .inl (.dram b)))))))))) ∧
  (∃ (s : State) (x : Target) (c : ScpCmd) (cl addr : Nat), (s.scpReady x c) ∧ ((c.op = 3) ∧ ((3 ≤ c.body.length) ∧ ((addr = cmdLong c 1) ∧ ((cl = addr /
    2 ^ 28) ∧ ((5 < cmdWord c 0))))))) ∧
  (∃ (s : State) (x : Target) (c : ScpCmd) (addr : Nat), (s.scpReady x c) ∧ ((4 ≤ c.body.length) ∧ ((addr = cmdLong c 1) ∧ ((cmdWord c 3 = 1) ∧ (∃ b,
    (c.op = 6) ∧ ((cmdWord c 0 = 1) ∧ ((s.farCheck x addr false false = .inl (.dram b))))))))) ∧
  (∃ (s : State) (x : Target) (c : ScpCmd) (addr : Nat), (s.scpReady x c) ∧ ((4 ≤ c.body.length) ∧ ((addr = cmdLong c 1) ∧ ((cmdWord c 3 = 1) ∧ (∃ b,
    (c.op = 7) ∧ ((cmdWord c 0 = 1) ∧ ((5 ≤ c.body.length) ∧ ((s.farCheck x addr true false = .inl (.dram b)))))))))) ∧
  (∃ (s : State) (x : Target) (c : ScpCmd) (addr : Nat), (s.scpReady x c) ∧ ((4 ≤ c.body.length) ∧ ((addr = cmdLong c 1) ∧ ((cmdWord c 3 = 1) ∧ ((c.op =
    6) ∧ ((cmdWord c 0 = 1) ∧ (((∀ pl, s.farCheck x addr false false ≠ .inl pl))))))))) ∧
  (∃ (s : State) (x : Target) (c : ScpCmd) (addr : Nat), (s.scpReady x c) ∧ ((4 ≤ c.body.length) ∧ ((addr = cmdLong c 1) ∧ ((cmdWord c 3 = 1) ∧ ((c.op =
    7) ∧ ((cmdWord c 0 = 1) ∧ ((5 ≤ c.body.length) ∧ (((∀ pl, s.farCheck x addr true false ≠ .inl pl)))))))))) ∧
  (∃ (s : State) (x : Target) (c : ScpCmd) (addr : Nat), (s.scpReady x c) ∧ ((4 ≤ c.body.length) ∧ ((addr = cmdLong c 1) ∧ ((cmdWord c 3 = 1) ∧ (∃ r i j,
    (cmdWord c 0 = 0) ∧ ((addr % 4 = 0) ∧ ((addr + 4 ≤ 2 ^ 24) ∧ ((capWord addr = none) ∧ ((Reg.find addr = some (r, i, j)) ∧ ((s.mayReach x r i =
    false) ∧ ((c.op = 6)))))))))))) ∧
  (∃ (s : State) (x : Target) (c : ScpCmd) (addr : Nat), (s.scpReady x c) ∧ ((4 ≤ c.body.length) ∧ ((addr = cmdLong c 1) ∧ ((cmdWord c 3 = 1) ∧ (∃ r i j,
    (cmdWord c 0 = 0) ∧ ((addr % 4 = 0) ∧ ((addr + 4 ≤ 2 ^ 24) ∧ ((capWord addr = none) ∧ ((Reg.find addr = some (r, i, j)) ∧ ((s.mayReach x r i =
    false) ∧ ((c.op = 7) ∧ ((6 ≤ c.body.length))))))))))))) :=
  by
  refine ⟨⟨wScp 2 (wCmd 2 [4, 0]), 2, wCmd 2 [4, 0], ?_⟩,
  ⟨wScp 16 (wCmd 2 [64, 0]), 16, wCmd 2 [64, 0], ?_⟩,
  ⟨wScp 2 (wCmd 3 [1, 0, 0xF000]), 2, wCmd 3 [1, 0, 0xF000], 15, 0xF0000000, ?_⟩,
  ⟨wScp 2 (wCmd 3 [0, 0xFFFF, 1, 7]), 2, wCmd 3 [0, 0xFFFF, 1, 7], 0, 0x1FFFF, ?_⟩,
  ⟨wScp 16 (wCmd 3 [1, 0xFFFF, 7, 7]), 16, wCmd 3 [1, 0xFFFF, 7, 7], 0, 0x7FFFF, ?_⟩,
  ⟨(wScp 2 (wCmd 3 [2, 0, 0, 7])).wr .scpSegHi 2 0 (1 + 2 ^ 18 + 2 ^ 21), 2, wCmd 3 [2, 0, 0, 7], 0, 0, ?_, ?_, ?_, ?_, ?_, 0, ?_⟩,
  ⟨wScp 2 (wCmd 3 [6, 0, 0]), 2, wCmd 3 [6, 0, 0], 0, 0, ?_⟩,
  ⟨(wScp 2 (wCmd 6 [1, 0, 0, 1])).wr .scpSegHi 2 0 (1 + 2 ^ 18 + 2 ^ 21), 2, wCmd 6 [1, 0, 0, 1], 0, ?_, ?_, ?_, ?_, 0, ?_⟩,
  ⟨(wScp 2 (wCmd 7 [1, 0, 0, 1, 9])).wr .scpSegHi 2 0 (1 + 2 ^ 18 + 2 ^ 21), 2, wCmd 7 [1, 0, 0, 1, 9], 0, ?_, ?_, ?_, ?_, 0, ?_⟩,
  ⟨wScp 2 (wCmd 6 [1, 0, 0, 1]), 2, wCmd 6 [1, 0, 0, 1], 0, ?_, ?_, ?_, ?_, ?_, ?_, (wInr ?_)⟩,
  ⟨wScp 2 (wCmd 7 [1, 0, 0, 1, 9]), 2, wCmd 7 [1, 0, 0, 1, 9], 0, ?_, ?_, ?_, ?_, ?_, ?_, ?_, (wInr ?_)⟩,
  ⟨wScp 2 (wCmd 6 [0, 364, 18, 1]), 2, wCmd 6 [0, 364, 18, 1], 1180012, ?_, ?_, ?_, ?_, Reg.scpStallSession, 3, 0, ?_⟩,
  ⟨wScp 2 (wCmd 7 [0, 364, 18, 1, 7, 7]), 2, wCmd 7 [0, 364, 18, 1, 7, 7], 1180012, ?_, ?_, ?_, ?_, Reg.scpStallSession, 3, 0, ?_⟩⟩ <;> and_intros <;> decide +kernel

theorem witness_ScpStartStop :
  (∃ (s : State) (x : Target) (c : ScpCmd) (n : Nat), (s.scpReady x c) ∧ ((c.op = 4) ∧ ((n = cmdWord c 0) ∧ ((x.val < 16) ∧ ((s.starts.get none x = none)
    ∧ (((s.stallState x = 1 ∨ s.stallState x = 3)) ∧ ((n ≤ 64) ∧ ((1 + 3 * n ≤ c.body.length) ∧ ((s.startFault x (startEntries c n) = none)))))))))) ∧
  (∃ (s : State) (x : Target) (c : ScpCmd) (n : Nat), (s.scpReady x c) ∧ ((c.op = 4) ∧ ((n = cmdWord c 0) ∧ ((16 ≤ x.val ∨ (s.starts.get none x).isSome =
    true ∨ (s.stallState x ≠ 1 ∧ s.stallState x ≠ 3)))))) ∧
  (∃ (s : State) (x : Target) (c : ScpCmd) (n : Nat), (s.scpReady x c) ∧ ((c.op = 4) ∧ ((n = cmdWord c 0) ∧ (∃ st i, (x.val < 16) ∧ ((s.starts.get none x
    = none) ∧ (((s.stallState x = 1 ∨ s.stallState x = 3)) ∧ ((n ≤ 64) ∧ ((1 + 3 * n ≤ c.body.length) ∧ ((s.startFault x (startEntries c n) = some
    (st, i)) ∧ ((st < 256))))))))))) ∧
  (∃ (s : State) (x : StallId) (r : StartReq), (s.starts.get none x = some r) ∧ ((r.course ≤ s.course) ∧ (((s.stallState x = 1 ∨ s.stallState x = 3)) ∧
    (((r.entries.map (·.1)).Nodup) ∧ (((∀ e ∈ r.entries, e.1 < 1024 ∧ (s.th e.1).st = .parked ∧ e.2.1 < 4 ∧ e.2.2.1 < 8 ∧ e.2.2.2 < 131072))))))) ∧
  (∃ (s : State) (x : StallId) (r : StartReq), (s.starts.get none x = some r) ∧ ((r.course ≤ s.course) ∧ ((s.stallState x ≠ 1) ∧ ((s.stallState x ≠ 3))))) ∧
  (∃ (s : State) (x : Target) (c : ScpCmd), (s.scpReady x c) ∧ ((c.op = 5) ∧ ((x.val < 16) ∧ ((s.stallState x = 2))))) ∧
  (∃ (s : State) (x : Target) (c : ScpCmd), (s.scpReady x c) ∧ ((c.op = 5) ∧ ((16 ≤ x.val ∨ s.stallState x ≠ 2)))) ∧
  (∃ (s : State) (x : StallId) (k : Nat), (s.stops.get none x = some k) ∧ ((k ≤ s.course) ∧ ((s.stallState x = 2)))) :=
  by
  refine ⟨⟨(wScp 2 (wCmd 4 [1, 0, 0, 0])).setF F.scpStallState_STATE 2 1, 2, wCmd 4 [1, 0, 0, 0], 1, ?_⟩,
  ⟨wScp 2 (wCmd 4 [0]), 2, wCmd 4 [0], 0, ?_⟩,
  ⟨(wScp 2 (wCmd 4 [0])).setF F.scpStallState_STATE 2 1, 2, wCmd 4 [0], 0, ?_, ?_, ?_, 4, 0, ?_⟩,
  ⟨{ wRun.setF F.scpStallState_STATE 2 3 with starts := [(2, some { course := 0, session := 2, gen := 0, port := 8, seq := 1, entries := [(63, 3, 7, 131071)] })] },
    2, { course := 0, session := 2, gen := 0, port := 8, seq := 1, entries := [(63, 3, 7, 131071)] }, ?_⟩,
  ⟨{ wRun with starts := [(2, some { course := 0, session := 2, gen := 0, port := 8, seq := 1, entries := [(63, 3, 7, 131071)] })] }, 2,
    { course := 0, session := 2, gen := 0, port := 8, seq := 1, entries := [(63, 3, 7, 131071)] }, ?_⟩,
  ⟨wScp 2 (wCmd 5 []), 2, wCmd 5 [], ?_⟩,
  ⟨(wScp 2 (wCmd 5 [])).setF F.scpStallState_STATE 2 3, 2, wCmd 5 [], ?_⟩,
  ⟨{ wRun with stops := [(2, some 0)] }, 2, 0, ?_⟩⟩ <;> and_intros <;> decide +kernel

theorem witness_ScpTraffic :
  (∃ (s : State) (x : Target) (c : ScpCmd), (s.scpReady x c) ∧ ((c.op = 8) ∧ ((1 ≤ c.body.length) ∧ ((c.body.length ≤ 32) ∧ (∃ k, (s.supCluster x = some
    k) ∧ (((s.sess x).mails = []) ∧ (((s.chanQ (chanKey k 3)).length < 16)))))))) ∧
  (∃ (s : State) (x : Target) (c : ScpCmd), (s.scpReady x c) ∧ ((c.op = 8) ∧ ((1 ≤ c.body.length) ∧ ((c.body.length ≤ 32) ∧ (∃ k, (s.supCluster x = some
    k) ∧ (((s.sess x).mails.length < 16) ∧ ((16 ≤ (s.chanQ (chanKey k 3)).length)))))))) ∧
  (∃ (s : State) (x : Target) (c : ScpCmd), (s.scpReady x c) ∧ ((c.op = 8) ∧ ((1 ≤ c.body.length) ∧ ((c.body.length ≤ 32) ∧ ((16 ≤ (s.sess
    x).mails.length)))))) ∧
  (∃ (s : State) (x : Target) (k : Nat) (m : Msg) (rest : List Msg), (s.supCluster x = some k) ∧ ((s.chanQ (chanKey k 4) = m :: rest) ∧ ((s.deviceReady x
    = true)))) ∧
  (∃ (s : State) (x : Target) (k : Nat) (m : Msg) (rest : List Msg), (s.supCluster x = some k) ∧ ((s.chanQ (chanKey k 4) = m :: rest) ∧ ((s.deviceReady x
    = false)))) ∧
  (∃ (s : State) (x : Target) (c : ScpCmd) (cum : Nat), (s.scpReady x c) ∧ ((c.op = 10) ∧ ((x.val < 16) ∧ ((7 ≤ c.body.length) ∧ ((cum = cmdLong c 0 + 2
    ^ 32 * cmdLong c 2) ∧ ((stlRuns s.stlState = true) ∧ (((cum ≤ (s.sess x).high ∨ cum = s.retiredSeq x))))))))) ∧
  (∃ (s : State) (x : Target) (c : ScpCmd) (cum : Nat), (s.scpReady x c) ∧ ((c.op = 10) ∧ ((x.val < 16) ∧ ((7 ≤ c.body.length) ∧ ((cum = cmdLong c 0 + 2
    ^ 32 * cmdLong c 2) ∧ ((stlRuns s.stlState = true) ∧ (((s.sess x).high < cum) ∧ ((cum ≠ s.retiredSeq x))))))))) ∧
  (∃ (s : State) (x : Target) (c : ScpCmd) (cum : Nat), (s.scpReady x c) ∧ ((c.op = 10) ∧ ((x.val < 16) ∧ ((7 ≤ c.body.length) ∧ ((cum = cmdLong c 0 + 2
    ^ 32 * cmdLong c 2) ∧ ((stlRuns s.stlState = false))))))) ∧
  (∃ (s : State) (x : Target), (s.deliverDue x = true)) ∧
  (∃ (s : State) (x : Target), (s.resendDue x = true)) ∧
  (∃ (s : State) (x : Target) (e : EvRec), (s.deviceReady x = true) ∧ ((s.f F.scpStallLimit_NOTICE_MAX x ≠ 0) ∧ ((s.noticesNow x < s.f
    F.scpStallLimit_NOTICE_MAX x) ∧ ((s.nextRec x true (fun _ => true) = some e))))) ∧
  (∃ (s : State) (x : Target) (c : ScpCmd) (r : Fin 32), (s.scpReady x c) ∧ ((c.op = 13) ∧ ((4 ≤ c.body.length) ∧ ((cmdWord c 3 ≤ 16) ∧ ((cmdWord c 0 =
    r.val) ∧ ((s.f F.ldgCfg_OWNER r = x.val))))))) ∧
  (∃ (s : State) (x : Target) (c : ScpCmd) (r : Fin 32), (s.scpReady x c) ∧ ((c.op = 13) ∧ ((4 ≤ c.body.length) ∧ ((cmdWord c 3 ≤ 16) ∧ ((cmdWord c 0 =
    r.val) ∧ ((s.f F.ldgCfg_OWNER r ≠ x.val))))))) ∧
  (∃ (s : State) (x : Target) (c : ScpCmd) (u : Nat), (s.scpReady x c) ∧ ((c.op = 12) ∧ ((2 ≤ c.body.length) ∧ ((u = cmdWord c 1) ∧ ((cmdWord c 0 = 4) ∧
    ((1024 ≤ u))))))) ∧
  (∃ (s : State) (x : Target) (c : ScpCmd) (u : Nat), (s.scpReady x c) ∧ ((c.op = 12) ∧ ((2 ≤ c.body.length) ∧ ((u = cmdWord c 1) ∧ ((cmdWord c 0 = 4) ∧
    ((u < 1024) ∧ (((x.val = 16 ∨ s.clusterOwner (u / 64) = x.val))))))))) ∧
  (∃ (s : State) (x : Target) (c : ScpCmd) (u : Nat), (s.scpReady x c) ∧ ((c.op = 12) ∧ ((2 ≤ c.body.length) ∧ ((u = cmdWord c 1) ∧ ((cmdWord c 0 = 5) ∧
    ((x.val ≠ 16))))))) ∧
  (∃ (s : State) (x : Target) (c : ScpCmd) (u : Nat), (s.scpReady x c) ∧ ((c.op = 12) ∧ ((2 ≤ c.body.length) ∧ ((u = cmdWord c 1) ∧ ((cmdWord c 0 = 5) ∧
    ((x.val = 16))))))) :=
  by
  refine ⟨⟨wScp 2 (wCmd 8 [5]), 2, wCmd 8 [5], ?_, ?_, ?_, ?_, 0, ?_⟩,
  ⟨{ wScp 2 (wCmd 8 [5]) with chans := [(3, List.replicate 16 wMsg)] }, 2, wCmd 8 [5], ?_, ?_, ?_, ?_, 0, ?_⟩,
  ⟨{ wScp 2 (wCmd 8 [5]) with sessions := [(2, { Session.reset with waiting := [wCmd 8 [5]], mails := List.replicate 16 [1] })] }, 2, wCmd 8 [5], ?_⟩,
  ⟨{ wScp 2 (wCmd 8 [5]) with chans := [(4, [wMsg])] }, 2, 0, wMsg, [], ?_⟩,
  ⟨{ wRun with chans := [(4, [wMsg])] }, 2, 0, wMsg, [], ?_⟩,
  ⟨wScp 2 (wCmd 10 [0, 0, 0, 0, 9, 0, 0]), 2, wCmd 10 [0, 0, 0, 0, 9, 0, 0], 0, ?_⟩,
  ⟨wScp 2 (wCmd 10 [1, 0, 0, 0, 9, 0, 0]), 2, wCmd 10 [1, 0, 0, 0, 9, 0, 0], 1, ?_⟩,
  ⟨(wScp 2 (wCmd 10 [1, 0, 0, 0, 9, 0, 0])).setF F.stlStatus_STATE 0 0, 2, wCmd 10 [1, 0, 0, 0, 9, 0, 0], 1, ?_⟩,
  ⟨{ (wScp 2 (wCmd 5 [])) with acceptedPlus := 1,     ledger := [(2, [{ stall := 2, course := 0, seq := 1, tag := 0, handle := 0, handleValid := false, data := [] }])],     sessions := [(2, { Session.reset with credit := 64 })] },
    2, ?_⟩,
  ⟨{ ((wScp 2 (wCmd 5 [])).setF F.scpStallRto_COURSES 2 1).setTime fun t => { t with course := 1 } with sessions := [(2, { Session.reset with sent := 1 })] },
    2, ?_⟩,
  ⟨{ (wScp 2 (wCmd 5 [])).setF F.scpStallLimit_NOTICE_MAX 2 1 with evRecs := [wRec 2 true] }, 2, wRec 2 true, ?_⟩,
  ⟨(wScp 2 (wCmd 13 [31, 0, 0, 16])).setF F.ldgCfg_OWNER 31 2, 2, wCmd 13 [31, 0, 0, 16], 31, ?_⟩,
  ⟨(wScp 2 (wCmd 13 [31, 0, 0, 16])).setF F.ldgCfg_OWNER 31 3, 2, wCmd 13 [31, 0, 0, 16], 31, ?_⟩,
  ⟨wScp 16 (wCmd 12 [4, 1024]), 16, wCmd 12 [4, 1024], 1024, ?_⟩,
  ⟨wScp 2 (wCmd 12 [4, 63]), 2, wCmd 12 [4, 63], 63, ?_⟩,
  ⟨wScp 2 (wCmd 12 [5, 0]), 2, wCmd 12 [5, 0], 0, ?_⟩,
  ⟨wScp 16 (wCmd 12 [5, 0]), 16, wCmd 12 [5, 0], 0, ?_⟩⟩ <;> and_intros <;> decide +kernel

theorem witness_ScpDebug :
  (∃ (s : State) (x : Target) (c : ScpCmd) (u : Nat), (s.scpReady x c) ∧ ((c.op = 14) ∧ ((u = cmdWord c 1) ∧ (∃ e, e ∈ ([(Instr.debugStop x, 0, 2),
    (.debugResume x, 1, 2), (.debugStep x, 2, 3), (.debugGetregs x, 3, 2), (.debugSetregs x, 4, 30), (.nearRead x, 5, 4), (.nearWrite x, 6, 3)] : List
    (Instr × Nat × Nat)) ∧ ((cmdWord c 0 = e.2.1) ∧ ((c.body.length < e.2.2))))))) ∧
  (∃ (s : State) (x : Target) (c : ScpCmd) (u : Nat), (s.scpReady x c) ∧ ((c.op = 14) ∧ ((u = cmdWord c 1) ∧ (∃ e, e ∈ ([(Instr.debugStop x, 0, 2),
    (.debugResume x, 1, 2), (.debugStep x, 2, 3), (.debugGetregs x, 3, 2), (.debugSetregs x, 4, 30), (.nearRead x, 5, 4), (.nearWrite x, 6, 3)] : List
    (Instr × Nat × Nat)) ∧ ((cmdWord c 0 = e.2.1) ∧ (∃ r, (e.2.2 ≤ c.body.length) ∧ ((s.debugBar x u = some r)))))))) ∧
  (∃ (s : State) (x : Target) (c : ScpCmd) (u : Nat), (s.scpReady x c) ∧ ((c.op = 14) ∧ ((u = cmdWord c 1) ∧ (∃ e, e ∈ ([(Instr.debugStop x, 0, 2),
    (.debugResume x, 1, 2), (.debugStep x, 2, 3), (.debugGetregs x, 3, 2), (.debugSetregs x, 4, 30), (.nearRead x, 5, 4), (.nearWrite x, 6, 3)] : List
    (Instr × Nat × Nat)) ∧ ((cmdWord c 0 = e.2.1) ∧ ((e.2.2 ≤ c.body.length) ∧ ((s.debugBar x u = none) ∧ ((e.2.1 ≠ 0) ∧ (((s.th u).st ≠
    .stopped)))))))))) ∧
  (∃ (s : State) (x : Target) (c : ScpCmd) (u : Nat), (s.scpReady x c) ∧ ((c.op = 14) ∧ ((u = cmdWord c 1) ∧ ((s.debugBar x u = none) ∧ ((cmdWord c 0 =
    0) ∧ (((s.th u).st = .running ∨ (s.th u).st = .blocked))))))) ∧
  (∃ (s : State) (x : Target) (c : ScpCmd) (u : Nat), (s.scpReady x c) ∧ ((c.op = 14) ∧ ((u = cmdWord c 1) ∧ ((s.debugBar x u = none) ∧ ((cmdWord c 0 =
    0) ∧ (((s.th u).st = .stopped))))))) ∧
  (∃ (s : State) (x : Target) (c : ScpCmd) (u : Nat), (s.scpReady x c) ∧ ((c.op = 14) ∧ ((u = cmdWord c 1) ∧ ((s.debugBar x u = none) ∧ ((cmdWord c 0 =
    0) ∧ (((s.th u).st = .parked))))))) ∧
  (∃ (s : State) (x : Target) (c : ScpCmd) (u : Nat), (s.scpReady x c) ∧ ((c.op = 14) ∧ ((u = cmdWord c 1) ∧ ((s.debugBar x u = none) ∧ (((s.th u).st =
    .stopped) ∧ (((s.th u).wait = .none) ∧ (((s.th u).heldOverrun = none) ∧ (((s.th u).heldStill = false) ∧ (((s.th u).mchk = false) ∧ ((cmdWord c 0 =
    1))))))))))) ∧
  (∃ (s : State) (x : Target) (c : ScpCmd) (u : Nat), (s.scpReady x c) ∧ ((c.op = 14) ∧ ((u = cmdWord c 1) ∧ ((s.debugBar x u = none) ∧ (((s.th u).st =
    .stopped) ∧ (((s.th u).wait = .none) ∧ (((s.th u).heldOverrun = none) ∧ (((s.th u).heldStill = false) ∧ (((s.th u).mchk = false) ∧ ((cmdWord c 0 =
    2) ∧ ((3 ≤ c.body.length) ∧ ((cmdWord c 2 = 0))))))))))))) ∧
  (∃ (s : State) (x : Target) (c : ScpCmd) (u : Nat), (s.scpReady x c) ∧ ((c.op = 14) ∧ ((u = cmdWord c 1) ∧ ((s.debugBar x u = none) ∧ (((s.th u).st =
    .stopped) ∧ (((s.th u).wait = .none) ∧ (((s.th u).heldOverrun = none) ∧ (((s.th u).heldStill = false) ∧ (((s.th u).mchk = false) ∧ ((cmdWord c 0 =
    2) ∧ ((3 ≤ c.body.length) ∧ ((cmdWord c 2 ≠ 0))))))))))))) ∧
  (∃ (s : State) (x : Target) (c : ScpCmd) (u : Nat), (s.scpReady x c) ∧ ((c.op = 14) ∧ ((u = cmdWord c 1) ∧ ((s.debugBar x u = none) ∧ (((s.th u).st =
    .stopped) ∧ (∃ ws, (cmdWord c 0 = 3) ∧ (((s.debugRegs u).2 = some (0, ws))))))))) ∧
  (∃ (s : State) (x : Target) (c : ScpCmd) (u : Nat), (s.scpReady x c) ∧ ((c.op = 14) ∧ ((u = cmdWord c 1) ∧ ((s.debugBar x u = none) ∧ (((s.th u).st =
    .stopped) ∧ ((cmdWord c 0 = 4) ∧ ((30 ≤ c.body.length) ∧ ((cmdLong c 28 < 131072) ∧ (((s.th u).frame < 16)))))))))) ∧
  (∃ (s : State) (x : Target) (c : ScpCmd) (u : Nat), (s.scpReady x c) ∧ ((c.op = 14) ∧ ((u = cmdWord c 1) ∧ ((s.debugBar x u = none) ∧ (((s.th u).st =
    .stopped) ∧ (((s.core (coreOf u)).sb = []) ∧ (((∀ i, i < 8 → (s.th (coreOf u * 8 + i)).replay = none)) ∧ ((nearRegion (cmdWord c 2) ≤ 2) ∧
    ((cmdWord c 0 = 5) ∧ ((4 ≤ c.body.length) ∧ ((cmdWord c 3 = 1) ∧ ((s.nearFault u (cmdWord c 2) false false = none))))))))))))) ∧
  (∃ (s : State) (x : Target) (c : ScpCmd) (u : Nat), (s.scpReady x c) ∧ ((c.op = 14) ∧ ((u = cmdWord c 1) ∧ ((s.debugBar x u = none) ∧ (((s.th u).st =
    .stopped) ∧ (((s.core (coreOf u)).sb = []) ∧ (((∀ i, i < 8 → (s.th (coreOf u * 8 + i)).replay = none)) ∧ ((nearRegion (cmdWord c 2) ≤ 2) ∧
    ((cmdWord c 0 = 6) ∧ ((c.body.length = 4) ∧ ((s.nearFault u (cmdWord c 2) false true = none)))))))))))) :=
  by
  refine ⟨⟨wDbg [2, 63] .stopped, 2, wCmd 14 [2, 63], 63, ?_, ?_, ?_, _, List.mem_of_getElem? (i := 2) rfl, ?_⟩,
  ⟨wDbg [0, 1023] .running, 2, wCmd 14 [0, 1023], 1023, ?_, ?_, ?_, _, List.mem_of_getElem? (i := 0) rfl, ?_, 5, ?_⟩,
  ⟨wDbg [1, 63] .running, 2, wCmd 14 [1, 63], 63, ?_, ?_, ?_, _, List.mem_of_getElem? (i := 1) rfl, ?_⟩,
  ⟨wDbg [0, 63] .running, 2, wCmd 14 [0, 63], 63, ?_⟩,
  ⟨wDbg [0, 63] .stopped, 2, wCmd 14 [0, 63], 63, ?_⟩,
  ⟨wDbg [0, 63] .parked, 2, wCmd 14 [0, 63], 63, ?_⟩,
  ⟨wDbg [1, 63] .stopped, 2, wCmd 14 [1, 63], 63, ?_⟩,
  ⟨wDbg [2, 63, 0] .stopped, 2, wCmd 14 [2, 63, 0], 63, ?_⟩,
  ⟨wDbg [2, 63, 1] .stopped, 2, wCmd 14 [2, 63, 1], 63, ?_⟩,
  ⟨wDbg [3, 63] .stopped, 2, wCmd 14 [3, 63], 63, ?_, ?_, ?_, ?_, ?_, ((wDbg [3, 63] .stopped).debugRegs 63).2.elim [] Prod.snd, ?_⟩,
  ⟨wDbg (4 :: 63 :: List.replicate 26 0 ++ [0xFFFF, 1]) .stopped, 2, wCmd 14 (4 :: 63 :: List.replicate 26 0 ++ [0xFFFF, 1]), 63, ?_⟩,
  ⟨wDbg [5, 63, 0x7FFF, 1] .stopped, 2, wCmd 14 [5, 63, 0x7FFF, 1], 63, ?_⟩,
  ⟨wDbg [6, 63, 0, 9] .stopped, 2, wCmd 14 [6, 63, 0, 9], 63, ?_⟩⟩ <;> and_intros <;> decide +kernel

theorem witness_Stalls :
  (∃ (s : State) (a : Accessor) (x : StallId) (v : Word32), (s.permits a .scpStallCtl x 0 (withField v 0 2 1)) ∧ ((s.stallState x = 0) ∧ ((s.b
    F.scpStallState_KEY_SET x = true) ∧ (((s.lowCluster x).isSome = true) ∧ ((s.f F.stlLedgerSize_SIZE x ≠ 0)))))) ∧
  (∃ (s : State) (a : Accessor) (x : StallId) (v : Word32), (s.permits a .scpStallCtl x 0 (withField v 0 2 1)) ∧ (∃ r, (r = (if s.stallState x ≠ 0 then 5
    else if s.b F.scpStallState_KEY_SET x = false then 1 else if (s.lowCluster x).isNone then 2 else if s.f F.stlLedgerSize_SIZE x = 0 then 3 else 0))
    ∧ ((r ≠ 0)))) ∧
  (∃ (s : State) (a : Accessor) (x : StallId) (v : Word32), (s.permits a .scpStallCtl x 0 (withField v 0 2 2)) ∧ ((s.stallState x = 2))) ∧
  (∃ (s : State) (a : Accessor) (x : StallId) (v : Word32), (s.permits a .scpStallCtl x 0 (withField v 0 2 2)) ∧ (∃ b, (s.stallState x ≠ 2) ∧
    ((s.maintBusy (0x70 + x) = some b) ∧ ((b < 256))))) ∧
  (∃ (s : State) (a : Accessor) (x : StallId) (v : Word32), (s.permits a .scpStallCtl x 0 (withField v 0 2 2)) ∧ ((s.stallState x ≠ 2) ∧ ((s.maintBusy
    (0x70 + x) = none)))) ∧
  (∃ (s : State) (x : StallId), (s.stallState x = 4)) ∧
  (∃ (s : State) (a : Accessor) (x : StallId) (v : Word32), (s.permits a .scpKey x 7 v.toNat)) ∧
  (∃ (s : State) (u : Tid), ((s.th u).steps = some 0) ∧ (((s.th u).st ≠ .parked))) ∧
  (∃ (s : State) (u : Tid), ((s.th u).steps = some 0) ∧ (((s.th u).st = .parked))) :=
  by
  refine ⟨⟨((wRun.setF F.scpStallState_STATE 2 0).setF F.scpStallState_KEY_SET 2 1).setF F.stlLedgerSize_SIZE 2 1, .debugger, 2, 0, ?_⟩,
  ⟨wRun, .debugger, 2, 0, ?_, 5, ?_⟩,
  ⟨wRun, .debugger, 2, 0, ?_⟩,
  ⟨{ wRun.setF F.scpStallState_STATE 2 1 with maint := [0x72] }, .debugger, 2, 0, ?_, 0x72, ?_⟩,
  ⟨wRun.setF F.scpStallState_STATE 2 1, .debugger, 2, 0, ?_⟩,
  ⟨wRun.setF F.scpStallState_STATE 2 4, 2, ?_⟩,
  ⟨wRun, .debugger, 2, 5, ?_⟩,
  ⟨wRun.setTh 63 fun th => { th with st := .running, steps := some 0 }, 63, ?_⟩,
  ⟨wRun.setTh 63 fun th => { th with steps := some 0 }, 63, ?_⟩⟩ <;> and_intros <;> decide +kernel

theorem witness_EventCommands :
  (∃ (s : State) (a : Accessor) (x : Target) (v : Word32) (src : Nat), (s.permits a .evcRaise x 0 v.toNat) ∧ ((src = (if x.val = 16 then Ev.HOUSE_SOFT
    (bits v.toNat 0 5) else Ev.SOFT x (bits v.toNat 0 5))) ∧ ((s.f F.evcSrc_TARGETS src = 1) ∧ ((s.f F.evcSrc_MASK src = 0) ∧ ((s.f F.evcSrc_RULE src
    = 0) ∧ ((s.evOwner src ≤ 16) ∧ ((s.storeFull (s.evOwner src) = false)))))))) ∧
  (∃ (s : State) (a : Accessor) (x : Target) (v : Word32) (src : Nat), (s.permits a .evcRaise x 0 v.toNat) ∧ ((src = (if x.val = 16 then Ev.HOUSE_SOFT
    (bits v.toNat 0 5) else Ev.SOFT x (bits v.toNat 0 5))) ∧ ((s.f F.evcSrc_TARGETS src = 1) ∧ ((s.f F.evcSrc_MASK src = 0) ∧ ((s.f F.evcSrc_RULE src
    = 1 ∨ s.f F.evcSrc_RULE src = 3) ∧ ((s.evOwner src ≤ 16) ∧ ((s.evRecs.any (fun e => e.same src (s.evOwner src) false false) = true)))))))) ∧
  (∃ (s : State) (a : Accessor) (x : Target) (v : Word32) (src : Nat), (s.permits a .evcRaise x 0 v.toNat) ∧ ((src = (if x.val = 16 then Ev.HOUSE_SOFT
    (bits v.toNat 0 5) else Ev.SOFT x (bits v.toNat 0 5))) ∧ ((s.f F.evcSrc_TARGETS src = 2) ∧ ((s.f F.evcSrc_MASK src = 0) ∧ ((s.evOwner src ≤ 16) ∧
    ((s.sessionOpen (s.evOwner src) = false))))))) ∧
  (∃ (s : State) (a : Accessor) (x : Target) (v : Word32) (src : Nat), (s.permits a .evcRaise x 0 v.toNat) ∧ ((src = (if x.val = 16 then Ev.HOUSE_SOFT
    (bits v.toNat 0 5) else Ev.SOFT x (bits v.toNat 0 5))) ∧ ((s.f F.evcSrc_TARGETS src < 4) ∧ ((s.f F.evcSrc_MASK src = 1 ∨ s.f F.evcSrc_TARGETS src
    = 0))))) ∧
  (∃ (s : State) (x : Target) (e : EvRec) (k : Nat), (s.nextRec x false (fun _ => true) = some e) ∧ ((s.supCluster x = some k) ∧ (((s.chanQ (chanKey k
    2)).length < 64)))) ∧
  (∃ (s : State) (x : Target) (e : EvRec) (k : Nat), (s.nextRec x false (fun _ => true) = some e) ∧ ((s.supCluster x = some k) ∧ ((64 ≤ (s.chanQ (chanKey
    k 2)).length)))) :=
  by
  refine ⟨⟨((((wRun.setF F.evcSrc_TARGETS (Ev.SOFT 2 31) 1).setF F.evcSrc_OWNER (Ev.SOFT 2 31) 2).setF F.evcSrc_MASK (Ev.SOFT 2 31) 0).setF F.evcSrc_RULE (Ev.SOFT 2 31) 0),
    .session 2, 2, 0x5001F, Ev.SOFT 2 31, ?_⟩,
  ⟨{ ((((wRun.setF F.evcSrc_TARGETS (Ev.SOFT 2 31) 1).setF F.evcSrc_OWNER (Ev.SOFT 2 31) 2).setF F.evcSrc_MASK (Ev.SOFT 2 31) 0).setF F.evcSrc_RULE (Ev.SOFT 2 31) 1) with evRecs := [{ wRec 2 false with src := Ev.SOFT 2 31 }] },
    .session 2, 2, 0x5001F, Ev.SOFT 2 31, ?_⟩,
  ⟨((((wRun.setF F.evcSrc_TARGETS (Ev.SOFT 2 31) 2).setF F.evcSrc_OWNER (Ev.SOFT 2 31) 2).setF F.evcSrc_MASK (Ev.SOFT 2 31) 0).setF F.evcSrc_RULE (Ev.SOFT 2 31) 0),
    .session 2, 2, 0x5001F, Ev.SOFT 2 31, ?_⟩,
  ⟨(wRun.setF F.evcSrc_TARGETS (Ev.HOUSE_SOFT 31) 3).setF F.evcSrc_MASK (Ev.HOUSE_SOFT 31) 1, .house 0, 16, 0x5001F, Ev.HOUSE_SOFT 31, ?_⟩,
  ⟨{ wRun with evRecs := [wRec 2 false], roles := [(2, some 0)] }, 2, wRec 2 false, 0, ?_⟩,
  ⟨{ wRun with evRecs := [wRec 16 false], chans := [(chanKey 16 2, List.replicate 64 wMsg)] }, 16, wRec 16 false, 16, ?_⟩⟩ <;> and_intros <;> decide +kernel

theorem witness_Recorders :
  (∃ (s : State) (a : Accessor) (r : Fin 32) (v : Word32), (s.permits a .ldgCtl r 0 (withField v 0 1 1)) ∧ ((bits v.toNat 1 2 = 0) ∧ ((s.f F.ldgCfg_TRIG
    r ≠ 0) ∧ (((∀ b, (s.recorder r).since = some b → b + 2048 ≤ s.now)) ∧ ((s.f F.ldgCfg_FREEZE r = 0) ∧ ((s.f F.ldgStat_STOPPED r = 0) ∧
    (((s.recorder r).rearming = false) ∧ ((s.f F.ldgCfg_MODE r = 0) ∧ ((s.f F.ldgCfg_STOP r = 0)))))))))) ∧
  (∃ (s : State) (a : Accessor) (r : Fin 32) (v : Word32), (s.permits a .ldgCtl r 0 (withField v 0 1 1)) ∧ ((bits v.toNat 1 2 = 0) ∧ ((s.f F.ldgCfg_TRIG
    r ≠ 0) ∧ (((∀ b, (s.recorder r).since = some b → b + 2048 ≤ s.now)) ∧ ((s.f F.ldgCfg_FREEZE r = 0) ∧ ((s.f F.ldgStat_STOPPED r = 0) ∧
    (((s.recorder r).rearming = false) ∧ ((s.f F.ldgCfg_MODE r = 1) ∧ ((s.f F.ldgCfg_DELTA r = 0)))))))))) ∧
  (∃ (s : State) (a : Accessor) (r : Fin 32) (v : Word32), (s.permits a .ldgCtl r 0 (withField v 0 1 1)) ∧ ((bits v.toNat 1 2 = 0) ∧ ((s.f F.ldgCfg_TRIG
    r ≠ 0) ∧ ((s.f F.ldgCfg_FREEZE r = 1 ∨ s.f F.ldgStat_STOPPED r = 1 ∨ (s.recorder r).rearming = true))))) ∧
  (∃ (s : State) (a : Accessor) (r : Fin 32) (v : Word32), (s.permits a .ldgCtl r 0 (withField v 2 1 1)) ∧ ((bits v.toNat 0 2 = 0))) ∧
  (∃ (s : State) (a : Accessor) (r : Fin 32) (v : Word32), (s.permits a .ldgCtl r 0 (withField v 1 1 1)) ∧ ((bits v.toNat 0 1 = 0) ∧ ((bits v.toNat 2 1 =
    0) ∧ ((s.maintBusy (0x80 + r) = none))))) ∧
  (∃ (s : State) (a : Accessor) (r : Fin 32) (v : Word32), (s.permits a .ldgCtl r 0 (withField v 1 1 1)) ∧ ((bits v.toNat 0 1 = 0) ∧ ((bits v.toNat 2 1 =
    0) ∧ (∃ b, (s.maintBusy (0x80 + r) = some b) ∧ ((b < 256)))))) ∧
  (∃ (s : State) (r : Fin 32), (s.periodicDue r = true)) ∧
  (∃ (s : State) (r : Fin 32), ((s.recorder r).rearming = true)) :=
  by
  refine ⟨⟨wRun.setF F.ldgCfg_TRIG 31 1, .debugger, 31, 0, ?_, ?_, ?_, (wSince ?_), ?_⟩,
  ⟨(wRun.setF F.ldgCfg_TRIG 31 1).setF F.ldgCfg_MODE 31 1, .debugger, 31, 0, ?_, ?_, ?_, (wSince ?_), ?_⟩,
  ⟨(wRun.setF F.ldgCfg_TRIG 31 1).setF F.ldgCfg_FREEZE 31 1, .debugger, 31, 0, ?_⟩,
  ⟨wRun, .debugger, 31, 0, ?_⟩,
  ⟨wRun, .debugger, 31, 0, ?_⟩,
  ⟨{ wRun with maint := [0x9F] }, .debugger, 31, 0, ?_, ?_, ?_, 0x9F, ?_⟩,
  ⟨(wRun.setF F.ldgCfg_TRIG 31 2).setF F.ldgTrig_PERIOD 31 1, 31, ?_⟩,
  ⟨{ wRun with ldg := [(31, { Recorder.reset with rearming := true })] }, 31, ?_⟩⟩ <;> and_intros <;> decide +kernel

theorem witness_DeviceResets :
  (∃ s : State, (s.wdogDue = true)) ∧
  (∃ s : State, (s.tripDue = true)) ∧
  (∃ (s : State) (a : Accessor) (v : Word32), (s.permits a .supCtl 0 0 (withField v 1 1 1))) ∧
  (∃ (s : State) (a : Accessor) (v : Word32), (s.permits a .supWdog 0 0 (withField v 16 1 1))) :=
  by
  refine ⟨⟨(wRun.setF F.supWdog_COURSES 0 1).setTime fun t => { t with course := 2 }, ?_⟩,
  ⟨wRun.setF F.supTemp_TJ 0 127, ?_⟩,
  ⟨wRun, .debugger, 0, ?_⟩,
  ⟨wRun, .debugger, 0, ?_⟩⟩ <;> and_intros <;> decide +kernel

theorem witness_ScopedResets :
  (∃ (s : State) (a : Accessor) (v : Word32) (u : Nat), (s.permits a .supRstCmd 16 0 (withField v 0 3 4)) ∧ ((u = bits v.toNat 3 10))) ∧
  (∃ (s : State) (a : Accessor) (v : Word32) (k : Nat), (s.permits a .supRstCmd 16 0 (withField v 0 3 3)) ∧ ((k = bits v.toNat 3 10 / 8))) ∧
  (∃ (s : State) (a : Accessor) (v : Word32) (c : Nat), (s.permits a .supRstCmd 16 0 (withField v 0 3 2)) ∧ ((c = bits v.toNat 3 10 / 64))) ∧
  (∃ (s : State) (a : Accessor) (v : Word32) (y : Nat), (s.permits a .supRstCmd 16 0 (withField v 0 3 1)) ∧ ((y = bits v.toNat 3 10 % 16))) ∧
  (∃ (s : State) (a : Accessor) (x : Target) (v : Word32), (x.val < 16) ∧ (∃ k : Fin 5, (2 ≤ k.val) ∧ (∃ c, c ∈ ([(4, Instr.threadReset a x v), (3,
    .coreReset a x v), (2, .clusterReset a x v)] : List (Nat × Instr)) ∧ ((c.1 = k.val) ∧ ((s.permits a .supRstCmd x 0 (withField v 0 3 k)) ∧
    ((s.isSupervisor a x = false))))))) ∧
  (∃ (s : State) (a : Accessor) (x : Target) (v : Word32), (x.val < 16) ∧ ((s.permits a .supRstCmd x 0 (withField v 0 3 1)) ∧ ((s.isSupervisor a x =
    true)))) :=
  by
  refine ⟨⟨wRun, .debugger, 0x1FF8, 1023, ?_⟩,
  ⟨wRun, .debugger, 0x1FF8, 127, ?_⟩,
  ⟨wRun, .debugger, 0x1FF8, 15, ?_⟩,
  ⟨wRun, .debugger, 0x78, 15, ?_⟩,
  ⟨{ wRun with roles := [(2, some 0)] }, .house 0, 2, 0, ?_, 4, ?_, _, List.mem_of_getElem? (i := 0) rfl, ?_⟩,
  ⟨wRun, .session 2, 2, 0, ?_⟩⟩ <;> and_intros <;> decide +kernel

theorem witness_PowerStates :
  (∃ s : State, (s.leaveDue = true)) ∧
  (∃ (s : State) (a : Accessor) (v : Word32), (s.permits a .supCtl 0 0 (withField v 0 1 1)) ∧ ((bits v.toNat 1 1 = 0))) ∧
  (∃ (s : State) (a : Accessor) (v : Word32) (g : List Nat), (s.permits a .supPwr 0 0 (withField v 0 2 2)) ∧ ((g = (if bits v.toNat 4 1 = 0 then [] else
    s.sup.gated)) ∧ ((s.f F.supPwr_STATE = 0) ∧ ((s.stlState ≤ 1 ∨ s.stlState = 5) ∧ ((s.maintBusy 0x63 = none)))))) ∧
  (∃ (s : State) (a : Accessor) (v : Word32) (g : List Nat), (s.permits a .supPwr 0 0 (withField v 0 2 2)) ∧ ((g = (if bits v.toNat 4 1 = 0 then [] else
    s.sup.gated)) ∧ (∃ b, (s.f F.supPwr_STATE = 0) ∧ ((s.stlState ≤ 1 ∨ s.stlState = 5) ∧ ((s.maintBusy 0x63 = some b) ∧ ((b < 256))))))) ∧
  (∃ (s : State) (a : Accessor) (v : Word32) (g : List Nat), (s.permits a .supPwr 0 0 (withField v 0 2 2)) ∧ ((g = (if bits v.toNat 4 1 = 0 then [] else
    s.sup.gated)) ∧ ((s.f F.supPwr_STATE = 0) ∧ ((2 ≤ s.stlState) ∧ ((s.stlState ≠ 5)))))) ∧
  (∃ (s : State) (a : Accessor) (v : Word32) (g : List Nat), (s.permits a .supPwr 0 0 (withField v 0 2 2)) ∧ ((g = (if bits v.toNat 4 1 = 0 then [] else
    s.sup.gated)) ∧ ((s.f F.supPwr_STATE ≠ 0)))) ∧
  (∃ (s : State) (a : Accessor) (v : Word32) (g : List Nat), (s.permits a .supPwr 0 0 (withField v 0 2 1)) ∧ ((g = (if bits v.toNat 4 1 = 0 then [] else
    s.sup.gated)) ∧ ((s.f F.supPwr_STATE = 2)))) ∧
  (∃ (s : State) (a : Accessor) (v : Word32) (g : List Nat), (s.permits a .supPwr 0 0 (withField v 0 2 1)) ∧ ((g = (if bits v.toNat 4 1 = 0 then [] else
    s.sup.gated)) ∧ ((s.f F.supPwr_STATE ≠ 2)))) ∧
  (∃ s : State, (s.standbySettled = true)) ∧
  (∃ s : State, (s.abandonDue = true)) ∧
  (∃ (s : State) (c : Fin 16), (c.val ∈ s.sup.gated) ∧ ((s.clusterIdle c = false))) :=
  by
  refine ⟨⟨(wRun.setF F.stlStatus_STATE 0 0).setSup fun u => { u with ready := true }, ?_⟩,
  ⟨wRun, .debugger, 0, ?_⟩,
  ⟨wRun, .debugger, 0, [], ?_⟩,
  ⟨{ wRun with maint := [0x63] }, .debugger, 0, [], ?_, ?_, 0x63, ?_⟩,
  ⟨wRun.setF F.stlStatus_STATE 0 2, .debugger, 0, [], ?_⟩,
  ⟨wRun.setF F.supPwr_STATE 0 2, .debugger, 0, [], ?_⟩,
  ⟨wRun.setF F.supPwr_STATE 0 2, .debugger, 0, [], ?_⟩,
  ⟨wRun, .debugger, 0, [], ?_⟩,
  ⟨{ (wRun.setTime fun t => { t with course := 2 }).setSup fun u => { u with standby := some { course := 0, alone := true } } with acceptedPlus := 2 },
    ?_⟩,
  ⟨(wRun.setTime fun t => { t with course := 8 }).setSup fun u => { u with standby := some { course := 0, alone := true } }, ?_⟩,
  ⟨(wRun.setTh 1023 fun th => { th with st := .running }).setSup fun u => { u with gated := [15] }, 15, ?_⟩⟩ <;> and_intros <;> decide +kernel

theorem witness_BootAndLifecycle :
  (∃ (s : State) (a : Accessor) (v : Word32), (s.permits a .supLcReq 0 0 (withField v 3 1 1)) ∧ (((∀ x : Target, a = .session x → x.val ≠ 16)))) ∧
  (∃ (s : State) (v : Word32), (s.permits (.session 16) .supLcReq 0 0 (withField v 3 1 1)) ∧ ((s.fuses.lcState = 0) ∧ ((bits v.toNat 0 3 = 1) ∧
    ((s.sup.hkeys.length = 8) ∧ ((s.sup.roots.length = 12)))))) ∧
  (∃ (s : State) (v : Word32), (s.permits (.session 16) .supLcReq 0 0 (withField v 3 1 1)) ∧ ((s.fuses.lcState = 0) ∧ ((bits v.toNat 0 3 = 1) ∧
    ((s.sup.hkeys.length ≠ 8 ∨ s.sup.roots.length ≠ 12))))) ∧
  (∃ (s : State) (v : Word32), (s.permits (.session 16) .supLcReq 0 0 (withField v 3 1 1)) ∧ ((s.fuses.lcState = 1) ∧ ((bits v.toNat 0 3 = 2)))) ∧
  (∃ (s : State) (v : Word32), (s.permits (.session 16) .supLcReq 0 0 (withField v 3 1 1)) ∧ ((s.fuses.lcState = 2) ∧ ((bits v.toNat 0 3 = 3) ∧ ((s.f
    F.supLc_BAD_TOKENS < 8))))) ∧
  (∃ (s : State) (v : Word32), (s.permits (.session 16) .supLcReq 0 0 (withField v 3 1 1)) ∧ ((s.fuses.lcState = 2) ∧ ((bits v.toNat 0 3 = 3) ∧ ((8 ≤ s.f
    F.supLc_BAD_TOKENS))))) ∧
  (∃ (s : State) (v : Word32), (s.permits (.session 16) .supLcReq 0 0 (withField v 3 1 1)) ∧ ((s.fuses.lcState ≠ 4) ∧ ((bits v.toNat 0 3 = 4)))) ∧
  (∃ (s : State) (a : Accessor) (v : Word32), (s.permits a .supRollback 0 0 v.toNat)) ∧
  (∃ (s s1 : State) (a b : Option (List Byte)), (s.bootOwed = true) ∧ ((s.sup.booting = none) ∧ ((s.bootTry (s.readCopy a) false = (true, s1))))) ∧
  (∃ (s s1 : State) (a b : Option (List Byte)), (s.bootOwed = true) ∧ ((s.sup.booting = none) ∧ (∃ s2, (s.bootTry (s.readCopy a) false = (false, s1)) ∧
    ((s1.bootTry (s.readCopy b) true = (true, s2)))))) ∧
  (∃ (s s1 : State) (a b : Option (List Byte)), (s.bootOwed = true) ∧ ((s.sup.booting = none) ∧ ((a = none) ∧ (((s.readCopy b).readOk = true) ∧
    (((s.readCopy b).magicOk = false)))))) ∧
  (∃ (s s2 : State) (a b : Option (List Byte)) (r : BootRun), (s.bootOwed = true) ∧ ((s.sup.booting = some r) ∧ ((s.dramSettled = false)))) ∧
  (∃ (s s2 : State) (a b : Option (List Byte)) (r : BootRun), (s.bootOwed = true) ∧ ((s.sup.booting = some r) ∧ ((s.dramSettled = true) ∧ ((s.dramFailed
    ≠ []) ∧ ((s.sup.fromPower = true) ∧ ((r.retried = false))))))) ∧
  (∃ (s s2 : State) (a b : Option (List Byte)) (r : BootRun), (s.bootOwed = true) ∧ ((s.sup.booting = some r) ∧ ((s.dramSettled = true) ∧ ((s.dramFailed
    = []) ∧ ((s.bootLoad (if r.onB then r.b else r.a) = (true, s2))))))) :=
  by
  refine ⟨⟨wRun, .house 0, 0, ?_, (by intro x h; cases h)⟩,
  ⟨wRun.setSup fun u => { u with hkeys := List.range 8, roots := List.range 12 }, 1, ?_⟩,
  ⟨wRun, 1, ?_⟩,
  ⟨{ wRun with fuses := { wRun.fuses with lcState := 1 } }, 2, ?_⟩,
  ⟨{ wRun with fuses := { wRun.fuses with lcState := 2 } }, 3, ?_⟩,
  ⟨({ wRun with fuses := { wRun.fuses with lcState := 2 } } : State).setF F.supLc_BAD_TOKENS 0 8, 3, ?_⟩,
  ⟨{ wRun with fuses := { wRun.fuses with lcState := 3 } }, 4, ?_⟩,
  ⟨wRun, .debugger, 5, ?_⟩,
  ⟨wBoot, ((wBoot).bootTry ((wBoot).readCopy (some wImage)) false).2, some wImage, none, ?_, ?_, (wTry ?_)⟩,
  ⟨wBoot, ((wBoot).bootTry ((wBoot).readCopy none) false).2, none, some wImage, ?_, ?_,
    ((((wBoot).bootTry ((wBoot).readCopy none) false).2).bootTry (wBoot.readCopy (some wImage)) true).2, (wTry ?_), (wTry ?_)⟩,
  ⟨wBoot, wBoot, none, some [0], ?_⟩,
  ⟨(State.reset.setF F.drcCfg_ENABLE 3 1).setSup fun u => { u with booting := some wBootRun }, State.reset, none, none, wBootRun, ?_⟩,
  ⟨((State.reset.setF F.drcCfg_ENABLE 3 1).setF F.drcStatus_STATE 3 5).setSup fun u => { u with booting := some wBootRun, fromPower := true },
    State.reset, none, none, wBootRun, ?_⟩,
  ⟨State.reset.setSup fun u => { u with booting := some wBootRun },
    ((State.reset.setSup fun u => { u with booting := some wBootRun }).bootLoad (if wBootRun.onB then wBootRun.b else wBootRun.a)).2, none, none,
    wBootRun, ?_, ?_, ?_, ?_, (wTry ?_)⟩⟩ <;> and_intros <;> decide +kernel

theorem witness_RegisterWrites :
  (∃ (s : State) (a : Accessor) (off : Fin 16777216) (v : Word32) (r : Reg) (i j : Nat), (capWord (off.val / 4 * 4) = none) ∧ ((Reg.find (off.val / 4 *
    4) = some (r, i, j)) ∧ ((s.permits a r i j v.toNat) ∧ ((s.powerless a r i = false) ∧ ((r.plainWrite = true)))))) ∧
  (∃ (s : State) (a : Accessor) (off : Fin 16777216) (v : Word32) (r : Reg) (i j : Nat), (capWord (off.val / 4 * 4) = none) ∧ ((Reg.find (off.val / 4 *
    4) = some (r, i, j)) ∧ ((s.permits a r i j v.toNat) ∧ ((s.powerless a r i = true))))) ∧
  (∃ (s : State) (a : Accessor) (off : Fin 16777216) (v : Word32) (r : Reg) (i j : Nat), (capWord (off.val / 4 * 4) = none) ∧ ((Reg.find (off.val / 4 *
    4) = some (r, i, j)) ∧ (((s.mayReach (s.accOwner a) r i = false ∨ s.breach a r i j v.toNat = true))))) :=
  by
  refine ⟨⟨wRun, .session 2, ⟨Reg.scpStallRto.off 2 0 + 3, by decide +kernel⟩, 7, .scpStallRto, 2, 0, ?_⟩,
  ⟨wRun, .house 0, ⟨Reg.crsNowLo.off 0 0, by decide +kernel⟩, 7, .crsNowLo, 0, 0, ?_⟩,
  ⟨wRun, .session 2, ⟨Reg.scpStallRto.off 3 0 + 3, by decide +kernel⟩, 7, .scpStallRto, 3, 0, ?_⟩⟩ <;> and_intros <;> decide +kernel

theorem witness_RegisterReads :
  (∃ (s : State) (a : Accessor) (off : Fin 16777216) (r : Reg) (i j : Nat), (capWord (off.val / 4 * 4) = none) ∧ ((Reg.find (off.val / 4 * 4) = some (r,
    i, j)) ∧ ((s.mayReach (s.accOwner a) r i = true) ∧ ((r.plainRead = true) ∧ ((s.capturedHalf a.num (off.val / 4 * 4) = none) ∧ ((r.captured =
    []))))))) ∧
  (∃ (s : State) (a : Accessor) (off : Fin 16777216) (r : Reg) (i j : Nat), (capWord (off.val / 4 * 4) = none) ∧ ((Reg.find (off.val / 4 * 4) = some (r,
    i, j)) ∧ ((s.mayReach (s.accOwner a) r i = true) ∧ ((r.plainRead = true) ∧ ((s.capturedHalf a.num (off.val / 4 * 4) = none)))))) ∧
  (∃ (s : State) (a : Accessor) (off : Fin 16777216) (r : Reg) (i j : Nat), (capWord (off.val / 4 * 4) = none) ∧ ((Reg.find (off.val / 4 * 4) = some (r,
    i, j)) ∧ (∃ v, (s.mayReach (s.accOwner a) r i = true) ∧ ((s.capturedHalf a.num (off.val / 4 * 4) = some v))))) ∧
  (∃ (s : State) (a : Accessor) (off : Fin 16777216) (r : Reg) (i j : Nat), (capWord (off.val / 4 * 4) = none) ∧ ((Reg.find (off.val / 4 * 4) = some (r,
    i, j)) ∧ ((s.mayReach (s.accOwner a) r i = true) ∧ ((r ∈ Reg.cycleCounters) ∧ ((s.capturedHalf a.num (off.val / 4 * 4) = none)))))) ∧
  (∃ (s : State) (a : Accessor) (off : Fin 16777216) (r : Reg) (i j : Nat), (capWord (off.val / 4 * 4) = none) ∧ ((Reg.find (off.val / 4 * 4) = some (r,
    i, j)) ∧ ((s.mayReach (s.accOwner a) r i = false)))) ∧
  (∃ (s : State) (a : Accessor) (off : Fin 16777216) (write : Bool), (capWord (off.val / 4 * 4) = none) ∧ ((Reg.find (off.val / 4 * 4) = none))) :=
  by
  refine ⟨⟨wRun, .session 2, ⟨Reg.scpStallRto.off 2 0 + 3, by decide +kernel⟩, .scpStallRto, 2, 0, ?_⟩,
  ⟨wRun, .session 2, ⟨Reg.crsNowLo.off 0 0, by decide +kernel⟩, .crsNowLo, 0, 0, ?_⟩,
  ⟨wRun.setCapture 1034 (Reg.crsNowHi.off 0 0) 6, .session 2, ⟨Reg.crsNowHi.off 0 0, by decide +kernel⟩, .crsNowHi, 0, 0, ?_, ?_, 5, ?_⟩,
  ⟨wRun, .debugger, ⟨Reg.tlyUnitQfull.off 127 0, by decide +kernel⟩, .tlyUnitQfull, 127, 0, ?_⟩,
  ⟨wRun, .session 2, ⟨Reg.scpStallRto.off 3 0, by decide +kernel⟩, .scpStallRto, 3, 0, ?_⟩,
  ⟨wRun, .debugger, 0xFFFFFF, true, ?_⟩⟩ <;> and_intros <;> decide +kernel

theorem witness_StepRunsFront :
  ∃ s : State, (s.pending = []) :=
  by
  refine ⟨State.reset, ?_⟩ <;> and_intros <;> decide +kernel

theorem witness_TimeBaseIsolated :
  ∃ (c : Instr) (s t : State), (c.actsOnTime = false) ∧ ((exec c s = .next t)) :=
  by
  refine ⟨.watchdog, wRun, (match exec .watchdog wRun with | .next t => t | _ => wRun), ?_, (by rfl)⟩ <;> and_intros <;> decide +kernel

theorem witness_TimeBaseInvariant :
  ∃ s t : State, (s.time.Inv) ∧ ((step s = .next t)) :=
  ⟨State.reset, State.reset, (by simp [Time.Inv, State.reset, Time.reset, courseUnits, courseLaths]), (rfl)⟩

theorem witness_ResetState :
  (∃ x, (x < 17)) ∧
  (∃ ch, (ch < 4)) :=
  by
  refine ⟨⟨16, ?_⟩,
  ⟨3, ?_⟩⟩ <;> and_intros <;> decide +kernel

/-! ### Results the manual states -/

/-- Thread `u`'s register `r` and its DC and Z after a command. -/
def wAfter (o : Host.Outcome State Fault Refusal) (u r : Nat) : Option (Nat × Bool × Bool) :=
  match o with
  | .next t => some ((t.th u).reg r, flDC (t.th u).fl, flZ (t.th u).fl)
  | _ => none

/-- R104's example: the fold hash of H-0588's key under stall 2's seed. -/
theorem test_fold_hash : crc32c [0x31, 0x32, 0x33, 0x34, 0x35, 0x36, 0x37, 0x38, 0x39] = 0xE3069283 := by decide +kernel

/-- R106's example: the two buckets of H-0588. -/
theorem test_buckets : buckets 0xE3069283 = (0x29283, 0x38C1A) := by decide

/-- R106: equal indexes part in bit 0. -/
theorem test_buckets_equal : buckets 0 = (0, 1) := by decide

/-- R240's first example: 0x0958 + 0x0067, then DAJ. -/
theorem test_daj_digits : (add16 0 0x0958 0x0067 0).val = 0x09BF ∧ (daj16 0 0x09BF 0x0067).val = 0x1025 ∧
    flDC (daj16 0 0x09BF 0x0067).fl = false := by decide

/-- R240's second example: a binary carry out of digit 0. -/
theorem test_daj_carry : (daj16 0 0x0012 0x0009).val = 0x0018 := by decide

/-- The first step of "Adding a reading for H-0417", from its word 0x3CC9. -/
theorem test_dadd_low :
    wAfter (exec (.dadd 1024 6 9) ((wCpu [0x3CC9]).setTh 1024 fun th => (th.putReg 6 0x7654).putReg 9 0x4372)) 1024 6 =
      some (0x2026, true, false) := by decide +kernel

/-- Its second step, with the digit carry of the first. -/
theorem test_dadd_middle :
    wAfter (exec (.dadd 1024 7 10)
      ((wCpu [0x3CEA]).setTh 1024 fun th => { (th.putReg 7 0x0398).putReg 10 1 with fl := flags false false false false true })) 1024 7 =
      some (0x0400, false, false) := by decide +kernel

/-- R246's example: LD m0, [t3]+ is 0x98D7. -/
theorem test_pop_word : enc 0x26 6 23 = 0x98D7 := by decide

/-- "Adding a reading for H-0417" gives DADD m2, m5 as 0x3D0B. -/
theorem test_dadd_word : enc 0x0F 8 11 = 0x3D0B := by decide

/-- "The heat energy of H-0417": TLOCK, TSYNC and TFREE, and the first word of TOP HEAT. -/
theorem test_heat_word : enc 0x3F 12 13 = 0xFD8D := by decide

/-- Unit 42 before its TOP HEAT. -/
def wHeat : Tally :=
  let u := ((((Tally.reset.put 0 { neg := false, coef := 14372, fd := 3 }).put 1 { neg := false, coef := 924, fd := 1 }).put 2
    { neg := false, coef := 518, fd := 1 }).put 4 { neg := false, coef := 113854, fd := 5 })
  { u with scale := u.scale.set 0 1 3 }

/-- Its step 5: 23 cycles, 664.342, inexact. -/
theorem test_heat : wHeat.top 12 1 0 1 2 4 = (23, .put { neg := false, coef := 664342, fd := 3 } true) := by decide +kernel

/-- Its step 6: 128,406.117 + 664.342 in 5 cycles. -/
theorem test_tally_add :
    ((wHeat.put 5 { neg := false, coef := 128406117, fd := 3 }).put 3 { neg := false, coef := 664342, fd := 3 }).top 2 1 5 3 0 0 =
      (5, .put { neg := false, coef := 129070459, fd := 3 } false) := by decide +kernel

/-- Kestrow Heat's map. -/
def wKestrow : State :=
  ([(0, [8, 17, 25]), (1, [9, 18, 26]), (2, [10, 19, 27]), (4, [11, 20]), (5, [12, 21]), (6, [13, 22]), (7, [14, 23]), (8, [15, 24])].foldl
    (fun (s : State) e =>
      (s.setF F.arbMapHi_ENABLE e.1 1).setF F.arbMapLo_MASK_LO e.1 ((e.2.foldl (fun a b => a + 2 ^ b) 0) / 64)) State.reset)

/-- "One address under Kestrow Heat's map". -/
theorem test_address_map :
    wKestrow.dplace 0x0246813C40 = some { ch := 3, sub := 1, rank := 0, bg := 7, ba := 1, row := 0x2468, col := 5 } := by decide +kernel

/-- Its neighbour, which lies on channel 2. -/
theorem test_address_map_next : (wKestrow.dplace 0x0246813D40).map DPlace.ch = some 2 := by decide +kernel

/-- "Reading DRAM channel 2's state": the DRAM entry's header, BASE and PARAM, and where DRC_STATUS lies. -/
theorem test_capability_dram :
    capWord 0x130 = some 0x01400111 ∧ capWord 0x134 = some 0x04100000 ∧ capWord 0x138 = some 0x4000 ∧
      Reg.find 0x108040 = some (.drcStatus, 2, 0) := by decide +kernel

/-- FIPS 197, Appendix C.1: AES-128. -/
theorem test_aes128 : aesEncrypt (aesKeys (List.range 16)) (bytesOf 16 0x00112233445566778899aabbccddeeff) =
    bytesOf 16 0x69c4e0d86a7b0430d8cdb78070b4c55a := by decide +kernel

/-- The GCM specification's test case 4. -/
theorem test_gcm :
    gcmTag (aesKeys (bytesOf 16 0xfeffe9928665731c6d6a8f9467308308)) (bytesOf 12 0xcafebabefacedbaddecaf888)
      (bytesOf 20 0xfeedfacedeadbeeffeedfacedeadbeefabaddad2)
      (gcmCrypt (aesKeys (bytesOf 16 0xfeffe9928665731c6d6a8f9467308308)) (bytesOf 12 0xcafebabefacedbaddecaf888)
        (bytesOf 60 0xd9313225f88406e5a55909c5aff5269a86a7a9531534f7da2e4c303d8a318a721c3c0c95956809532fcf0e2449a6b525b16aedf5aa0de657ba637b39)) =
      bytesOf 16 0x5bc94fbc3221a5db94fae95ae7121a47 := by decide +kernel

/-- RFC 4231, test case 1. -/
theorem test_hmac :
    hmac384 (List.replicate 20 0x0b) (bytesOf 8 0x4869205468657265) =
      bytesOf 48 0xafd03944d84895626b0825f4ab46907f15f9dadbe4101ec682aa034c7cebc59cfaea9ea9076ede7f4af152e8b2fa9cb6 := by decide +kernel

/-- R422: the image's signature verifies, and does not once a byte of the image is another. -/
theorem test_image_signed : wBoot.imageSigned (nats wImage) = true ∧ wBoot.imageSigned (nats (wImage.set 11 1)) = false := by decide +kernel

/-- R129, R131: the inner packet of an ESP packet whose ICV is right goes on to its own walk, shorter by the ESP bytes. -/
theorem test_esp_opens :
    (match exec .cipherInbound wSa with | .next t => t.reparseQ.map fun (p : Pkt) => p.len | _ => []) = [20] := by decide +kernel

end Sys2Proof.Tests
end

section
/-! PROOFS. What the operations of a thread leave as it was: the frame of every state operation that an instruction is built from. -/

namespace Sys2Proof.Machine

/-! ### Threads after a write -/

@[simp] theorem State.th_setTh_self (s : State) (u : Nat) (f : Thread → Thread) : (s.setTh u f).th u = f (s.th u) := by
  simp [State.th, State.setTh]

theorem State.th_setTh_ne (s : State) {u w : Nat} (f : Thread → Thread) (h : u ≠ w) : (s.setTh u f).th w = s.th w := by
  simp [State.th, State.setTh, h]

theorem State.th_eq_of_threads {s t : State} (h : t.threads = s.threads) (w : Nat) : t.th w = s.th w := by
  rw [State.th, State.th, h]

theorem State.unit_eq_of_units {s t : State} (h : t.units = s.units) (k : Nat) : t.unit k = s.unit k := by
  rw [State.unit, State.unit, h]

/-- R276: only when a thread became eligible can differ. -/
def Thread.sameButSince (a b : Thread) : Prop := b = { a with since := b.since }

theorem Thread.sameButSince_trans {a b c : Thread} (h : a.sameButSince b) (k : b.sameButSince c) : a.sameButSince c := by
  unfold Thread.sameButSince at *
  rw [k, h]

/-! ### Frames of the small operations -/

theorem State.frame_free (s : State) (n : Nat) : State.frame [.free] s { s with freeCtr := n } :=
  ⟨rfl, fun p hp => by cases p <;> simp [Part.same] at *⟩

theorem State.frame_stampUse (s : State) : State.frame [.free] s s.stampUse :=
  ⟨rfl, fun p hp => by cases p <;> simp [Part.same] at *⟩

theorem State.frame_setTh (s : State) (u : Nat) (f : Thread → Thread) : State.frame [.threads] s (s.setTh u f) :=
  ⟨rfl, fun p hp => by cases p <;> simp [Part.same] at *⟩

theorem State.frame_setCore (s : State) (k : Nat) (f : Core → Core) : State.frame [.threads] s (s.setCore k f) :=
  ⟨rfl, fun p hp => by cases p <;> simp [Part.same] at *⟩

theorem State.frame_setUnit (s : State) (k : Nat) (f : Tally → Tally) : State.frame [.threads] s (s.setUnit k f) :=
  ⟨rfl, fun p hp => by cases p <;> simp [Part.same] at *⟩

theorem State.frame_restless (s : State) (r : Tab Bool) : State.frame [.threads] s { s with restless := r } :=
  ⟨rfl, fun p hp => by cases p <;> simp [Part.same] at *⟩

theorem State.frame_setSram (s : State) (k a v : Nat) : State.frame [.sram] s (s.setSram k a v) :=
  ⟨rfl, fun p hp => by cases p <;> simp [Part.same] at *⟩

/-- `run` puts back the time base and the queue; where neither has changed, that is all the same. -/
theorem run_of_frame {ps : List Part} {s : State} {f : State → State} (h : State.frame ps s (f s)) (hp : Part.time ∉ ps) :
    run s f = .next (f s) := by
  obtain ⟨hq, hs⟩ := h
  have ht : (f s).time = s.time := hs .time hp
  rw [run_next, ← ht, ← hq]

/-! ### Housekeeping: counters, line buffers, prediction, squashes -/

/-- Counters, cores, free values and the eligibility order may differ; every thread and tally unit is otherwise as before. -/
structure State.quiet (s t : State) : Prop where
  frame : State.frame [.threads, .regs, .free] s t
  threads : ∀ w, (s.th w).sameButSince (t.th w)
  units : t.units = s.units

theorem State.quiet_refl (s : State) : s.quiet s := ⟨frame_refl _ s, fun _ => rfl, rfl⟩

theorem State.quiet_trans {s t r : State} (h : s.quiet t) (k : t.quiet r) : s.quiet r :=
  ⟨frame_trans h.frame k.frame, fun w => Thread.sameButSince_trans (h.threads w) (k.threads w), k.units.trans h.units⟩

/-- An operation that leaves threads and tally units alone. -/
theorem State.quiet_of_threads {ps : List Part} {s t : State} (hf : State.frame ps s t) (hps : ∀ p ∈ ps, p ∈ [Part.threads, .regs, .free])
    (ht : t.threads = s.threads) (hu : t.units = s.units) : s.quiet t :=
  ⟨frame_mono hf hps, fun w => by rw [State.th_eq_of_threads ht]; rfl, hu⟩

theorem State.setF_quiet (s : State) (fl : Fld) (i v j : Nat) : s.quiet (s.setF fl i v j) :=
  State.quiet_of_threads (setF_frame ..) (by decide) rfl rfl

theorem State.count_quiet (s : State) (fl : Fld) (i n : Nat) : s.quiet (s.count fl i n) := s.setF_quiet ..

theorem State.free_quiet (s : State) (n : Nat) : s.quiet { s with freeCtr := n } :=
  State.quiet_of_threads (s.frame_free n) (by decide) rfl rfl

theorem State.freeNat_quiet {s s1 : State} {n : Nat} (h : s.freeNat = (n, s1)) : s.quiet s1 := by
  cases h
  exact s.free_quiet _

theorem State.stampUse_quiet (s : State) : s.quiet s.stampUse := State.quiet_of_threads s.frame_stampUse (by decide) rfl rfl

theorem State.setCore_quiet (s : State) (k : Nat) (f : Core → Core) : s.quiet (s.setCore k f) :=
  State.quiet_of_threads (s.frame_setCore k f) (by decide) rfl rfl

theorem State.countCore_quiet (s : State) (fl : Fld) (k n : Nat) : s.quiet (s.countCore fl k n) := by
  unfold State.countCore
  split
  · exact s.setF_quiet ..
  · exact s.quiet_refl

theorem State.countSram_quiet (s : State) (t : Nat) (corr : Bool) : s.quiet (s.countSram t corr) := by
  unfold State.countSram
  split
  · exact s.count_quiet ..
  · exact s.quiet_refl

theorem State.stir_quiet (s : State) (x : Nat) : s.quiet (s.stir x) := by
  unfold State.stir
  split
  · exact State.quiet_of_threads (s.frame_restless _) (by decide) rfl rfl
  · exact s.quiet_refl

theorem State.since_quiet (s : State) (u n : Nat) : s.quiet (s.setTh u fun th => { th with since := n }) where
  frame := frame_mono (s.frame_setTh ..) (by decide)
  threads w := by
    by_cases h : u = w
    · subst h; rw [State.th_setTh_self]; rfl
    · rw [State.th_setTh_ne _ _ h]; rfl
  units := rfl

theorem State.renew_quiet (s : State) (u : Nat) : s.quiet (s.renew u) := State.quiet_trans s.stampUse_quiet (State.since_quiet ..)

theorem State.foldl_renew_quiet (us : List Nat) (k : Nat) (s : State) :
    s.quiet (us.foldl (fun (s : State) i => s.renew (k * 8 + i)) s) := by
  induction us generalizing s with
  | nil => exact s.quiet_refl
  | cons i us ih => exact State.quiet_trans (s.renew_quiet _) (ih _)

theorem State.guardEnd_quiet (s : State) (k : Nat) : s.quiet (s.guardEnd k) := by
  unfold State.guardEnd
  split
  · exact State.quiet_trans (s.setCore_quiet k _) (State.foldl_renew_quiet ..)
  · exact s.quiet_refl

theorem State.fetched_quiet (s : State) (u : Nat) : s.quiet (s.fetched u) := by
  unfold State.fetched
  exact s.setCore_quiet ..

theorem State.squash_quiet (s : State) (u n : Nat) : s.quiet (s.squash u n) := by
  unfold State.squash
  split; next k s1 hk =>
  split; next m s2 hm =>
  split; next c s3 hc =>
  have h3 : s.quiet s3 := State.quiet_trans (State.quiet_trans (State.freeNat_quiet hk) (State.freeNat_quiet hm)) (State.freeNat_quiet hc)
  extract_lets i j s4
  have h4 : s.quiet s4 := State.quiet_trans h3 (s3.countCore_quiet ..)
  split
  · exact h4
  · exact State.quiet_trans h4 (State.quiet_trans (s4.countCore_quiet ..) (State.count_quiet ..))

theorem State.mispredict_quiet (s : State) (u : Nat) : s.quiet (s.mispredict u) :=
  State.quiet_trans (State.quiet_trans (s.countCore_quiet ..) (State.squash_quiet ..)) (State.renew_quiet ..)

theorem State.resolve_quiet (s : State) (u pc next target : Nat) (taken : Bool) : s.quiet (s.resolve u pc next target taken) := by
  unfold State.resolve
  extract_lets k went s1
  have h1 : s.quiet s1 := by
    show s.quiet (if _ then _ else _)
    split
    · exact s.quiet_refl
    · exact s.mispredict_quiet u
  split
  · exact h1
  · exact State.quiet_trans h1 (s1.setCore_quiet ..)

end Sys2Proof.Machine
end

section
/-! PROOFS. The issue of an instruction (R184, R193, R223): what it reads, what it leaves as it was, and how it ends. -/

namespace Sys2Proof.Machine

/-! ### What an instruction leaves alone -/

/-- Only the listed parts differ, and of the threads only `u`, but for the eligibility order (R276). -/
structure State.onlyThread (ps : List Part) (s t : State) (u : Nat) : Prop where
  frame : State.frame ps s t
  others : s.othersKept t [u]

theorem State.onlyThread_refl (ps : List Part) (s : State) (u : Nat) : State.onlyThread ps s s u := ⟨frame_refl ps s, fun _ _ => rfl⟩

theorem State.onlyThread_trans {ps : List Part} {s t r : State} {u : Nat} (h : State.onlyThread ps s t u) (k : State.onlyThread ps t r u) :
    State.onlyThread ps s r u :=
  ⟨frame_trans h.frame k.frame, fun w hw => Thread.sameButSince_trans (h.others w hw) (k.others w hw)⟩

theorem State.onlyThread_mono {ps qs : List Part} {s t : State} {u : Nat} (h : State.onlyThread ps s t u) (hs : ∀ p ∈ ps, p ∈ qs) :
    State.onlyThread qs s t u := ⟨frame_mono h.frame hs, h.others⟩

theorem State.quiet.onlyThread {s t : State} (h : s.quiet t) (u : Nat) : State.onlyThread [.threads, .regs, .free] s t u :=
  ⟨h.frame, fun w _ => h.threads w⟩

theorem State.setTh_onlyThread {ps : List Part} (s : State) (u : Nat) (f : Thread → Thread) (h : Part.threads ∈ ps) :
    State.onlyThread ps s (s.setTh u f) u where
  frame := frame_mono (s.frame_setTh u f) (by simpa using h)
  others w hw := by
    have : u ≠ w := fun h => hw (by simp [h])
    rw [State.th_setTh_ne _ _ this]

/-- An operation that leaves the threads alone. -/
theorem State.onlyThread_of_threads {ps : List Part} {s t : State} (hf : State.frame ps s t) (ht : t.threads = s.threads) (u : Nat) :
    State.onlyThread ps s t u := ⟨hf, fun w _ => by rw [State.th_eq_of_threads ht]⟩

theorem Thread.sameRest_trans {a b c : Thread} (h : a.sameRest b) (k : b.sameRest c) : a.sameRest c := by
  obtain ⟨h1, h2⟩ := h
  obtain ⟨k1, k2⟩ := k
  refine ⟨?_, k2.trans h2⟩
  rw [k1, h1]

theorem Thread.sameButSince.sameRest {a b : Thread} (h : a.sameButSince b) : a.sameRest b := by
  unfold Thread.sameButSince at h
  rw [h]
  exact ⟨rfl, rfl⟩

/-! ### Reading registers -/

/-- `s` once its free values up to number `n` have been drawn. -/
def State.drawn (s : State) (n : Nat) : State := { s with freeCtr := n }

@[simp] theorem State.drawn_drawn (s : State) (n m : Nat) : (s.drawn n).drawn m = s.drawn m := rfl

theorem State.drawn_onlyThread {ps : List Part} (s : State) (n u : Nat) (h : Part.free ∈ ps) : State.onlyThread ps s (s.drawn n) u :=
  State.onlyThread_of_threads (frame_mono (s.frame_free n) (by simpa using h)) rfl u

theorem State.drawn_quiet (s : State) (n : Nat) : s.quiet (s.drawn n) := s.free_quiet n

/-- What an issue counts on its thread aside, the thread is the same. -/
def Thread.sameView (a b : Thread) : Prop := b = { a with since := b.since, slots := b.slots, steps := b.steps }

theorem Thread.sameView.key {a b : Thread} (h : a.sameView b) (c : Nat) : b.key c = a.key c := by rw [h]; rfl
theorem Thread.sameView.reg {a b : Thread} (h : a.sameView b) (c : Nat) : b.reg c = a.reg c := by rw [h]; rfl
theorem Thread.sameView.file {a b : Thread} (h : a.sameView b) : b.file = a.file := by rw [h]
theorem Thread.sameView.fl {a b : Thread} (h : a.sameView b) : b.fl = a.fl := by rw [h]
theorem Thread.sameView.pc {a b : Thread} (h : a.sameView b) : b.pc = a.pc := by rw [h]
theorem Thread.sameView.shades {a b : Thread} (h : a.sameView b) : b.shades = a.shades := by rw [h]
theorem Thread.sameView.mchk {a b : Thread} (h : a.sameView b) : b.mchk = a.mchk := by rw [h]

/-- A read of a register of thread `u` gives the same in both states. -/
structure State.sameReads (s t : State) (u : Nat) : Prop where
  free : t.freeCtr = s.freeCtr
  view : (s.th u).sameView (t.th u)

theorem State.sameReads.drawn {s t : State} {u : Nat} (h : s.sameReads t u) (n : Nat) : (s.drawn n).sameReads (t.drawn n) u := ⟨rfl, h.view⟩

/-- R193: a read of a register draws free values at most, and elsewhere reads the same. -/
theorem State.readReg_alike {s t s1 : State} {u c x : Nat} (h : s.sameReads t u) (hr : s.readReg u c = (x, s1)) :
    ∃ n, s1 = s.drawn n ∧ t.readReg u c = (x, t.drawn n) := by
  have hsh := h.view.shades
  unfold State.readReg at *
  simp only [h.view.key, h.view.reg, hsh, State.freeNat, h.free] at *
  split at hr
  · cases hr
    exact ⟨s.freeCtr, rfl, by rw [← h.free]; rfl⟩
  · split at hr
    · cases hr
      exact ⟨s.freeCtr, rfl, by rw [← h.free]; rfl⟩
    · cases hr
      exact ⟨s.freeCtr + 1, rfl, rfl⟩

theorem State.readPair_alike {s t s1 : State} {u c x : Nat} (h : s.sameReads t u) (hr : s.readPair u c = (x, s1)) :
    ∃ n, s1 = s.drawn n ∧ t.readPair u c = (x, t.drawn n) := by
  unfold State.readPair at *
  split at hr
  · next hc =>
    cases hr
    exact ⟨s.freeCtr, rfl, by rw [if_pos hc, ← h.free]; rfl⟩
  · next hc =>
    rcases hlo : s.readReg u c with ⟨lo, s2⟩
    rcases hhi : s2.readReg u (c + 1) with ⟨hi, s3⟩
    simp only [hlo, hhi] at hr
    cases hr
    obtain ⟨n, rfl, hlo'⟩ := State.readReg_alike h hlo
    obtain ⟨m, rfl, hhi'⟩ := State.readReg_alike (h.drawn n) hhi
    exact ⟨m, rfl, by simp only [if_neg hc, hlo', hhi', State.drawn_drawn]⟩

theorem State.reads2_alike {s t : State} {u a b x y : Nat} (h : s.sameReads t u) (hr : s.reads2 u a b x y) :
    ∃ n m, t.readReg u a = (x, t.drawn n) ∧ (t.drawn n).readReg u b = (y, t.drawn m) := by
  obtain ⟨s1, s2, ha, hb⟩ := hr
  obtain ⟨n, rfl, ha'⟩ := State.readReg_alike h ha
  obtain ⟨m, rfl, hb'⟩ := State.readReg_alike (h.drawn n) hb
  exact ⟨n, m, ha', hb'⟩

theorem State.reads3_alike {s t : State} {u a b x y fl : Nat} (h : s.sameReads t u) (hr : s.reads3 u a b x y fl) :
    ∃ n m k, t.readReg u a = (x, t.drawn n) ∧ (t.drawn n).readReg u b = (y, t.drawn m) ∧ (t.drawn m).readReg u 25 = (fl, t.drawn k) := by
  obtain ⟨s1, s2, s3, ha, hb, hfl⟩ := hr
  obtain ⟨n, rfl, ha'⟩ := State.readReg_alike h ha
  obtain ⟨m, rfl, hb'⟩ := State.readReg_alike (h.drawn n) hb
  obtain ⟨k, rfl, hfl'⟩ := State.readReg_alike (h.drawn m) hfl
  exact ⟨n, m, k, ha', hb', hfl'⟩

/-! ### Issue -/

/-- R167, R392: the packets that run count the instruction, and so does the debugger's step. -/
def Thread.charged (th : Thread) : Thread :=
  { th with slots := th.slots.map (fun e => (e.1, e.2.map fun p => if p.phase = 2 then { p with issued := p.issued + 1 } else p)),
            steps := th.steps.map (· - 1) }

theorem Thread.charged_held (th : Thread) : th.charged.held = th.held := by
  simp only [Thread.held, Thread.charged, List.map_map]
  refine List.map_congr_left fun e _ => ?_
  rcases e with ⟨i, _ | p⟩
  · rfl
  · by_cases hp : p.phase = 2 <;> simp [hp]

theorem State.countCore_freeCtr (s : State) (fl : Fld) (k n : Nat) : (s.countCore fl k n).freeCtr = s.freeCtr := by
  unfold State.countCore
  split <;> rfl

theorem State.stir_freeCtr (s : State) (x : Nat) : (s.stir x).freeCtr = s.freeCtr := by
  unfold State.stir
  split <;> rfl

theorem State.fetched_freeCtr (s : State) (u : Nat) : (s.fetched u).freeCtr = s.freeCtr := by
  unfold State.fetched
  rfl

theorem State.foldl_renew_freeCtr (us : List Nat) (k : Nat) (s : State) :
    (us.foldl (fun (s : State) i => s.renew (k * 8 + i)) s).freeCtr = s.freeCtr := by
  induction us generalizing s with
  | nil => rfl
  | cons i us ih => exact ih _

theorem State.guardEnd_freeCtr (s : State) (k : Nat) : (s.guardEnd k).freeCtr = s.freeCtr := by
  unfold State.guardEnd
  split
  · exact State.foldl_renew_freeCtr ..
  · rfl

/-- What the issue of an instruction does before it counts on the thread: counters, line buffers and the eligibility order alone. -/
def State.issuing (s : State) (u : Nat) : State :=
  (((s.guardEnd (coreOf u)).countCore F.cluCoreIssue_ISSUE (coreOf u)).fetched u).stir (s.tidOwner u)

theorem State.issued_eq (s : State) (u : Nat) : s.issued u = (s.issuing u).setTh u Thread.charged := rfl

theorem State.issuing_quiet (s : State) (u : Nat) : s.quiet (s.issuing u) :=
  State.quiet_trans (State.quiet_trans (State.quiet_trans (s.guardEnd_quiet _) (State.countCore_quiet ..)) (State.fetched_quiet ..))
    (State.stir_quiet ..)

theorem State.issued_th (s : State) (u : Nat) : (s.issued u).th u = ((s.issuing u).th u).charged := by
  rw [State.issued_eq, State.th_setTh_self]

/-- An instruction reads its registers as they stood before its issue. -/
theorem State.issued_sameReads (s : State) (u : Nat) : s.sameReads (s.issued u) u where
  free := by
    show (s.issuing u).freeCtr = s.freeCtr
    rw [State.issuing, State.stir_freeCtr, State.fetched_freeCtr, State.countCore_freeCtr, State.guardEnd_freeCtr]
  view := by
    rw [State.issued_th]
    have h := (s.issuing_quiet u).threads u
    unfold Thread.sameButSince at h
    rw [h]
    rfl

theorem State.issued_onlyThread (s : State) (u : Nat) : State.onlyThread [.threads, .regs, .free] s (s.issued u) u :=
  State.onlyThread_trans ((s.issuing_quiet u).onlyThread u)
    (State.setTh_onlyThread (s.issuing u) u Thread.charged (by decide))

theorem State.issued_sameRest (s : State) (u : Nat) : (s.th u).sameRest ((s.issued u).th u) := by
  rw [State.issued_th]
  exact Thread.sameRest_trans ((s.issuing_quiet u).threads u).sameRest ⟨rfl, Thread.charged_held _⟩

theorem State.issued_units (s : State) (u : Nat) : (s.issued u).units = s.units := (s.issuing_quiet u).units

/-! ### How an instruction ends -/

section Endings

/-- An instruction of assigned words with legal fields and a feature group that the core has. -/
structure State.issues (s : State) (u : Nat) (ws : List Nat) (legal : Bool) (grp : Option Nat) : Prop where
  ready : s.canIssue u ws
  legal : legal = true
  group : hasGroup u grp = true

variable {s s2 : State} {u : Nat} {ws : List Nat} {legal : Bool} {grp : Option Nat} {body : State → State × Then}

theorem State.issue_next (h : s.issues u ws legal grp) (hb : body (s.issued u) = (s2, .next)) :
    s.issue u ws legal grp body =
      ((s2.setTh u Thread.ageShades).setTh u fun th => { th with pc := ((s.th u).pc + ws.length) % 131072 }).pendingTraps u := by
  obtain ⟨⟨hsel, hass, hws, -⟩, hl, hg⟩ := h
  simp [State.issue, hsel, hass, hws, hl, hg, hb]

theorem State.issue_jump {taken : Bool} {target : Nat} (h : s.issues u ws legal grp) (hb : body (s.issued u) = (s2, .jump taken target)) :
    s.issue u ws legal grp body =
      (((s2.resolve u (s.th u).pc (((s.th u).pc + ws.length) % 131072) target taken).setTh u Thread.ageShades).goto u
        (if taken then target else ((s.th u).pc + ws.length) % 131072)).pendingTraps u := by
  obtain ⟨⟨hsel, hass, hws, -⟩, hl, hg⟩ := h
  simp [State.issue, hsel, hass, hws, hl, hg, hb]

theorem State.issue_done (h : s.issues u ws legal grp) (hb : body (s.issued u) = (s2, .done)) :
    s.issue u ws legal grp body = (s2.squash u 4).setTh u Thread.ageShades := by
  obtain ⟨⟨hsel, hass, hws, -⟩, hl, hg⟩ := h
  simp [State.issue, hsel, hass, hws, hl, hg, hb]

theorem State.issue_trap {v d a i : Nat} (h : s.issues u ws legal grp) (hb : body (s.issued u) = (s2, .trap v d a i)) :
    s.issue u ws legal grp body =
      (s2.squash u 4).trap u v d a i (if v = 7 then ((s.th u).pc + ws.length) % 131072 else (s.th u).pc) := by
  obtain ⟨⟨hsel, hass, hws, -⟩, hl, hg⟩ := h
  simp [State.issue, hsel, hass, hws, hl, hg, hb]

end Endings

theorem State.pendingTraps_of_mchk {s : State} {u : Nat} (h : (s.th u).mchk = false) : s.pendingTraps u = s := by
  simp [State.pendingTraps, h]

end Sys2Proof.Machine
end

section
/-! PROOFS. Register results (R206, R207, R230): what a thread holds once an instruction has written its result and flags. -/

namespace Sys2Proof.Machine

/-! ### Writes of a thread's registers -/

/-- Of the thread only the registers, the flags and their shadows differ. -/
def Thread.regsOnly (a b : Thread) : Prop := b = { a with file := b.file, fl := b.fl, shades := b.shades }

theorem Thread.regsOnly_trans {a b c : Thread} (h : a.regsOnly b) (k : b.regsOnly c) : a.regsOnly c := by
  unfold Thread.regsOnly at *
  rw [k, h]

theorem Thread.regsOnly.sameRest {a b : Thread} (h : a.regsOnly b) : a.sameRest b := by
  unfold Thread.regsOnly at h
  rw [h]
  exact ⟨rfl, rfl⟩

theorem Thread.regsOnly.mchk {a b : Thread} (h : a.regsOnly b) : b.mchk = a.mchk := by rw [h]

theorem Thread.setKey_regsOnly (th : Thread) (k : Nat) (v : Word) : th.regsOnly (th.setKey k v) := by
  unfold Thread.setKey
  split <;> rfl

theorem Thread.updFl_regsOnly (th : Thread) (f : Nat → Nat) : th.regsOnly (th.updFl f) := rfl

theorem Thread.putReg_regsOnly (th : Thread) (c v : Nat) : th.regsOnly (th.putReg c v) := by
  unfold Thread.putReg
  split
  · exact Thread.regsOnly_trans (th.setKey_regsOnly _ _) rfl
  · rfl

theorem Thread.result_regsOnly (th : Thread) (c v : Nat) (f : Nat → Nat) : th.regsOnly (th.result c v f) := by
  unfold Thread.result
  split
  · exact th.putReg_regsOnly c v
  · exact Thread.regsOnly_trans (th.putReg_regsOnly c v) (Thread.updFl_regsOnly ..)

/-- Only the code of fl lies at fl's key. -/
theorem Thread.key_ne_flKey {th : Thread} {c k : Nat} (hc : c ≠ 25) (h : th.key c = some k) : k ≠ flKey := by
  unfold Thread.key at h
  unfold flKey
  split at h
  · cases h; omega
  · split at h
    · cases h; omega
    · split at h
      · cases h; omega
      · simp at h

theorem Thread.putReg_fl (th : Thread) {c : Nat} (v : Nat) (hc : c ≠ 25) : (th.putReg c v).fl = th.fl := by
  unfold Thread.putReg
  split
  · next k hk => simp [Thread.setKey, Thread.key_ne_flKey hc hk]
  · rfl

/-- A register write leaves its value in the register (R206). -/
theorem Thread.took_putReg (th : Thread) (c v : Nat) : th.took (th.putReg c v) c v := by
  unfold Thread.took Thread.putReg
  rcases th.key c with _ | k
  · exact fun _ _ => rfl
  · by_cases hk : k = flKey
    · simp only [hk, if_true, Thread.setKey]
      refine ⟨?_, fun _ _ => rfl⟩
      simp only [word, BitVec.toNat_ofNat]
      omega
    · simp only [hk, if_false, Thread.setKey]
      exact ⟨Tab.get_set_self .., fun j hj => Tab.get_set_ne _ _ _ _ fun e => hj (by simp [e])⟩

/-- Of the thread after it, a result speaks of registers and flags alone. -/
theorem Thread.took_congr {a a' b b' : Thread} {c v : Nat} (ha : a.sameView a') (hfile : b'.file = b.file) (hfl : b'.fl = b.fl)
    (h : a'.took b c v) : a.took b' c v := by
  unfold Thread.took Thread.wordsBut at *
  rw [ha.key, ha.file] at h
  rw [hfile, hfl]
  exact h

theorem Thread.took_result (th : Thread) (c v : Nat) (f : Nat → Nat) : th.took (th.result c v f) c v := by
  unfold Thread.result
  split
  · exact th.took_putReg c v
  · next hc =>
    have h := th.took_putReg c v
    unfold Thread.took at *
    split at h
    · next k hk => rw [if_neg (Thread.key_ne_flKey hc hk)] at *; exact h
    · exact h

theorem Thread.result_fl (th : Thread) {c : Nat} (v : Nat) (f : Nat → Nat) (hc : c ≠ 25) : (th.result c v f).fl = f th.fl := by
  unfold Thread.result
  rw [if_neg hc]
  show f (th.putReg c v).fl = _
  rw [Thread.putReg_fl _ _ hc]

/-! ### Instructions that write registers and go on -/

section Completion

variable {s : State} {u : Nat} {ws : List Nat} {legal : Bool} {grp : Option Nat} {body : State → State × Then}

theorem State.issued_mchk (h : s.issues u ws legal grp) : ((s.issued u).th u).mchk = false := by
  obtain ⟨-, -, -, hm⟩ := h.ready
  rw [(s.issued_sameReads u).view.mchk, hm]

/-- R193: an instruction that writes registers of its thread alone completes, and the thread goes on at the next one. -/
theorem State.completes_of_next {s2 : State} (h : s.issues u ws legal grp) (hb : body (s.issued u) = (s2, .next))
    (ho : State.onlyThread [.threads, .regs, .free] (s.issued u) s2 u) (hr : ((s.issued u).th u).regsOnly (s2.th u)) :
    ∃ t, run s (fun s => s.issue u ws legal grp body) = .next t ∧ (t.th u).file = (s2.th u).file ∧ (t.th u).fl = (s2.th u).fl ∧
      s.ranOn t u ws.length := by
  let aged := s2.setTh u Thread.ageShades
  let t := aged.setTh u fun th => { th with pc := ((s.th u).pc + ws.length) % 131072 }
  have hth : t.th u = { (s2.th u).ageShades with pc := ((s.th u).pc + ws.length) % 131072 } := by
    simp only [t, aged, State.th_setTh_self]
  have ht : s.issue u ws legal grp body = t := by
    rw [State.issue_next h hb]
    exact State.pendingTraps_of_mchk (by rw [hth]; exact hr.mchk.trans (State.issued_mchk h))
  have ha : State.onlyThread [.threads, .regs, .free] s2 aged u := State.setTh_onlyThread _ _ _ (by decide)
  have hp : State.onlyThread [.threads, .regs, .free] aged t u := State.setTh_onlyThread _ _ _ (by decide)
  have hk := State.onlyThread_trans (State.onlyThread_trans (s.issued_onlyThread u) ho) (State.onlyThread_trans ha hp)
  refine ⟨t, ?_, by rw [hth]; rfl, by rw [hth]; rfl, by rw [hth], ?_, hk.others, hk.frame⟩
  · rw [run_of_frame (ps := [.threads, .regs, .free]) (by rw [ht]; exact hk.frame) (by decide), ht]
  · rw [hth]
    exact Thread.sameRest_trans (s.issued_sameRest u) (Thread.sameRest_trans hr.sameRest ⟨rfl, rfl⟩)

/-- The same where the thread's registers are written by `f` once the operands have been read. -/
theorem State.completes_of_write {n : Nat} {f : Thread → Thread} (h : s.issues u ws legal grp)
    (hb : body (s.issued u) = (((s.issued u).drawn n).setTh u f, .next)) (hf : ∀ th : Thread, th.regsOnly (f th)) :
    ∃ t, run s (fun s => s.issue u ws legal grp body) = .next t ∧ (t.th u).file = (f ((s.issued u).th u)).file ∧
      (t.th u).fl = (f ((s.issued u).th u)).fl ∧ s.ranOn t u ws.length := by
  have hth : (((s.issued u).drawn n).setTh u f).th u = f ((s.issued u).th u) := State.th_setTh_self ..
  have ho : State.onlyThread [.threads, .regs, .free] (s.issued u) (((s.issued u).drawn n).setTh u f) u :=
    State.onlyThread_trans ((State.drawn_quiet _ n).onlyThread u) (State.setTh_onlyThread _ _ _ (by decide))
  have := State.completes_of_next h hb ho (by rw [hth]; exact hf _)
  rwa [hth] at this

/-- R230: a result with its flags reaches its register; where that is fl, the flags give way to it (R207). -/
theorem State.completes_of_result {n a v : Nat} {f : Nat → Nat} (h : s.issues u ws legal grp)
    (hb : body (s.issued u) = (((s.issued u).drawn n).setTh u fun th => th.result a v f, .next)) :
    ∃ t, run s (fun s => s.issue u ws legal grp body) = .next t ∧ (s.th u).took (t.th u) a v ∧
      (a ≠ 25 → (t.th u).fl = f (s.th u).fl) ∧ s.ranOn t u ws.length := by
  have hv := (s.issued_sameReads u).view
  obtain ⟨t, ht, hfile, hfl, hran⟩ := State.completes_of_write h hb fun th => th.result_regsOnly a v f
  refine ⟨t, ht, Thread.took_congr hv hfile hfl (Thread.took_result ..), fun ha => ?_, hran⟩
  rw [hfl, Thread.result_fl _ _ _ ha, hv.fl]

end Completion

/-! ### The register forms (R230, R234, R239) -/

section Forms

variable {s : State} {u a b : Nat} {ws : List Nat} {legal : Bool} {grp : Option Nat} {x y fl : Nat}

/-- R234: MOV. -/
theorem State.completes_movBody (h : s.issues u ws legal grp) (hr : s.reads2 u a b x y) :
    ∃ t, run s (fun s => s.issue u ws legal grp (movBody u a b)) = .next t ∧ (s.th u).took (t.th u) a y ∧
      (a ≠ 25 → (t.th u).fl = (s.th u).fl) ∧ s.ranOn t u ws.length := by
  have hs := s.issued_sameReads u
  obtain ⟨n, m, ha, hb⟩ := State.reads2_alike hs hr
  have hbody : movBody u a b (s.issued u) = (((s.issued u).drawn m).setTh u fun th => th.putReg a y, .next) := by
    simp [movBody, State.putReg, ha, hb]
  obtain ⟨t, ht, hfile, hfl, hran⟩ := State.completes_of_write h hbody fun th => th.putReg_regsOnly a y
  refine ⟨t, ht, Thread.took_congr hs.view hfile hfl (Thread.took_putReg ..), fun hne => ?_, hran⟩
  rw [hfl, Thread.putReg_fl _ _ hne, hs.view.fl]

/-- R230: register a := f(fl, reg[a], reg[b]), with its flags. -/
theorem State.completes_aluBody (f : Nat → Nat → Nat → Res16) (h : s.issues u ws legal grp) (hr : s.reads2 u a b x y) :
    ∃ t, run s (fun s => s.issue u ws legal grp (aluBody u a b f)) = .next t ∧ (s.th u).took (t.th u) a (f (s.th u).fl x y).val ∧
      (a ≠ 25 → (t.th u).fl = (f (s.th u).fl x y).fl) ∧ s.ranOn t u ws.length := by
  have hs := s.issued_sameReads u
  obtain ⟨n, m, ha, hb⟩ := State.reads2_alike hs hr
  have hbody : aluBody u a b f (s.issued u) =
      (((s.issued u).drawn m).setTh u fun th => th.result a (f th.fl x y).val fun fl => (f fl x y).fl, .next) := by
    simp [aluBody, ha, hb]
  obtain ⟨t, ht, hfile, hfl, hran⟩ := State.completes_of_write h hbody fun th => th.result_regsOnly ..
  rw [hs.view.fl] at hfile hfl
  refine ⟨t, ht, Thread.took_congr hs.view hfile hfl (Thread.took_result ..), fun hne => ?_, hran⟩
  rw [hfl, Thread.result_fl _ _ _ hne, hs.view.fl]

/-- The same of an operation that reads a carry from fl; the flags of `keep` stay. -/
theorem State.completes_carryBody (keep : Nat) (f : Nat → Nat → Nat → Res16) (h : s.issues u ws legal grp) (hr : s.reads3 u a b x y fl) :
    ∃ t, run s (fun s => s.issue u ws legal grp (carryBody u a b keep f)) = .next t ∧ (s.th u).took (t.th u) a (f fl x y).val ∧
      (a ≠ 25 → (t.th u).fl = keepFl keep (f fl x y).fl (s.th u).fl) ∧ s.ranOn t u ws.length := by
  obtain ⟨n, m, k, ha, hb, hfl⟩ := State.reads3_alike (s.issued_sameReads u) hr
  exact State.completes_of_result (n := k) h (by simp [carryBody, ha, hb, hfl])

/-- R234: the flags alone. -/
theorem State.completes_cmpBody (f : Nat → Nat → Nat → Res16) (h : s.issues u ws legal grp) (hr : s.reads2 u a b x y) :
    ∃ t, run s (fun s => s.issue u ws legal grp (cmpBody u a b f)) = .next t ∧ (s.th u).wordsBut (t.th u) [] ∧
      (t.th u).fl = (f (s.th u).fl x y).fl ∧ s.ranOn t u ws.length := by
  have hs := s.issued_sameReads u
  obtain ⟨n, m, ha, hb⟩ := State.reads2_alike hs hr
  have hbody : cmpBody u a b f (s.issued u) = (((s.issued u).drawn m).setTh u fun th => th.updFl fun fl => (f fl x y).fl, .next) := by
    simp [cmpBody, ha, hb]
  obtain ⟨t, ht, hfile, hfl, hran⟩ := State.completes_of_write h hbody fun th => th.updFl_regsOnly _
  refine ⟨t, ht, fun k _ => ?_, ?_, hran⟩
  · rw [hfile]
    exact congrArg (fun w => Tab.get 0 w k) hs.view.file
  · rw [hfl]
    exact congrArg (fun fl => (f fl x y).fl) hs.view.fl

end Forms

end Sys2Proof.Machine
end

section
/-! PROOFS. Sums, differences and bitwise results of 16 bits with their flags (R207, R234), and the table "Register arithmetic". -/

namespace Sys2Proof.Machine

/-! ### Flags (R207) -/

@[simp] theorem flZ_flags (z c n v dc : Bool) : flZ (flags z c n v dc) = z := by revert z c n v dc; decide
@[simp] theorem flC_flags (z c n v dc : Bool) : flC (flags z c n v dc) = c := by revert z c n v dc; decide
@[simp] theorem flN_flags (z c n v dc : Bool) : flN (flags z c n v dc) = n := by revert z c n v dc; decide
@[simp] theorem flV_flags (z c n v dc : Bool) : flV (flags z c n v dc) = v := by revert z c n v dc; decide
@[simp] theorem flDC_flags (z c n v dc : Bool) : flDC (flags z c n v dc) = dc := by revert z c n v dc; decide

theorem bits_one_eq_testBit (w i : Nat) : (bits w i 1 == 1) = w.testBit i := by
  rw [Nat.testBit_eq_decide_div_mod_eq]
  rfl

theorem flZ_eq_testBit (fl : Nat) : flZ fl = fl.testBit 0 := bits_one_eq_testBit fl 0
theorem flC_eq_testBit (fl : Nat) : flC fl = fl.testBit 1 := bits_one_eq_testBit fl 1
theorem flN_eq_testBit (fl : Nat) : flN fl = fl.testBit 2 := bits_one_eq_testBit fl 2
theorem flV_eq_testBit (fl : Nat) : flV fl = fl.testBit 3 := bits_one_eq_testBit fl 3
theorem flDC_eq_testBit (fl : Nat) : flDC fl = fl.testBit 4 := bits_one_eq_testBit fl 4

/-- Each flag comes from one of the two sides. -/
theorem keepFl_testBit (keep r fl i : Nat) :
    (keepFl keep r fl).testBit i = ((r.testBit i && (31 - keep).testBit i) || (fl.testBit i && keep.testBit i)) := by
  show ((r &&& (31 - keep)) ||| (fl &&& keep)).testBit i = _
  rw [Nat.testBit_or, Nat.testBit_and, Nat.testBit_and]

/-- ADC and SBC leave DC alone. -/
theorem keepFl_dc (r fl : Nat) :
    flZ (keepFl 16 r fl) = flZ r ∧ flC (keepFl 16 r fl) = flC r ∧ flN (keepFl 16 r fl) = flN r ∧ flV (keepFl 16 r fl) = flV r ∧
      flDC (keepFl 16 r fl) = flDC fl := by
  simp only [flZ_eq_testBit, flC_eq_testBit, flN_eq_testBit, flV_eq_testBit, flDC_eq_testBit, keepFl_testBit]
  refine ⟨?_, ?_, ?_, ?_, ?_⟩ <;> simp [Nat.testBit]

theorem boolNat_le_one (b : Bool) : boolNat b ≤ 1 := by cases b <;> decide

/-! ### Sums and differences -/

/-- A 16-bit number as a signed one. -/
theorem signed16_of_lt {v : Nat} (h : v < 65536) : signed 16 v = if v < 32768 then (v : Int) else v - 65536 := by
  simp only [signed, Nat.reducePow, Nat.reduceSub, Nat.mod_eq_of_lt h]
  split <;> omega

theorem neg16_iff {v : Nat} (h : v < 65536) : neg16 v = true ↔ 32768 ≤ v := by
  simp [neg16, Nat.mod_eq_of_lt h]

/-- A 16-bit result that agrees with `i` modulo 2^16 is `i` but for signed overflow. -/
theorem overflow_iff {v : Nat} {i : Int} (hv : v < 65536) (h : i % 65536 = v) :
    ((decide (i < -32768) || decide (32767 < i)) = true) ↔ signed 16 v ≠ i := by
  rw [signed16_of_lt hv]
  simp only [Bool.or_eq_true, decide_eq_true_eq]
  split <;> omega

/-- What R234 says of a sum `v` of `x`, `y` and the carry `c`; DC is that of `kept`. -/
def sumFlags (kept x y c v fl : Nat) : Prop :=
  v = (x + y + c) % 65536 ∧ (flC fl = true ↔ 65536 ≤ x + y + c) ∧ (flV fl = true ↔ signed 16 v ≠ signed 16 x + signed 16 y + c) ∧
    signs v fl ∧ flDC fl = flDC kept

/-- What R234 says of a difference `v` of `x` and `y` with the borrow `c`. -/
def differenceFlags (kept x y c v fl : Nat) : Prop :=
  (v + y + c) % 65536 = x ∧ (flC fl = true ↔ x < y + c) ∧ (flV fl = true ↔ signed 16 v ≠ signed 16 x - signed 16 y - c) ∧
    signs v fl ∧ flDC fl = flDC kept

theorem add16_sumFlags (fl : Nat) {x y c : Nat} (hx : x < 65536) (hy : y < 65536) :
    sumFlags fl x y c (add16 fl x y c).val (add16 fl x y c).fl := by
  have hv : (x + y + c) % 65536 < 65536 := Nat.mod_lt _ (by decide)
  have hi : (signed 16 x + signed 16 y + (c : Int)) % 65536 = ((x + y + c) % 65536 : Nat) := by
    rw [signed16_of_lt hx, signed16_of_lt hy]
    split <;> split <;> omega
  refine ⟨rfl, ?_, ?_, ⟨?_, ?_⟩, ?_⟩ <;>
    simp only [add16, flC_flags, flV_flags, flZ_flags, flN_flags, flDC_flags, decide_eq_true_eq, beq_iff_eq]
  · exact overflow_iff hv hi
  · exact neg16_iff hv

theorem sub16_differenceFlags (fl : Nat) {x y c : Nat} (hx : x < 65536) (hy : y < 65536) (hc : c ≤ 1) :
    differenceFlags fl x y c (sub16 fl x y c).val (sub16 fl x y c).fl := by
  have hv : (x + 131072 - y - c) % 65536 < 65536 := Nat.mod_lt _ (by decide)
  have hi : (signed 16 x - signed 16 y - (c : Int)) % 65536 = ((x + 131072 - y - c) % 65536 : Nat) := by
    rw [signed16_of_lt hx, signed16_of_lt hy]
    split <;> split <;> omega
  refine ⟨?_, ?_, ?_, ⟨?_, ?_⟩, ?_⟩ <;>
    simp only [sub16, flC_flags, flV_flags, flZ_flags, flN_flags, flDC_flags, decide_eq_true_eq, beq_iff_eq]
  · omega
  · exact overflow_iff hv hi
  · exact neg16_iff hv

/-- R234: AND, OR and XOR. -/
theorem logic16_flags (fl : Nat) {r : Nat} (hr : r < 65536) :
    (logic16 fl r).val = r ∧ flV (logic16 fl r).fl = false ∧ signs (logic16 fl r).val (logic16 fl r).fl ∧
      flC (logic16 fl r).fl = flC fl ∧ flDC (logic16 fl r).fl = flDC fl := by
  refine ⟨Nat.mod_eq_of_lt hr, ?_, ⟨?_, ?_⟩, ?_, ?_⟩ <;>
    simp only [logic16, flC_flags, flV_flags, flZ_flags, flN_flags, flDC_flags, beq_iff_eq]
  rw [Nat.mod_eq_of_lt hr]
  exact neg16_iff hr

/-! ### The table "Register arithmetic" -/

theorem add16_lt (fl x y c : Nat) : (add16 fl x y c).val < 65536 := Nat.mod_lt _ (by decide)
theorem sub16_lt (fl x y c : Nat) : (sub16 fl x y c).val < 65536 := Nat.mod_lt _ (by decide)

/-- A register instruction of a group that every core has, with legal codes. -/
theorem State.issues_rr {s : State} {u : Nat} {op : Nat} {a b : Fin 32} {grp : Option Nat} (hc : s.canIssue u [enc op a b])
    (ha : regOk a = true) (hb : regOk b = true) (hg : hasGroup u grp = true) :
    s.issues u [enc op a b] (regOk a && regOk b) grp := ⟨hc, by rw [ha, hb]; rfl, hg⟩

theorem State.reads3.reads2 {s : State} {u a b x y fl : Nat} (h : s.reads3 u a b x y fl) : s.reads2 u a b x y := by
  obtain ⟨s1, s2, -, ha, hb, -⟩ := h
  exact ⟨s1, s2, ha, hb⟩

/-- What a row of the table says of its instruction: `eff` holds of fl as read, the flags before, both operands, the result and its flags. -/
def registerRow (i : Tid → Fin 32 → Fin 32 → Instr) (op : Nat) (eff : Nat → Nat → Nat → Nat → Nat → Nat → Prop) : Prop :=
  ∀ (s : State) (u : Tid) (a b : Fin 32) (x y fl : Nat), s.canIssue u [enc op a b] → regOk a = true → regOk b = true →
    s.reads3 u a b x y fl → x < 65536 → y < 65536 →
    ∃ t v fl', exec (i u a b) s = .next t ∧ v < 65536 ∧ eff fl (s.th u).fl x y v fl' ∧
      (if op = 0x06 then (s.th u).wordsBut (t.th u) [] else (s.th u).took (t.th u) a v) ∧
      ((a.val ≠ 25 ∨ op = 0x06) → (t.th u).fl = fl') ∧ s.ranOn t u 1

section Rows

variable {i : Tid → Fin 32 → Fin 32 → Instr} {op : Nat} {f : Nat → Nat → Nat → Res16} {eff : Nat → Nat → Nat → Nat → Nat → Nat → Prop}

theorem registerRow_of_mov (hop : op ≠ 6) (hx : ∀ u a b s, exec (i u a b) s = run s fun s => rr op u a b s (movBody u a b))
    (he : ∀ fl kept x y, eff fl kept x y y kept) : registerRow i op eff := by
  intro s u a b x y fl hc ha hb hr _ hy
  obtain ⟨t, ht, htook, hfl, hran⟩ := State.completes_movBody (State.issues_rr (grp := none) hc ha hb rfl) hr.reads2
  refine ⟨t, y, (s.th u).fl, (hx ..).trans ht, hy, he .., ?_, fun h => hfl (h.resolve_right hop), hran⟩
  rw [if_neg hop]
  exact htook

theorem registerRow_of_alu (hop : op ≠ 6) (hx : ∀ u a b s, exec (i u a b) s = run s fun s => rr op u a b s (aluBody u a b f))
    (he : ∀ fl kept x y, x < 65536 → y < 65536 → (f kept x y).val < 65536 ∧ eff fl kept x y (f kept x y).val (f kept x y).fl) :
    registerRow i op eff := by
  intro s u a b x y fl hc ha hb hr hxl hyl
  obtain ⟨t, ht, htook, hfl, hran⟩ := State.completes_aluBody f (State.issues_rr (grp := none) hc ha hb rfl) hr.reads2
  obtain ⟨hlt, heff⟩ := he fl (s.th u).fl x y hxl hyl
  refine ⟨t, _, _, (hx ..).trans ht, hlt, heff, ?_, fun h => hfl (h.resolve_right hop), hran⟩
  rw [if_neg hop]
  exact htook

theorem registerRow_of_carry (hop : op ≠ 6) (hx : ∀ u a b s, exec (i u a b) s = run s fun s => rr op u a b s (carryBody u a b 16 f))
    (he : ∀ fl kept x y, x < 65536 → y < 65536 →
      (f fl x y).val < 65536 ∧ eff fl kept x y (f fl x y).val (keepFl 16 (f fl x y).fl kept)) :
    registerRow i op eff := by
  intro s u a b x y fl hc ha hb hr hxl hyl
  obtain ⟨t, ht, htook, hfl, hran⟩ := State.completes_carryBody 16 f (State.issues_rr (grp := none) hc ha hb rfl) hr
  obtain ⟨hlt, heff⟩ := he fl (s.th u).fl x y hxl hyl
  refine ⟨t, _, _, (hx ..).trans ht, hlt, heff, ?_, fun h => hfl (h.resolve_right hop), hran⟩
  rw [if_neg hop]
  exact htook

theorem registerRow_of_cmp (hop : op = 6) (hx : ∀ u a b s, exec (i u a b) s = run s fun s => rr op u a b s (cmpBody u a b f))
    (he : ∀ fl kept x y, x < 65536 → y < 65536 → (f kept x y).val < 65536 ∧ eff fl kept x y (f kept x y).val (f kept x y).fl) :
    registerRow i op eff := by
  intro s u a b x y fl hc ha hb hr hxl hyl
  obtain ⟨t, ht, hwords, hfl, hran⟩ := State.completes_cmpBody f (State.issues_rr (grp := none) hc ha hb rfl) hr.reads2
  obtain ⟨hlt, heff⟩ := he fl (s.th u).fl x y hxl hyl
  refine ⟨t, _, _, (hx ..).trans ht, hlt, heff, ?_, fun _ => hfl, hran⟩
  rw [if_pos hop]
  exact hwords

end Rows

/-- A difference without a borrow, in the words of the table's rows SUB and CMP. -/
theorem sub16_no_borrow (kept : Nat) {x y : Nat} (hx : x < 65536) (hy : y < 65536) :
    ((sub16 kept x y 0).val + y) % 65536 = x ∧ (flC (sub16 kept x y 0).fl = true ↔ x < y) ∧
      (flV (sub16 kept x y 0).fl = true ↔ signed 16 (sub16 kept x y 0).val ≠ signed 16 x - signed 16 y) ∧
      signs (sub16 kept x y 0).val (sub16 kept x y 0).fl ∧ flDC (sub16 kept x y 0).fl = flDC kept := by
  simpa only [differenceFlags, Nat.add_zero, Int.natCast_zero, Int.sub_zero] using sub16_differenceFlags kept hx hy (Nat.zero_le 1)

theorem land_lt (x : Nat) {y : Nat} (hy : y < 65536) : Nat.land x y < 65536 := Nat.and_lt_two_pow (n := 16) x hy
theorem lor_lt {x y : Nat} (hx : x < 65536) (hy : y < 65536) : Nat.lor x y < 65536 := Nat.or_lt_two_pow (n := 16) hx hy
theorem xor_lt {x y : Nat} (hx : x < 65536) (hy : y < 65536) : Nat.xor x y < 65536 := Nat.xor_lt_two_pow (n := 16) hx hy

/-- R234: the flags of a bitwise result, in the words of the table's rows. -/
theorem logic16_row (kept : Nat) {r : Nat} (hr : r < 65536) :
    (logic16 kept r).val < 65536 ∧ (logic16 kept r).val = r ∧ flV (logic16 kept r).fl = false ∧
      signs (logic16 kept r).val (logic16 kept r).fl ∧ flC (logic16 kept r).fl = flC kept ∧ flDC (logic16 kept r).fl = flDC kept :=
  ⟨Nat.mod_lt _ (by decide), logic16_flags kept hr⟩

/-- The flags of ADC and SBC as written: the four of the result, and DC as it was. -/
theorem signs_keepFl_dc {v r fl : Nat} (h : signs v r) : signs v (keepFl 16 r fl) := by
  obtain ⟨hz, -, hn, -, -⟩ := keepFl_dc r fl
  unfold signs
  rw [hz, hn]
  exact h

theorem sumFlags_keepFl {k x y c v r fl : Nat} (h : sumFlags k x y c v r) : sumFlags fl x y c v (keepFl 16 r fl) := by
  obtain ⟨hv, hC, hV, hs, -⟩ := h
  obtain ⟨-, kC, -, kV, kDC⟩ := keepFl_dc r fl
  exact ⟨hv, kC ▸ hC, kV ▸ hV, signs_keepFl_dc hs, kDC⟩

theorem differenceFlags_keepFl {k x y c v r fl : Nat} (h : differenceFlags k x y c v r) :
    differenceFlags fl x y c v (keepFl 16 r fl) := by
  obtain ⟨hv, hC, hV, hs, -⟩ := h
  obtain ⟨-, kC, -, kV, kDC⟩ := keepFl_dc r fl
  exact ⟨hv, kC ▸ hC, kV ▸ hV, signs_keepFl_dc hs, kDC⟩

/-- Settles O24: one row of the table after the other, by how its instruction's body completes and by what its operation gives. -/
theorem registerArithmetic : Obligations.RegisterArithmetic := by
  unfold Obligations.RegisterArithmetic
  intro e he
  change registerRow e.1 e.2.1 e.2.2
  revert e
  simp only [List.forall_mem_cons]
  refine ⟨?mov, ?add, ?adc, ?sub, ?sbc, ?cmp, ?and, ?or, ?xor, fun _ h => nomatch h⟩
  case mov => exact registerRow_of_mov (by decide) (fun _ _ _ _ => rfl) fun _ _ _ _ => ⟨rfl, rfl⟩
  case add => exact registerRow_of_alu (by decide) (fun _ _ _ _ => rfl) fun _ kept x y hx hy =>
      ⟨add16_lt .., by simpa only [sumFlags, Nat.add_zero, Int.natCast_zero, Int.add_zero] using add16_sumFlags (c := 0) kept hx hy⟩
  case adc => exact registerRow_of_carry (by decide) (fun _ _ _ _ => rfl) fun fl _ _ _ hx hy =>
      ⟨add16_lt .., sumFlags_keepFl (add16_sumFlags fl hx hy)⟩
  case sub => exact registerRow_of_alu (by decide) (fun _ _ _ _ => rfl) fun _ kept _ _ hx hy => ⟨sub16_lt .., sub16_no_borrow kept hx hy⟩
  case sbc => exact registerRow_of_carry (by decide) (fun _ _ _ _ => rfl) fun fl _ _ _ hx hy =>
      ⟨sub16_lt .., differenceFlags_keepFl (sub16_differenceFlags fl hx hy (boolNat_le_one _))⟩
  case cmp => exact registerRow_of_cmp rfl (fun _ _ _ _ => rfl) fun _ kept _ _ hx hy => ⟨sub16_lt .., sub16_no_borrow kept hx hy⟩
  case and => exact registerRow_of_alu (by decide) (fun _ _ _ _ => rfl) fun _ kept x _ _ hy => logic16_row kept (land_lt x hy)
  case or => exact registerRow_of_alu (by decide) (fun _ _ _ _ => rfl) fun _ kept _ _ hx hy => logic16_row kept (lor_lt hx hy)
  case xor => exact registerRow_of_alu (by decide) (fun _ _ _ _ => rfl) fun _ kept _ _ hx hy => logic16_row kept (xor_lt hx hy)

end Sys2Proof.Machine
end

section
/-! PROOFS. DADD and DSUB (R239): the four digits and their carries one by one, and what they come to on valid packed decimals. -/

namespace Sys2Proof.Machine

/-! ### Packed digits -/

/-- `n` digits packed in a number, digit 0 lowest. -/
def packDigits (d : Nat → Nat) : Nat → Nat
  | 0 => 0
  | n + 1 => packDigits d n + d n * 16 ^ n

theorem packDigits_lt {d : Nat → Nat} (h : ∀ i, d i < 16) (n : Nat) : packDigits d n < 16 ^ n := by
  induction n with
  | zero => exact Nat.one_pos
  | succ n ih =>
    have : d n * 16 ^ n ≤ 15 * 16 ^ n := Nat.mul_le_mul_right _ (Nat.le_of_lt_succ (h n))
    rw [packDigits, Nat.pow_succ]
    omega

theorem digit_eq_div_mod (w i : Nat) : digit w i = w / 16 ^ i % 16 :=
  congrArg (fun b => w / b % 16) (Nat.pow_mul (a := 2) (m := 4) (n := i))

theorem digit_lt (w i : Nat) : digit w i < 16 := bits_lt ..

/-- Each digit reads back. -/
theorem digit_packDigits {d : Nat → Nat} (h : ∀ i, d i < 16) {n i : Nat} (hi : i < n) : digit (packDigits d n) i = d i := by
  rw [digit_eq_div_mod]
  induction n with
  | zero => omega
  | succ n ih =>
    rw [packDigits]
    rcases Nat.lt_succ_iff_lt_or_eq.1 hi with hlt | rfl
    · obtain ⟨k, rfl⟩ := Nat.exists_eq_add_of_lt hlt
      have e : d (i + k + 1) * 16 ^ (i + k + 1) = 16 ^ i * (16 * (d (i + k + 1) * 16 ^ k)) := by
        rw [Nat.pow_succ, Nat.pow_add]
        ac_rfl
      rw [e, Nat.add_mul_div_left _ _ (Nat.pow_pos (by decide)), Nat.add_mul_mod_self_left, ih (by omega)]
    · rw [Nat.add_mul_div_right _ _ (Nat.pow_pos (by decide)), Nat.div_eq_of_lt (packDigits_lt h i), Nat.zero_add, Nat.mod_eq_of_lt (h i)]

/-! ### One digit, and the run of the carry -/

/-- A digit's sum or difference with the carry or borrow into it. -/
def decSum (sub : Bool) (x y c : Int) : Int := if sub then x - y - c else x + y + c

/-- Whether it carries or borrows. -/
def decOut (sub : Bool) (n : Int) : Bool := if sub then decide (n < 0) else decide (10 ≤ n)

/-- The digit it leaves. -/
def decPut (sub : Bool) (n : Int) : Int := if decOut sub n then (n + (if sub then 10 else -10)) % 16 else n

/-- The carry or borrow into digit `i`, from DC up. -/
def decCarry (sub : Bool) (fl a b : Nat) : Nat → Nat
  | 0 => boolNat (flDC fl)
  | i + 1 => if decOut sub (decSum sub (digit a i) (digit b i) (decCarry sub fl a b i)) then 1 else 0

/-- Digit `i` of the result. -/
def decDigit (sub : Bool) (fl a b i : Nat) : Nat := (decPut sub (decSum sub (digit a i) (digit b i) (decCarry sub fl a b i))).toNat

/-- Whether one of the first `n` digits of either operand is none. -/
def decInvalid (a b n : Nat) : Bool := (List.range n).any fun i => decide (9 < digit a i) || decide (9 < digit b i)

theorem decCarry_le_one (sub : Bool) (fl a b i : Nat) : decCarry sub fl a b i ≤ 1 := by
  cases i with
  | zero => exact boolNat_le_one _
  | succ i => rw [decCarry]; split <;> omega

theorem decPut_range (sub : Bool) {x y c : Nat} (hx : x < 16) (hc : c ≤ 1) :
    0 ≤ decPut sub (decSum sub x y c) ∧ decPut sub (decSum sub x y c) < 16 := by
  unfold decPut decOut decSum
  cases sub <;> simp only [Bool.false_eq_true, if_false, if_true, decide_eq_true_eq] <;> split <;> omega

theorem decDigit_cast (sub : Bool) (fl a b i : Nat) :
    (decDigit sub fl a b i : Int) = decPut sub (decSum sub (digit a i) (digit b i) (decCarry sub fl a b i)) :=
  Int.toNat_of_nonneg (decPut_range sub (digit_lt a i) (decCarry_le_one ..)).1

theorem decDigit_lt (sub : Bool) (fl a b i : Nat) : decDigit sub fl a b i < 16 := by
  have := (decPut_range sub (y := digit b i) (digit_lt a i) (decCarry_le_one sub fl a b i)).2
  rw [← decDigit_cast] at this
  omega

theorem decInvalid_succ (a b n : Nat) : decInvalid a b (n + 1) = (decInvalid a b n || decide (9 < digit a n) || decide (9 < digit b n)) := by
  simp only [decInvalid, List.range_succ, List.any_append, List.any_cons, List.any_nil, Bool.or_false, Bool.or_assoc]

theorem decOut_add (x y c : Nat) : decOut false (decSum false x y c) = decide (10 ≤ x + y + c) :=
  decide_eq_decide.2 (by simp only [decSum, Bool.false_eq_true, if_false]; omega)

theorem decOut_sub (x y c : Nat) : decOut true (decSum true x y c) = decide ((x : Int) - y - c < 0) := rfl

theorem decPut_add (x y c : Nat) : (decPut false (decSum false x y c)).toNat = if 10 ≤ x + y + c then (x + y + c - 10) % 16 else x + y + c := by
  rw [decPut, decOut_add, decSum]
  simp only [decide_eq_true_eq, Bool.false_eq_true, if_false]
  split <;> omega

theorem decPut_sub (x y c : Nat) :
    (decPut true (decSum true x y c)).toNat = if (x : Int) - y - c < 0 then (((x : Int) - y - c + 10) % 16).toNat else ((x : Int) - y - c).toNat := by
  rw [decPut, decOut_sub, decSum]
  simp only [decide_eq_true_eq, if_true]
  split <;> rfl

/-- R239: DADD and DSUB are the four digits' steps one after the other. -/
theorem dec16_eq (sub : Bool) (fl a b : Nat) :
    dec16 sub fl a b = ⟨packDigits (decDigit sub fl a b) 4, flags (packDigits (decDigit sub fl a b) 4 == 0) (flC fl) (flN fl)
      (decInvalid a b 4) (decCarry sub fl a b 4 == 1)⟩ := by
  unfold dec16
  extract_lets step
  have hfold : ∀ n, (List.range n).foldl step (0, boolNat (flDC fl), false) =
      (packDigits (decDigit sub fl a b) n, decCarry sub fl a b n, decInvalid a b n) := by
    intro n
    induction n with
    | zero => rfl
    | succ n ih =>
      rw [List.range_succ, List.foldl_append, ih, List.foldl_cons, List.foldl_nil]
      simp only [step, packDigits, decCarry, decDigit, decInvalid_succ]
      cases sub
      · simp only [Bool.false_eq_true, if_false, decPut_add, decOut_add, decide_eq_true_eq]
        split <;> rfl
      · simp only [if_true, decPut_sub, decOut_sub, decide_eq_true_eq]
        split <;> rfl
  rw [hfold]

/-! ### The result digit by digit -/

theorem digit_dec16 (sub : Bool) (fl a b : Nat) {i : Nat} (hi : i < 4) : digit (dec16 sub fl a b).val i = decDigit sub fl a b i := by
  rw [dec16_eq]
  exact digit_packDigits (decDigit_lt sub fl a b) hi

theorem dec16_lt (sub : Bool) (fl a b : Nat) : (dec16 sub fl a b).val < 65536 := by
  rw [dec16_eq]
  exact packDigits_lt (decDigit_lt sub fl a b) 4

theorem dec16_dc (sub : Bool) (fl a b : Nat) : flDC (dec16 sub fl a b).fl = true ↔ decCarry sub fl a b 4 = 1 := by
  simp only [dec16_eq, flDC_flags, beq_iff_eq]

theorem dec16_z (sub : Bool) (fl a b : Nat) : flZ (dec16 sub fl a b).fl = true ↔ (dec16 sub fl a b).val = 0 := by
  simp only [dec16_eq, flZ_flags, beq_iff_eq]

theorem dec16_v (sub : Bool) (fl a b : Nat) : flV (dec16 sub fl a b).fl = true ↔ ∃ i, i < 4 ∧ (9 < digit a i ∨ 9 < digit b i) := by
  simp only [dec16_eq, flV_flags, decInvalid, List.any_eq_true, List.mem_range, Bool.or_eq_true, decide_eq_true_eq]

/-- DADD and DSUB leave C and N alone. -/
theorem keepFl_cn (r fl : Nat) :
    flZ (keepFl 6 r fl) = flZ r ∧ flC (keepFl 6 r fl) = flC fl ∧ flN (keepFl 6 r fl) = flN fl ∧ flV (keepFl 6 r fl) = flV r ∧
      flDC (keepFl 6 r fl) = flDC r := by
  simp only [flZ_eq_testBit, flC_eq_testBit, flN_eq_testBit, flV_eq_testBit, flDC_eq_testBit, keepFl_testBit]
  refine ⟨?_, ?_, ?_, ?_, ?_⟩ <;> simp [Nat.testBit]

/-! ### The two instructions -/

/-- What R239 says of DADD or DSUB: `sum` of two digits and the carry into them, and where it carries `out`. -/
def decimalRow (i : Tid → Fin 32 → Fin 32 → Instr) (op : Nat) (sum : Int → Int → Int → Int) (out : Int → Bool) : Prop :=
  ∀ (s : State) (u : Tid) (a b : Fin 32) (x y fl : Nat), s.canIssue u [enc op a b] → regOk a = true → regOk b = true →
    s.reads3 u a b x y fl → x < 65536 → y < 65536 →
    ∃ t v, ∃ c : Nat → Nat, exec (i u a b) s = .next t ∧ v < 65536 ∧ c 0 = boolNat (flDC fl) ∧
      (∀ i, i < 4 → (c (i + 1) = if out (sum (digit x i) (digit y i) (c i)) then 1 else 0) ∧
        (digit v i : Int) = if out (sum (digit x i) (digit y i) (c i)) then
            (sum (digit x i) (digit y i) (c i) + (if op = 0x0F then -10 else 10)) % 16
          else sum (digit x i) (digit y i) (c i)) ∧
      (s.th u).took (t.th u) a v ∧
      (a.val ≠ 25 → (flDC (t.th u).fl = true ↔ c 4 = 1) ∧ (flV (t.th u).fl = true ↔ ∃ i, i < 4 ∧ (9 < digit x i ∨ 9 < digit y i)) ∧
        (flZ (t.th u).fl = true ↔ v = 0) ∧ flC (t.th u).fl = flC (s.th u).fl ∧ flN (t.th u).fl = flN (s.th u).fl) ∧ s.ranOn t u 1

theorem hasGroup_decimal (u : Nat) : hasGroup u (some 1) = true := by
  unfold hasGroup featWord
  cases isHouseThread u <;> rfl

theorem decimalRow_of_dec16 (sub : Bool) {i : Tid → Fin 32 → Fin 32 → Instr} {op : Nat}
    (hop : (if op = 0x0F then -10 else 10) = if sub then 10 else (-10 : Int))
    (hx : ∀ u a b s, exec (i u a b) s =
      run s fun s => s.issue u [enc op a b] (regOk a && regOk b) (some 1) (carryBody u a b 6 (dec16 sub))) :
    decimalRow i op (decSum sub) (decOut sub) := by
  intro s u a b x y fl hc ha hb hr _ _
  obtain ⟨t, ht, htook, hfl, hran⟩ := State.completes_carryBody 6 (dec16 sub) (State.issues_rr hc ha hb (hasGroup_decimal u)) hr
  refine ⟨t, _, decCarry sub fl x y, (hx ..).trans ht, dec16_lt .., rfl, fun i hi => ⟨rfl, ?_⟩, htook, fun hne => ?_, hran⟩
  · rw [digit_dec16 sub fl x y hi, decDigit_cast, hop]
    rfl
  · obtain ⟨kZ, kC, kN, kV, kDC⟩ := keepFl_cn (dec16 sub fl x y).fl (s.th u).fl
    rw [hfl hne, kZ, kC, kN, kV, kDC]
    exact ⟨dec16_dc .., dec16_v .., dec16_z .., rfl, rfl⟩

/-! ### Valid packed decimals -/

theorem forall_digit {p : Nat → Prop} (h : ∀ i, i < 4 → p i) : p 0 ∧ p 1 ∧ p 2 ∧ p 3 :=
  ⟨h 0 (by decide), h 1 (by decide), h 2 (by decide), h 3 (by decide)⟩

section Valid

variable {fl a b : Nat} (hd : ∀ i, i < 4 → digit a i ≤ 9 ∧ digit b i ≤ 9)
include hd

/-- On decimal digits a digit's sum is what it leaves and ten times what it carries. -/
theorem decDigit_add {i : Nat} (hi : i < 4) :
    decDigit false fl a b i ≤ 9 ∧ decDigit false fl a b i + 10 * decCarry false fl a b (i + 1) = digit a i + digit b i + decCarry false fl a b i := by
  obtain ⟨ha, hb⟩ := hd i hi
  have hc := decCarry_le_one false fl a b i
  rw [decDigit, decPut_add, decCarry, decOut_add]
  simp only [decide_eq_true_eq]
  split <;> omega

theorem decDigit_sub {i : Nat} (hi : i < 4) :
    decDigit true fl a b i ≤ 9 ∧ decDigit true fl a b i + digit b i + decCarry true fl a b i = digit a i + 10 * decCarry true fl a b (i + 1) := by
  obtain ⟨ha, hb⟩ := hd i hi
  have hc := decCarry_le_one true fl a b i
  rw [decDigit, decPut_sub, decCarry, decOut_sub]
  simp only [decide_eq_true_eq]
  split <;> omega

theorem dec16_v_valid (sub : Bool) : flV (dec16 sub fl a b).fl = false := by
  rw [Bool.eq_false_iff, Ne, dec16_v]
  rintro ⟨i, hi, h⟩
  have := hd i hi
  omega

omit hd in
theorem packedValue_dec16 (sub : Bool) (fl a b : Nat) : packedValue (dec16 sub fl a b).val =
    decDigit sub fl a b 0 + 10 * decDigit sub fl a b 1 + 100 * decDigit sub fl a b 2 + 1000 * decDigit sub fl a b 3 := by
  simp only [packedValue, digit_dec16, Nat.reduceLT]

theorem packedValue_lt : packedValue a < 10000 ∧ packedValue b < 10000 := by
  obtain ⟨h0, h1, h2, h3⟩ := forall_digit hd
  unfold packedValue
  omega

/-- R239: the sum with its carry out. -/
theorem packedValue_dadd : packedValue (dec16 false fl a b).val < 10000 ∧
    packedValue (dec16 false fl a b).val + 10000 * decCarry false fl a b 4 = packedValue a + packedValue b + boolNat (flDC fl) := by
  obtain ⟨h0, h1, h2, h3⟩ := forall_digit fun i hi => decDigit_add (fl := fl) hd hi
  simp only [Nat.zero_add, Nat.reduceAdd] at h0 h1 h2 h3
  have hc : decCarry false fl a b 0 = boolNat (flDC fl) := rfl
  rw [packedValue_dec16]
  unfold packedValue
  omega

/-- R239: the difference with its borrow out. -/
theorem packedValue_dsub : packedValue (dec16 true fl a b).val < 10000 ∧
    packedValue (dec16 true fl a b).val + packedValue b + boolNat (flDC fl) = packedValue a + 10000 * decCarry true fl a b 4 := by
  obtain ⟨h0, h1, h2, h3⟩ := forall_digit fun i hi => decDigit_sub (fl := fl) hd hi
  simp only [Nat.zero_add, Nat.reduceAdd] at h0 h1 h2 h3
  have hc : decCarry true fl a b 0 = boolNat (flDC fl) := rfl
  rw [packedValue_dec16]
  unfold packedValue
  omega

end Valid

/-- Settles O26: the digits' steps are what the instructions do, and on valid digits they add up to decimal arithmetic. -/
theorem packedDecimal : Obligations.PackedDecimal := by
  unfold Obligations.PackedDecimal
  constructor
  · intro e he
    change decimalRow e.1 e.2.1 e.2.2.1 e.2.2.2
    revert e
    simp only [List.forall_mem_cons]
    refine ⟨?dadd, ?dsub, fun _ h => nomatch h⟩
    case dadd => exact decimalRow_of_dec16 false rfl fun _ _ _ _ => rfl
    case dsub => exact decimalRow_of_dec16 true rfl fun _ _ _ _ => rfl
  · intro fl a b _ _ hd
    have hadd := packedValue_dadd (fl := fl) hd
    have hsub := packedValue_dsub (fl := fl) hd
    obtain ⟨ha, hb⟩ := packedValue_lt hd
    have hc := boolNat_le_one (flDC fl)
    have hca := decCarry_le_one false fl a b 4
    have hcs := decCarry_le_one true fl a b 4
    refine ⟨?_, ?_, dec16_v_valid hd false, ?_, ?_, dec16_v_valid hd true⟩
    · omega
    · rw [dec16_dc]; omega
    · omega
    · rw [dec16_dc]; omega

end Sys2Proof.Machine
end

section
/-! PROOFS. Transfers and the register window (R188, R189, R209, R210): where a jump lands, and what a slide down moves. -/

namespace Sys2Proof.Machine

/-! ### The thread but for its place in the program -/

/-- The registers, the window and the trap state of the two are the same; the packets count instructions (R167). -/
structure Thread.sameWindow (a b : Thread) : Prop where
  eq : b = { a with since := b.since, slots := b.slots, steps := b.steps, shades := b.shades, pc := b.pc }
  held : b.held = a.held

theorem Thread.sameWindow_trans {a b c : Thread} (h : a.sameWindow b) (k : b.sameWindow c) : a.sameWindow c := by
  refine ⟨?_, k.held.trans h.held⟩
  rw [k.eq, h.eq]

theorem Thread.sameButSince.sameWindow {a b : Thread} (h : a.sameButSince b) : a.sameWindow b := by
  unfold Thread.sameButSince at h
  rw [h]
  exact ⟨rfl, rfl⟩

namespace Thread.sameWindow

variable {a b : Thread} (h : a.sameWindow b)
include h

theorem file : b.file = a.file := by rw [h.eq]
theorem fl : b.fl = a.fl := by rw [h.eq]
theorem frame : b.frame = a.frame := by rw [h.eq]
theorem low : b.low = a.low := by rw [h.eq]
theorem spilled : b.spilled = a.spilled := by rw [h.eq]
theorem mchk : b.mchk = a.mchk := by rw [h.eq]
theorem inTrap : b.inTrap = a.inTrap := by rw [h.eq]
theorem spillDue : b.spillDue = a.spillDue := by rw [h.eq]; rfl
theorem keyWord (k : Nat) : b.keyWord k = a.keyWord k := by rw [h.eq]; rfl
theorem wordsBut : a.wordsBut b [] := fun k _ => by rw [h.file]

theorem sameRest : a.sameRest b := by
  refine ⟨?_, h.held⟩
  rw [h.eq]

end Thread.sameWindow

/-- Of the device only threads, counters and free values differ, and thread `u` has the same registers and window. -/
structure State.sameWindow (s t : State) (u : Nat) : Prop where
  only : State.onlyThread [.threads, .regs, .free] s t u
  thread : (s.th u).sameWindow (t.th u)

theorem State.sameWindow_trans {s t r : State} {u : Nat} (h : s.sameWindow t u) (k : t.sameWindow r u) : s.sameWindow r u :=
  ⟨State.onlyThread_trans h.only k.only, Thread.sameWindow_trans h.thread k.thread⟩

theorem State.sameWindow.sram {s t : State} {u : Nat} (h : s.sameWindow t u) : t.sram = s.sram :=
  (h.only.frame.2 .sram (by decide)).1

theorem State.quiet.sameWindow {s t : State} (h : s.quiet t) (u : Nat) : s.sameWindow t u := ⟨h.onlyThread u, (h.threads u).sameWindow⟩

theorem State.setTh_sameWindow (s : State) (u : Nat) {f : Thread → Thread} (hf : (s.th u).sameWindow (f (s.th u))) :
    s.sameWindow (s.setTh u f) u where
  only := State.setTh_onlyThread _ _ _ (by decide)
  thread := by rwa [State.th_setTh_self]

theorem State.issued_sameWindow (s : State) (u : Nat) : s.sameWindow (s.issued u) u where
  only := s.issued_onlyThread u
  thread := by
    refine ⟨?_, (s.issued_sameRest u).2⟩
    have h := (s.issued_sameReads u).view
    unfold Thread.sameView at h
    rw [h]

/-- The operands of an instruction have been read. -/
theorem State.issued_drawn_sameWindow (s : State) (u n : Nat) : s.sameWindow ((s.issued u).drawn n) u :=
  State.sameWindow_trans (s.issued_sameWindow u) ((State.drawn_quiet _ n).sameWindow u)

/-! ### Where a jump lands -/

/-- R188, R211: a transfer that is resolved, to an address within the code store: the thread goes on there with its registers and
window. -/
theorem State.jump_lands {s : State} {u pc next target dest : Nat} {taken : Bool} (hd : dest < 131072) (hm : (s.th u).mchk = false) :
    ∃ t, (((s.resolve u pc next target taken).setTh u Thread.ageShades).goto u dest).pendingTraps u = t ∧ s.sameWindow t u ∧
      (t.th u).pc = dest := by
  let aged := (s.resolve u pc next target taken).setTh u Thread.ageShades
  let t := aged.setTh u fun th => { th with pc := dest }
  have h1 : s.sameWindow aged u :=
    State.sameWindow_trans ((s.resolve_quiet u pc next target taken).sameWindow u) (State.setTh_sameWindow _ _ ⟨rfl, rfl⟩)
  have h2 : s.sameWindow t u := State.sameWindow_trans h1 (State.setTh_sameWindow _ _ ⟨rfl, rfl⟩)
  have hgo : aged.goto u dest = t := by
    rw [State.goto, if_neg (by omega)]
  refine ⟨t, ?_, h2, by rw [State.th_setTh_self]⟩
  rw [hgo]
  exact State.pendingTraps_of_mchk (h2.thread.mchk.trans hm)

/-! ### Free words of the window file -/

/-- Words `k` to `k + n - 1` of thread `u`'s window file may differ, and the count of free values. -/
structure State.freed (s t : State) (u k n : Nat) : Prop where
  only : State.onlyThread [.threads, .free] s t u
  thread : t.th u = { s.th u with file := (t.th u).file }
  words : ∀ j, j < k ∨ k + n ≤ j → (t.th u).file.get 0 j = (s.th u).file.get 0 j

theorem State.freeKeys_succ (s : State) (u k n : Nat) : s.freeKeys u k (n + 1) =
    ((s.drawn (s.freeCtr + 1)).setTh u fun th => th.setKey k (Config.freeWord s.freeCtr)).freeKeys u (k + 1) n := rfl

theorem Thread.setKey_of_lt (th : Thread) {k : Nat} (v : Word) (h : k < flKey) : th.setKey k v = { th with file := th.file.set 0 k v } :=
  if_neg (Nat.ne_of_lt h)

theorem State.freeKeys_freed (n : Nat) : ∀ (s : State) (u k : Nat), k + n ≤ flKey → s.freed (s.freeKeys u k n) u k n := by
  induction n with
  | zero => exact fun s u k _ => ⟨State.onlyThread_refl .., rfl, fun _ _ => rfl⟩
  | succ n ih =>
    intro s u k hk
    rw [State.freeKeys_succ]
    generalize hs1 : (s.drawn (s.freeCtr + 1)).setTh u (fun th => th.setKey k (Config.freeWord s.freeCtr)) = s1
    have hth : s1.th u = { s.th u with file := (s.th u).file.set 0 k (Config.freeWord s.freeCtr) } := by
      rw [← hs1, State.th_setTh_self, Thread.setKey_of_lt _ _ (by omega)]
      rfl
    have ho : State.onlyThread [.threads, .free] s s1 u := by
      rw [← hs1]
      exact State.onlyThread_trans (State.drawn_onlyThread _ _ _ (by decide)) (State.setTh_onlyThread _ _ _ (by decide))
    have h := ih s1 u (k + 1) (by omega)
    refine ⟨State.onlyThread_trans ho h.only, by rw [h.thread, hth], fun j hj => ?_⟩
    rw [h.words j (by omega), hth]
    exact Tab.get_set_ne _ _ _ _ (by omega)

/-! ### The spill (R210, step 1) -/

theorem State.sramWord_setSram_core (s : State) (k a a' v : Nat) :
    (s.setSram k a v).sramWord k a' = if a = a' then v % 65536 else s.sramWord k a' := by
  simp only [State.sramWord, State.setSram, Tab.get_set, Nat.add_left_cancel_iff]
  split <;> simp [word]

/-- `n` words stored one after the other. -/
def State.storeRow (s : State) (k base : Nat) (f : Nat → Nat) (n : Nat) : State :=
  (List.range n).foldl (fun (s : State) i => s.setSram k (base + i) (f i)) s

theorem State.storeRow_succ (s : State) (k base : Nat) (f : Nat → Nat) (n : Nat) :
    s.storeRow k base f (n + 1) = (s.storeRow k base f n).setSram k (base + n) (f n) := by
  simp [State.storeRow, List.range_succ]

theorem State.storeRow_threads (s : State) (k base : Nat) (f : Nat → Nat) (n : Nat) : (s.storeRow k base f n).threads = s.threads := by
  induction n with
  | zero => rfl
  | succ n ih => rw [State.storeRow_succ]; exact ih

theorem State.storeRow_frame (s : State) (k base : Nat) (f : Nat → Nat) (n : Nat) : State.frame [.sram] s (s.storeRow k base f n) := by
  induction n with
  | zero => exact frame_refl ..
  | succ n ih =>
    rw [State.storeRow_succ]
    exact frame_trans ih (State.frame_setSram ..)

theorem State.storeRow_sramWord (s : State) (k base : Nat) (f : Nat → Nat) {n j : Nat} (hj : j < n) :
    (s.storeRow k base f n).sramWord k (base + j) = f j % 65536 := by
  induction n with
  | zero => omega
  | succ n ih =>
    rw [State.storeRow_succ, State.sramWord_setSram_core]
    rcases Nat.lt_succ_iff_lt_or_eq.1 hj with hlt | rfl
    · rw [if_neg (by omega), ih hlt]
    · rw [if_pos rfl]

/-- Where thread `u`'s next slot is spilled (R214). -/
def State.spillBase (s : State) (u : Nat) : Nat := 0x4000 + 1024 * (u % 8) + 14 * (s.th u).spilled

/-- R210, step 1: the lowest slot goes to the spill area where the window is full. -/
def State.spillSlot (s : State) (u : Nat) : State :=
  if (s.th u).spillDue then
    (s.storeRow (coreOf u) (s.spillBase u) (fun i => ((s.th u).keyWord ((s.th u).low * 14 + i)).toNat) 14).setTh u
      fun th => { th with spilled := th.spilled + 1, low := (th.low + 1) % 16 }
  else s

/-- R210: frame `f` opens; `m` words from its start and its last six are free values. -/
def State.openFrame (s : State) (u f m : Nat) : State :=
  ((s.setTh u fun th => { th with frame := f }).freeKeys u (f * 14) m).freeKeys u (f * 14 + 8) 6

/-- The link pair of frame `f` takes a return address. -/
def Thread.putLink (th : Thread) (f a : Nat) : Thread := (th.setKey (f * 14 + 6) (word a)).setKey (f * 14 + 7) (word (a / 65536 % 2))

theorem State.slideDown_full {s : State} {u : Nat} (link : Option Nat) (hd : (s.th u).spillDue = true) (hs : (s.th u).spilled = 73) :
    s.slideDown u link = none := by
  simp [State.slideDown, hd, hs]

/-- The window can slide down: no slot is to be spilled, or the spill area has room. -/
def Thread.hasRoom (th : Thread) : Prop := th.spillDue = false ∨ th.spilled ≠ 73

theorem State.slideDown_some {s : State} {u : Nat} (a : Nat) (h : (s.th u).hasRoom) :
    s.slideDown u (some a) = some (((s.spillSlot u).openFrame u (((s.th u).frame + 1) % 16) 6).setTh u
      fun th => th.putLink (((s.th u).frame + 1) % 16) a) := by
  have hr : ((s.th u).spillDue && (s.th u).spilled == 73) = false := by
    rcases h with h | h <;> simp [h]
  simp only [State.slideDown, hr]
  rfl

theorem State.slideDown_none {s : State} {u : Nat} (h : (s.th u).hasRoom) :
    s.slideDown u none = some ((s.spillSlot u).openFrame u (((s.th u).frame + 1) % 16) 8) := by
  have hr : ((s.th u).spillDue && (s.th u).spilled == 73) = false := by
    rcases h with h | h <;> simp [h]
  simp only [State.slideDown, hr]
  rfl

/-- R210: from `s` to `t` the window of thread `u` has slid down one frame: the words outside the new frame are as before, and the slot
spilled, if any, lies in the spill area. -/
structure State.slid (s t : State) (u : Nat) : Prop where
  only : State.onlyThread [.threads, .regs, .free, .sram] s t u
  thread : t.th u =
    { s.th u with
      file := (t.th u).file, since := (t.th u).since, slots := (t.th u).slots, steps := (t.th u).steps, shades := (t.th u).shades,
      pc := (t.th u).pc, frame := ((s.th u).frame + 1) % 16,
      low := if (s.th u).spillDue then ((s.th u).low + 1) % 16 else (s.th u).low,
      spilled := if (s.th u).spillDue then (s.th u).spilled + 1 else (s.th u).spilled }
  words : ∀ k, k / 14 ≠ ((s.th u).frame + 1) % 16 → (t.th u).file.get 0 k = (s.th u).file.get 0 k
  kept : (s.th u).spillDue = false → t.sram = s.sram
  row : (s.th u).spillDue = true → ∀ j, j < 14 →
    t.sramWord (coreOf u) (s.spillBase u + j) = ((s.th u).keyWord ((s.th u).low * 14 + j)).toNat

/-- What comes before the slide leaves the window alone. -/
theorem State.slid.before {s q t : State} {u : Nat} (h : s.sameWindow q u) (k : q.slid t u) : s.slid t u := by
  have hf := h.thread.frame
  have hd := h.thread.spillDue
  have hb : q.spillBase u = s.spillBase u := by rw [State.spillBase, h.thread.spilled, State.spillBase]
  refine ⟨State.onlyThread_trans (State.onlyThread_mono h.only (by decide)) k.only, ?_, fun j hj => ?_, fun hs => ?_, fun hs j hj => ?_⟩
  · rw [k.thread, h.thread.low, h.thread.spilled, hf, hd, h.thread.eq]
  · rw [k.words j (by rwa [hf]), h.thread.file]
  · rw [k.kept (by rwa [hd]), h.sram]
  · rw [← hb, k.row (by rwa [hd]) j hj, h.thread.low, h.thread.keyWord]

/-- Nor does what comes after it. -/
theorem State.slid.after {s q t : State} {u : Nat} (h : s.slid q u) (k : q.sameWindow t u) : s.slid t u := by
  refine ⟨State.onlyThread_trans h.only (State.onlyThread_mono k.only (by decide)), ?_, fun j hj => ?_, fun hs => ?_, fun hs j hj => ?_⟩
  · rw [k.thread.eq, h.thread]
  · rw [k.thread.file, h.words j hj]
  · rw [k.sram, h.kept hs]
  · rw [State.sramWord, k.sram, ← State.sramWord, h.row hs j hj]

theorem State.spillSlot_sameThread (s : State) (u : Nat) : (s.spillSlot u).th u =
    { s.th u with
      low := if (s.th u).spillDue then ((s.th u).low + 1) % 16 else (s.th u).low,
      spilled := if (s.th u).spillDue then (s.th u).spilled + 1 else (s.th u).spilled } := by
  unfold State.spillSlot
  split
  · rw [State.th_setTh_self, State.th_eq_of_threads (State.storeRow_threads ..)]
  · rfl

theorem State.spillSlot_onlyThread (s : State) (u : Nat) : State.onlyThread [.threads, .regs, .free, .sram] s (s.spillSlot u) u := by
  unfold State.spillSlot
  split
  · exact State.onlyThread_trans
      (State.onlyThread_of_threads (frame_mono (State.storeRow_frame ..) (by decide)) (State.storeRow_threads ..) u)
      (State.setTh_onlyThread _ _ _ (by decide))
  · exact State.onlyThread_refl ..

theorem State.spillSlot_row {s : State} {u : Nat} (hd : (s.th u).spillDue = true) {j : Nat} (hj : j < 14) :
    (s.spillSlot u).sramWord (coreOf u) (s.spillBase u + j) = ((s.th u).keyWord ((s.th u).low * 14 + j)).toNat := by
  rw [State.spillSlot, if_pos hd, State.sramWord, State.setTh_sram, ← State.sramWord, State.storeRow_sramWord _ _ _ _ hj,
    Nat.mod_eq_of_lt (BitVec.isLt _)]

/-- A frame that opens leaves the words of the others. -/
theorem State.openFrame_freed (s : State) (u : Nat) {f m : Nat} (hf : f < 16) (hm : m ≤ 8) :
    (s.setTh u fun th => { th with frame := f }).freed (s.openFrame u f m) u (f * 14) 14 := by
  unfold State.openFrame
  generalize s.setTh u (fun th => { th with frame := f }) = s0
  have h1 := State.freeKeys_freed m s0 u (f * 14) (by unfold flKey; omega)
  generalize s0.freeKeys u (f * 14) m = s1 at *
  have h2 := State.freeKeys_freed 6 s1 u (f * 14 + 8) (by unfold flKey; omega)
  generalize s1.freeKeys u (f * 14 + 8) 6 = s2 at *
  refine ⟨State.onlyThread_trans h1.only h2.only, ?_, fun j hj => ?_⟩
  · rw [h2.thread, h1.thread]
  · rw [h2.words j (by omega), h1.words j (by omega)]

theorem State.frame_sram {ps : List Part} {s t : State} (h : State.frame ps s t) (hp : Part.sram ∉ ps) : t.sram = s.sram := (h.2 .sram hp).1

/-- R210: the spill and the new frame together. -/
theorem State.slid_openFrame (s : State) (u : Nat) {m : Nat} (hm : m ≤ 8) :
    s.slid ((s.spillSlot u).openFrame u (((s.th u).frame + 1) % 16) m) u := by
  have hsp := s.spillSlot_sameThread u
  have hop := (s.spillSlot u).openFrame_freed u (Nat.mod_lt ((s.th u).frame + 1) (by decide : 0 < 16)) hm
  generalize (s.spillSlot u).openFrame u (((s.th u).frame + 1) % 16) m = t at *
  have hsr : t.sram = (s.spillSlot u).sram :=
    (State.frame_sram hop.only.frame (by decide)).trans (State.setTh_sram ..)
  refine ⟨?_, ?_, fun k hk => ?_, fun hd => ?_, fun hd j hj => ?_⟩
  · exact State.onlyThread_trans (State.onlyThread_trans (s.spillSlot_onlyThread u) (State.setTh_onlyThread _ _ _ (by decide)))
      (State.onlyThread_mono hop.only (by decide))
  · rw [hop.thread, State.th_setTh_self, hsp]
  · rw [hop.words k (by omega), State.th_setTh_self, hsp]
  · rw [hsr, State.spillSlot, hd]
    rfl
  · rw [State.sramWord, hsr, ← State.sramWord, State.spillSlot_row hd hj]

theorem Thread.putLink_of_lt (th : Thread) {f : Nat} (a : Nat) (hf : f < 16) : th.putLink f a =
    { th with file := (th.file.set 0 (f * 14 + 6) (word a)).set 0 (f * 14 + 7) (word (a / 65536 % 2)) } := by
  rw [Thread.putLink, Thread.setKey_of_lt th _ (by unfold flKey; omega), Thread.setKey_of_lt _ _ (by unfold flKey; omega)]

/-- R210: a call's slide down, with the return address in the new frame's link pair. -/
theorem State.slideDown_link {s : State} {u : Nat} (a : Nat) (h : (s.th u).hasRoom) :
    ∃ t, s.slideDown u (some a) = some t ∧ s.slid t u ∧
      (t.th u).file.get 0 (((s.th u).frame + 1) % 16 * 14 + 6) = word a ∧
      (t.th u).file.get 0 (((s.th u).frame + 1) % 16 * 14 + 7) = word (a / 65536 % 2) := by
  have hf := Nat.mod_lt ((s.th u).frame + 1) (by decide : 0 < 16)
  have hop := s.slid_openFrame u (m := 6) (by decide)
  rw [State.slideDown_some a h]
  generalize (s.spillSlot u).openFrame u (((s.th u).frame + 1) % 16) 6 = q at *
  have hth : (q.setTh u fun th => th.putLink (((s.th u).frame + 1) % 16) a).th u = _ :=
    (State.th_setTh_self ..).trans (Thread.putLink_of_lt _ a hf)
  refine ⟨_, rfl, ⟨State.onlyThread_trans hop.only (State.setTh_onlyThread _ _ _ (by decide)), ?_, fun k hk => ?_, hop.kept, hop.row⟩,
    ?_, ?_⟩
  · rw [hth, hop.thread]
  · rw [hth, Tab.get_set_ne _ _ _ _ (by omega), Tab.get_set_ne _ _ _ _ (by omega), hop.words k hk]
  · rw [hth, Tab.get_set_ne _ _ _ _ (by omega), Tab.get_set_self]
  · rw [hth, Tab.get_set_self]

end Sys2Proof.Machine
end

section
/-! PROOFS. Traps (R194, R227, R261-R268): what the tally unit's completions and a stop leave as it was, and how a trap ends. -/

namespace Sys2Proof.Machine

/-! ### Operations that leave every thread's trap words alone -/

/-- Whether the thread is in a handler, and the cause and return address that its trap saved. -/
def Thread.trapWords (th : Thread) : Bool × Nat × Nat := (th.inTrap, th.tcause, th.tpc)

/-- What a command of the tally unit, a stop and the events of both may change; no thread's trap words. -/
structure State.keepsTraps (s t : State) : Prop where
  frame : State.frame [.threads, .regs, .free, .events] s t
  words : ∀ w, (t.th w).trapWords = (s.th w).trapWords

theorem State.keepsTraps_refl (s : State) : s.keepsTraps s := ⟨frame_refl .., fun _ => rfl⟩

theorem State.keepsTraps_trans {s t r : State} (h : s.keepsTraps t) (k : t.keepsTraps r) : s.keepsTraps r :=
  ⟨frame_trans h.frame k.frame, fun w => (k.words w).trans (h.words w)⟩

theorem State.quiet.keepsTraps {s t : State} (h : s.quiet t) : s.keepsTraps t where
  frame := frame_mono h.frame (by decide)
  words w := by
    have := h.threads w
    unfold Thread.sameButSince at this
    rw [this]
    rfl

theorem State.raise_keepsTraps (s : State) (e : Nat) (d : List Word) : s.keepsTraps (s.raise e d) where
  frame := frame_mono (raise_only_frame ..) (by decide)
  words w := by rw [State.th_eq_of_threads (State.raise_threads ..)]

theorem State.setTh_keepsTraps (s : State) (u : Nat) {f : Thread → Thread} (hf : ∀ th : Thread, (f th).trapWords = th.trapWords) :
    s.keepsTraps (s.setTh u f) where
  frame := frame_mono (s.frame_setTh u f) (by decide)
  words w := by
    by_cases h : u = w
    · rw [← h, State.th_setTh_self, hf]
    · rw [State.th_setTh_ne _ _ h]

theorem State.setUnit_keepsTraps (s : State) (k : Nat) (f : Tally → Tally) : s.keepsTraps (s.setUnit k f) :=
  ⟨frame_mono (s.frame_setUnit k f) (by decide), fun _ => rfl⟩

theorem State.wr_keepsTraps (s : State) (r : Reg) (i j v : Nat) : s.keepsTraps (s.wr r i j v) :=
  ⟨frame_mono (wrA_frame ..) (by decide), fun _ => rfl⟩

theorem State.foldl_keepsTraps {α : Type} {f : State → α → State} (hf : ∀ (s : State) x, s.keepsTraps (f s x)) (l : List α) (s : State) :
    s.keepsTraps (l.foldl f s) := by
  induction l generalizing s with
  | nil => exact s.keepsTraps_refl
  | cons x l ih => exact State.keepsTraps_trans (hf s x) (ih _)

theorem Thread.setKey_trapWords (th : Thread) (k : Nat) (v : Word) : (th.setKey k v).trapWords = th.trapWords := by
  unfold Thread.setKey
  split <;> rfl

theorem Thread.mftWrite_trapWords (th : Thread) (k : Nat) (v : Word) : (th.mftWrite k v).trapWords = th.trapWords :=
  Thread.setKey_trapWords th k v

/-! ### Microcode draws free values at most (R267) -/

theorem State.freeBool_quiet (s : State) : s.quiet s.freeBool.2 := s.free_quiet _

theorem State.freeNat_snd_quiet (s : State) : s.quiet s.freeNat.2 := s.free_quiet _

theorem State.freeWords_quiet (n : Nat) : ∀ s : State, s.quiet (s.freeWords n).2 := by
  induction n with
  | zero => exact State.quiet_refl
  | succ n ih => exact fun s => State.quiet_trans (s.free_quiet (s.freeCtr + 1)) (ih _)

theorem State.microCond_quiet (s : State) (m : Micro) (w : Nat) : s.quiet (s.microCond m w).2 := by
  unfold State.microCond
  extract_lets c
  split
  · exact s.quiet_refl
  · split
    · exact s.freeBool_quiet
    · exact s.quiet_refl

theorem State.microStep_quiet (s : State) (u : Nat) (m : Micro) : s.quiet (s.microStep u m).2 := by
  unfold State.microStep
  extract_lets w
  split
  · exact s.quiet_refl
  · exact s.microCond_quiet m w

/-- What holds of a structural recursion on a number, by induction. -/
theorem brecOn_invariant {α : Type} (F : (n : Nat) → Nat.below (motive := fun _ => α) n → α) {Q : α → Prop} (h0 : ∀ b, Q (F 0 b))
    (hs : ∀ n (b : Nat.below (motive := fun _ => α) (n + 1)), Q b.1 → Q (F (n + 1) b)) (n : Nat) : Q (Nat.brecOn n F) := by
  induction n with
  | zero => exact h0 _
  | succ n ih => exact hs n _ ih

/-- Evaluating `microStep` means comparing numbers of 96 bits with their parity, which the kernel cannot do of a word it does not know;
so the step stands in this proof as a variable of which only `microStep_quiet` is known. -/
theorem State.microRun_quiet (u n : Nat) : ∀ (s : State) (m : Micro), s.quiet (s.microRun u n m).2 := by
  have hstep := fun s m => State.microStep_quiet s u m
  delta State.microRun
  obtain ⟨F, hF⟩ : ∃ F, F = @State.microRun._f := ⟨_, rfl⟩
  rw [← hF]
  delta State.microRun._f at hF
  obtain ⟨step, he⟩ : ∃ step, step = @State.microStep := ⟨_, rfl⟩
  rw [← he] at hstep hF
  subst hF
  refine brecOn_invariant _ (Q := fun g : State → Micro → MicroEnd × State => ∀ (s : State) (m : Micro), s.quiet (g s m).2) ?_ ?_ n
  · exact fun _ s _ => s.quiet_refl
  · intro n run ih s m
    have h := hstep s m
    dsimp only
    split
    · next m1 s1 hp =>
      rw [hp] at h
      exact State.quiet_trans h (ih s1 m1)
    · exact h

theorem State.microEnds_quiet (s : State) (e : MicroEnd) : s.quiet (s.microEnds e).2 := by
  unfold State.microEnds
  cases e with
  | go m => exact s.quiet_refl
  | mchk a => exact s.quiet_refl
  | fault st cyc => exact s.freeNat_snd_quiet
  | ended m =>
    exact State.quiet_trans (s.freeWords_quiet 11) (State.quiet_trans (State.freeNat_snd_quiet _) (State.freeBool_quiet _))

/-- The run of microcode stands in this proof as a variable, for the same reason. -/
theorem State.topRun_quiet (s : State) (u func n sa sb sc sd : Nat) : s.quiet (s.topRun u func n sa sb sc sd).2 := by
  have hrun := fun n (s : State) m => State.microRun_quiet u n s m
  obtain ⟨T, hT⟩ : ∃ T, T = @State.topRun := ⟨_, rfl⟩
  rw [← hT]
  delta State.topRun at hT
  obtain ⟨run, he⟩ : ∃ run, run = @State.microRun := ⟨_, rfl⟩
  rw [← he] at hrun hT
  subst hT
  dsimp only
  split
  · exact s.quiet_refl
  · split
    · exact s.quiet_refl
    · exact State.quiet_trans (hrun _ s _) (State.microEnds_quiet ..)

/-! ### The tally unit runs on (R194, R261, R262) -/

theorem State.settleShades_keepsTraps (s : State) (u : Nat) (p : Shade → Bool) : s.keepsTraps (s.settleShades u p) := by
  unfold State.settleShades
  refine State.keepsTraps_trans (State.foldl_keepsTraps (fun s e => ?_) _ _) (State.setTh_keepsTraps _ _ fun _ => rfl)
  refine State.keepsTraps_trans s.freeBool_quiet.keepsTraps (State.setTh_keepsTraps _ _ fun th => ?_)
  split
  · exact th.setKey_trapWords _ _
  · rfl

theorem State.tsyncDone_keepsTraps (s : State) (u : Nat) : s.keepsTraps (s.tsyncDone u) := by
  unfold State.tsyncDone
  extract_lets x s1 fl s2
  have h2 : s1.keepsTraps s2 := by
    show s1.keepsTraps (if _ then _ else _)
    split
    · exact s1.keepsTraps_refl
    · exact s1.setUnit_keepsTraps ..
  exact State.keepsTraps_trans (State.keepsTraps_trans (s.settleShades_keepsTraps ..) h2)
    (State.keepsTraps_trans s2.stampUse_quiet.keepsTraps (State.setTh_keepsTraps _ _ fun _ => rfl))

theorem State.tsyncCheck_keepsTraps (s : State) (u : Nat) : s.keepsTraps (s.tsyncCheck u) := by
  unfold State.tsyncCheck
  split
  · exact s.tsyncDone_keepsTraps u
  · exact s.keepsTraps_refl

theorem State.tsyncAll_keepsTraps (s : State) (k : Nat) : s.keepsTraps (s.tsyncAll k) :=
  State.foldl_keepsTraps (fun s i => s.tsyncCheck_keepsTraps (k * 8 + i)) _ s

theorem State.tallyBreak_keepsTraps (s : State) (k addr : Nat) : s.keepsTraps (s.tallyBreak k addr) := by
  unfold State.tallyBreak
  split
  · exact s.keepsTraps_refl
  · extract_lets s1 s2
    have h2 : s.keepsTraps s2 :=
      State.keepsTraps_trans (s.setUnit_keepsTraps ..) (State.keepsTraps_trans (State.wr_keepsTraps ..) (State.raise_keepsTraps ..))
    split
    · exact h2
    · exact State.keepsTraps_trans h2 (State.setTh_keepsTraps _ _ fun _ => rfl)

theorem State.tallyApply_keepsTraps (s : State) (k : Nat) : s.keepsTraps (s.tallyApply k) := by
  unfold State.tallyApply
  split
  · exact s.keepsTraps_refl
  · next u c rest hq =>
    extract_lets pop
    have hpop : ∀ (q : State) (cyc : Nat), q.keepsTraps (pop q cyc) := fun q cyc =>
      State.keepsTraps_trans (q.setUnit_keepsTraps ..)
        (State.keepsTraps_trans (State.count_quiet ..).keepsTraps (State.count_quiet ..).keepsTraps)
    split
    · exact State.keepsTraps_trans (hpop ..) (State.setUnit_keepsTraps ..)
    · exact State.keepsTraps_trans (hpop ..)
        (State.foldl_keepsTraps (fun q e => State.setTh_keepsTraps _ _ fun th => th.mftWrite_trapWords _ _) _ _)
    · next func dst n sa sb sc sd =>
      have hrun := (s.topRun_quiet k func n sa sb sc sd).keepsTraps
      split
      · exact s.keepsTraps_refl
      · next a s1 he =>
        rw [he] at hrun
        exact State.keepsTraps_trans hrun (s1.tallyBreak_keepsTraps k a)
      · next cyc e s1 he =>
        rw [he] at hrun
        extract_lets s2
        have h2 : s.keepsTraps s2 := State.keepsTraps_trans hrun (State.keepsTraps_trans (hpop ..) (State.setUnit_keepsTraps ..))
        split
        · exact State.keepsTraps_trans h2 (State.count_quiet ..).keepsTraps
        · exact h2

theorem State.mftFlush_keepsTraps (u n : Nat) : ∀ s : State, s.keepsTraps (s.mftFlush u n) := by
  induction n with
  | zero => exact State.keepsTraps_refl
  | succ n ih =>
    intro s
    unfold State.mftFlush
    extract_lets q mine
    split
    · exact State.keepsTraps_trans (s.tallyApply_keepsTraps _) (State.keepsTraps_trans (State.tsyncAll_keepsTraps ..) (ih _))
    · exact s.keepsTraps_refl

theorem State.finalRegs_keepsTraps (s : State) (u : Nat) : s.keepsTraps (s.finalRegs u) :=
  State.keepsTraps_trans (State.mftFlush_keepsTraps u 5 s) (State.settleShades_keepsTraps ..)

/-! ### The stop of a double trap (R227) -/

/-- R227: the thread has stopped, and the event has been raised. -/
theorem State.doubleTrap_eq (s : State) (u : Nat) : ∃ r, ((s.finalRegs u).setTh u fun th => { th with st := .stopped, stopBy := 9 }).onlyEvents r ∧
    s.doubleTrap u = r := by
  unfold State.doubleTrap
  extract_lets q q1
  split
  · split
    · exact ⟨_, raise_frame .., rfl⟩
    · exact ⟨_, EvFrame.refl q1, rfl⟩
  · exact ⟨_, raise_frame .., rfl⟩

theorem State.onlyEvents.threads {s t : State} (h : s.onlyEvents t) : t.threads = s.threads := by
  obtain ⟨_, _, _, _, _, rfl⟩ := h
  rfl

theorem State.onlyEvents.keepsTraps {s t : State} (h : s.onlyEvents t) : s.keepsTraps t :=
  ⟨frame_mono (events_only_frame h) (by decide), fun w => by rw [State.th_eq_of_threads h.threads]⟩

theorem State.doubleTrap_keepsTraps (s : State) (u : Nat) : s.keepsTraps (s.doubleTrap u) := by
  obtain ⟨r, hr, he⟩ := s.doubleTrap_eq u
  rw [he]
  exact State.keepsTraps_trans (s.finalRegs_keepsTraps u) (State.keepsTraps_trans
    (State.setTh_keepsTraps (s.finalRegs u) u (f := fun th => { th with st := .stopped, stopBy := 9 }) fun _ => rfl) hr.keepsTraps)

theorem State.doubleTrap_th (s : State) (u : Nat) : (s.doubleTrap u).th u = { (s.finalRegs u).th u with st := .stopped, stopBy := 9 } := by
  obtain ⟨r, hr, he⟩ := s.doubleTrap_eq u
  rw [he, State.th_eq_of_threads hr.threads, State.th_setTh_self]

/-! ### How a trap ends (R227) -/

/-- All that a trap of a thread not in a handler may change. -/
abbrev trapParts : List Part := [.threads, .regs, .free, .sram, .events]

theorem State.freeEcc_quiet {s s1 : State} {e : Ecc} (h : s.freeEcc = (e, s1)) : s.quiet s1 := by
  cases h
  exact s.freeNat_snd_quiet

theorem State.slideDown_none_cases (s : State) (u : Nat) : s.slideDown u none = none ∨ ∃ t, s.slideDown u none = some t ∧ s.slid t u := by
  by_cases h : (s.th u).hasRoom
  · exact .inr ⟨_, State.slideDown_none h, s.slid_openFrame u (m := 8) (by decide)⟩
  · obtain ⟨hd, hs⟩ := not_or.1 h
    exact .inl (State.slideDown_full none (eq_true_of_ne_false hd) (Decidable.not_not.1 hs))

/-- The entry of a handler stops the thread, where the rows of the spill fail or have no room, or slides the window down. -/
theorem State.trapEnter_cases (s : State) (u vec : Nat) : ∃ q, s.quiet q ∧
    (s.trapEnter u vec = q.doubleTrap u ∨
      ∃ r, q.slid r u ∧ s.trapEnter u vec = (r.renew u).setTh u fun th => { th with inTrap := true, pc := s.handler u vec }) := by
  unfold State.trapEnter
  extract_lets moves
  split
  next ecc s1 hs1 =>
  have h1 : s.quiet s1 := by
    split at hs1
    · exact State.freeEcc_quiet hs1
    · cases hs1
      exact s.quiet_refl
  split
  · exact ⟨_, State.quiet_trans h1 (s1.countSram_quiet u false), .inl rfl⟩
  · extract_lets s2
    have h2 : s.quiet s2 := by
      refine State.quiet_trans h1 ?_
      show s1.quiet (if _ then _ else _)
      split
      · exact s1.countSram_quiet u true
      · exact s1.quiet_refl
    refine ⟨s2, h2, ?_⟩
    rcases s2.slideDown_none_cases u with hn | ⟨r, hr, hslid⟩
    · exact .inl (by rw [hn])
    · exact .inr ⟨r, hslid, by rw [hr]⟩

theorem State.keepsTraps.causes {s t : State} (h : s.keepsTraps t) (u : Nat) :
    (t.th u).inTrap = (s.th u).inTrap ∧ (t.th u).tcause = (s.th u).tcause ∧ (t.th u).tpc = (s.th u).tpc := by
  simpa only [Thread.trapWords, Prod.mk.injEq] using h.words u

theorem State.keepsTraps.trapFrame {s t : State} (h : s.keepsTraps t) : State.frame trapParts s t := frame_mono h.frame (by decide)

/-- The saved cause and return address outlive the entry of the handler, and the thread then runs in it or has stopped. -/
theorem State.trapEnter_ends (s : State) (u vec : Nat) :
    State.frame trapParts s (s.trapEnter u vec) ∧ ((s.trapEnter u vec).th u).tcause = (s.th u).tcause ∧
      ((s.trapEnter u vec).th u).tpc = (s.th u).tpc ∧
      (((s.trapEnter u vec).th u).inTrap = true ∨ ((s.trapEnter u vec).th u).st = .stopped) := by
  obtain ⟨q, hq, hstop | ⟨r, hr, hslid⟩⟩ := s.trapEnter_cases u vec
  · have hk : s.keepsTraps (q.doubleTrap u) := State.keepsTraps_trans hq.keepsTraps (q.doubleTrap_keepsTraps u)
    obtain ⟨-, hc, hp⟩ := hk.causes u
    rw [hstop]
    exact ⟨hk.trapFrame, hc, hp, .inr (by rw [State.doubleTrap_th])⟩
  · obtain ⟨-, hc, hp⟩ := hq.keepsTraps.causes u
    have hn := (r.renew_quiet u).keepsTraps
    obtain ⟨-, hnc, hnp⟩ := hn.causes u
    rw [hslid]
    refine ⟨?_, ?_, ?_, .inl ?_⟩
    · exact frame_trans hq.keepsTraps.trapFrame (frame_trans (frame_mono hr.only.frame (by decide))
        (frame_trans hn.trapFrame (frame_mono (State.frame_setTh ..) (by decide))))
    · rw [State.th_setTh_self, ← hc]
      refine hnc.trans ?_
      rw [hr.thread]
    · rw [State.th_setTh_self, ← hp]
      refine hnp.trans ?_
      rw [hr.thread]
    · rw [State.th_setTh_self]

theorem State.stir_keepsTraps (s : State) (x : Nat) : s.keepsTraps (s.stir x) := (s.stir_quiet x).keepsTraps

/-- R194, R227: the registers become final, and the wait ends. -/
theorem State.waitless_keepsTraps (s : State) (u : Nat) : s.keepsTraps ((s.finalRegs u).setTh u fun th => { th with wait := .none }) :=
  State.keepsTraps_trans (s.finalRegs_keepsTraps u) (State.setTh_keepsTraps _ _ fun _ => rfl)

/-- R227: a trap outside a handler saves its cause and return address, and the thread then runs in its handler or has stopped. -/
theorem State.trap_ends {s : State} {u : Nat} (h : (s.th u).inTrap = false) (vec detail addr info pc : Nat) :
    State.frame trapParts s (s.trap u vec detail addr info pc) ∧
      ((s.trap u vec detail addr info pc).th u).tcause = vec + detail * 256 ∧
      ((s.trap u vec detail addr info pc).th u).tpc = pc % 2 ^ 32 ∧
      (((s.trap u vec detail addr info pc).th u).inTrap = true ∨ ((s.trap u vec detail addr info pc).th u).st = .stopped) := by
  unfold State.trap
  extract_lets q
  have hq : s.keepsTraps q := s.waitless_keepsTraps u
  rw [if_neg (by rw [(hq.causes u).1, h]; decide)]
  generalize hw : (q.stir (q.tidOwner u)).setTh u _ = saved
  obtain ⟨hf, hc, hp, he⟩ := saved.trapEnter_ends u vec
  have hs : State.frame trapParts q saved := by
    rw [← hw]
    exact frame_trans (q.stir_keepsTraps _).trapFrame (frame_mono (State.frame_setTh ..) (by decide))
  refine ⟨frame_trans (frame_trans hq.trapFrame hs) hf, hc.trans ?_, hp.trans ?_, he⟩ <;>
    rw [← hw, State.th_setTh_self]

/-- R227: a trap in a handler stops the thread. -/
theorem State.trap_inTrap_keepsTraps {s : State} {u : Nat} (h : (s.th u).inTrap = true) (vec detail addr info pc : Nat) :
    s.keepsTraps (s.trap u vec detail addr info pc) := by
  unfold State.trap
  extract_lets q
  have hq : s.keepsTraps q := s.waitless_keepsTraps u
  rw [if_pos (by rw [(hq.causes u).1, h])]
  exact State.keepsTraps_trans hq (q.doubleTrap_keepsTraps u)

/-- R228: a machine check that waits finds the thread stopped, or in its handler, whose saved words stay. -/
theorem State.pendingTraps_keepsTraps {s : State} {u : Nat} (h : (s.th u).inTrap = true ∨ (s.th u).st = .stopped) :
    s.keepsTraps (s.pendingTraps u) := by
  unfold State.pendingTraps
  split
  · next hm =>
    have hk : s.keepsTraps (s.setTh u fun th => { th with mchk := false }) := State.setTh_keepsTraps _ _ fun _ => rfl
    have hi : (s.th u).inTrap = true := by
      refine h.resolve_right fun hst => ?_
      rw [hst] at hm
      simp at hm
    exact State.keepsTraps_trans hk (State.trap_inTrap_keepsTraps ((hk.causes u).1.trans hi) ..)
  · exact s.keepsTraps_refl

/-! ### A trap with final registers and a full spill area (R194, R210) -/

theorem State.mftFlush_of_not_pending {s : State} {u : Nat} (h : s.tallyPending u = false) (n : Nat) : s.mftFlush u n = s := by
  cases n with
  | zero => rfl
  | succ n =>
    unfold State.mftFlush
    extract_lets q mine
    have hm : mine = false := by
      rw [State.tallyPending, List.any_eq_false] at h
      exact List.any_eq_false.2 fun e he => by simp [h e he]
    rw [hm]
    rfl

/-- R194: where nothing is outstanding, the registers are final as they stand. -/
theorem State.finalRegs_of_final {s : State} {u : Nat} (h : s.regsFinal u) :
    s.finalRegs u = s.setTh u fun th => { th with shades := [] } := by
  obtain ⟨hp, hc⟩ := h
  have hn : ((s.th u).shades.filter fun e => true && e.clash) = [] :=
    List.filter_eq_nil_iff.2 fun e he => by simp [hc e he]
  have hnone : ∀ l : List Shade, (l.filter fun _ => !true) = [] := fun l => List.filter_eq_nil_iff.2 fun _ _ => Bool.false_ne_true
  rw [State.finalRegs, State.mftFlush_of_not_pending hp, State.settleShades, hn]
  exact congrArg (s.setTh u) (funext fun th => congrArg (fun l => { th with shades := l }) (hnone th.shades))

theorem State.regsFinal_of {s t : State} {u : Nat} (h : s.regsFinal u) (hu : t.units = s.units)
    (hs : (t.th u).shades = [] ∨ (t.th u).shades = (s.th u).shades) : t.regsFinal u := by
  obtain ⟨hp, hc⟩ := h
  refine ⟨by rw [State.tallyPending, State.unit_eq_of_units hu, ← State.tallyPending, hp], fun e he => ?_⟩
  rcases hs with hs | hs
  · simp [hs] at he
  · exact hc e (hs ▸ he)

theorem State.trapEnter_full {s : State} {u : Nat} (vec : Nat) (hd : (s.th u).spillDue = true) (hs : (s.th u).spilled = 73) :
    s.trapEnter u vec = s.doubleTrap u := by
  simp [State.trapEnter, hd, hs, State.slideDown_full none hd hs]

/-- R227: with final registers a double trap stops its thread and touches no other. -/
theorem State.doubleTrap_of_final {s : State} {u : Nat} (h : s.regsFinal u) :
    State.onlyThread [.threads, .regs, .free, .events] s (s.doubleTrap u) u ∧
      (s.doubleTrap u).th u = { s.th u with shades := [], st := .stopped, stopBy := 9 } := by
  constructor
  · obtain ⟨r, hr, he⟩ := s.doubleTrap_eq u
    rw [he]
    rw [State.finalRegs_of_final h] at hr
    refine State.onlyThread_trans (State.onlyThread_trans (State.setTh_onlyThread _ _ _ (by decide)) (State.setTh_onlyThread _ _ _ (by decide)))
      (State.onlyThread_of_threads (frame_mono (events_only_frame hr) (by decide)) hr.threads u)
  · rw [State.doubleTrap_th, State.finalRegs_of_final h, State.th_setTh_self]

/-- R210, R227: a trap that finds the spill area full saves its words and stops the thread. -/
theorem State.trap_full {s : State} {u : Nat} (hd : (s.th u).spillDue = true) (hs : (s.th u).spilled = 73)
    (hi : (s.th u).inTrap = false) (hf : s.regsFinal u) (vec detail addr info pc : Nat) :
    State.onlyThread [.threads, .regs, .free, .events] s (s.trap u vec detail addr info pc) u ∧
      (s.trap u vec detail addr info pc).th u =
        { s.th u with
          shades := [], wait := .none, tpc := pc % 2 ^ 32, tcause := vec + detail * 256, taddr := addr, tinfo := info,
          tfl := (s.th u).fl, st := .stopped, stopBy := 9 } := by
  unfold State.trap
  rw [State.finalRegs_of_final hf]
  extract_lets q
  have hq : q.th u = { s.th u with shades := [], wait := .none } := by
    simp only [q, State.th_setTh_self]
  rw [if_neg (by rw [hq, hi]; decide)]
  have hst := q.stir_quiet (q.tidOwner u)
  have hth : (q.stir (q.tidOwner u)).th u = q.th u := by
    rw [State.stir]
    split <;> rfl
  generalize hw : (q.stir (q.tidOwner u)).setTh u _ = saved
  have hsv : saved.th u =
      { s.th u with
        shades := [], wait := .none, tpc := pc % 2 ^ 32, tcause := vec + detail * 256, taddr := addr, tinfo := info,
        tfl := (s.th u).fl, st := .running } := by
    rw [← hw, State.th_setTh_self, hth, hq]
  have hu : saved.units = s.units := by
    rw [← hw]
    exact hst.units
  have hfs : saved.regsFinal u := State.regsFinal_of hf hu (.inl (by rw [hsv]))
  have ho : State.onlyThread [.threads, .regs, .free, .events] s saved u := by
    rw [← hw]
    exact State.onlyThread_trans
      (State.onlyThread_trans (State.setTh_onlyThread _ _ _ (by decide)) (State.setTh_onlyThread _ _ _ (by decide)))
      (State.onlyThread_trans (State.onlyThread_mono (hst.onlyThread u) (by decide)) (State.setTh_onlyThread _ _ _ (by decide)))
  obtain ⟨hdo, hdt⟩ := State.doubleTrap_of_final hfs
  rw [State.trapEnter_full vec (by rw [hsv]; exact hd) (by rw [hsv]; exact hs)]
  exact ⟨State.onlyThread_trans ho hdo, by rw [hdt, hsv]⟩

end Sys2Proof.Machine
end

section
/-! PROOFS. CALL and CALLR (R210, R214, R227, R245, R246). -/

namespace Sys2Proof.Machine

/-! ### The body of a call -/

section Body

variable {q : State} {u target len : Nat} {o : Ecc}

/-- What a spill counts and the wait for it leave the window alone. -/
theorem State.spillWait_quiet (q : State) (u : Nat) (o : Ecc) :
    q.quiet (if (q.th u).spillDue then (if o == .corrected then q.countSram u true else q).renew u else q) := by
  split
  · refine State.quiet_trans ?_ (State.renew_quiet _ u)
    split
    · exact q.countSram_quiet u true
    · exact q.quiet_refl
  · exact q.quiet_refl

/-- R210: a call with room for its frame slides the window down and goes to its target. -/
theorem callBody_slides (h : (q.th u).spillDue = false ∨ ((q.th u).spilled ≠ 73 ∧ o ≠ .double)) :
    ∃ r, callBody u target len o q = (r, .jump true target) ∧ q.slid r u ∧
      (r.th u).file.get 0 (((q.th u).frame + 1) % 16 * 14 + 6) = word (((q.th u).pc + len) % 131072) ∧
      (r.th u).file.get 0 (((q.th u).frame + 1) % 16 * 14 + 7) = word (((q.th u).pc + len) % 131072 / 65536 % 2) := by
  have hnf : (rowsFail o (q.th u).spillDue && (q.th u).spilled != 73) = false := by
    rcases h with h | ⟨-, h⟩ <;> simp [rowsFail, h]
  have hw := (q.spillWait_quiet u o).sameWindow u
  unfold callBody
  extract_lets th q0
  rw [if_neg (by rw [hnf]; decide)]
  change q.sameWindow q0 u at hw
  have hroom : (q0.th u).hasRoom := by
    unfold Thread.hasRoom
    rw [hw.thread.spillDue, hw.thread.spilled]
    exact h.imp id And.left
  obtain ⟨r, hr, hslid, hlo, hhi⟩ := State.slideDown_link ((th.pc + len) % 131072) hroom
  rw [hw.thread.frame] at hlo hhi
  exact ⟨r, by rw [hr], hslid.before hw, hlo, hhi⟩

/-- R214: a double-bit error in the rows of the spill. -/
theorem callBody_rowsFail (hd : (q.th u).spillDue = true) (hs : (q.th u).spilled ≠ 73) :
    callBody u target len .double q = ((q.countSram u false).doubleTrap u, .done) := by
  simp [callBody, rowsFail, hd, hs]

/-- R210: a full spill area. -/
theorem callBody_full (hd : (q.th u).spillDue = true) (hs : (q.th u).spilled = 73) :
    callBody u target len o q = (q, .trap 4 0 0 0) := by
  have hw := (q.spillWait_quiet u o).sameWindow u
  unfold callBody
  extract_lets th q0
  rw [if_neg (by simp [th, hs])]
  change q.sameWindow q0 u at hw
  rw [State.slideDown_full _ (hw.thread.spillDue.trans hd) (hw.thread.spilled.trans hs)]

end Body

/-! ### The two instructions -/

/-- The instruction is issued, reads its operands, and performs a call of `target` that returns `len` words further. -/
def State.calls (s : State) (u : Nat) (i : Instr) (len target : Nat) (o : Ecc) : Prop :=
  ∃ ws legal grp body n, exec i s = run s (fun s => s.issue u ws legal grp body) ∧ s.issues u ws legal grp ∧ ws.length = len ∧
    body (s.issued u) = callBody u target len o ((s.issued u).drawn n)

theorem State.calls_call {s s1 : State} {u : Tid} {cc : Fin 16} {tg : Fin 131072} {o : Ecc} {fl : Nat}
    (hc : s.canIssue u (encBL 0x1D cc 0 tg)) (hr : s.readReg u 25 = (fl, s1)) (ht : condTrue fl cc = true) :
    s.calls u (.call u cc 0 tg o) 2 tg o := by
  obtain ⟨n, -, hrd⟩ := State.readReg_alike (s.issued_sameReads u) hr
  exact ⟨_, _, _, _, n, rfl, ⟨hc, rfl, rfl⟩, rfl, by simp only [hrd, ht, if_true]⟩

theorem State.calls_callr {s s1 : State} {u : Tid} {a : Fin 32} {target : Nat} {o : Ecc} (hc : s.canIssue u [enc 0x19 a 6])
    (ha : pairOk a = true) (hr : s.readPair u a = (target, s1)) : s.calls u (.callr u a o) 1 target o := by
  obtain ⟨n, -, hrd⟩ := State.readPair_alike (s.issued_sameReads u) hr
  exact ⟨_, _, _, _, n, rfl, ⟨hc, ha, rfl⟩, rfl, by simp only [hrd]⟩

/-- A transfer to an address within the code store completes; what it did before it was resolved stands. -/
theorem State.run_jump {s s2 : State} {u : Nat} {ws : List Nat} {legal : Bool} {grp : Option Nat} {body : State → State × Then}
    {taken : Bool} {target : Nat} (h : s.issues u ws legal grp) (hb : body (s.issued u) = (s2, .jump taken target))
    (hlt : (if taken then target else ((s.th u).pc + ws.length) % 131072) < 131072) (hm : (s2.th u).mchk = (s.th u).mchk)
    (hf : State.frame [.threads, .regs, .free, .sram] s s2) :
    ∃ t, run s (fun s => s.issue u ws legal grp body) = .next t ∧ s2.sameWindow t u ∧
      (t.th u).pc = if taken then target else ((s.th u).pc + ws.length) % 131072 := by
  obtain ⟨-, -, -, hm0⟩ := h.ready
  obtain ⟨t, ht, hw, hpc⟩ := State.jump_lands (pc := (s.th u).pc) (next := ((s.th u).pc + ws.length) % 131072) (target := target)
    (taken := taken) hlt (hm.trans hm0)
  rw [← State.issue_jump h hb] at ht
  have hall : State.frame [.threads, .regs, .free, .sram] s (s.issue u ws legal grp body) := by
    rw [ht]
    exact frame_trans hf (frame_mono hw.only.frame (by decide))
  exact ⟨t, by rw [run_of_frame hall (by decide), ht], hw, hpc⟩

/-- R245: a CALL whose condition is false goes on at the next instruction. -/
theorem State.call_not_taken {s s1 : State} {u : Tid} {cc : Fin 16} {tg : Fin 131072} (o : Ecc) {fl : Nat}
    (hc : s.canIssue u (encBL 0x1D cc 0 tg)) (hr : s.readReg u 25 = (fl, s1)) (hf : condTrue fl cc = false) :
    ∃ t, exec (.call u cc 0 tg o) s = .next t ∧ s.sameWindow t u ∧ (t.th u).pc = ((s.th u).pc + 2) % 131072 := by
  obtain ⟨n, -, hrd⟩ := State.readReg_alike (s.issued_sameReads u) hr
  have hi : s.issues u (encBL 0x1D cc 0 tg) true none := ⟨hc, rfl, rfl⟩
  have hq := s.issued_drawn_sameWindow u n
  obtain ⟨t, ht, hw, hpc⟩ := State.run_jump (taken := false) (target := 0)
    (body := fun s => let (fl, s1) := s.readReg u 25
      if condTrue fl cc then callBody u tg 2 o s1 else (s1, .jump false 0))
    hi (by simp only [hrd, hf, Bool.false_eq_true, if_false]) (Nat.mod_lt _ (by decide)) hq.thread.mchk
    (frame_mono hq.only.frame (by decide))
  exact ⟨t, ht, State.sameWindow_trans hq hw, hpc⟩

/-! ### How a call ends -/

theorem State.slid.mchk {s t : State} {u : Nat} (h : s.slid t u) : (t.th u).mchk = (s.th u).mchk := by rw [h.thread]
theorem State.slid.fl {s t : State} {u : Nat} (h : s.slid t u) : (t.th u).fl = (s.th u).fl := by rw [h.thread]
theorem State.slid.inTrap {s t : State} {u : Nat} (h : s.slid t u) : (t.th u).inTrap = (s.th u).inTrap := by rw [h.thread]
theorem State.slid.frame {s t : State} {u : Nat} (h : s.slid t u) : (t.th u).frame = ((s.th u).frame + 1) % 16 := by rw [h.thread]

theorem Thread.keyWord_of_ne (th : Thread) {k : Nat} (h : k ≠ flKey) : th.keyWord k = th.file.get 0 k := if_neg h

/-- R209: the words of every other frame, t0-t3 and fl stay. -/
theorem State.slid.keyWord {s t : State} {u : Nat} (h : s.slid t u) {k : Nat} (hk : k / 14 ≠ ((s.th u).frame + 1) % 16) :
    (t.th u).keyWord k = (s.th u).keyWord k := by
  unfold Thread.keyWord
  rw [h.fl, h.words k hk]

section Ends

variable {s : State} {u : Nat} {i : Instr} {len target : Nat} {o : Ecc}

/-- R210, R245: a call with room, to an address of the code store. -/
theorem State.calls.slides (hcall : s.calls u i len target o) (h : (s.th u).spillDue = false ∨ ((s.th u).spilled ≠ 73 ∧ o ≠ .double))
    (hlt : target < 131072) :
    ∃ t, exec i s = .next t ∧ s.slid t u ∧ (t.th u).pc = target ∧
      (t.th u).file.get 0 (((s.th u).frame + 1) % 16 * 14 + 6) = word (((s.th u).pc + len) % 131072) ∧
      (t.th u).file.get 0 (((s.th u).frame + 1) % 16 * 14 + 7) = word (((s.th u).pc + len) % 131072 / 65536 % 2) := by
  obtain ⟨ws, legal, grp, body, n, hx, hi, rfl, hb⟩ := hcall
  have hq := s.issued_drawn_sameWindow u n
  have hpc : (((s.issued u).drawn n).th u).pc = (s.th u).pc := (s.issued_sameReads u).view.pc
  rw [← hq.thread.spillDue, ← hq.thread.spilled] at h
  obtain ⟨r, hr, hslid, hlo, hhi⟩ := callBody_slides (target := target) (len := ws.length) h
  rw [hq.thread.frame, hpc] at hlo hhi
  have hs := hslid.before hq
  obtain ⟨t, ht, hw, htpc⟩ := State.run_jump (taken := true) hi (hb.trans hr) hlt hs.mchk hs.only.frame
  refine ⟨t, hx.trans ht, hs.after hw, htpc, ?_, ?_⟩
  · rw [hw.thread.file, hlo]
  · rw [hw.thread.file, hhi]

/-- R214, R227: a double-bit error in the rows of the spill stops the thread. -/
theorem State.calls.rowsFail (hcall : s.calls u i len target .double) (hd : (s.th u).spillDue = true) (hs : (s.th u).spilled ≠ 73) :
    ∃ t, exec i s = .next t ∧ (t.th u).st = .stopped ∧ (t.th u).stopBy = 9 ∧ State.frame [.threads, .regs, .free, .events] s t := by
  obtain ⟨ws, legal, grp, body, n, hx, hi, rfl, hb⟩ := hcall
  have hq := s.issued_drawn_sameWindow u n
  rw [← hq.thread.spillDue] at hd
  rw [← hq.thread.spilled] at hs
  rw [callBody_rowsFail hd hs] at hb
  have hstop := State.doubleTrap_th (((s.issued u).drawn n).countSram u false) u
  have hk := State.keepsTraps_trans (State.countSram_quiet ((s.issued u).drawn n) u false).keepsTraps
    (State.doubleTrap_keepsTraps _ u)
  generalize (((s.issued u).drawn n).countSram u false).doubleTrap u = r at *
  have hsq := (r.squash_quiet u 4).threads u
  unfold Thread.sameButSince at hsq
  have hf : State.frame [.threads, .regs, .free, .events] s ((r.squash u 4).setTh u Thread.ageShades) :=
    frame_trans (frame_mono hq.only.frame (by decide)) (frame_trans hk.frame
      (frame_trans (r.squash_quiet u 4).keepsTraps.frame (frame_mono (State.frame_setTh ..) (by decide))))
  rw [← State.issue_done hi hb] at hf
  refine ⟨_, hx.trans (run_of_frame hf (by decide)), ?_, ?_, hf⟩ <;>
    rw [State.issue_done hi hb, State.th_setTh_self, hsq, hstop] <;> rfl

/-- R210, R227: a full spill area takes WINDOW_OVERFLOW, whose own slide finds no room. -/
theorem State.calls.overflow (hcall : s.calls u i len target o) (hd : (s.th u).spillDue = true) (hs : (s.th u).spilled = 73)
    (hin : (s.th u).inTrap = false) (hfin : s.regsFinal u) :
    ∃ t, exec i s = .next t ∧ (t.th u).st = .stopped ∧ (t.th u).tcause = 4 ∧ (t.th u).tpc = (s.th u).pc % 2 ^ 32 ∧
      (t.th u).frame = (s.th u).frame ∧ (t.th u).low = (s.th u).low ∧ (t.th u).spilled = (s.th u).spilled ∧
      (s.th u).wordsBut (t.th u) [] ∧ (t.th u).fl = (s.th u).fl ∧ s.othersKept t [u] ∧
      State.frame [.threads, .regs, .free, .events] s t := by
  obtain ⟨ws, legal, grp, body, n, hx, hi, rfl, hb⟩ := hcall
  have hq := s.issued_drawn_sameWindow u n
  rw [callBody_full (hq.thread.spillDue.trans hd) (hq.thread.spilled.trans hs)] at hb
  have hiss := State.issue_trap hi hb
  have hsq := ((s.issued u).drawn n).squash_quiet u 4
  have hsh : ((((s.issued u).drawn n).squash u 4).th u).shades = (s.th u).shades := by
    have := hsq.threads u
    unfold Thread.sameButSince at this
    rw [this]
    exact (s.issued_sameReads u).view.shades
  have hun : (((s.issued u).drawn n).squash u 4).units = s.units := hsq.units.trans (s.issued_units u)
  have hw := State.sameWindow_trans hq (hsq.sameWindow u)
  generalize ((s.issued u).drawn n).squash u 4 = r at *
  obtain ⟨ho, ht⟩ := State.trap_full (hw.thread.spillDue.trans hd) (hw.thread.spilled.trans hs) (hw.thread.inTrap.trans hin)
    (State.regsFinal_of hfin hun (.inr hsh)) 4 0 0 0 (s.th u).pc
  rw [if_neg (by decide)] at hiss
  have hall := State.onlyThread_trans (State.onlyThread_mono hw.only (by decide)) ho
  rw [← hiss] at hall ht
  refine ⟨_, hx.trans (run_of_frame hall.frame (by decide)), ?_⟩
  rw [ht]
  exact ⟨rfl, rfl, rfl, hw.thread.frame, hw.thread.low, hw.thread.spilled, hw.thread.wordsBut, hw.thread.fl, hall.others, hall.frame⟩

/-- R211, R246: a call past the code store takes ILLEGAL at its target. -/
theorem State.calls.illegal (hcall : s.calls u i len target o) (h : (s.th u).spillDue = false ∨ ((s.th u).spilled ≠ 73 ∧ o ≠ .double))
    (hge : 131072 ≤ target) (hin : (s.th u).inTrap = false) :
    ∃ t, exec i s = .next t ∧ (t.th u).tcause = 0 ∧ (t.th u).tpc = target % 2 ^ 32 ∧ State.frame trapParts s t := by
  obtain ⟨ws, legal, grp, body, n, hx, hi, rfl, hb⟩ := hcall
  have hq := s.issued_drawn_sameWindow u n
  rw [← hq.thread.spillDue, ← hq.thread.spilled] at h
  obtain ⟨r, hr, hslid, -, -⟩ := callBody_slides (target := target) (len := ws.length) h
  have hiss := State.issue_jump hi (hb.trans hr)
  have hs := hslid.before hq
  have hrw := (r.resolve_quiet u (s.th u).pc (((s.th u).pc + ws.length) % 131072) target true).sameWindow u
  have haged := State.sameWindow_trans hrw (State.setTh_sameWindow _ u (f := Thread.ageShades) ⟨rfl, rfl⟩)
  generalize (r.resolve u (s.th u).pc (((s.th u).pc + ws.length) % 131072) target true).setTh u Thread.ageShades = aged at *
  have hsa := hs.after haged
  obtain ⟨hf, hc, hp, he⟩ := State.trap_ends (hsa.inTrap.trans hin) 0 0 0 0 target
  have hpend := State.pendingTraps_keepsTraps he
  obtain ⟨-, hpc, hpp⟩ := hpend.causes u
  rw [if_pos rfl, State.goto, if_pos (by omega)] at hiss
  have hall := frame_trans (frame_mono hsa.only.frame (by decide)) (frame_trans hf hpend.trapFrame)
  rw [← hiss] at hall hpc hpp
  exact ⟨_, hx.trans (run_of_frame hall (by decide)), hpc.trans hc, hpp.trans hp, hall⟩

end Ends

/-- Settles O30: what a taken call does follows from how its body ends, by the room for its frame and by its target. -/
theorem calls : Obligations.Calls := by
  unfold Obligations.Calls
  constructor
  · intro s s1 u cc tg o fl hc hr hf
    obtain ⟨t, ht, hw, hpc⟩ := State.call_not_taken o hc hr hf
    exact ⟨t, ht, hw.thread.wordsBut, hw.thread.fl, hpc, hw.thread.sameRest, hw.only.others, hw.only.frame⟩
  · intro s u i len target o hform
    have hcall : s.calls u i len target o := by
      rcases hform with ⟨cc, tg, fl, s1, rfl, hc, hr, ht, rfl, rfl⟩ | ⟨a, s1, rfl, hc, ha, hr, rfl⟩
      · exact State.calls_call hc hr ht
      · exact State.calls_callr hc ha hr
    refine ⟨fun hroom hlt => ?_, fun hd hs ho => ?_, fun hd hs => hcall.overflow hd hs, fun hroom => hcall.illegal hroom⟩
    · obtain ⟨t, ht, hslid, hpc, hlo, hhi⟩ := hcall.slides hroom hlt
      have hf := Nat.mod_lt ((s.th u).frame + 1) (by decide : 0 < 16)
      refine ⟨t, ht, hpc, hslid.frame, hslid.fl, ?_, ?_, fun k hk => hslid.keyWord hk, fun hd => ⟨?_, ?_, hslid.kept hd⟩,
        fun hd => ⟨?_, ?_, hslid.row hd⟩, hslid.only.others, hslid.only.frame⟩
      · rw [Thread.keyWord_of_ne _ (by unfold flKey; omega), hlo]
      · rw [Thread.keyWord_of_ne _ (by unfold flKey; omega), hhi]
      · rw [hslid.thread, hd]; rfl
      · rw [hslid.thread, hd]; rfl
      · rw [hslid.thread, hd]; rfl
      · rw [hslid.thread, hd]; rfl
    · subst ho
      exact hcall.rowsFail hd hs

end Sys2Proof.Machine
end
